-- ==== Sys2Proof/Word.lean ====
section
/-!
DEFINITION. The word types of the management space and of the wires.
-/

namespace Sys2Proof

/-- A register word, or a binary32 datum: the management space is 32 bits wide (R6). -/
abbrev Word := BitVec 32

/-- A byte of a wire message. -/
abbrev Byte := BitVec 8

/-- The payload of one 64-bit block (R5). -/
abbrev Block := BitVec 64

end Sys2Proof
end

