-- ==== Sys2Proof/Machine/AMap.lean ====
section
/-!
DEFINITION. Sparse maps in one canonical form: a list of key and value pairs, keys strictly rising,
no entry equal to the value an unlisted key reads as. Every register file, lane table, cell table
and record memory of State is one of these, so equal tables are equal data.
-/

namespace Sys2Proof.Machine

/-- A sparse table from a number (an address, a lane, a cell index) to a value. -/
abbrev AMap (α : Type) := List (Nat × α)

/-- What key k holds, d being what an unlisted key reads as. -/
def AMap.read {α : Type} (d : Nat → α) : AMap α → Nat → α
  | [], k => d k
  | (k', v) :: t, k => if k = k' then v else AMap.read d t k

/-- The table with v at key k; storing the value an unlisted key reads as removes the entry. -/
def AMap.put {α : Type} [DecidableEq α] (d : Nat → α) : AMap α → Nat → α → AMap α
  | [], k, v => if v = d k then [] else [(k, v)]
  | (k', v') :: t, k, v =>
    if k < k' then (if v = d k then (k', v') :: t else (k, v) :: (k', v') :: t)
    else if k = k' then (if v = d k then t else (k, v) :: t)
    else (k', v') :: AMap.put d t k v

/-- The table that holds the pairs of a list; of two pairs with one key the later one. -/
def AMap.ofList {α : Type} [DecidableEq α] (d : Nat → α) (l : List (Nat × α)) : AMap α :=
  l.foldl (fun m e => AMap.put d m e.1 e.2) []

/-- Every key of the table is above k. -/
def AMap.above {α : Type} (k : Nat) (m : AMap α) : Bool := m.all fun e => decide (k < e.1)

/-- The canonical form: keys strictly rising and no entry equal to the unlisted reading. -/
def AMap.wf {α : Type} [DecidableEq α] (d : Nat → α) : AMap α → Bool
  | [] => true
  | (k, v) :: t => decide (v ≠ d k) && AMap.above k t && AMap.wf d t

end Sys2Proof.Machine
end

