-- ==== Sys2Proof/Machine/Data.lean ====
section
/-!
DEFINITION. The plain data the commands carry and the machine keeps: access paths, wire messages,
discovery results, catalogue changes. Wire messages stay as the blocks or bytes the spec lays out.
-/

namespace Sys2Proof.Machine

/-- The access paths of R447: 8 supervisor cores, 4 station session slots, JTAG, the maintenance SPI. -/
inductive Path where
  | core (c : Fin 8)
  | slot (k : Fin 4)
  | jtag
  | spi
deriving DecidableEq, Repr

/-- The number of an access path, in the order R466 applies same-cycle writes. -/
def Path.num : Path → Nat
  | .core c => c.val
  | .slot k => 8 + k.val
  | .jtag => 12
  | .spi => 13

/-- The two ends of a string. -/
inductive End where
  | a | b
deriving DecidableEq, Repr

def End.other : End → End
  | .a => .b
  | .b => .a

def End.num : End → Nat
  | .a => 0
  | .b => 1

/-- The causes of R415 that reset the device. -/
inductive ColdCause where
  | pin | supply
deriving DecidableEq, Repr

/-- An instant of device time: TIME_NS and its 16-bit fraction (R331). -/
structure Stamp where
  ns : BitVec 32
  frac : BitVec 16
deriving DecidableEq, Repr

/-- A stamp as a count of 2^-16 ns. -/
def Stamp.units (t : Stamp) : Nat := t.ns.toNat * 2 ^ 16 + t.frac.toNat

/-- A block as received, by its sync header: 0b01 data, 0b10 control, 0b00 or 0b11 invalid (R42). -/
inductive RxBlock where
  | data (b : Block)
  | ctrl (b : Block)
  | invalid (b : Block)
deriving DecidableEq, Repr

/-- One ANNOUNCE as received (R89). -/
structure Announce where
  hdr : Block
  d1 : Block
  d2 : Block
deriving DecidableEq, Repr

/-- The result of a discovery run from one end: the reach and what each distance announced (R130),
or an unstable end of the run (R131). -/
structure DiscResult where
  callId : Nat
  reach : Nat
  unstable : Bool
  found : List (Nat × Announce)
deriving DecidableEq, Repr

/-- Latencies measured from one end for the cells at distances 0, 1, …: (LAT, lat_up), 0.125 ns units. -/
abbrev LatList := List (Nat × Nat)

/-- What a CONFIG of the device carries (R84, R92, R126, R346). -/
inductive CfgKind where
  /-- DEAD_TIME = 1, the refusal probe. -/
  | probe
  /-- The full gate set with the report schedule. -/
  | gateSet
  /-- The report schedule of R92 alone. -/
  | schedule
  /-- RPT_OFS = 0 (R26). -/
  | silent
  /-- LAT_FROM (R346). -/
  | latFrom
deriving DecidableEq, Repr

/-- The changes of the catalogue that reach both twins as proposals (R288). -/
inductive CatChange where
  /-- Reason code arises for a catalogue index. -/
  | arise (idx code : Nat)
  /-- Reason code ceases to hold. -/
  | clear (idx code : Nat)
  /-- A completed discovery run of one end. -/
  | disc (string : Nat) (e : End) (r : DiscResult)
  /-- An admission result of one end: the failure code, or 0 for a pass. -/
  | admission (idx : Nat) (e : End) (code : Nat)
  /-- The exclusion of a cell that sent FAULT, with the fault code (R386). -/
  | fault (idx code : Nat)
  /-- A latency measurement of one end. -/
  | lat (string : Nat) (e : End) (l : LatList)
  /-- A cell has applied RPT_OFS = 0 towards an end, or another RPT_OFS (R26; DESIGN CHOICE, log entry 91). -/
  | silent (idx : Nat) (e : End) (on : Bool)
deriving DecidableEq, Repr

/-- Where a station-port frame comes from or goes to: MAC, VLAN-stripped IPv4 address, UDP port. -/
structure NetAddr where
  mac : BitVec 48
  ip : Word
  udp : BitVec 16
deriving DecidableEq, Repr

/-- A sampled-value frame as received on a station port (R161). -/
structure SvFrame where
  port : Fin 4
  appid : BitVec 16
  svId : List Byte
  confRev : Word
  /-- The security extension fields are in use. -/
  secured : Bool
  /-- ASDUs: smpCnt, smpSynch, values with quality. -/
  asdus : List (Nat × Nat × List (Word × Word))
deriving DecidableEq, Repr

/-- A journaled station order (R320): SLOT and SESSION_TAG of its session, accession number, apply tick,
REQ_TICK beyond the limit, CODE, COUNT and item bytes, and the port it came by. -/
structure JOrder where
  slot : Nat
  tag : Nat
  seq : Nat
  apply : Nat
  tooFar : Bool
  code : Nat
  count : Nat
  items : List Byte
  port : Nat
  /-- JOURNAL's EVT_SEQ while the peer has not acknowledged it (R289). -/
  evt : Option Nat
deriving DecidableEq, Repr

/-- A session as JOURNAL and a snapshot carry it (R317, R318). -/
structure SessRec where
  slot : Nat
  tag : Nat
  ver : Nat
  /-- The senior is home. -/
  homeSenior : Bool
  expected : Nat
  applied : Nat
  src : NetAddr
  port : Nat
deriving DecidableEq, Repr

/-- What JOURNAL carries: an order, an OPEN or the end of a session (R289, R318). -/
inductive Journaled where
  | order (o : JOrder)
  | session (r : SessRec)
  | closed (slot : Nat)
deriving DecidableEq, Repr

/-- PAIR (R298, R299, R305): pairing and rejoin control. -/
structure PairMsg where
  junior : Bool
  rev : Nat
  mode : Nat
  count : Nat
  start : Word
  /-- The sender's live group: period, cutoff, output in units of 2 ns and PIP_DIV. -/
  group : Nat × Nat × Nat × Nat
  imageTag : BitVec 64
  plantTag : BitVec 64
  acceptTag : BitVec 64
  /-- The joiner's replay has caught up (R305). -/
  ready : Bool
  /-- The entry tick the senior or the serving twin names (R299, R305). -/
  entry : Option Nat
  /-- The snapshot tick the serving twin names (R303). -/
  snap : Option Nat
deriving DecidableEq, Repr

/-- CATCHUP of one tick (R304): held reports by string and position, proposals, journaled orders, and
the tick's COAST and WITHHELD. -/
structure Catchup where
  tick : Nat
  strings : List (Nat × List (Nat × Block))
  changes : List (CatChange × Nat)
  orders : List Journaled
  coast : Bool
  withheld : Bool
deriving DecidableEq, Repr

/-- Cross-link messages that carry an EVT_SEQ (R276). -/
inductive EvtMsg where
  | journal (j : Journaled)
  | change (c : CatChange) (land : Nat)
  | pair (p : PairMsg)
deriving DecidableEq, Repr

end Sys2Proof.Machine
end

