-- ==== Sys2Proof/Machine/Units.lean ====
section
/-!
DEFINITION. The parts of the state that are no registers: what lanes, strings, cells, arms,
contexts, the twin unit, the station interface, the clock, the vitrine, the Curator, start-up,
the check units and the dispatcher hold between commands. Each part names the rules it serves.
-/

namespace Sys2Proof.Machine

/-- The transmitter of a CELL or TWIN lane (R42, R43, R50 to R52, R73, R90). -/
structure LaneTx where
  /-- Time since the last block boundary, in ps. -/
  phase : Nat := 0
  /-- The last 58 scrambled bits, the newest in bit 0: all ones after reset (R43). -/
  scr : BitVec 58 := BitVec.allOnes 58
  /-- HUSK blocks of the burst still to leave, NAK ordered sets, the rest of the message in progress, the
  re-sent messages and the device's own messages that wait, each in order (R90). -/
  husk : Nat := 0
  naks : List Block := []
  cur : List Block := []
  resent : List (List Block) := []
  own : List (List Block) := []
  /-- Blocks sent since the last IDLE (R73). -/
  sinceIdle : Nat := 0
  /-- Training blocks sent since 16 matching ones were received (R52). -/
  trained : Nat := 0
  /-- SEQ and the tap requests with their preset that own training blocks carry (R51, R57). -/
  seq : Nat := 0
  req : Nat := 0
  /-- The block that left last: whether it is a control block, and its payload before and after scrambling. -/
  out : Option (Bool × Block × Block) := none
deriving DecidableEq, Repr

/-- A lane's training and lock state beyond LANE_STATUS (R45 to R60). -/
structure LaneState where
  /-- Generations taken out of the offer since DETECT (R52, R54). -/
  removed : List Nat := []
  /-- Target generation while negotiating and in FINAL, and the generation held while UP. -/
  target : Nat := 0
  /-- Consecutive valid training blocks whose GEN_SEL equals the own one (R52). -/
  matched : Nat := 0
  /-- A valid training block has been received since BASE (R53). -/
  heard : Bool := false
  /-- Own RX_READY, and consecutive received blocks with RX_READY = 1 (R50). -/
  ownReady : Bool := false
  readyRun : Nat := 0
  /-- SEQ of the previous training block (R57). -/
  lastSeq : Option Nat := none
  /-- Answers to the far end's last tap requests: pre, main, post (R51). -/
  stat : Nat × Nat × Nat := (0, 0, 0)
  /-- Block boundary position, 0 to 65 (R46). -/
  bitPos : Nat := 0
  /-- Consecutive valid headers while unlocked, and the last headers while locked, newest first, true for a
  valid one (R45). -/
  hdrRun : Nat := 0
  hdrs : List Bool := []
  /-- The lane left a low-power receive state while UP (R62). -/
  wasUp : Bool := false
  /-- LANE_ID last received (R59). -/
  laneId : Option Nat := none
  tx : LaneTx := {}
deriving DecidableEq, Repr

/-- A cross-link message that waits for the bond or is being sent: its priority, length in blocks, blocks
sent so far, its place in the record of what the device sends, and the chunk of a SNAPSHOT (R275, R303). -/
structure XItem where
  prio : Nat
  len : Nat
  idx : Nat
  part : Nat := 0
  sent : Nat := 0
deriving DecidableEq, Repr

/-- The twin bond beyond BOND_STATUS (R59, R60). -/
structure BondState where
  /-- Logical lane of physical lanes 0 to 3 once the map is accepted. -/
  map : List Nat := []
  /-- A return to full width waits for the next alignment block. -/
  widen : Bool := false
  /-- Time since the last block slot in ps, slots since the bond formed, and the messages that wait (R275). -/
  phase : Nat := 0
  slot : Nat := 0
  queue : List XItem := []
deriving DecidableEq, Repr

/-- What a request on a string is for (R84, R87, R89, R344). -/
inductive ReqKind where
  | config (c : CfgKind)
  /-- A TEST, with its RUN_TNUM in full. -/
  | test (code run : Nat)
deriving DecidableEq, Repr

/-- The request outstanding on a string (R94). -/
structure Request where
  kind : ReqKind
  pos : Nat
  tag : Nat
  /-- Sendings so far. -/
  tries : Nat
  /-- Tick of the last sending. -/
  tick : Nat
  /-- The message without its CHECK block, for the repetition. -/
  msg : List Block
deriving DecidableEq, Repr

/-- A discovery run in progress (R130, R131). -/
structure DiscRun where
  callId : Nat
  calls : Nat
  /-- Tick in which the present CALL was sent; none while the next CALL waits. -/
  sent : Option Nat
  found : List (Nat × Announce)
  prev : Option DiscResult
deriving DecidableEq, Repr

/-- A string as the device's own end sees it (R69 to R102, R130 to R136). -/
structure LinkState where
  /-- HOP_SEQ of the last multi-block message sent on the hop (R71). -/
  txSeq : Nat := 0
  /-- The last four multi-block messages sent: HOP_SEQ, already re-sent, blocks without CHECK (R96). -/
  kept : List (Nat × Bool × List Block) := []
  /-- HOP_SEQ last received correctly (R96). -/
  rxSeq : Nat := 0
  /-- Requests outstanding, oldest first (R94). -/
  reqs : List Request := []
  /-- Tick in which the string's one request of the tick was started (R94). -/
  reqTick : Option Nat := none
  nextTag : Nat := 0
  /-- FAULTs acted on, with the block number at which each was received (R82). -/
  faults : List (Nat × Nat) := []
  /-- Tick in which a valid order frame of the other end's twin last arrived (R102). -/
  otherSeen : Option Nat := none
  /-- TESTs broadcast before READY: code and RUN_TNUM (R143). -/
  bcasts : List (Nat × Nat) := []
  /-- CALL_ID of the last CALL (R130). -/
  callId : Nat := 0
  run : Option DiscRun := none
  /-- A run is due as soon as the string may start one (R135, R145, R285). -/
  runDue : Bool := false
  /-- Results of the last completed run from each end, as landed. -/
  resA : Option DiscResult := none
  resB : Option DiscResult := none
  /-- A latency measurement runs (R136); ticks sampled so far. -/
  measuring : Bool := false
  /-- d_0 samples of the own hop, in 2^-16 ns (R344). -/
  hopDelay : Option Int := none
  /-- ECHO_ID and T1 of the ECHO_REQ outstanding, and its sendings so far (R94). -/
  echo : Option (Nat × Nat) := none
  echoId : Nat := 0
  echoTries : Nat := 0
  /-- The tick of the last SYNC sent from the own end (R342). -/
  syncAt : Option Nat := none
  /-- The last broadcast CONFIG, which the reports confirm by CFG_TAG (R86). -/
  cast : Option Request := none
  /-- Positions the report schedule was computed for, as distances from the own end (R92). -/
  schedN : Nat := 0
  /-- Consecutive ECHO exchanges that met the time check of R126, and the last T3. -/
  echoRun : Nat := 0
  echoT3 : Option Nat := none
  /-- A report of the present tick missed its scheduled arrival, and consecutive such ticks (R136). -/
  devNow : Bool := false
  devRun : Nat := 0
deriving DecidableEq, Repr

/-- How far an admission has come (R140). -/
inductive AdmForm where
  | none | full | short
deriving DecidableEq, Repr

/-- A cell beyond its catalogue, observer and selection readouts (R126, R136 to R142, R167 to R176). -/
structure CellLink where
  /-- Bit c: reason code c of R138 holds. -/
  reasons : Nat := 0
  latA : Option Nat := none
  latB : Option Nat := none
  upA : Option Nat := none
  upB : Option Nat := none
  /-- Own end's schedule: RPT_OFS in ns and the arrival of the header's first bit, in ps after T_n (R92). -/
  rptOfs : Nat := 0
  schedAt : Nat := 0
  quietOfs : Nat := 0
  quietLen : Nat := 0
  /-- LAT_FROM last sent, 0.125 ns units. -/
  latFrom : Nat := 0
  /-- TAG of the last CONFIG sent and acknowledged; reports of ticks after tagAt carry it (R80, R138). -/
  tag : Option Nat := none
  tagAt : Nat := 0
  adm : AdmForm := .none
  /-- Own end's and peer's admission results since the attempt began. -/
  ownPass : Bool := false
  peerPass : Bool := false
  probeOk : Bool := false
  gateOk : Bool := false
  /-- The gate set is acknowledged and the next report has not come; that report carried its TAG (R126). -/
  tagDue : Bool := false
  tagSeen : Bool := false
  /-- A latency measurement over MEAS_TICKS has ended since the attempt began, and the report schedule it
  gave is acknowledged (R140). -/
  measOk : Bool := false
  schedOk : Bool := false
  timeOk : Bool := false
  /-- Bit c: TEST code c passed; a failed TEST clears it. -/
  tests : Nat := 0
  /-- The own end's last check found the cell late (R25, R93). -/
  lateOwn : Bool := false
  /-- RPT_OFS = 0 is applied towards end A, and towards end B (R26). -/
  silentA : Bool := false
  silentB : Bool := false
  /-- The reason that held last, which decides the form of admission (R140). -/
  lastCode : Nat := 0
  /-- Round-trip samples of the running measurement: sum, count, least and greatest, in ps; and the last
  16 of them, newest first (R126, R344). -/
  rttSum : Int := 0
  rttN : Nat := 0
  rttMin : Int := 0
  rttMax : Int := 0
  rtts : List Int := []
  /-- TESTs accepted or broadcast: RUN_TNUM and code. The report of the tick after RUN_TNUM carries the
  result of one that ran (R87, R123). -/
  testRuns : List (Nat × Nat) := []
  /-- Bit c: TEST code c failed when it ran last. -/
  failed : Nat := 0
  /-- CFG_TAG and STATE of the last valid report. -/
  seenTag : Option Nat := none
  seenState : Option Nat := none
  /-- Consecutive ticks whose report met the report check of R126. -/
  repRun : Nat := 0
  /-- Admitted since the entry last became ABSENT (R140). -/
  admitted : Bool := false
deriving DecidableEq, Repr

/-- What the tick's collection and agreement left for one cell (R18, R281 to R284, R168). -/
structure CellInput where
  /-- Data block of the own report held for the tick. -/
  own : Option Block := none
  /-- Data block relayed by the peer for a position of its end. -/
  relayed : Option Block := none
  /-- A report of the tick arrived after the cutoff. -/
  late : Bool := false
  /-- The report failed its check. -/
  bad : Bool := false
  /-- The agreed report, and the cause where there is none (R168). -/
  agreed : Option Block := none
  cause : Nat := 6
deriving DecidableEq, Repr

/-- A condition in force in a cell by the orders (R108, R114): zero state, positive and negative
insertion, every switch off, on-time of a positive and of a negative pip. -/
inductive Sw where
  | zero | pos | neg | off | pipPos | pipNeg
deriving DecidableEq, Repr

/-- One leg of a cell (R113): the switch the condition asks for (true for the upper one), when it
turns on, and the latest turn-off of either switch. Times are ns of unwrapped device time. -/
structure Leg where
  tgt : Option Bool := none
  onAt : Int := 0
  offU : Option Int := none
  offL : Option Int := none
deriving DecidableEq, Repr

/-- An observer instance (R167 to R176). V̂ counts units of 2^-32 V. -/
structure ObsInst where
  init : Bool := false
  vhat : Nat := 0
  lastVcap : Nat := 0
  frozenVcap : Nat := 0
  miss : Nat := 0
  exc : Nat := 0
  frz : Nat := 0
  goodRun : Nat := 0
  grade : Nat := 0
  frozen : Bool := false
  /-- The cell was excluded with REPORTS_MISSING and no valid report has come since (R172). -/
  afterMissing : Bool := false
  cause : Nat := 6
  res : Int := 0
  /-- The tick of the last transition of GRADE: at most one takes place per tick (R176). -/
  movedAt : Option Nat := none
deriving DecidableEq, Repr

/-- One cell's entry in an order frame (R77), with what it adds to WEAR (R225). -/
structure Ent where
  st : Nat := 3
  edge : Nat := 0
  width : Nat := 0
  /-- A pip pulse starts with this entry, in either form. -/
  pulse : Bool := false
deriving DecidableEq, Repr

/-- The pip pulse of a carrier, in ns of unwrapped device time (R220 to R222). -/
structure Pulse where
  neg : Bool
  on : Int
  width : Nat
  hOn : Int
  hOff : Int
  long : Bool
deriving DecidableEq, Repr

/-- A pip carrier in progress (R219, R222): its pip cell and its pulse unless it was skipped. -/
structure Carrier where
  d1 : Rat
  cell : Nat
  pulse : Option Pulse
deriving DecidableEq, Repr

/-- What a coast plan starts from: the reference, slope, V_MEAN, eligible counts, ranking and current
sign of the last computed selection, and its window's origin (R30, R228). -/
structure CoastBase where
  v : Word
  g : Word
  vm : Word
  p : Nat
  f : Nat
  pos : List Nat
  neg : List Nat
  sigma : Int
  origin : Int
deriving DecidableEq, Repr

/-- An arm as the observer, the selection engine and the edge planner keep it (R170, R195 to R205,
R215 to R223). -/
structure ArmState where
  deblocked : Bool := false
  /-- The deblock order applies in the present tick (R181). -/
  justDeblocked : Bool := false
  /-- The next selection starts as at the apply tick of a deblock (R203, R204). -/
  fresh : Bool := true
  /-- Members, each with its sign (true: negative). -/
  set : List (Nat × Bool) := []
  /-- The pip cell, and the sign of the pip last ordered. -/
  pip : Option Nat := none
  dir : Bool := false
  /-- Cells pending addition with the ticks they have waited (R201). -/
  pend : List (Nat × Nat) := []
  /-- Last valid v_s and g since the deblock, and the origin of that tick's window (R204). -/
  lastRef : Option (Word × Word × Int) := none
  coast : Option CoastBase := none
  /-- The last plan was a coast plan: a move of the pip waits for the next computed selection (R199, R228). -/
  coasted : Bool := false
  /-- Arm current at T_(n−1) and at T_n where valid; the last valid value up to each; the sign of each,
0 taking that of the valid value before it (R170, R200). -/
  prevI : Option Word := none
  curI : Option Word := none
  prevLast : Option Word := none
  lastI : Option Word := none
  prevSign : Int := 0
  curSign : Int := 0
  carry : Rat := 0
  carrier : Option Carrier := none
  /-- Unwrapped device time of the last edge placed for a cell (R215). -/
  lastEdge : AMap Nat := []
deriving DecidableEq, Repr

/-- The switching a cell executes by the orders as dispatched (R115, R169): conditions with the unwrapped
device time in ns from which they hold, oldest first; the legs and the condition before them; and the
last steady state ordered, for WEAR. -/
structure CellOrders where
  cmds : List (Int × Sw) := []
  legL : Leg := {}
  legR : Leg := {}
  sw : Sw := .off
  last : Nat := 3
deriving DecidableEq, Repr

/-- How far the compute of the present tick has come (R29). -/
inductive Stage where
  | idle | computed | coast | withheld
deriving DecidableEq, Repr

/-- An accepted staged group not yet landed, captured at acceptance (R35, R36). -/
structure Landing where
  period : Nat
  cutoff : Nat
  output : Nat
  pip : Nat
  apply : Nat
deriving DecidableEq, Repr

/-- A change a management write asks of a context, applied at a later tick (R252, R262, R266). -/
inductive CtxOp where
  | mode (m : Nat)
  | promote
  | faultReset
  | injStart
  | injStop
deriving DecidableEq, Repr

/-- A loop context beyond its registers (R237 to R266). -/
structure CtxState where
  xhat : List Word := []
  /-- u_a: the outputs of the last committed run. -/
  uLast : List Word := []
  /-- Last valid feed-forward values (R258). -/
  wHold : List Word := []
  /-- y and ŷ of the previous run (R259), and the values the inputs froze at. -/
  yPrev : List Word := []
  yhatPrev : List Word := []
  frz : List Nat := []
  fe : List Nat := []
  /-- A run has started from X0 and U0 and its state holds. -/
  started : Bool := false
  /-- The scrub found a mismatch, or an uncorrectable error was read, since the last run (R261). -/
  coefBad : Bool := false
  /-- Injection: tick it starts at while armed, m, phase φ and ω, PRBS register and runs held (R264, R265). -/
  injAt : Nat := 0
  injM : Nat := 0
  injPhi : Nat := 0
  injOmega : Nat := 0
  prbs : Nat := 0x7FFF
  prbsRuns : Nat := 0
  /-- Shadow comparison: runs in the window, largest |d|, sum of d² (R254). -/
  cmpRuns : Nat := 0
  cmpMax : Word := 0
  cmpSum : Word := 0
  /-- Outputs the context itself computed last, and the values frozen inputs froze at (R259, R267). -/
  uOwn : List Word := []
  yFrz : List Word := []
  /-- Changes a management write asked for, with their apply ticks (R252). -/
  ops : List (Nat × CtxOp) := []
deriving DecidableEq, Repr

/-- What an abandoned stage gives back: register words (address, found, written), and the arms,
contexts, plan and record events as they were before it (R29). -/
structure Undo where
  words : List (Nat × Word × Word)
  arms : AMap ArmState
  ctxs : AMap CtxState
  plan : AMap Ent
  events : List (Nat × Nat)
deriving DecidableEq, Repr

/-- The tick's own state (R12 to R38, R229): the count, the unwrapped device time of T_n, the phase
reached, the accepted group, and what an overrun needs. -/
structure TickState where
  /-- The tick count has started (R14). -/
  running : Bool := false
  /-- A tick has begun since the count started. -/
  begun : Bool := false
  /-- Number the next boundary takes (R14). -/
  next : Nat := 0
  /-- Device time at T_n in ns, counted without the wrap of TIME_NS (R12). -/
  absT : Nat := 0
  /-- The same at T_(n−1). -/
  absPrev : Nat := 0
  /-- TICK_PERIOD of tick n − 1 in ns (R171). -/
  periodPrev : Nat := 0
  /-- The report window of tick n is open (R16, R18). -/
  reportsOpen : Bool := false
  /-- The compute window of tick n has opened; its plan has been handed over. -/
  opened : Bool := false
  handed : Bool := false
  stage : Stage := .idle
  /-- A withheld compute has not completed yet (R29). -/
  lateDue : Bool := false
  landing : Option Landing := none
  /-- What the loop, selection and edge stages of tick n changed, and the arms and contexts as they
  were before (R29). -/
  undo : Option Undo := none
  /-- First tick governed by the last staged group that landed, whose window begins a carrier (R219). -/
  landedAt : Option Nat := none
  /-- Frames of the previous tick withheld; a local cause recorded in this tick and in the previous
  one; the coast plan taken (R29, R291). -/
  withheldPrev : Bool := false
  localNow : Bool := false
  localPrev : Bool := false
  /-- The loop stage asked for Safe Block, which its commit requests (R251, R261). -/
  loopSbk : Bool := false
  /-- A halt waits for the next hand-over (R229). -/
  haltReq : Bool := false
  /-- The frames of the tick have left: no service message starts any more (R94, R224). -/
  sent : Bool := false
  /-- When the last urgent conversion started, device ns (R160). -/
  urgent : Option Nat := none
  /-- The frames formed at the hand-over, by string, that the dispatch slot sends (R224). -/
  frames : List (Nat × List Block) := []
deriving DecidableEq, Repr

end Sys2Proof.Machine
end

