-- ==== Sys2Proof/Machine/Parts.lean ====
section
/-!
DEFINITION. More parts of the state that are no registers: the measurement inputs, the vitrine,
the Curator, start-up and life cycle, the check units, the dispatcher and the power ledger.
-/

namespace Sys2Proof.Machine

-- Measurement inputs (06_measurement_inputs.md)

/-- A measurement channel beyond its registers (R147 to R160). -/
structure Chan where
  /-- Raw codes of the burst of the present tick, and whether one was an overrange code (R152). -/
  burst : List Int := []
  ovr : Bool := false
  /-- The last conversion's raw code, two's complement (R348, R160). -/
  raw : Int := 0
  /-- A stream conversion has fallen in the present record interval (R350). -/
  fresh : Bool := false
  /-- Consecutive codes beyond the HI and the LO threshold, and whether each comparator fires (R159). -/
  runHi : Nat := 0
  runLo : Nat := 0
  fireHi : Bool := false
  fireLo : Bool := false
  /-- A calibration has completed since reset; the last one failed the channel; RANGE was written since
  the start of the last completed one (R153, R155, R156). -/
  calDone : Bool := false
  calFail : Bool := false
  rangeWr : Bool := false
  /-- Validity of the last 1,024 ticks, newest in bit 0, 1 for invalid (R154). -/
  hist : Nat := 2 ^ 1024 - 1
  /-- Own tick value's cause, as handed to the twin unit (R152, R153), and the agreed value's (R287). -/
  cause : Nat := 2
  agreed : Nat := 2
deriving DecidableEq, Repr

/-- One received sample of a sampled-value stream (R161, R162): nominal time in device ns without wrap,
smpCnt, smpSynch, and the values with their quality words. -/
structure Sample where
  time : Rat
  cnt : Nat
  synch : Nat
  vals : List (Word × Word)
deriving DecidableEq, Repr

/-- The samples of a stream, newest first (R162). -/
structure StreamIn where
  got : List Sample := []
deriving DecidableEq, Repr

-- The vitrine (14_fault_recording.md)

/-- A record of the directory: its header fields, channel list and rows (R366). -/
structure Rec where
  id : Nat
  kind : Nat
  cap : Nat
  /-- STATUS as the header in memory reads; the directory entry holds the final flags (R363). -/
  status : Nat
  rowBytes : Nat
  nVal : Nat
  srcCtx : Nat := 0
  intervalNs : Nat
  pre : Nat
  preAct : Nat
  post : Nat
  stop : Nat := 0xFFFFFFFF
  trigBits : Nat := 0
  laterBits : Nat := 0
  primary : Nat := 0
  twin : Nat := 0
  trigTick : Nat := 0
  trigNs : Nat := 0
  trigFrac : Nat := 0
  stnSec : Nat := 0
  stnNs : Nat := 0
  firstTick : Nat := 0
  firstInt : Nat := 0
  ofs : List Nat := []
  period : Nat := 0
  tag : Nat := 0
  segments : Nat := 0
  missed : Nat := 0
  compLen : Nat := 0
  snap : List Word := []
  chans : List Word := []
  /-- Rows in order; in a session, segment headers stand between them (R361, R367). -/
  rows : List (List Word) := []
  /-- Encoded words of the rows once compressed (R368). -/
  packed : Option (List Word) := none
  slot : Nat := 0
  /-- Rows written by record index, segment headers not counted. -/
  count : Nat := 0
deriving DecidableEq, Repr

/-- A capture beyond its registers (R359 to R362). Ring rows carry their tick and interval. -/
structure Cap where
  ring : List (Nat × Nat × List Word) := []
  slot : Nat := 0
  /-- The open record's directory entry. -/
  dir : Option Nat := none
  /-- Rows the open record or segment still takes. -/
  left : Nat := 0
  /-- In a session: a segment is being written, and triggers missed before the next one (R361). -/
  inSeg : Bool := false
  segAt : Nat := 0
  missed : Nat := 0
  /-- DISARM was ordered: no further re-arm. -/
  off : Bool := false
deriving DecidableEq, Repr

/-- A trigger unit beyond its registers (R354 to R356). -/
structure TrigUnit where
  armed : Bool := false
  hold : Bool := false
  /-- Firings suppressed in this hold-off. -/
  held : Nat := 0
  /-- Its hold-off time has ended; it re-arms in the next interval. -/
  ended : Bool := false
  prevMatch : Bool := false
  timer : Nat := 0
deriving DecidableEq, Repr

/-- The vitrine (R348 to R374). -/
structure RecState where
  /-- Event sources of the present interval, class and index (R352). -/
  events : List (Nat × Nat) := []
  /-- Events that count at the hand-over of the tick (classes 8 to 10). -/
  tickEvents : List (Nat × Nat) := []
  /-- Level sources asserted since the interval's start, and those asserted at its start. -/
  rose : List (Nat × Nat) := []
  levels : List (Nat × Nat) := []
  units : AMap TrigUnit := []
  caps : AMap Cap := []
  dir : AMap (Option Rec) := []
  /-- Count of records opened (RECORD_ID). -/
  nextId : Nat := 0
  /-- A manual trigger that lands: capture mask, and its instant in 31.25 ps units from T_n (R357). -/
  manual : Option (Nat × Nat) := none
  /-- The coast plan was dispatched in the present tick (row flag COAST). -/
  coastRow : Bool := false
  /-- The START_CAT session: texts of the changes, and whether it has moved to the system region (R143). -/
  startCat : List (List Word) := []
  startMoved : Bool := false
  /-- Directory entry of the TUNING record in progress, by context (R267). -/
  tuning : AMap (Option Nat) := []
  /-- Samples of the tick for TUNING records, by context (R267). -/
  tuneRows : List (Nat × List Word) := []
deriving DecidableEq, Repr

-- Time (13_time.md)

/-- The clock beyond its registers: bits [15:0] of the accumulator, and how often TIME_NS has wrapped
(R331), so that instants can be told apart over more than one wrap; the servo; PPS and PTP. Instants
and durations are in 2^-16 ns unless said otherwise. -/
structure Clock where
  sub : Nat := 0
  wraps : Nat := 0
  /-- The last of the 4 ticks after a load in which SYNC is sent (R334). -/
  syncUntil : Option Nat := none
  /-- Wraps that TIME_EXT accounts for (R335). -/
  extWraps : Nat := 0
  /-- A pending phase correction in ns, and whether the servo made it (R333, R339). -/
  step : Option (Int × Bool) := none
  /-- The servo's integral term, the instant of the last sample, and samples in a row within LOCK_NS (R339). -/
  integ : Rat := 0
  last : Option Nat := none
  good : Nat := 0
  /-- Device time of the last accepted PPS_IN edge, ns without wrap (R341). -/
  lastPps : Option Nat := none
  /-- A two-step Sync that waits for its Follow_Up: sequence number, stamp, correction (R336). -/
  sync : Option (Nat × Stamp × Int) := none
  /-- Delay_Req outstanding: sequence number and departure; the last Sync's arrival less its departure. -/
  delayReq : Option (Nat × Nat) := none
  delaySeq : Nat := 0
  syncSeq : Nat := 0
  down : Option Int := none
  meanPath : Int := 0
  /-- Grandmaster identity and seconds of the last Announce (R336, R338). -/
  gm : Option (BitVec 64) := none
  annSec : Option Nat := none
deriving DecidableEq, Repr

-- The image (16_start_up_and_life_cycle.md), as far as no register shows it

/-- What the device keeps of the loaded image beyond registers: accepted cells (VENDOR, MODEL), and for
each arm the nominal capacitance and voltage and the gate set (R84, R126). -/
structure ImageState where
  models : List (Nat × Nat) := []
  ratings : AMap (Nat × Nat) := []
  gates : AMap (List (Nat × Nat)) := []
  /-- PLANT_TAG and ACCEPT_TAG (R298). -/
  plantTag : BitVec 64 := 0
  acceptTag : BitVec 64 := 0
  /-- Management keys by KEY_ID (R327), the items and decimation of stream 0 for version 1 (R325). -/
  keys : AMap (List Byte) := []
  stream0 : List Nat × Nat := ([], 0)
  /-- Record memory of the image's record configuration, in GiB (R364; DEDUCED, log entry 32). -/
  memGiB : Nat := 0
  /-- KEY_DIGEST, which a commit to PROVISIONED burns (R423, R430). -/
  keyDigest : BitVec 384 := 0
deriving DecidableEq, Repr

-- Station sessions (12_station_orders_telemetry_and_management.md)

/-- A session beyond its registers (R317 to R327): last source address and port, the highest accession
number accepted, the last accepted MGMT_SEQ, and what the session is still owed. -/
structure Sess where
  src : NetAddr := ⟨0, 0, 0⟩
  port : Nat := 0
  accepted : Nat := 0
  mgmtSeq : Nat := 0
  /-- Tick of the last NAK GAP (R320). -/
  nakTick : Option Nat := none
  /-- An acceptance completed in this tick: one ACK is due (R320). -/
  ackDue : Bool := false
  /-- OPEN_ACK waits for the peer's acknowledgement of this EVT_SEQ, with its REASON (R318). -/
  openEvt : Option Nat := none
  openReason : Nat := 0
deriving DecidableEq, Repr

/-- A telemetry stream's subscription (R325). -/
structure Tele where
  slot : Nat
  items : List Nat
  decim : Nat
  optional : Bool
  src : NetAddr
  port : Nat
  count : Nat := 0
deriving DecidableEq, Repr

/-- The station interface beyond its registers. -/
structure StnState where
  sess : AMap Sess := []
  /-- Every order journaled and not yet applied, in the order journaled (R320). -/
  journal : List JOrder := []
  /-- DONEs that leave after the hand-over: order, RESULT, DETAIL (R322). -/
  dones : List (JOrder × Nat × Nat) := []
  tele : AMap (Option Tele) := []
  /-- Ports on which PAUSE is in force (R323). -/
  pause : List Nat := []
  /-- Ports on which an order was refused for want of credit, with its slot (R323). -/
  starved : List (Nat × Nat) := []
  /-- The next SESSION_TAG tried, and frames of BEACON sent. -/
  nextTag : Nat := 0
  beacons : Nat := 0
deriving DecidableEq, Repr

-- The twin unit (11_twin_operation.md)

/-- A string block of AGREE (R281, R282). -/
structure AgreeStr where
  str : Nat
  relay : Bool
  cut : Bool
  held : Nat
  digest : Nat
deriving DecidableEq, Repr

/-- An AGREE: its string blocks, and the relayed reports by string and position (R282). -/
structure Agree where
  strs : List AgreeStr
  relays : List (Nat × List (Nat × Block))
deriving DecidableEq, Repr

/-- STATE (R290): the digest of a tick with its flags. -/
structure TickDigest where
  tick : Nat
  digest : Word
  withheld : Bool
  isLocal : Bool
  coast : Bool
deriving DecidableEq, Repr

/-- The inputs a joining twin logs for one tick (R304): the instant of T_n and T_(n−1), reports by
catalogue index, the serving twin's channel values with their causes, and its STATE. -/
structure LogTick where
  tick : Nat
  abs : Nat
  absPrev : Nat
  start : Word
  reports : AMap (Option Block)
  chans : List (Word × Nat)
  coast : Bool := false
  withheld : Bool := false
  digest : Option Word := none
deriving DecidableEq, Repr

/-- A snapshot (R303): register words by address, and the parts of the state no register shows. -/
structure Snap where
  tick : Nat
  /-- Device time of the capture without the wrap of TIME_NS: what the switching and the edges count in. -/
  abs : Nat
  words : List (Nat × Word)
  cells : List (Nat × CellLink)
  disc : List (Nat × Option DiscResult × Option DiscResult)
  obs : AMap ObsInst
  orders : AMap CellOrders
  arms : AMap ArmState
  ctxs : AMap CtxState
  sessions : List SessRec
  journal : List JOrder
  changes : List (Nat × CatChange)
  landing : Option Landing
deriving DecidableEq, Repr

/-- The rejoin of a joining twin (R302 to R306). -/
structure Join where
  /-- The serving twin's count, start and group, adopted at the next boundary. -/
  adopt : Option (Nat × Word × Nat × Nat × Nat × Nat) := none
  snapTick : Option Nat := none
  log : List LogTick := []
  installed : Bool := false
  /-- The attempt failed; REJOIN_RETRY runs. -/
  waiting : Bool := false
deriving DecidableEq, Repr

/-- The twin unit beyond its registers. -/
structure TwinState where
  /-- Catalogue changes proposed and not yet landed, with their landing ticks (R288). -/
  changes : List (Nat × CatChange) := []
  /-- Sequence number of the next event message (R276). -/
  evtSeq : Nat := 1
  /-- Event messages the peer has not acknowledged: EVT_SEQ, tick of the last sending (R276). -/
  unacked : List (Nat × Nat × EvtMsg) := []
  /-- Highest EVT_SEQ received in unbroken order, and those held beyond it (R276). -/
  ackSeq : Nat := 0
  ahead : List Nat := []
  /-- The unbroken order has a start: an event message has come since reset, or since the peer was last
  found in PAIRING, where it numbers anew (R276; DESIGN CHOICE, log entry 111). -/
  based : Bool := false
  pairing : Bool := false
  /-- Tick of the last valid HEART, and HEARTs missed in a row (R280, R293). -/
  heart : Option Nat := none
  missed : Nat := 0
  /-- Tick whose HEART was missing at its deadline (R280). -/
  hbDue : Option Nat := none
  /-- Arrival less departure of the last HEART received, in 2^-16 ns; measurements in a row beyond
  SKEW_LIM (R277, R292). -/
  rxDiff : Option Int := none
  skewRun : Nat := 0
  /-- The peer's channels of the tick: value, validity, CAUSE, BAD_1024 (R287). -/
  adc : Option (Nat × List (Word × Bool × Nat × Nat)) := none
  /-- The tick's own AGREE and the peer's (R282, R283). -/
  own : Option (Nat × Agree) := none
  peer : Option (Nat × Agree) := none
  /-- The tick for which the agreement has been decided. -/
  decided : Option Nat := none
  /-- Strings disagreed in the tick whose digests differ, for ODD_CNT (R286). -/
  odd : List Nat := []
  /-- The peer's PRESENCE of a tick (R286). -/
  presence : Option (Nat × List Block) := none
  /-- Own and peer STATE last held (R290, R291). -/
  mine : Option TickDigest := none
  theirs : Option TickDigest := none
  /-- Tick whose digests were compared last. -/
  compared : Option Nat := none
  /-- Tick in which PARTITIONED was entered; silent ticks in a row; a frame of the other end with ROLE
  0b10, or a report with HEARD_B = 1, in the present tick (R295, R296). -/
  partTick : Nat := 0
  silent : Nat := 0
  heard : Bool := false
  /-- A mode change that waits for the next boundary, or for the next dispatch: mode and cause (R279). -/
  atTick : Option (Nat × Nat) := none
  atDispatch : Option (Nat × Nat) := none
  /-- Entry tick agreed for DUPLEX (R299, R305). -/
  entry : Option Nat := none
  /-- The senior's count, start and group adopted at the entry tick (R299). -/
  adopt : Option (Nat × Word × Nat × Nat × Nat × Nat) := none
  /-- Tick of the snapshot this twin serves (R303). -/
  serve : Option Nat := none
  join : Join := {}
  /-- Pairing has failed by a cause that keeps the senior waiting for PAIR_WAIT (R300). -/
  pairFailed : Bool := false
deriving DecidableEq, Repr

-- The Curator (15_protection_and_safety.md)

/-- The last kick of the main device (R380, R401). -/
structure Kick where
  count : Nat
  energy : Word
  valid : Bool
  /-- Twin mode the kick carried. -/
  mode : Nat
  aged : Bool := false
deriving DecidableEq, Repr

/-- The Curator beyond its registers (R379 to R409). -/
structure Curator where
  /-- ILP_REQ has been written and not been withdrawn (R400). -/
  ilpReq : Bool := false
  kick : Option Kick := none
  kickCount : Nat := 0
  /-- Bit c: Curator fault code c is recorded; they hold until a cold reset (R409). -/
  faults : Nat := 0
  wdExpired : Bool := false
  /-- Failure under R402: holds until a cold reset. -/
  oscFail : Bool := false
  /-- Safe Block was recorded since the last compute window opened (R398). -/
  blockDue : Bool := false
  /-- Arms blocked by an unattributed HUSK from the next compute window on (R383). -/
  huskArms : List Nat := []
  /-- FAULT reactions begun: tick and HUSK set (R383, R386). -/
  reacts : List (Nat × List Nat) := []
  /-- FAULTs 0x01 and 0x02 of the tick: tick, LEG and CONV of the cell's arm (R387). -/
  desats : List (Nat × Nat × Nat) := []
  /-- Reactions whose exclusions have not landed: cell index, HUSK set; and the strings whose arms block
  with the exclusions that have (R386). -/
  landing : List (Nat × List Nat) := []
  landed : List Nat := []
  /-- Entries of the log ring in use (R412). -/
  logged : Nat := 0
deriving DecidableEq, Repr

/-- What the device gives its pins, lanes and ports to send, in order. The transmitters of the CELL and
TWIN lanes take their blocks from it (State.taken). -/
inductive Wire where
  /-- A message or ordered set on the CELL lane of a string, CHECK block included. -/
  | cell (string : Nat) (blocks : List Block)
  /-- A burst of HUSK on the CELL lane of a string, at the generation its transmitter runs at; forced by the
  Curator or from the cut-through path (R64, R381). -/
  | husk (string gen : Nat) (forced : Bool)
  /-- A cross-link message with a block layout, CHECK block included (R275). -/
  | xlink (blocks : List Block)
  /-- A cross-link message that carries an EVT_SEQ (R276). -/
  | event (seq : Nat) (m : EvtMsg)
  | catchup (m : Catchup)
  | snapshot (m : Snap)
  /-- A station message to an address, UDP payload, and the IEEE 802.1Q tag of its frame, PCP and VID, on a
  port with TAG_EN = 1 (R313, R315). -/
  | station (port : Nat) (vlan : Option (Nat × Nat)) (dst : NetAddr) (payload : List Byte)
  /-- Any other frame on a station port: its tag, kind and fields. -/
  | port (port : Nat) (vlan : Option (Nat × Nat)) (kind : String) (fields : List Nat)
  /-- A level or event on another pin or bus of the device. -/
  | pin (name : String) (fields : List Nat)
deriving DecidableEq, Repr

end Sys2Proof.Machine
end

