-- ==== Sys2Proof/Machine/Service.lean ====
section
/-!
DEFINITION. The parts of the state that serve the device as a whole: fuses, retention registers,
start-up, life-cycle and debug access, the access paths, the check units, the dispatcher, and the
droop and power ledgers; with the operands of the commands that reach them.
-/

namespace Sys2Proof.Machine

-- 16_start_up_and_life_cycle.md

/-- A row of the life-cycle fuse array: state code, count of the row, valid marker (R429). -/
structure FuseRow where
  code : Nat
  count : Nat
  valid : Bool
deriving DecidableEq, Repr

/-- What fuses hold through every reset (R408, R429): rows 0 to 62 in order as far as used, row 63,
the installation key digest, and the safety slots in order with their markers. -/
structure Fuses where
  rows : List FuseRow := []
  row63 : Option Bool := none
  digest : Option (BitVec 384) := none
  slots : List (Word × Bool) := []
deriving DecidableEq, Repr

/-- The Curator's retention registers (R310, R417): the journal head as committed last, COMMITS, and
the warm resets since the last cold one. -/
structure Retained where
  head : BitVec 512 := 0
  commits : Nat := 0
  warm : Nat := 0
deriving DecidableEq, Repr

/-- Block 0 of a flash slot, as read at the start of step 3 (R422, R423). -/
structure ImageHead where
  crcOk : Bool
  magic : Word
  format : BitVec 16
  siliconRev : BitVec 8
  seq : Word
  length : Word
deriving DecidableEq, Repr

/-- The read of a slot: block re-reads, a block that failed all four reads, the verification of both
signatures, the digests, and what the sections hold, decoded (R421 to R425). -/
structure ImageRead where
  rereads : Nat
  blockFail : Bool
  fwSigOk : Bool
  imgSigOk : Bool
  keyDigest : BitVec 384
  installDigest : BitVec 384
  imageTag : BitVec 64
  plantTag : BitVec 64
  acceptTag : BitVec 64
  /-- First 64 bits of the digest over the loaded plant sections. -/
  plantDigest : BitVec 64
  /-- The register words that hold img fields, by address: parameters, safety set, record set, signal
  table and producer map. -/
  regs : List (Nat × Word)
  /-- Words of the coefficient memory, by address. -/
  coefs : List (Nat × Word)
  /-- For every catalogue index its KIND and bypass fitting (R128). -/
  cells : List (Bool × Bool)
  models : List (Nat × Nat)
  ratings : List (Nat × Nat × Nat)
  gates : List (Nat × List (Nat × Nat))
  keys : List (Nat × List Byte)
  stream0 : List Nat × Nat
  /-- Record memory of the record configuration, in GiB (R364; DEDUCED, log entry 32). -/
  memGiB : Nat
  /-- Declared sizes of the contexts: n_x, n_y, n_u, n_w and tones (R239). -/
  dims : List (Nat × List Nat)
deriving DecidableEq, Repr

/-- Start-up and the life cycle beyond their registers (R414 to R434). -/
structure Boot where
  /-- The reset is asserted. -/
  asserted : Bool := true
  /-- The on-chip wipe is complete. -/
  wiped : Bool := false
  /-- Step 2 has ended and an image may be read. -/
  fusesRead : Bool := false
  /-- Slots refused in this start-up (R422). -/
  tried : List Nat := []
  loaded : Bool := false
  /-- READY is refused: the device stays at its current step (R419). -/
  refused : Bool := false
  /-- The armed target, and no arm has been deblocked since the ARM (R430, R431). -/
  armed : Option Nat := none
  armBlocked : Bool := false
  /-- The last ARM ran out without a COMMIT. -/
  armExpired : Bool := false
  /-- READY is reached, and what it opens waits for the next boundary (R420). -/
  readyWait : Bool := false
  /-- A commit burns: the target, and whether it burns a safety slot, with the value. -/
  burning : Option (Nat × Option Word) := none
  /-- A flash command runs: OP and BLOCK (R427). -/
  flash : Option (Nat × Nat) := none
deriving DecidableEq, Repr

/-- Debug access (R433, R434, R489, R490). -/
structure Debug where
  /-- A challenge has been drawn and not been voided. -/
  chal : Bool := false
  /-- A verification runs for this level. -/
  verify : Option Nat := none
  /-- JTAG instruction register, the boundary-scan cells preloaded, and what the next Capture-DR of
  DEBUG_ACCESS loads: STATUS and data. -/
  ir : Nat := 1
  scan : List Bool := []
  capture : Nat × Word := (0, 0)
deriving DecidableEq, Repr

/-- One access path (R447, R448): its snapshot, as the address of the LO register it was read with and
the words then held at the addresses read with it; the LO half held for a write; and STATUS of its last
access, which is how a refusal reaches the writer (R10, R327, R489). -/
structure PathState where
  snap : Option (Nat × List (Nat × Word)) := none
  held : Option (Nat × Word) := none
  last : Nat := 0
deriving DecidableEq, Repr

-- 17_integrity_and_check_units.md

/-- An ECC or parity event on a read of the tick's compute path (R438, R440, R441). -/
inductive EccEvent where
  /-- A single-bit error in word w of memory m. -/
  | corrected (m w : Nat)
  /-- An uncorrectable error in word w of memory m. -/
  | uncorrected (m w : Nat)
  /-- A wrong parity of signal-table entry i. -/
  | sigParity (i : Nat)
  /-- A journal entry read from its second copy. -/
  | journalCopy
  /-- A journal entry both copies of which are uncorrectable. -/
  | journalLost (w : Nat)
deriving DecidableEq, Repr

/-- A check unit's remainder (R443, R444). -/
structure ChkUnit where
  acc : Nat := 0
deriving DecidableEq, Repr

-- 18_supervisors_scheduling_and_power.md

/-- A work item (R454), with the order in which it was made ready. -/
structure Item where
  deadline : Word
  cls : Nat
  source : Nat
  overdue : Bool
  handle : Nat
  arg0 : Word
  arg1 : Word
  ready : Nat
deriving DecidableEq, Repr

/-- An item that waits at its source for a place in the pool (R456): sub names the string, port, unit or
timer it came from; a deadline where the source supplies one (R453). -/
structure Waiting where
  source : Nat
  sub : Nat
  cls : Nat
  deadline : Option Word
  arg0 : Word
  arg1 : Word
deriving DecidableEq, Repr

/-- A supervisor core: the item it runs with its start in ns without wrap, whether it is resetting, and
its busy intervals of the last millisecond, newest first (R458, R469). -/
structure CoreState where
  run : Option (Item × Nat) := none
  resetting : Bool := false
  busy : List (Nat × Nat) := []
deriving DecidableEq, Repr

/-- The dispatcher (R455, R456): the ready pool, the cores, and the items that wait at their sources. -/
structure Sched where
  pool : List Item := []
  cores : AMap CoreState := []
  waiting : List Waiting := []
  nextReady : Nat := 0
deriving DecidableEq, Repr

/-- The droop demand and the power window (R461 to R464): the level the deeper rail demands; the device
time in ns at which the window began and the total energy then; the curtailment level that governs. -/
structure PowerState where
  demand : Nat := 0
  winAbs : Nat := 0
  winEnergy : Nat := 0
  governs : Nat := 0
deriving DecidableEq, Repr

end Sys2Proof.Machine
end

