-- ==== Sys2Proof/Syntax.lean ====
section
/-!
DEFINITION. The commands of the block: one constructor per row of spec/opcode_table.json, in the
table's order, with the operands the row's step needs from outside. Lane, string, cell, arm and
context numbers are bounded by their types; what a type cannot bound is checked in WellFormed.lean.
-/

namespace Sys2Proof

open Sys2Proof.Machine

/-- A command to the block: a write or read of a register, a message, frame or event that reaches
it, or the end of a time it measures. -/
inductive Instr where
  /-- REGISTER_WRITE (R10). A management write to a register field that has no row of its own, checked against lock, range and twin mode and stored whole or not at all. -/
  | registerWrite (p : Fin 14) (addr : Word) (value : Word)
  /-- LO_READ (R447). A read of the LO half of a wide register pair returns the low half and snapshots the high half for that access path. -/
  | loRead (p : Fin 14) (addr : Word)
  /-- LO_WRITE (R448). A write of the LO half of a writable pair is held and changes nothing. -/
  | loWrite (p : Fin 14) (addr : Word) (value : Word)
  /-- HI_WRITE (R448). A write of the HI half commits the held low half and the written high half in one cycle. -/
  | hiWrite (p : Fin 14) (addr : Word) (value : Word)
  /-- POWER_ON (R415). VDD_SAFE rises through 1.62 V and the whole device, retention registers included, is wiped. -/
  | powerOn
  /-- COLD_RESET (R415). COLD_RST_N, a low VDD_SAFE or a main rail fault resets and wipes the device and zeroes the retention registers. -/
  | coldReset (c : ColdCause)
  /-- WARM_RESET (R415). WARM_RST_N resets and wipes the device except for the Curator's retention registers. -/
  | warmReset (upset : BitVec 512)
  /-- RAIL_FAULT (R479). A rail that stays outside its monitor window for 1 µs causes a cold reset. -/
  | railFault
  /-- RESET_RELEASE (R418). On release of a reset the straps are sampled, the Curator comes up, the fuses are read and start-up begins. -/
  | resetRelease (junior : Bool) (strap : Fin 4) (fuseOk : Bool)
  /-- ON_CHIP_WIPE_COMPLETE (R415). The on-chip wipe completes and the image read may begin. -/
  | onChipWipeComplete
  /-- IMAGE_READ_COMPLETE (R425). The slot's blocks have been read; the image is authenticated and checked, and it is accepted or the next slot is tried. -/
  | imageReadComplete (h0 : ImageHead) (h1 : ImageHead) (r : ImageRead)
  /-- PLL_LOCK (R418). The PLLs lock, the tick count starts and lane and memory training begin. -/
  | pllLock (ok : Bool) (loopBad : BitVec 64)
  /-- TRAINING_COMPLETE (R418). Every enabled lane is UP and the memory interface is trained, so catalogue discovery begins. -/
  | trainingComplete (mem : Bool)
  /-- TRAIN_WAIT_EXPIRY (R418). TRAIN_WAIT elapses in step 6 and start-up continues with the lanes that are not UP still training. -/
  | trainWaitExpiry (mem : Bool)
  /-- STARTUP_DISCOVERY_COMPLETE (R418). Step 7 ends with the discovery-time budget checks. -/
  | startupDiscoveryComplete
  /-- STARTUP_SELFTEST_COMPLETE (R418). The broadcast TESTs of step 8 have run. -/
  | startupSelftestComplete
  /-- READY (R420). At the first tick boundary after the last step the device becomes READY, and kicks, trip outputs, SAFE_OK and order acceptance begin. -/
  | ready (us : Nat)
  /-- TICK_BOUNDARY (R12). TIME_NS reaches T_n: the tick count advances and tick n's sample instant starts. -/
  | tickBoundary
  /-- ADC_BURST (R151). The converters run the tick burst of OSR conversions centred on T_n. -/
  | adcBurst (convs : List (List (BitVec 16)))
  /-- ADC_STREAM_CONVERSION (R151). In STREAM mode a conversion of all channels completes every 50 ns. -/
  | adcStreamConversion (codes : List (BitVec 16))
  /-- ADC_VALUE_HANDOVER (R152). At T_n + 0.200 µs each channel's calibrated or sampled-value tick value is formed and handed to the twin unit. -/
  | adcValueHandover
  /-- REPORT_CUTOFF (R18). At T_n + CUTOFF_PHASE the report window closes and reports arriving later are late. -/
  | reportCutoff
  /-- AGREE_SEND (R282). At CUTOFF_PHASE + 0.010 µs AGREE is sent with string digests and relay sections. -/
  | agreeSend
  /-- AGREE_DEADLINE (R284). At the AGREE deadline the string decisions are taken, or the device's own reception is used when the peer's AGREE is missing. -/
  | agreeDeadline
  /-- COMPUTE_WINDOW_OPEN (R16). The compute window opens: landed changes and orders apply, then the observer, ledger, loop, selection and edge stages run. -/
  | computeWindowOpen (ecc : List EccEvent)
  /-- REPORTS_MISSING_EXCLUSION (R173). MISS_CNT reaches MISS_MAX + 1 and the cell is excluded with REPORTS_MISSING. -/
  | reportsMissingExclusion (i : Fin 6144)
  /-- SENSOR_FROZEN (R174). FRZ_CNT reaches FREEZE_TICKS, so the instance becomes frozen and FAILED. -/
  | sensorFrozen (i : Fin 6144)
  /-- GRADE_CHANGE (R176). A health count reaches its threshold and GRADE moves, with exclusion or release where stated. -/
  | gradeChange (i : Fin 6144)
  /-- CONTEXT_LOST (R258). LOST_CNT reaches LOST_MAX + 1 and the context faults with cause LOST. -/
  | contextLost (c : Fin 192)
  /-- FOLLOWING_ERROR (R260). FE_CNT reaches FE_TIME and the context faults with cause FE. -/
  | followingError (c : Fin 192)
  /-- INPUT_FROZEN (R259). FRZ_j reaches FRZ_RUNS and the feedback input becomes frozen. -/
  | inputFrozen (c : Fin 192) (j : Fin 16)
  /-- CMP_WINDOW_END (R254). A shadow comparison window of CMP_WIN runs ends, and CMP_MAX and CMP_RMS are published. -/
  | cmpWindowEnd (c : Fin 192)
  /-- INJECTION_COMPLETE (R266). An injection ends after DURATION runs. -/
  | injectionComplete (c : Fin 192)
  /-- WAIT_EXPIRED (R201). A pending cell has waited COMM_WAIT ticks and enters the mask. -/
  | waitExpired (i : Fin 6144)
  /-- PIP_MOVE (R199). PIP_AGE reaches PIP_HOLD at a carrier boundary and the pip moves to a new cell. -/
  | pipMove (a : Fin 16)
  /-- OVERRUN (R29). The compute deadline passes with the compute incomplete, and the coast plan is used or the frames are withheld. -/
  | overrun
  /-- CONSEC_OVERRUN (R29). The third consecutive overrun requests Safe Block, or makes the device leave DUPLEX. -/
  | consecOverrun
  /-- LATE_COMPLETION (R29). A withholding twin completes its compute after the deadline and sends its state digest late. -/
  | lateCompletion (cycles : BitVec 16)
  /-- HAND_OVER (R224). The plan is handed to the link engine and frames are formed; WEAR, the journal head and the kick follow. -/
  | handOver
  /-- FRAME_DISPATCH (R224). At the dispatch slot every string's order frame starts to leave. -/
  | frameDispatch
  /-- STAGED_WRITE (R35). A write to a staged tick-group register stores the value and sets its STAGED bit, unless a commit is pending. -/
  | stagedWrite (p : Fin 14) (m : Fin 4) (value : Word)
  /-- COMMIT (R36). A management COMMIT of the staged group is tested and either refused or accepted with apply tick m + 2. -/
  | commit (p : Fin 14)
  /-- DISCARD (R35). DISCARD clears STAGED, unless an accepted commit has not yet landed. -/
  | discard (p : Fin 14)
  /-- GROUP_LAND (R38). An accepted staged group governs from tick a + 1, and the transition window is planned. -/
  | groupLand
  /-- OVERRUN_CLR (R31). OVERRUN_CLR clears OVERRUN_CNT and LATE_MAX. -/
  | overrunClr (p : Fin 14)
  /-- FAULT_RX (R386). A first valid FAULT copy is deserialized: HUSK on the lanes of its scope, a log entry and an exclusion proposal. -/
  | faultRx (k : Fin 64) (b : Block) (blk : Nat) (at_ : Stamp)
  /-- HUSK_RX (R383). A HUSK received on a CELL lane is counted and logged, and if unattributed it blocks the string's arm. The block and its arrival. -/
  | huskRx (k : Fin 64) (b : Block × Stamp)
  /-- REPORT_RX (R80). A cell REPORT arrives, is checked and held for its tick, or counted as late or failed. -/
  | reportRx (k : Fin 64) (bs : List RxBlock) (arr : Nat) (clean : Bool)
  /-- ACK_RX (R86). A cell's ACK to a CONFIG or TEST arrives. -/
  | ackRx (k : Fin 64) (bs : List RxBlock)
  /-- NAK_MSG_RX (R86). A cell's NAK message with its code arrives. -/
  | nakMsgRx (k : Fin 64) (bs : List RxBlock)
  /-- ANNOUNCE_RX (R130). An ANNOUNCE answering a CALL arrives and is collected for the discovery run. -/
  | announceRx (k : Fin 64) (bs : List RxBlock)
  /-- ECHO_RESP_RX (R344). An ECHO_RESP arrives and the hop delay d_0 is computed. -/
  | echoRespRx (k : Fin 64) (bs : List RxBlock) (t4 : Stamp)
  /-- NAK_SET_RX (R96). A NAK ordered set arrives and the named message is re-sent once, or counted as NO_COPY. -/
  | nakSetRx (k : Fin 64) (b : Block)
  /-- OTHER_END_FRAME_RX (R295). An order frame of the other end's twin arrives at a CELL receive pin. -/
  | otherEndFrameRx (k : Fin 64) (bs : List RxBlock)
  /-- UNKNOWN_MESSAGE_RX (R72). A message of unknown type is absorbed and counted. -/
  | unknownMessageRx (k : Fin 64) (bs : List RxBlock)
  /-- HOP_VERSION_FIXED (R98). After 8 consecutive IDLE blocks following UP the hop version is fixed. -/
  | hopVersionFixed (k : Fin 64) (verCap : Fin 8)
  /-- CONFIG_SEND (R84). The device starts a CONFIG to a cell or to the whole string. -/
  | configSend (k : Fin 64) (p : Fin 128) (bcast : Bool) (c : CfgKind) (atTick : Bool) (ahead : Nat)
  /-- TEST_SEND (R87). The device starts a TEST request. -/
  | testSend (k : Fin 64) (p : Fin 128) (bcast : Bool) (code : Fin 4) (ahead : Nat)
  /-- SYNC_SEND (R342). The device sends SYNC on every string in the ticks required. -/
  | syncSend (k : Fin 64) (tx : Stamp)
  /-- CALL_SEND (R130). The device sends a CALL to start or continue a discovery run. -/
  | callSend (k : Fin 64)
  /-- ECHO_REQ_SEND (R344). The device sends an ECHO_REQ on its own hop. -/
  | echoReqSend (k : Fin 64) (t1 : Stamp)
  /-- REQUEST_TIMEOUT (R94). REPLY_WAIT elapses without a reply, and the request is repeated or counted as a timeout. -/
  | requestTimeout (k : Fin 64) (tag : BitVec 8)
  /-- LINK_CNT_CLR (R101). LINK_CNT_CLR clears the string's link counters. -/
  | linkCntClr (p : Fin 14) (k : Fin 64)
  /-- DISC_WAIT_EXPIRY (R130). DISC_WAIT ticks after a CALL the announced results are taken, and compared for run completion. -/
  | discWaitExpiry (k : Fin 64)
  /-- DISC_PERIOD_EXPIRY (R135). DISC_PERIOD elapses and a discovery run starts on the string. -/
  | discPeriodExpiry
  /-- CAT_REDISCOVER (R145). REDISCOVER starts a run on every string in use. -/
  | catRediscover (p : Fin 14)
  /-- DISAGREE_REDISCOVER (R285). A string disagreed in REDISC_AFTER consecutive ticks starts a discovery run. -/
  | disagreeRediscover (k : Fin 64)
  /-- REMEAS_PERIOD_EXPIRY (R136). REMEAS_PERIOD elapses and the string's latency is measured again. -/
  | remeasPeriodExpiry (k : Fin 64)
  /-- SCHEDULE_DEVIATION (R136). Reports off their schedule in 4 consecutive ticks start a latency re-measurement. -/
  | scheduleDeviation (k : Fin 64)
  /-- LATENCY_MEASURED (R344). After MEAS_TICKS samples LAT is set, the budget checks run and the report schedule is recomputed. -/
  | latencyMeasured (k : Fin 64)
  /-- ADMIT_RETRY_EXPIRY (R138). ADMIT_RETRY elapses and a fresh admission attempt starts. -/
  | admitRetryExpiry
  /-- ADMISSION_COMPLETE (R140). A full or short admission finishes its checks, passing or failing the cell. -/
  | admissionComplete (i : Fin 6144)
  /-- CAT_CNT_CLR (R145). CNT_CLR clears CAT_COUNTS. -/
  | catCntClr (p : Fin 14)
  /-- WEAR_WRITE (R141). A management write of WEAR takes effect only on a blocked arm in ALONE or SOLO. -/
  | wearWrite (p : Fin 14) (i : Fin 6144) (value : Word)
  /-- LOS_ASSERT (R48). Loss of signal on a lane sends it to DETECT. -/
  | losAssert (l : Fin 72) (lol : Bool)
  /-- LOS_DEASSERT (R48). The signal returns and the lane moves from DETECT to BASE. -/
  | losDeassert (l : Fin 72)
  /-- LOL_ASSERT (R48). Loss of lock sends an UP lane to RELOCK. The lane, and whether block lock is lost in the same cycle. -/
  | lolAssert (l : Fin 72 × Bool)
  /-- LOL_DEASSERT (R48). The recovered clock returns within 300 ppm for 10 µs. -/
  | lolDeassert (l : Fin 72)
  /-- BLOCK_LOCK_GAIN (R45). The receiver gains block lock after 64 valid headers. -/
  | blockLockGain (l : Fin 72) (hs : List Bool)
  /-- BLOCK_LOCK_LOSS (R45). 16 invalid headers in 64 blocks lose block lock. -/
  | blockLockLoss (l : Fin 72) (hs : List Bool)
  /-- HI_ERR_WINDOW_END (R47). A 125 µs error window ends and HI_ERR is set or cleared. -/
  | hiErrWindowEnd (l : Fin 72) (n : Nat)
  /-- REFCLK_LOSS (R41). A reference input is absent or off frequency and its lanes report loss of lock. -/
  | refclkLoss (r : Fin 2)
  /-- TRAINING_BLOCK_RX (R51). A training block arrives and its capabilities, tap requests, polarity and LANE_ID are handled. -/
  | trainingBlockRx (l : Fin 72) (ctrl : Bool) (b : Block)
  /-- GEN_SWITCH (R52). After 16 matching GEN_SEL blocks and 32 more sent, the end switches to the target generation and enters FINAL. -/
  | genSwitch (l : Fin 72)
  /-- FINAL_UP (R50). Eight consecutive RX_READY blocks take the end from FINAL to UP. -/
  | finalUp (l : Fin 72)
  /-- LEGACY_TIMEOUT (R53). No training block arrives within 2 ms of SL-1 lock, so the lane goes UP as LEGACY. -/
  | legacyTimeout (l : Fin 72)
  /-- FINAL_TIMEOUT (R54). No UP within 4 ms of FINAL, so the generation is removed and the lane falls back to BASE. -/
  | finalTimeout (l : Fin 72)
  /-- BASE_TIMEOUT (R54). No SL-1 lock within 4 ms of BASE sends the lane to FAILED. -/
  | baseTimeout (l : Fin 72)
  /-- LANE_RETRY_EXPIRY (R54). LANE_RETRY elapses and a FAILED lane returns to DETECT. -/
  | laneRetryExpiry (l : Fin 72)
  /-- RELOCK_TIMEOUT (R50). No lock within 100 µs in RELOCK sends the lane to DETECT. -/
  | relockTimeout (l : Fin 72)
  /-- BOND_ALIGN_BLOCK (R60). An alignment block on the TWIN bond deskews the lanes and may restore full width or reveal BOND_SKEW. -/
  | bondAlignBlock (skew : Nat)
  /-- LANE_POWER_STATE_REACHED (R62). A transmitter or receiver reaches its requested power state. -/
  | lanePowerStateReached (l : Fin 72) (tx : Bool)
  /-- RETRAIN (R63). RETRAIN returns the lane to DETECT unless R63 refuses it. -/
  | retrain (p : Fin 14) (l : Fin 72)
  /-- BIT_SLIP (R46). In manual alignment, BIT_SLIP moves the block boundary by one bit. -/
  | bitSlip (p : Fin 14) (l : Fin 72)
  /-- TX_PWR_REQ (R62). A write of TX_PWR_REQ requests a transmit power state, subject to R63. -/
  | txPwrReq (p : Fin 14) (l : Fin 72) (v : Fin 4)
  /-- RX_PWR_REQ (R62). A write of RX_PWR_REQ requests a receive power state, subject to R63. -/
  | rxPwrReq (p : Fin 14) (l : Fin 72) (v : Fin 4)
  /-- LANE_ENABLE_WRITE (R63). A write of ENABLE puts a lane in or out of use, subject to R63. -/
  | laneEnableWrite (p : Fin 14) (l : Fin 72) (on : Bool)
  /-- LANE_CNT_CLR (R66). CNT_CLR clears all counters of the lane. -/
  | laneCntClr (p : Fin 14) (l : Fin 72)
  /-- URGENT (R160). An urgent request converts all analogue channels once, or is dropped. -/
  | urgent (p : Fin 14) (codes : List (BitVec 16)) (busy : Bool)
  /-- CAL_START (R155). CAL_START starts a 38.4 ms calibration when no arm is deblocked. -/
  | calStart (p : Fin 14)
  /-- CAL_COMPLETE (R156). A calibration completes and sets GAIN, OFS and the channel causes. -/
  | calComplete (sums : List (Int × Int × Int)) (temp : BitVec 8)
  /-- MCH_RANGE_WRITE (R153). A write of a channel's RANGE sets CAL_PENDING. -/
  | mchRangeWrite (p : Fin 14) (n : Fin 24) (v : Fin 4)
  /-- ADC_CNT_CLR (R164). CNT_CLR clears the ADC and stream counters. -/
  | adcCntClr (p : Fin 14)
  /-- SV_FRAME_RX (R161). A sampled-value frame arrives and is matched to a stream or rejected. -/
  | svFrameRx (f : SvFrame)
  /-- OBS_CNT_CLR (R184). CNT_CLR clears the observer counters. -/
  | obsCntClr (p : Fin 14)
  /-- SEL_CNT_CLR (R207). CNT_CLR clears the selection counters of every arm. -/
  | selCntClr (p : Fin 14)
  /-- HALT_REQ (R229). HALT_REQ requests a debug halt in ALONE or SOLO, or is refused. -/
  | haltReq (p : Fin 14)
  /-- DEBUG_PORT_HALT (R229). A halt requested from the debug port. -/
  | debugPortHalt
  /-- RESUME (R232). RESUME ends the halt and orders are computed again. -/
  | resume (p : Fin 14)
  /-- EDGE_CNT_CLR (R234). CNT_CLR clears every arm's edge counters. -/
  | edgeCntClr (p : Fin 14)
  /-- CTX_MODE_WRITE (R252). A management write of a context's MODE requests a mode change with apply tick m + 2. -/
  | ctxModeWrite (p : Fin 14) (c : Fin 192) (m : Fin 4)
  /-- INJ_START (R266). INJ_START starts an injection at the first run in or after tick t + 2. -/
  | injStart (p : Fin 14) (c : Fin 192)
  /-- INJ_STOP (R266). INJ_STOP ends a running injection, or sets ALREADY_DONE. -/
  | injStop (p : Fin 14) (c : Fin 192)
  /-- SEAL (R269). SEAL computes REF_CRC over the block and sets SEALED within 20 µs. -/
  | seal (p : Fin 14) (c : Fin 192)
  /-- FAULT_RESET (R262). A management FAULT_RESET returns a faulted context to its mode at the apply tick. -/
  | faultReset (p : Fin 14) (c : Fin 192)
  /-- CTX_CNT_CLR (R270). A context's CNT_CLR clears its RUN_CNT and EVT_CNT. -/
  | ctxCntClr (p : Fin 14) (c : Fin 192)
  /-- LOOP_CNT_CLR (R270). LOOP_CMD.CNT_CLR clears the common loop counters and those of every context. -/
  | loopCntClr (p : Fin 14)
  /-- COEF_WRITE (R269). A write to a context's coefficient block or sizes is accepted only when allowed, and clears SEALED. -/
  | coefWrite (p : Fin 14) (word : Fin 1048576) (value : Word)
  /-- SIG_VALUE_WRITE (R245). A management write of SIG_VALUE takes effect only on a CONST entry in ALONE or SOLO. -/
  | sigValueWrite (p : Fin 14) (i : Fin 4096) (value : Word)
  /-- SCRUB_BLOCK_CHECK (R268). The scrub finishes a coefficient block and compares its CRC with REF_CRC. -/
  | scrubBlockCheck (c : Fin 192) (corrected : Nat) (uncorr upset : Bool)
  /-- HEART_RX (R277). A HEART arrives, acknowledging events and completing the acceptance of journaled orders. -/
  | heartRx (bs : List Block) (at_ : Stamp)
  /-- HEART_DEADLINE (R280). No HEART of tick n has arrived by T_n + 0.300 µs, and a miss is counted. -/
  | heartDeadline
  /-- HEARTBEAT_LOST (R293). HB_MISS consecutive HEARTs are missing, and a DUPLEX twin enters PARTITIONED. -/
  | heartbeatLost
  /-- ADC_MSG_RX (R287). The peer's ADC message arrives for the channel agreement. -/
  | adcMsgRx (bs : List Block)
  /-- AGREE_RX (R283). The peer's AGREE arrives for the string decision. -/
  | agreeRx (bs : List Block)
  /-- STATE_RX (R291). The peer's STATE arrives, its digest is compared, and divergence leads to withdrawal. -/
  | stateRx (bs : List Block)
  /-- PRESENCE_RX (R286). The peer's PRESENCE bitmap arrives and ODD_CNT is updated. -/
  | presenceRx (bs : List Block)
  /-- JOURNAL_RX (R289). A JOURNAL message arrives and the peer journals the order. No EVT_SEQ where its check fails. -/
  | journalRx (seq : Option (BitVec 16)) (j : Journaled)
  /-- CHANGE_RX (R288). A catalogue CHANGE proposal arrives and is scheduled for its landing tick. No EVT_SEQ where its check fails. -/
  | changeRx (seq : Option (BitVec 16)) (c : CatChange) (land : Nat)
  /-- PAIR_RX (R299). A PAIR arrives and pairing or a rejoin is checked and proceeds. No EVT_SEQ where its check fails. -/
  | pairRx (seq : Option (BitVec 16)) (p : PairMsg)
  /-- PAIR_SEND (R298). In PAIRING a twin sends PAIR every 1,024 ticks. -/
  | pairSend
  /-- CATCHUP_RX (R304). A CATCHUP message arrives and the joiner logs the serving twin's inputs; none where its check fails. -/
  | catchupRx (m : Option Catchup)
  /-- SNAPSHOT_RX (R305). A SNAPSHOT chunk arrives; when the last one has arrived the snapshot is installed and replay begins. -/
  | snapshotRx (ok : Bool) (whole : Option Snap)
  /-- REPLAY_COMPLETE (R305). Replay reaches the current tick and the joiner sends PAIR with READY. -/
  | replayComplete
  /-- DUPLEX_ENTRY (R299). At the named entry tick both twins enter DUPLEX. -/
  | duplexEntry
  /-- EVT_RESEND (R276). An unacknowledged JOURNAL, CHANGE or PAIR is repeated two ticks after sending. -/
  | evtResend
  /-- SKEW_MEASURE (R277). Every 1,024 ticks XLAT and SKEW are computed from the HEART stamps. -/
  | skewMeasure (peerDiff : Int)
  /-- SKEW_LIMIT_EXCEEDED (R292). |SKEW| exceeds SKEW_LIM in 16 consecutive measurements and the junior withdraws. -/
  | skewLimitExceeded
  /-- PAIR_WAIT_EXPIRY (R279). PAIR_WAIT elapses without a valid PAIR or HEART, and the twin enters SOLO. -/
  | pairWaitExpiry
  /-- JUNIOR_PARTITION_TIMEOUT (R279). A partitioned junior does not hear the senior through p + ORDER_TIMEOUT and enters SOLO. -/
  | juniorPartitionTimeout
  /-- SENIOR_SILENCE_CONFIRM (R296). After PART_CONFIRM silent ticks a partitioned senior enters SOLO. -/
  | seniorSilenceConfirm
  /-- REJOIN_MAX_EXPIRY (R306). REJOIN_MAX passes without entry and the rejoin fails. -/
  | rejoinMaxExpiry
  /-- REJOIN_RETRY_EXPIRY (R306). REJOIN_RETRY elapses and a failed rejoin is retried. -/
  | rejoinRetryExpiry
  /-- WITHDRAW (R312). In DUPLEX, WITHDRAW makes this twin withdraw into REJOINING. -/
  | withdraw (p : Fin 14)
  /-- REJOIN_NOW (R312). In REJOINING, REJOIN_NOW ends the REJOIN_RETRY wait. -/
  | rejoinNow (p : Fin 14)
  /-- TWIN_CNT_CLR (R311). CNT_CLR clears the twin counters. -/
  | twinCntClr (p : Fin 14)
  /-- ARP_REQUEST (R313). An ARP request for the port's address is answered. -/
  | arpRequest (p : Fin 4) (ip : Word) (src : NetAddr)
  /-- ICMP_ECHO (R313). An ICMP echo request to the port is answered. -/
  | icmpEcho (p : Fin 4) (ip : Word) (src : NetAddr) (data : List Byte)
  /-- OPEN (R317). OPEN opens or re-opens a session and is answered with OPEN_ACK. -/
  | openSession (p : Fin 4) (src : NetAddr) (raw : List Byte)
  /-- CLOSE (R317). CLOSE frees the session's slot. -/
  | closeSession (p : Fin 4) (src : NetAddr) (raw : List Byte)
  /-- ORDER (R320). An ORDER is checked against EXPECTED and credit, then journaled with an apply tick or answered with ACK or NAK. -/
  | order (p : Fin 4) (src : NetAddr) (raw : List Byte)
  /-- SUBSCRIBE (R325). SUBSCRIBE sets, changes or cancels a telemetry stream. -/
  | subscribe (p : Fin 4) (src : NetAddr) (raw : List Byte)
  /-- MGMT_READ (R327). An authenticated MGMT_READ returns COUNT consecutive words. -/
  | mgmtRead (p : Fin 4) (src : NetAddr) (raw : List Byte)
  /-- MGMT_WRITE (R327). An authenticated MGMT_WRITE applies its writes in order, each with its own STATUS. -/
  | mgmtWrite (p : Fin 4) (src : NetAddr) (raw : List Byte)
  /-- ORDER_SETPOINT (R324). A SETPOINT order writes a STATION entry at its apply tick. -/
  | orderSetpoint (idx : Fin 4096) (v : Word)
  /-- ORDER_DEBLOCK (R324). A DEBLOCK order deblocks its arms at the apply tick, or is refused. -/
  | orderDeblock (mask : BitVec 16)
  /-- ORDER_BLOCK (R324). A BLOCK order blocks its arms at the apply tick. -/
  | orderBlock (mask : BitVec 16)
  /-- ORDER_CTX_OFF (R252). A CONTEXT order with OP OFF switches the context off. -/
  | orderCtxOff (c : Fin 192)
  /-- ORDER_CTX_LIVE (R252). A CONTEXT order with OP LIVE makes the context LIVE. -/
  | orderCtxLive (c : Fin 192)
  /-- ORDER_CTX_SHADOW (R252). A CONTEXT order with OP SHADOW makes the context SHADOW. -/
  | orderCtxShadow (c : Fin 192)
  /-- ORDER_CTX_PROMOTE (R255). A CONTEXT order with OP PROMOTE swaps a shadow with its LIVE partner. -/
  | orderCtxPromote (c : Fin 192)
  /-- ORDER_CTX_FAULT_RESET (R262). A CONTEXT order with OP FAULT_RESET resets a faulted context. -/
  | orderCtxFaultReset (c : Fin 192)
  /-- ORDER_INJ_START (R266). A CONTEXT order with OP INJ_START starts an injection at the apply tick. -/
  | orderInjStart (c : Fin 192)
  /-- ORDER_INJ_STOP (R266). A CONTEXT order with OP INJ_STOP stops an injection. -/
  | orderInjStop (c : Fin 192)
  /-- ORDER_CELL_EXCLUDE (R138). A CELL order with OP EXCLUDE excludes the cell with reason STATION. -/
  | orderCellExclude (i : Fin 6144)
  /-- ORDER_CELL_RELEASE (R138). A CELL order with OP RELEASE clears reasons FAULTED and STATION. -/
  | orderCellRelease (i : Fin 6144)
  /-- ORDER_CELL_RETIRE (R139). A CELL order with OP RETIRE retires the cell. -/
  | orderCellRetire (i : Fin 6144)
  /-- ORDER_GRADE_RESET (R176). A CELL order with OP GRADE_RESET resets the cell's grade to UNKNOWN. -/
  | orderGradeReset (i : Fin 6144)
  /-- ORDER_WEAR_SET (R141). A CELL order with OP WEAR_SET sets WEAR in both twins. -/
  | orderWearSet (i : Fin 6144) (v : Word)
  /-- ORDER_PARAM (R324). A PARAM order read-modify-writes LIVE fields, the staged group and TICK_COMMIT included. -/
  | orderParam (addr value mask : Word)
  /-- RECORD_TRIGGER (R369). A RECORD order with OP TRIGGER makes a manual trigger of the named captures. -/
  | recordTrigger (caps : BitVec 8)
  /-- RECORD_ARM (R369). A RECORD order with OP ARM arms a capture. -/
  | recordArm (c : Fin 8)
  /-- RECORD_DISARM (R369). A RECORD order with OP DISARM stops re-arming and closes an open record or session. -/
  | recordDisarm (c : Fin 8)
  /-- RECORD_OFFLOAD (R369). A RECORD order with OP OFFLOAD places the window on a record. -/
  | recordOffload (d : Fin 64)
  /-- RECORD_RELEASE (R369). A RECORD order with OP RELEASE frees a directory entry and its slot. -/
  | recordRelease (d : Fin 64)
  /-- RECORD_ABORT (R371). A RECORD order with OP ABORT closes an open record at its current row. -/
  | recordAbort (c : Fin 8)
  /-- RECORD_THAW (R363). A RECORD order with OP THAW completes frozen records and re-arms captures. -/
  | recordThaw
  /-- REC_CMD_TRIGGER (R369). A REC_CMD write with OP TRIGGER makes a manual trigger. -/
  | recCmdTrigger (p : Fin 14) (caps : BitVec 8)
  /-- REC_CMD_ARM (R369). A REC_CMD write with OP ARM arms a capture. -/
  | recCmdArm (p : Fin 14) (c : Fin 8)
  /-- REC_CMD_DISARM (R369). A REC_CMD write with OP DISARM disarms a capture. -/
  | recCmdDisarm (p : Fin 14) (c : Fin 8)
  /-- REC_CMD_OFFLOAD (R369). A REC_CMD write with OP OFFLOAD places the offload window. -/
  | recCmdOffload (p : Fin 14) (d : Fin 64)
  /-- REC_CMD_RELEASE (R369). A REC_CMD write with OP RELEASE frees a directory entry. -/
  | recCmdRelease (p : Fin 14) (d : Fin 64)
  /-- REC_CMD_ABORT (R371). A REC_CMD write with OP ABORT aborts an open record. -/
  | recCmdAbort (p : Fin 14) (c : Fin 8)
  /-- REC_CMD_THAW (R363). A REC_CMD write with OP THAW thaws the vitrine. -/
  | recCmdThaw (p : Fin 14)
  /-- BEACON_SEND (R326). Every BEACON_MS a BEACON is sent to each session and to broadcast. -/
  | beaconSend
  /-- SESSION_TIMEOUT (R317). No message of a session arrives for SESS_TIMEOUT and the session is dropped. -/
  | sessionTimeout (k : Fin 4)
  /-- PAUSE_REPEAT (R323). While a pause condition holds, PAUSE is repeated at half the pause time. -/
  | pauseRepeat (p : Fin 4) (full : Bool)
  /-- STN_CNT_CLR (R329). CNT_CLR clears the station counters. -/
  | stnCntClr (p : Fin 14)
  /-- TIME_INC_HI_WRITE (R332). A write of TIME_INC_HI commits TIME_INC within the limits, or is refused. -/
  | timeIncHiWrite (p : Fin 14) (value : Word)
  /-- TIME_STEP (R333). A write of TIME_STEP schedules a phase correction for the next tick boundary, or is refused. -/
  | timeStep (p : Fin 14) (value : Word)
  /-- TIME_SET (R334). TIME_SET loads TIME_NS and ends the current tick, or is refused. -/
  | timeSet (p : Fin 14) (value : Word)
  /-- TIME_WRAP (R335). TIME_NS wraps and the firmware updates TIME_EXT. -/
  | timeWrap
  /-- PPS_IN_EDGE (R338). A PPS_IN rising edge is stamped, or ignored as a glitch. -/
  | ppsInEdge (at_ : Stamp)
  /-- SERVO_LOCKED (R339). LOCK_CNT consecutive samples within LOCK_NS put the servo in LOCKED. -/
  | servoLocked
  /-- HOLDOVER_ENTRY (R339). No sample for HOLD_MS puts the servo in HOLDOVER. -/
  | holdoverEntry
  /-- PPS_OUT_PULSE (R341). PPS_OUT rises at each start of a second for PPS_WIDTH. -/
  | ppsOutPulse
  /-- PTP_SYNC_RX (R336). A PTP Sync is stamped on the time-receiver port. -/
  | ptpSyncRx (p : Fin 4) (domain : BitVec 8) (seq : BitVec 16) (twoStep : Bool) (sec ns : Nat) (corr : Int) (at_ : Stamp)
  /-- PTP_FOLLOW_UP_RX (R336). A PTP Follow_Up completes a Sync pair. -/
  | ptpFollowUpRx (p : Fin 4) (domain : BitVec 8) (seq : BitVec 16) (sec ns : Nat) (corr : Int)
  /-- PTP_DELAY_RESP_RX (R336). A PTP Delay_Resp arrives. -/
  | ptpDelayRespRx (p : Fin 4) (domain : BitVec 8) (seq : BitVec 16) (sec ns : Nat) (corr : Int)
  /-- PTP_ANNOUNCE_RX (R336). A PTP Announce reports the grandmaster identity. -/
  | ptpAnnounceRx (p : Fin 4) (domain : BitVec 8) (gm : BitVec 64) (sec : Nat)
  /-- PTP_DELAY_REQ_RX (R337). A time-transmitter port answers Delay_Req with Delay_Resp. -/
  | ptpDelayReqRx (p : Fin 4) (domain : BitVec 8) (seq : BitVec 16) (port : BitVec 80) (at_ : Stamp)
  /-- PTP_SYNC_SEND (R337). A time-transmitter port sends Sync, one-step or two-step. -/
  | ptpSyncSend (p : Fin 4) (tx : Stamp)
  /-- TIME_CNT_CLR (R347). CNT_CLR clears the time counters. -/
  | timeCntClr (p : Fin 14)
  /-- REC_INTERVAL (R352). Each 50 ns interval forms the condition bits and evaluates the trigger units. -/
  | recInterval (k : Nat) (offs : List ((Nat × Nat) × Nat)) (codes : List (BitVec 16)) (busy : Bool)
  /-- SEQ_COUNT_COMPLETE (R355). A sequence state reaches COUNT and moves on, or fires. -/
  | seqCountComplete (q : Fin 2)
  /-- SEQ_TIMER_EXPIRY (R355). A sequence state's TIMER expires and moves to TIMEOUT_NEXT. -/
  | seqTimerExpiry (q : Fin 2)
  /-- HOLDOFF_END (R356). A unit's hold-off ends and it re-arms. -/
  | holdoffEnd (u : Fin 10)
  /-- RECORD_CLOSE (R359). A record closes after its POST rows and the capture re-arms, or goes FULL. -/
  | recordClose (c : Fin 8)
  /-- SEGMENT_REARM (R361). A SEGMENTED capture re-arms within 1 µs after a segment. -/
  | segmentRearm (c : Fin 8)
  /-- BUFFER_OVERFLOW (R362). A row falls due with the capture buffer full, and the record closes with OVERFLOW. -/
  | bufferOverflow (c : Fin 8)
  /-- COMPRESSION_START (R368). Compression of a closed record starts when the power ledger permits. -/
  | compressionStart (d : Fin 64)
  /-- COMPRESSION_COMPLETE (R368). Compression ends and the entry returns to CLOSED. -/
  | compressionComplete (d : Fin 64)
  /-- RECORD_WIPE_COMPLETE (R428). The record-memory wipe completes; staged sessions move and captures with AUTO_ARM arm. -/
  | recordWipeComplete
  /-- REC_WIN_SEL_WRITE (R370). A write of REC_WIN_SEL places the offload window. -/
  | recWinSelWrite (p : Fin 14) (d : Fin 64) (ofs : Fin 67108864)
  /-- UNIT_ENABLE (R356). An enabling write of a pattern or sequence unit arms it. -/
  | unitEnable (p : Fin 14) (u : Fin 10) (on : Bool)
  /-- REC_CNT_CLR (R374). CNT_CLR clears the vitrine counters. -/
  | recCntClr (p : Fin 14)
  /-- TRIP_INPUT_ACTIVE (R390). A TRIP_IN becomes active, sets its LATCH and takes its actions. -/
  | tripInputActive (n : Fin 8) (at_ : Stamp)
  /-- TRIP_PAIR_FAULT (R390). The comparator pair of a trip input disagrees for 4 samples and PAIR_FAULT is set. -/
  | tripPairFault (n : Fin 8) (at_ : Stamp)
  /-- TRIP_LATCH_CLEAR (R391). A write of 1 to a LATCH bit clears it, or is refused while the input is active. -/
  | tripLatchClear (p : Fin 14) (n : Fin 8)
  /-- FEEDBACK_DISCREPANCY (R396). An FB_IN differs from its expected level for FB_TIME, and Safe Block is recorded. -/
  | feedbackDiscrepancy (n : Fin 8) (at_ : Stamp)
  /-- FB_DISCREP_CLEAR (R396). A write of 1 clears DISCREP once the level agrees, or is refused. -/
  | fbDiscrepClear (p : Fin 14) (n : Fin 8)
  /-- LVTEST_CHANGE (R404). LVTEST_IN changes and is reported, blocking a frozen arm when it deasserts during a halt. -/
  | lvtestChange (high : Bool)
  /-- SBK_REQ (R397). SBK_REQ records Safe Block. -/
  | sbkReq (p : Fin 14)
  /-- SBK_CLR (R399). SBK_CLR clears Safe Block when no cause holds, or is refused. -/
  | sbkClr (p : Fin 14)
  /-- SOP_CLR (R395). SOP_CLR lets a released trip output pulse again when no cause names it. -/
  | sopClr (p : Fin 14) (mask : BitVec 4)
  /-- ILP_REQ (R400). ILP_REQ requests Interlock Permit. -/
  | ilpReq (p : Fin 14)
  /-- ILP_DROP (R400). ILP_DROP withdraws Interlock Permit. -/
  | ilpDrop (p : Fin 14)
  /-- ILP_GRANT (R400). The permit is granted once every condition, ILP_DELAY included, holds. -/
  | ilpGrant
  /-- SAFE_CNT_CLR (R412). CNT_CLR clears the Curator counters. -/
  | safeCntClr (p : Fin 14)
  /-- SAFE_CONFIRM_WRITE (R408). A write of SAFE_CONFIRM sets CONFIRMED when it equals SAFE_CHECK. -/
  | safeConfirmWrite (p : Fin 14) (value : Word)
  /-- SAFE_CHECK_RECOMPUTE (R407). SAFE_CHECK is recomputed every 10 ms and after member writes. -/
  | safeCheckRecompute
  /-- WATCHDOG_EXPIRY (R401). No kick for WD_TICKS periods silences the device or records Safe Block. -/
  | watchdogExpiry
  /-- SAFE_CLOCK_CHECK (R402). Every 10 µs the monitor compares the SAFE oscillator with its own. -/
  | safeClockCheck (ppm : Int)
  /-- TRIP_SELF_TEST (R409). Every 10 ms one comparator of each trip input is tested by reversing its reference. -/
  | tripSelfTest (n : Fin 8) (pass : Bool) (at_ : Stamp)
  /-- OUTPUT_READBACK_FAULT (R409). An output's pin readback differs from the driven level; every output is released and Safe Block recorded. -/
  | outputReadbackFault (o : Fin 4)
  /-- FORCE_RAIL_MISMATCH (R409). The dual-rail HUSK force line mismatches and Safe Block is recorded. -/
  | forceRailMismatch
  /-- LC_ARM (R431). ARM with a TARGET arms a life-cycle transition and refuses DEBLOCK. -/
  | lcArm (p : Fin 14) (target : Fin 8)
  /-- LC_COMMIT (R431). COMMIT checks the transition and starts burning the fuses, or is refused. -/
  | lcCommit (p : Fin 14) (target : Fin 8)
  /-- LC_ARM_EXPIRED (R431). No COMMIT arrives within 1 s of ARM. -/
  | lcArmExpired
  /-- FUSE_BURN_COMPLETE (R431). The fuse burn completes and the life-cycle reset follows. -/
  | fuseBurnComplete
  /-- NVM_PROGRAM_BLOCK (R427). PROGRAM_BLOCK writes the buffer to a flash block, or is refused. -/
  | nvmProgramBlock (p : Fin 14) (block : Fin 8192)
  /-- NVM_ERASE_SECTOR (R427). ERASE_SECTOR erases a 64 KiB sector, or is refused. -/
  | nvmEraseSector (p : Fin 14) (block : Fin 8192)
  /-- NVM_COMMAND_COMPLETE (R427). A flash program or erase completes. -/
  | nvmCommandComplete
  /-- DBG_CHAL_READ (R434). A read of DBG_CHAL_0 draws a fresh challenge. -/
  | dbgChalRead (p : Fin 14)
  /-- DBG_VERIFY (R434). VERIFY starts verification of the signed response for a debug level. -/
  | dbgVerify (p : Fin 14) (level : Fin 4)
  /-- DBG_VERIFY_COMPLETE (R434). The verification ends and grants the level or counts a failure. -/
  | dbgVerifyComplete (ok : Bool)
  /-- DBG_RELOCK (R434). RELOCK returns the debug level to its value without unlock. -/
  | dbgRelock (p : Fin 14)
  /-- JTAG_IDCODE (R490). The IDCODE instruction reads the JTAG identity. -/
  | jtagIdcode
  /-- JTAG_SAMPLE_PRELOAD (R490). The SAMPLE/PRELOAD boundary-scan instruction. -/
  | jtagSamplePreload (cells : List Bool)
  /-- JTAG_EXTEST (R490). The EXTEST instruction, allowed only in BLANK and MAINTENANCE with every arm blocked. -/
  | jtagExtest
  /-- JTAG_DEBUG_ACCESS (R490). A DEBUG_ACCESS update performs one management read or write. -/
  | jtagDebugAccess (dr : BitVec 64)
  /-- JTAG_BYPASS (R490). The BYPASS instruction. -/
  | jtagBypass
  /-- JTAG_TRST (R490). A TRST_N pulse resets the test access port. -/
  | jtagTrst
  /-- MNT_WRITE (R489). The maintenance SPI write command writes consecutive words. -/
  | mntWrite (en : Bool) (addr : Word) (words : List Word)
  /-- MNT_READ (R489). The maintenance SPI read command returns consecutive words. -/
  | mntRead (en : Bool) (addr : Word) (n : Nat)
  /-- MNT_STATUS (R489). The maintenance SPI status command returns the STATUS of the last word. -/
  | mntStatus (en : Bool)
  /-- CHK_INIT (R444). INIT loads a check unit's initial value and clears its flags. -/
  | chkInit (p : Fin 14) (n : Fin 4)
  /-- CHK_DATA_WRITE (R444). A write of CHK_DATA feeds bytes to the check unit. -/
  | chkDataWrite (p : Fin 14) (n : Fin 4) (value : Word)
  /-- CHK_FINISH (R444). FINISH completes a fed computation. -/
  | chkFinish (p : Fin 14) (n : Fin 4)
  /-- CHK_START (R444). START begins a block read computation from CHK_ADDR. -/
  | chkStart (p : Fin 14) (n : Fin 4)
  /-- CHK_ABORT (R446). ABORT stops a block computation, or sets ALREADY_DONE. -/
  | chkAbort (p : Fin 14) (n : Fin 4)
  /-- CHK_COMPLETE (R445). A check computation completes, sets DONE and in fall-back mode compares with CHK_EXPECTED. -/
  | chkComplete (n : Fin 4)
  /-- CHK_CNT_CLR (R449). A check unit's CNT_CLR clears its counters. -/
  | chkCntClr (p : Fin 14) (n : Fin 4)
  /-- INTEG_CNT_CLR (R449). INTEG_CMD.CNT_CLR clears the integrity counters. -/
  | integCntClr (p : Fin 14)
  /-- SRAM_SCRUB_PASS (R439). The background scrubber completes a pass over the on-chip memories. -/
  | sramScrubPass (ecc : List EccEvent)
  /-- ITEM_READY (R455). A work item is submitted to the ready pool and dispatched to a free core, or refused. -/
  | itemReady (src : Fin 16) (sub : Fin 64) (cls : Fin 12) (deadline : Option Word) (a0 : Word) (a1 : Word) (cancel : Bool)
  /-- ITEM_COMPLETE (R458). A core completes its item, a late completion counts as a miss, and the core takes the next item. -/
  | itemComplete (c : Fin 8) (lost : Option (Fin 524288))
  /-- ITEM_CANCEL (R457). A cancel removes a waiting item, or returns ALREADY_DONE. -/
  | itemCancel (h : Fin 512)
  /-- OVERDUE_SWEEP (R455). Every microsecond waiting items past their deadline are marked OVERDUE. -/
  | overdueSweep
  /-- ITEM_LIMIT_EXPIRY (R458). An item runs longer than ITEM_LIMIT and its core is reset. -/
  | itemLimitExpiry (c : Fin 8)
  /-- CORE_RESET_COMPLETE (R458). A reset core returns to service. -/
  | coreResetComplete (c : Fin 8)
  /-- SCHED_CNT_CLR (R467). SCHED_CMD.CNT_CLR clears the dispatcher counters. -/
  | schedCntClr (p : Fin 14)
  /-- PEAK_CLR (R469). PEAK_CLR sets POOL_PEAK to POOL_USED. -/
  | peakClr (p : Fin 14)
  /-- DROOP_LEVEL_RISE (R461). A rail sag crosses a threshold and the clocks stretch to a deeper level. -/
  | droopLevelRise (sagCore sagLoop : Nat)
  /-- DROOP_RECOVERY_STEP (R461). Every 250 ns the clocks return one level towards the demanded level. -/
  | droopRecoveryStep (sagCore sagLoop : Nat)
  /-- POWER_COUNTER_UPDATE (R462). Every microsecond each block's energy counter adds its estimate. -/
  | powerCounterUpdate (est : List Nat)
  /-- POWER_WINDOW_END (R463). At the end of POWER_WIN ticks P_AVG is compared with POWER_CAP and the curtailment level moves by one step. -/
  | powerWindowEnd
  /-- POWER_CAP_WRITE (R464). A change of POWER_CAP takes effect at the next window's end. -/
  | powerCapWrite (p : Fin 14) (v : Fin 1024)
  /-- CLK_CNT_CLR (R467). CLK_CMD.CNT_CLR clears the clock and power counters and MIN_LEVEL. -/
  | clkCntClr (p : Fin 14)
  /-- REFCLK_RETURN (R41). A reference input that was absent or off frequency returns within limits and REFCLK_LOSS clears for its lanes. -/
  | refclkReturn (r : Fin 2)
  /-- STN_FRAME_DISCARD (R313). A station-port frame or message that matches no accepted kind, or fails its checksum, MAGIC, CRC or LENGTH, is discarded and counted in RX_DROP or MSG_BAD. -/
  | stnFrameDiscard (p : Fin 4) (isMsg : Bool)
  /-- PTP_DELAY_REQ_SEND (R336). The time-receiver port sends Delay_Req, as the delay request-response profile requires, to obtain the Delay_Resp it accepts. -/
  | ptpDelayReqSend (p : Fin 4) (tx : Stamp)
  /-- CAL_STALE_SET (R157). The die temperature comes to differ by more than 15 °C from CAL_TEMP and CAL_STALE is set. -/
  | calStaleSet (temp : BitVec 8)
  /-- REC_PATROL_PASS (R439). The record-memory patrol completes a pass at REC_PATROL MiB per second, correcting and counting ECC errors. -/
  | recPatrolPass (corr : Nat) (lost : List Nat)
  /-- WIPE_CHECK_COMPLETE (R418). Step 4 ends after confirming every bank's wipe, and PLL lock begins or start-up stops with WIPE_FAIL. -/
  | wipeCheckComplete (ok : Bool)
  /-- TRIP_INPUT_INACTIVE (R391). A TRIP_IN returns to its inactive level, so ACTIVE clears and its LATCH becomes clearable. -/
  | tripInputInactive (n : Fin 8)
  /-- FB_LEVEL_CHANGE (R396). An FB_IN level changes, which restarts its discrepancy timer and may end a pending discrepancy. -/
  | fbLevelChange (n : Fin 8) (high : Bool)
  /-- ILP_KICK_AGED (R400). The last tick kick becomes older than two ticks, so the E_TOTAL condition fails and Interlock Permit is withdrawn. -/
  | ilpKickAged
  /-- CURATOR_PARITY_FAULT (R409). A word-parity error is found on a Curator register read, and PARITY is recorded with Safe Block. -/
  | curatorParityFault
deriving DecidableEq, Repr

end Sys2Proof
end

