-- ==== Sys2Proof/Decode.lean ====
section
/-!
DEFINITION. The command table gives its rows no bits: a command reaches the block as a message, an
access or an event, never as an encoded word.
-/

namespace Sys2Proof

/-- The command a word of nbits bits spells by the table: none, since no row of it gives bits. -/
def decodeTableWord (_nbits _w : Nat) : Option Instr := none

end Sys2Proof
end

