-- ==== Sys2Proof/Machine/Crc.lean ====
section
/-!
DEFINITION. The cyclic redundancy checks of the spec, bit by bit over bytes, and the byte strings
they are taken over (multi-byte fields most significant byte first, R5).
-/

namespace Sys2Proof.Machine.Crc

/-- The low w bits of v in reverse order. -/
def reflect (w v : Nat) : Nat :=
  (List.range w).foldl (fun a i => 2 * a + v / 2 ^ i % 2) 0

/-- One byte into a CRC that shifts left: width w, polynomial p. -/
def stepMsb (w p c b : Nat) : Nat :=
  (List.range 8).foldl (fun c _ =>
    let c2 := 2 * c % 2 ^ w
    if c / 2 ^ (w - 1) % 2 = 1 then Nat.xor c2 p else c2) (Nat.xor c (b * 2 ^ (w - 8)))

/-- One byte into a CRC that shifts right: p is the reflected polynomial. -/
def stepLsb (p c b : Nat) : Nat :=
  (List.range 8).foldl (fun c _ => if c % 2 = 1 then Nat.xor (c / 2) p else c / 2) (Nat.xor c b)

/-- CRC-16/CCITT: polynomial 0x1021, initial value 0xFFFF (R51). -/
def crc16 (bs : List Nat) : Nat := bs.foldl (stepMsb 16 0x1021) 0xFFFF

/-- CRC-32C of R71: polynomial 0x1EDC_6F41 reflected, initial value and final exclusive-OR all ones. -/
def crc32c (bs : List Nat) : Nat := Nat.xor (bs.foldl (stepLsb 0x82F63B78) 0xFFFFFFFF) 0xFFFFFFFF

/-- CRC-32 of R407: polynomial 0x04C1_1DB7 reflected, initial value and final exclusive-OR all ones. -/
def crc32 (bs : List Nat) : Nat := Nat.xor (bs.foldl (stepLsb 0xEDB88320) 0xFFFFFFFF) 0xFFFFFFFF

/-- The n bytes of v, most significant first. -/
def bytesBE (n v : Nat) : List Nat := (List.range n).map fun i => v / 2 ^ (8 * (n - 1 - i)) % 256

/-- The bytes of a word, most significant first. -/
def wordBytes (w : Word) : List Nat := bytesBE 4 w.toNat

end Sys2Proof.Machine.Crc
end

