-- ==== Sys2Proof/Config.lean ====
section
/-!
DEFINITION. The free values: constants without a body, one for each value the spec leaves open.
Nothing can be proved of their values, so every statement about them holds for every value.
-/

namespace Sys2Proof.Config

/-- Sign and payload of a NaN that a binary32 operation delivers (IEEE 754 leaves them open).
Applied to the operands (DESIGN CHOICE, log entry 11). -/
opaque nanBits : Word → Word → Word

/-- The n-th free value of the run: State.freeCount is the plain counter that numbers them (DESIGN CHOICE, log entry 12). -/
opaque freeWord : Nat → Word

/-- Entry i of the injection generators' sine table, taken where it keeps the error bound of R265, which
does not give the table (DESIGN CHOICE, log entry 26). -/
opaque sinePoint : Nat → Word

/-- The 64-bit device identity of R436's UID registers, fused at Afwyn (DESIGN CHOICE, log entry 13). -/
opaque uid : BitVec 64

end Sys2Proof.Config
end

