-- ==== Sys2Proof/Machine/Fp.lean ====
section
/-!
DEFINITION. binary32 arithmetic as R238 asks for it: IEEE 754, round to nearest with ties to even,
full support for subnormal values, no exception trapped. Every finite datum is a whole number of
units of 2^-149, so each operation is exact integer arithmetic and one rounding.
-/

namespace Sys2Proof.Machine.Fp

/-- The sign bit. -/
def neg (w : Word) : Bool := w.toNat ≥ 2 ^ 31

/-- The eight exponent bits. -/
def expField (w : Word) : Nat := w.toNat / 2 ^ 23 % 256

/-- The 23 fraction bits. -/
def frac (w : Word) : Nat := w.toNat % 2 ^ 23

def isNaN (w : Word) : Bool := expField w = 255 && frac w ≠ 0
def isInf (w : Word) : Bool := expField w = 255 && frac w = 0
def isFinite (w : Word) : Bool := expField w ≠ 255
def isZero (w : Word) : Bool := w.toNat % 2 ^ 31 = 0

/-- The significand of a finite datum as a whole number. -/
def sig (w : Word) : Nat := if expField w = 0 then frac w else 2 ^ 23 + frac w

/-- The exponent of the significand's unit: a finite datum is ± sig · 2^expo. -/
def expo (w : Word) : Int := (max (expField w) 1 : Nat) - 150

/-- The significand with its sign. -/
def ssig (w : Word) : Int := if neg w then -(sig w : Int) else (sig w : Int)

/-- Magnitude of a finite datum in units of 2^-149. -/
def mag (w : Word) : Nat := sig w * 2 ^ (max (expField w) 1 - 1)

/-- A finite datum in units of 2^-149. -/
def units (w : Word) : Int := if neg w then -(mag w : Int) else (mag w : Int)

def signed (n : Bool) (bits : Nat) : Word := BitVec.ofNat 32 ((if n then 2 ^ 31 else 0) + bits)

def zero (n : Bool) : Word := signed n 0
def inf (n : Bool) : Word := signed n (255 * 2 ^ 23)
def one : Word := 0x3F800000#32
def half : Word := 0x3F000000#32

/-- A quiet NaN whose sign and payload IEEE 754 leaves open. -/
def nan (a b : Word) : Word := (Config.nanBits a b &&& 0x803FFFFF#32) ||| 0x7FC00000#32

/-- m / 2^s rounded to a whole number, ties to even; sticky says a non-zero tail lies below m. -/
def shiftRound (m s : Nat) (sticky : Bool) : Nat :=
  if s = 0 then m
  else
    let q := m / 2 ^ s
    let r := m % 2 ^ s
    let h := 2 ^ (s - 1)
    if r > h || (r = h && (sticky || q % 2 = 1)) then q + 1 else q

/-- The datum nearest to (−1)^n · m · 2^e, ties to even; sticky says the exact value lies above m
by less than one unit of m. -/
def pack (n : Bool) (m : Nat) (e : Int) (sticky : Bool) : Word :=
  if m = 0 then zero n
  else
    -- the result is q · 2^k with q below 2^24, or as near to that as the smallest unit 2^-149 allows
    let k := max (e + (Nat.log2 m : Int) - 23) (-149)
    let q := if k ≤ e then m * 2 ^ (e - k).toNat else shiftRound m (k - e).toNat sticky
    let bits := (k + 149).toNat * 2 ^ 23 + q
    if bits ≥ 255 * 2 ^ 23 then inf n else signed n bits

/-- The datum nearest to v · 2^e; an exact zero takes the sign n. -/
def packInt (n : Bool) (v e : Int) : Word :=
  if v = 0 then zero n else pack (v < 0) v.natAbs e false

/-- The datum nearest to v1 · 2^e1 + v2 · 2^e2, summed exactly; an exact zero takes the sign n. -/
def packSum (n : Bool) (v1 e1 v2 e2 : Int) : Word :=
  let e := min e1 e2
  packInt n (v1 * 2 ^ (e1 - e).toNat + v2 * 2 ^ (e2 - e).toNat) e

def negate (a : Word) : Word := a ^^^ 0x80000000#32
def abs (a : Word) : Word := a &&& 0x7FFFFFFF#32

def add (a b : Word) : Word :=
  if isNaN a || isNaN b then nan a b
  else if isInf a then (if isInf b && neg a != neg b then nan a b else a)
  else if isInf b then b
  else packSum (neg a && neg b) (ssig a) (expo a) (ssig b) (expo b)

def sub (a b : Word) : Word := add a (negate b)

def mul (a b : Word) : Word :=
  let n := neg a != neg b
  if isNaN a || isNaN b then nan a b
  else if isInf a || isInf b then (if isZero a || isZero b then nan a b else inf n)
  else packInt n (ssig a * ssig b) (expo a + expo b)

/-- a · b + c with one rounding. -/
def fma (a b c : Word) : Word :=
  let n := neg a != neg b
  if isNaN a || isNaN b then nan a b
  else if isNaN c then nan c c
  else if isInf a || isInf b then
    (if isZero a || isZero b || (isInf c && neg c != n) then nan a b else inf n)
  else if isInf c then c
  else packSum (n && neg c) (ssig a * ssig b) (expo a + expo b) (ssig c) (expo c)

def div (a b : Word) : Word :=
  let n := neg a != neg b
  if isNaN a || isNaN b then nan a b
  else if isInf a then (if isInf b then nan a b else inf n)
  else if isInf b then zero n
  else if isZero b then (if isZero a then nan a b else inf n)
  else
    let num := sig a * 2 ^ 50
    pack n (num / sig b) (expo a - expo b - 50) (num % sig b ≠ 0)

/-- a < b; false when unordered. -/
def lt (a b : Word) : Bool :=
  if isNaN a || isNaN b then false
  else if isInf a then neg a && !(isInf b && neg b)
  else if isInf b then !neg b
  else units a < units b

/-- a = b as numbers (+0 = −0); false when unordered. -/
def eq (a b : Word) : Bool :=
  if isNaN a || isNaN b then false
  else if isInf a || isInf b then a = b
  else units a = units b

def le (a b : Word) : Bool := lt a b || eq a b

/-- The datum nearest to the whole number v times 2^e. -/
def ofInt (v : Int) (e : Int := 0) : Word := packInt false v e

def ofNat (v : Nat) (e : Int := 0) : Word := packInt false (v : Int) e

/-- The datum nearest to the quotient of two whole numbers; the divisor is not 0. -/
def ofRatio (num : Int) (den : Nat) : Word :=
  if num = 0 then zero false
  else
    let m := num.natAbs * 2 ^ (Nat.log2 den + 30)
    pack (num < 0) (m / den) (-(Nat.log2 den + 30 : Int)) (m % den ≠ 0)

/-- v / d rounded to a whole number, halves to even. -/
def roundDivEven (v : Int) (d : Nat) : Int :=
  let q := v / (d : Int)
  let r := v % (d : Int)
  if 2 * r > d || (2 * r = d && q % 2 = 1) then q + 1 else q

/-- v / d rounded to a whole number, halves up. -/
def roundDivUp (v : Int) (d : Nat) : Int := (2 * v + d) / (2 * (d : Int))

/-- A finite datum as a whole number of units of 2^-k (k at most 149), ties to even. -/
def toFixed (w : Word) (k : Nat) : Int := roundDivEven (units w) (2 ^ (149 - k))

/-- The correctly rounded square root; a negative operand other than −0 gives a NaN. -/
def sqrt (a : Word) : Word :=
  if isNaN a then nan a a
  else if isZero a then a
  else if neg a then nan a a
  else if isInf a then a
  else
    -- the radicand as m · 4^h, m with at least 60 bits
    let m := if expo a % 2 = 0 then sig a * 2 ^ 60 else sig a * 2 ^ 61
    let r := Nat.sqrt m
    pack false r ((expo a - expo a % 2 - 60) / 2) (r * r ≠ m)

end Sys2Proof.Machine.Fp
end

