-- ==== Sys2Proof/Machine/Regs.lean ====
section
/-!
DEFINITION. The register fields by the names the spec's tables give them, and the register table
(access code, lock code, reset value, range) that management writes are checked against.
Written from the register tables of every chapter; the rows the tables call Reserved are left out,
since reserved bits read as 0 and ignore writes (R7).
-/

namespace Sys2Proof.Machine

/-- Where a field stands: bits hi to lo of the word at base + s1·i + s2·j. -/
structure Field where
  base : Nat
  s1 : Nat
  s2 : Nat
  hi : Nat
  lo : Nat
deriving DecidableEq, Repr

/-- The access codes of R6. -/
inductive Access where
  | ro | roh | rw | w1c | w1s | wo
deriving DecidableEq, Repr

/-- The lock codes of R9. -/
inductive Lock where
  | any | cfg | live | com | none
deriving DecidableEq, Repr

/-- One field of a register table: its bits, access, lock, reset value and the values it may take
(an empty list: every value that fits); and whether the image loads it (R8). -/
structure FieldDesc where
  name : String
  hi : Nat
  lo : Nat
  access : Access
  lock : Lock
  reset : Nat
  range : List (Nat × Nat)
  img : Bool
deriving DecidableEq, Repr

/-- One register, or an array of n1 × n2 registers at base + s1·i + s2·j. -/
structure RegDesc where
  name : String
  base : Nat
  n1 : Nat
  s1 : Nat
  n2 : Nat
  s2 : Nat
  fields : List FieldDesc
deriving DecidableEq, Repr


-- 00_scope.md R11
def F.DEVICE_ID.PART : Field := ⟨0x00000000, 0, 0, 31, 16⟩
def F.DEVICE_ID.SILICON_REV : Field := ⟨0x00000000, 0, 0, 15, 12⟩
def F.DEVICE_ID.METAL_REV : Field := ⟨0x00000000, 0, 0, 11, 8⟩
def F.DEVICE_ID.VENDOR : Field := ⟨0x00000000, 0, 0, 7, 0⟩

-- 01_the_tick.md R35 to R39
def F.TICK_PERIOD.PERIOD : Field := ⟨0x000B0000, 0, 0, 14, 0⟩
def F.TICK_CUTOFF.CUTOFF : Field := ⟨0x000B0004, 0, 0, 14, 0⟩
def F.TICK_OUTPUT.OUTPUT : Field := ⟨0x000B0008, 0, 0, 14, 0⟩
def F.TICK_PIP.PIP_DIV : Field := ⟨0x000B000C, 0, 0, 3, 0⟩
def F.TICK_STG_PERIOD.VALUE : Field := ⟨0x000B0010, 0, 0, 14, 0⟩
def F.TICK_STG_CUTOFF.VALUE : Field := ⟨0x000B0014, 0, 0, 14, 0⟩
def F.TICK_STG_OUTPUT.VALUE : Field := ⟨0x000B0018, 0, 0, 14, 0⟩
def F.TICK_STG_PIP.VALUE : Field := ⟨0x000B001C, 0, 0, 3, 0⟩
def F.TICK_COMMIT.DISCARD : Field := ⟨0x000B0020, 0, 0, 1, 1⟩
def F.TICK_COMMIT.COMMIT : Field := ⟨0x000B0020, 0, 0, 0, 0⟩
def F.TICK_STAGE.RESULT_END : Field := ⟨0x000B0024, 0, 0, 22, 22⟩
def F.TICK_STAGE.RESULT_STRING : Field := ⟨0x000B0024, 0, 0, 21, 16⟩
def F.TICK_STAGE.RESULT : Field := ⟨0x000B0024, 0, 0, 15, 8⟩
def F.TICK_STAGE.PENDING : Field := ⟨0x000B0024, 0, 0, 4, 4⟩
def F.TICK_STAGE.STAGED : Field := ⟨0x000B0024, 0, 0, 3, 0⟩
def F.TICK_LAND_LO.LAND : Field := ⟨0x000B0028, 0, 0, 31, 0⟩
def F.TICK_LAND_HI.LAND : Field := ⟨0x000B002C, 0, 0, 31, 0⟩
def F.TICK_CNT_LO.COUNT : Field := ⟨0x000B0030, 0, 0, 31, 0⟩
def F.TICK_CNT_HI.COUNT : Field := ⟨0x000B0034, 0, 0, 31, 0⟩
def F.TICK_START.START : Field := ⟨0x000B0038, 0, 0, 31, 0⟩
def F.COMPUTE_SCHEDULE.CYCLES : Field := ⟨0x000B0040, 0, 0, 15, 0⟩
def F.COMPUTE_WINDOW.CYCLES : Field := ⟨0x000B0044, 0, 0, 15, 0⟩
def F.BUDGET_STATUS.CELL : Field := ⟨0x000B0048, 0, 0, 22, 16⟩
def F.BUDGET_STATUS.END : Field := ⟨0x000B0048, 0, 0, 14, 14⟩
def F.BUDGET_STATUS.STRING : Field := ⟨0x000B0048, 0, 0, 13, 8⟩
def F.BUDGET_STATUS.CODE : Field := ⟨0x000B0048, 0, 0, 7, 0⟩
def F.BUDGET_MARGIN_C.MARGIN : Field := ⟨0x000B004C, 0, 0, 15, 0⟩
def F.BUDGET_MARGIN_O.MARGIN : Field := ⟨0x000B0050, 0, 0, 15, 0⟩
def F.BUDGET_MARGIN_U.MARGIN : Field := ⟨0x000B0054, 0, 0, 15, 0⟩
def F.OVERRUN_CNT.COUNT : Field := ⟨0x000B0058, 0, 0, 31, 0⟩
def F.OVERRUN_STATUS.OVERRUN_CLR : Field := ⟨0x000B005C, 0, 0, 31, 31⟩
def F.OVERRUN_STATUS.LATE_MAX : Field := ⟨0x000B005C, 0, 0, 30, 16⟩
def F.OVERRUN_STATUS.LAST_ACTION : Field := ⟨0x000B005C, 0, 0, 4, 4⟩
def F.OVERRUN_STATUS.CONSEC : Field := ⟨0x000B005C, 0, 0, 1, 0⟩

-- 02_serial_lanes.md R67, R68
def F.LANE_CTRL.STN_TRAIN : Field := ⟨0x00020000, 256, 0, 20, 20⟩
def F.LANE_CTRL.STN_FEC : Field := ⟨0x00020000, 256, 0, 19, 18⟩
def F.LANE_CTRL.STN_RATE : Field := ⟨0x00020000, 256, 0, 17, 17⟩
def F.LANE_CTRL.RETRAIN : Field := ⟨0x00020000, 256, 0, 16, 16⟩
def F.LANE_CTRL.BIT_SLIP : Field := ⟨0x00020000, 256, 0, 15, 15⟩
def F.LANE_CTRL.ALIGN_MODE : Field := ⟨0x00020000, 256, 0, 14, 14⟩
def F.LANE_CTRL.RX_PWR_REQ : Field := ⟨0x00020000, 256, 0, 13, 12⟩
def F.LANE_CTRL.TX_PWR_REQ : Field := ⟨0x00020000, 256, 0, 11, 10⟩
def F.LANE_CTRL.PRESET : Field := ⟨0x00020000, 256, 0, 9, 7⟩
def F.LANE_CTRL.TAP_MODE : Field := ⟨0x00020000, 256, 0, 6, 6⟩
def F.LANE_CTRL.LOS_THR : Field := ⟨0x00020000, 256, 0, 5, 4⟩
def F.LANE_CTRL.TX_INVERT : Field := ⟨0x00020000, 256, 0, 3, 3⟩
def F.LANE_CTRL.GEN_MAX : Field := ⟨0x00020000, 256, 0, 2, 1⟩
def F.LANE_CTRL.ENABLE : Field := ⟨0x00020000, 256, 0, 0, 0⟩
def F.LANE_STATUS.FAIL_REASON : Field := ⟨0x00020004, 256, 0, 19, 16⟩
def F.LANE_STATUS.RX_PWR : Field := ⟨0x00020004, 256, 0, 15, 14⟩
def F.LANE_STATUS.TX_PWR : Field := ⟨0x00020004, 256, 0, 13, 12⟩
def F.LANE_STATUS.RX_INVERTED : Field := ⟨0x00020004, 256, 0, 11, 11⟩
def F.LANE_STATUS.LEGACY : Field := ⟨0x00020004, 256, 0, 10, 10⟩
def F.LANE_STATUS.HI_ERR : Field := ⟨0x00020004, 256, 0, 9, 9⟩
def F.LANE_STATUS.BLOCK_LOCK : Field := ⟨0x00020004, 256, 0, 8, 8⟩
def F.LANE_STATUS.LOL : Field := ⟨0x00020004, 256, 0, 7, 7⟩
def F.LANE_STATUS.LOS : Field := ⟨0x00020004, 256, 0, 6, 6⟩
def F.LANE_STATUS.GEN : Field := ⟨0x00020004, 256, 0, 5, 4⟩
def F.LANE_STATUS.STATE : Field := ⟨0x00020004, 256, 0, 3, 0⟩
def F.LANE_TAPS.C_POST : Field := ⟨0x00020008, 256, 0, 28, 24⟩
def F.LANE_TAPS.C_MAIN : Field := ⟨0x00020008, 256, 0, 21, 16⟩
def F.LANE_TAPS.C_PRE : Field := ⟨0x00020008, 256, 0, 11, 8⟩
def F.LANE_TAPS.FAR_REQ_CAPABLE : Field := ⟨0x00020008, 256, 0, 4, 4⟩
def F.LANE_TAPS.FAR_GEN_CAP : Field := ⟨0x00020008, 256, 0, 3, 0⟩
def F.LANE_SYNC_ERR_CNT.COUNT : Field := ⟨0x00020010, 256, 0, 31, 0⟩
def F.LANE_EVT_CNT.LOL_CNT : Field := ⟨0x00020014, 256, 0, 31, 16⟩
def F.LANE_EVT_CNT.LOS_CNT : Field := ⟨0x00020014, 256, 0, 15, 0⟩
def F.LANE_EVT_CNT2.POL_FLIPS : Field := ⟨0x00020018, 256, 0, 31, 24⟩
def F.LANE_EVT_CNT2.RETRAIN_CNT : Field := ⟨0x00020018, 256, 0, 23, 16⟩
def F.LANE_EVT_CNT2.LOCK_LOSS_CNT : Field := ⟨0x00020018, 256, 0, 15, 0⟩
def F.LANE_CNT_CLR.CNT_CLR : Field := ⟨0x0002001C, 256, 0, 0, 0⟩
def F.LANE_EVENT.REFUSED_SEEN : Field := ⟨0x00020020, 256, 0, 5, 5⟩
def F.LANE_EVENT.POL_FLIP_SEEN : Field := ⟨0x00020020, 256, 0, 4, 4⟩
def F.LANE_EVENT.FALLBACK_SEEN : Field := ⟨0x00020020, 256, 0, 3, 3⟩
def F.LANE_EVENT.LOCK_LOSS_SEEN : Field := ⟨0x00020020, 256, 0, 2, 2⟩
def F.LANE_EVENT.LOL_SEEN : Field := ⟨0x00020020, 256, 0, 1, 1⟩
def F.LANE_EVENT.LOS_SEEN : Field := ⟨0x00020020, 256, 0, 0, 0⟩
def F.LANE_COMMON.LANE_RETRY : Field := ⟨0x00024800, 0, 0, 11, 2⟩
def F.LANE_COMMON.REFCLK_1_LOSS : Field := ⟨0x00024800, 0, 0, 1, 1⟩
def F.LANE_COMMON.REFCLK_0_LOSS : Field := ⟨0x00024800, 0, 0, 0, 0⟩
def F.BOND_STATUS.FAULT_CNT : Field := ⟨0x00024804, 0, 0, 31, 16⟩
def F.BOND_STATUS.SKEW : Field := ⟨0x00024804, 0, 0, 15, 8⟩
def F.BOND_STATUS.REVERSED : Field := ⟨0x00024804, 0, 0, 5, 5⟩
def F.BOND_STATUS.PAIR : Field := ⟨0x00024804, 0, 0, 4, 3⟩
def F.BOND_STATUS.WIDTH : Field := ⟨0x00024804, 0, 0, 2, 1⟩
def F.BOND_STATUS.FORMED : Field := ⟨0x00024804, 0, 0, 0, 0⟩

-- 03_cell_link_protocol.md R102, R103
def F.LINK_STR_STATUS.OTHER_END_SEEN : Field := ⟨0x00040000, 256, 0, 7, 7⟩
def F.LINK_STR_STATUS.SCHED_LATE : Field := ⟨0x00040000, 256, 0, 6, 6⟩
def F.LINK_STR_STATUS.HOP0_VER : Field := ⟨0x00040000, 256, 0, 5, 4⟩
def F.LINK_STR_STATUS.STR_VER : Field := ⟨0x00040000, 256, 0, 3, 2⟩
def F.LINK_REPORT_END.END : Field := ⟨0x00040004, 256, 0, 15, 0⟩
def F.LINK_CRC_CNT.COUNT : Field := ⟨0x00040008, 256, 0, 31, 0⟩
def F.LINK_NAK_CNT.NAK_TX : Field := ⟨0x0004000C, 256, 0, 31, 16⟩
def F.LINK_NAK_CNT.NAK_RX : Field := ⟨0x0004000C, 256, 0, 15, 0⟩
def F.LINK_RESEND_CNT.RESENT : Field := ⟨0x00040010, 256, 0, 31, 16⟩
def F.LINK_RESEND_CNT.NO_COPY : Field := ⟨0x00040010, 256, 0, 15, 8⟩
def F.LINK_RESEND_CNT.NAK_BAD : Field := ⟨0x00040010, 256, 0, 7, 0⟩
def F.LINK_DROP_CNT.UNKNOWN : Field := ⟨0x00040014, 256, 0, 31, 24⟩
def F.LINK_DROP_CNT.STRAY : Field := ⟨0x00040014, 256, 0, 23, 16⟩
def F.LINK_DROP_CNT.FWD_BAD_RX : Field := ⟨0x00040014, 256, 0, 15, 8⟩
def F.LINK_DROP_CNT.ABANDONED : Field := ⟨0x00040014, 256, 0, 7, 0⟩
def F.LINK_LATE_CNT.LATE_RX : Field := ⟨0x00040018, 256, 0, 31, 16⟩
def F.LINK_LATE_CNT.TIMEOUT : Field := ⟨0x00040018, 256, 0, 15, 0⟩
def F.LINK_FAULT_CNT.FAULT_OK : Field := ⟨0x0004001C, 256, 0, 31, 16⟩
def F.LINK_FAULT_CNT.FAULT_BAD : Field := ⟨0x0004001C, 256, 0, 15, 8⟩
def F.LINK_FAULT_CNT.HUSK_RX : Field := ⟨0x0004001C, 256, 0, 7, 0⟩
def F.LINK_CNT_CLR.CNT_CLR : Field := ⟨0x00040020, 256, 0, 0, 0⟩
def F.LINK_CTRL.ORDER_TIMEOUT : Field := ⟨0x00044000, 0, 0, 16, 12⟩
def F.LINK_CTRL.REPLY_WAIT : Field := ⟨0x00044000, 0, 0, 11, 4⟩
def F.LINK_CTRL.REQ_TRIES : Field := ⟨0x00044000, 0, 0, 3, 2⟩
def F.LINK_CTRL.RESEND_EN : Field := ⟨0x00044000, 0, 0, 0, 0⟩

-- 05_strings_and_catalogue.md R137, R144, R145
def F.CAT_ENTRY_W0.STRING : Field := ⟨0x00060000, 16, 0, 31, 26⟩
def F.CAT_ENTRY_W0.POSITION : Field := ⟨0x00060000, 16, 0, 25, 19⟩
def F.CAT_ENTRY_W0.ARM : Field := ⟨0x00060000, 16, 0, 18, 15⟩
def F.CAT_ENTRY_W0.KIND : Field := ⟨0x00060000, 16, 0, 14, 14⟩
def F.CAT_ENTRY_W0.BYPASS : Field := ⟨0x00060000, 16, 0, 13, 13⟩
def F.CAT_ENTRY_W0.VER_SUP : Field := ⟨0x00060000, 16, 0, 12, 10⟩
def F.CAT_ENTRY_W0.GEN_TO_A : Field := ⟨0x00060000, 16, 0, 9, 8⟩
def F.CAT_ENTRY_W0.GEN_TO_B : Field := ⟨0x00060000, 16, 0, 7, 6⟩
def F.CAT_ENTRY_W0.REACH_A : Field := ⟨0x00060000, 16, 0, 5, 5⟩
def F.CAT_ENTRY_W0.REACH_B : Field := ⟨0x00060000, 16, 0, 4, 4⟩
def F.CAT_ENTRY_W1.CAP : Field := ⟨0x00060004, 16, 0, 31, 16⟩
def F.CAT_ENTRY_W1.VNOM : Field := ⟨0x00060004, 16, 0, 15, 0⟩
def F.CAT_ENTRY_W2.HEALTH : Field := ⟨0x00060008, 16, 0, 31, 30⟩
def F.CAT_ENTRY_W2.REASON : Field := ⟨0x00060008, 16, 0, 29, 25⟩
def F.CAT_ENTRY_W2.SVC : Field := ⟨0x00060008, 16, 0, 24, 22⟩
def F.CAT_ENTRY_W2.BLANK_CNT : Field := ⟨0x00060008, 16, 0, 21, 16⟩
def F.CAT_ENTRY_W2.ID_TAG : Field := ⟨0x00060008, 16, 0, 15, 0⟩
def F.CAT_ENTRY_W3.WEAR : Field := ⟨0x0006000C, 16, 0, 31, 0⟩
def F.CAT_STR_REACH.CODE : Field := ⟨0x00078000, 16, 0, 27, 24⟩
def F.CAT_STR_REACH.BREAK_VALID : Field := ⟨0x00078000, 16, 0, 23, 23⟩
def F.CAT_STR_REACH.BREAK_AT : Field := ⟨0x00078000, 16, 0, 22, 16⟩
def F.CAT_STR_REACH.REACH_B : Field := ⟨0x00078000, 16, 0, 15, 8⟩
def F.CAT_STR_REACH.REACH_A : Field := ⟨0x00078000, 16, 0, 7, 0⟩
def F.CAT_STR_LAT.MAX_B : Field := ⟨0x00078004, 16, 0, 31, 16⟩
def F.CAT_STR_LAT.MAX_A : Field := ⟨0x00078004, 16, 0, 15, 0⟩
def F.CAT_STR_LAT_UP.MAX_B : Field := ⟨0x00078008, 16, 0, 31, 16⟩
def F.CAT_STR_LAT_UP.MAX_A : Field := ⟨0x00078008, 16, 0, 15, 0⟩
def F.CAT_STR_INFO.GEN_DECL : Field := ⟨0x0007800C, 16, 0, 28, 27⟩
def F.CAT_STR_INFO.GEN_SLOW : Field := ⟨0x0007800C, 16, 0, 26, 25⟩
def F.CAT_STR_INFO.ARM : Field := ⟨0x0007800C, 16, 0, 24, 21⟩
def F.CAT_STR_INFO.DECLARED : Field := ⟨0x0007800C, 16, 0, 20, 13⟩
def F.CAT_STR_INFO.BASE : Field := ⟨0x0007800C, 16, 0, 12, 0⟩
def F.CAT_CTRL.DISC_PERIOD : Field := ⟨0x00078400, 0, 0, 23, 12⟩
def F.CAT_CTRL.DISC_WAIT : Field := ⟨0x00078400, 0, 0, 11, 8⟩
def F.CAT_CTRL.DISC_TRIES : Field := ⟨0x00078400, 0, 0, 7, 4⟩
def F.CAT_CTRL.CNT_CLR : Field := ⟨0x00078400, 0, 0, 1, 1⟩
def F.CAT_CTRL.REDISCOVER : Field := ⟨0x00078400, 0, 0, 0, 0⟩
def F.CAT_CTRL2.ADMIT_RETRY : Field := ⟨0x00078404, 0, 0, 31, 16⟩
def F.CAT_CTRL2.REMEAS_PERIOD : Field := ⟨0x00078404, 0, 0, 15, 0⟩
def F.CAT_LAT_SEL.DIR : Field := ⟨0x00078408, 0, 0, 13, 13⟩
def F.CAT_LAT_SEL.INDEX : Field := ⟨0x00078408, 0, 0, 12, 0⟩
def F.CAT_LAT_DATA_A.LAT : Field := ⟨0x0007840C, 0, 0, 19, 0⟩
def F.CAT_LAT_DATA_B.LAT : Field := ⟨0x00078410, 0, 0, 19, 0⟩
def F.CAT_COUNTS.EXCL_CNT : Field := ⟨0x00078414, 0, 0, 31, 16⟩
def F.CAT_COUNTS.ADMIT_CNT : Field := ⟨0x00078414, 0, 0, 15, 0⟩
def F.CAT_ARM.MIN_CELLS : Field := ⟨0x00078440, 4, 0, 25, 16⟩
def F.CAT_ARM.AVAIL : Field := ⟨0x00078440, 4, 0, 9, 0⟩

-- 06_measurement_inputs.md R165, R166
def F.MCH_CTRL.ENABLE : Field := ⟨0x00510000, 32, 0, 31, 31⟩
def F.MCH_CTRL.SOURCE : Field := ⟨0x00510000, 32, 0, 30, 30⟩
def F.MCH_CTRL.RANGE : Field := ⟨0x00510000, 32, 0, 29, 28⟩
def F.MCH_CTRL.SV_STREAM : Field := ⟨0x00510000, 32, 0, 27, 25⟩
def F.MCH_CTRL.SV_VALUE : Field := ⟨0x00510000, 32, 0, 24, 22⟩
def F.MCH_CTRL.CMP_EN_HI : Field := ⟨0x00510000, 32, 0, 21, 21⟩
def F.MCH_CTRL.CMP_EN_LO : Field := ⟨0x00510000, 32, 0, 20, 20⟩
def F.MCH_CTRL.DEB : Field := ⟨0x00510000, 32, 0, 19, 17⟩
def F.MCH_CTRL.SIG_INDEX : Field := ⟨0x00510000, 32, 0, 11, 0⟩
def F.MCH_SCALE.VALUE : Field := ⟨0x00510004, 32, 0, 31, 0⟩
def F.MCH_OFFSET.VALUE : Field := ⟨0x00510008, 32, 0, 31, 0⟩
def F.MCH_CAL.GAIN : Field := ⟨0x0051000C, 32, 0, 31, 16⟩
def F.MCH_CAL.OFS : Field := ⟨0x0051000C, 32, 0, 15, 0⟩
def F.MCH_CMP.HI : Field := ⟨0x00510010, 32, 0, 31, 16⟩
def F.MCH_CMP.LO : Field := ⟨0x00510010, 32, 0, 15, 0⟩
def F.MCH_STATUS.BAD_1024 : Field := ⟨0x00510014, 32, 0, 20, 10⟩
def F.MCH_STATUS.CMP_SEEN_HI : Field := ⟨0x00510014, 32, 0, 9, 9⟩
def F.MCH_STATUS.CMP_SEEN_LO : Field := ⟨0x00510014, 32, 0, 8, 8⟩
def F.MCH_STATUS.VALID : Field := ⟨0x00510014, 32, 0, 4, 4⟩
def F.MCH_STATUS.CAUSE : Field := ⟨0x00510014, 32, 0, 3, 0⟩
def F.MCH_TICK_VALUE.VALUE : Field := ⟨0x00510018, 32, 0, 31, 0⟩
def F.MCH_SNAP_VALUE.VALUE : Field := ⟨0x0051001C, 32, 0, 31, 0⟩
def F.ADC_CTRL.URGENT : Field := ⟨0x00510400, 0, 0, 7, 7⟩
def F.ADC_CTRL.CAL_START : Field := ⟨0x00510400, 0, 0, 6, 6⟩
def F.ADC_CTRL.CNT_CLR : Field := ⟨0x00510400, 0, 0, 5, 5⟩
def F.ADC_CTRL.ADC_MODE : Field := ⟨0x00510400, 0, 0, 4, 4⟩
def F.ADC_CTRL.OSR : Field := ⟨0x00510400, 0, 0, 1, 0⟩
def F.ADC_STATUS.CAL_TEMP : Field := ⟨0x00510404, 0, 0, 31, 24⟩
def F.ADC_STATUS.DIE_TEMP : Field := ⟨0x00510404, 0, 0, 23, 16⟩
def F.ADC_STATUS.CAL_STALE : Field := ⟨0x00510404, 0, 0, 3, 3⟩
def F.ADC_STATUS.CAL_REFUSED : Field := ⟨0x00510404, 0, 0, 2, 2⟩
def F.ADC_STATUS.CAL_STATE : Field := ⟨0x00510404, 0, 0, 1, 0⟩
def F.ADC_DROP_CNT.COUNT : Field := ⟨0x00510408, 0, 0, 31, 0⟩
def F.ADC_URGENT_CNT.COUNT : Field := ⟨0x0051040C, 0, 0, 31, 0⟩
def F.SV_CTRL.ENABLE : Field := ⟨0x00510800, 32, 0, 31, 31⟩
def F.SV_CTRL.MODE : Field := ⟨0x00510800, 32, 0, 30, 30⟩
def F.SV_CTRL.REQ_SYNC : Field := ⟨0x00510800, 32, 0, 29, 29⟩
def F.SV_CTRL.ACCEPT_TEST : Field := ⟨0x00510800, 32, 0, 28, 28⟩
def F.SV_CTRL.PORT : Field := ⟨0x00510800, 32, 0, 27, 26⟩
def F.SV_CTRL.ANY_PORT : Field := ⟨0x00510800, 32, 0, 25, 25⟩
def F.SV_CTRL.NVALUES : Field := ⟨0x00510800, 32, 0, 24, 22⟩
def F.SV_CTRL.RATE : Field := ⟨0x00510800, 32, 0, 21, 20⟩
def F.SV_CTRL.APPID : Field := ⟨0x00510800, 32, 0, 15, 0⟩
def F.SV_MATCH.SVID_CRC : Field := ⟨0x00510804, 32, 0, 31, 16⟩
def F.SV_MATCH.CONF_REV : Field := ⟨0x00510804, 32, 0, 15, 0⟩
def F.SV_DELAY.DELAY : Field := ⟨0x00510808, 32, 0, 19, 0⟩
def F.SV_RX_CNT.RX : Field := ⟨0x0051080C, 32, 0, 31, 0⟩
def F.SV_ERR_CNT.MISS : Field := ⟨0x00510810, 32, 0, 31, 16⟩
def F.SV_ERR_CNT.QUAL : Field := ⟨0x00510810, 32, 0, 15, 8⟩
def F.SV_ERR_CNT.REJECT : Field := ⟨0x00510810, 32, 0, 7, 0⟩

-- 07_observer_and_energy_ledger.md R185 to R187
def F.OBS_CELL_W0.V_HAT : Field := ⟨0x00080000, 16, 0, 31, 0⟩
def F.OBS_CELL_W1.VCAP : Field := ⟨0x00080004, 16, 0, 31, 16⟩
def F.OBS_CELL_W1.RES : Field := ⟨0x00080004, 16, 0, 15, 0⟩
def F.OBS_CELL_W2.GRADE : Field := ⟨0x00080008, 16, 0, 31, 30⟩
def F.OBS_CELL_W2.CAUSE : Field := ⟨0x00080008, 16, 0, 29, 27⟩
def F.OBS_CELL_W2.INIT : Field := ⟨0x00080008, 16, 0, 26, 26⟩
def F.OBS_CELL_W2.FROZEN : Field := ⟨0x00080008, 16, 0, 25, 25⟩
def F.OBS_CELL_W2.MISS_CNT : Field := ⟨0x00080008, 16, 0, 24, 18⟩
def F.OBS_CELL_W2.EXC_CNT : Field := ⟨0x00080008, 16, 0, 17, 10⟩
def F.OBS_CELL_W2.FRZ_CNT : Field := ⟨0x00080008, 16, 0, 9, 5⟩
def F.OBS_CELL_W3.ENERGY : Field := ⟨0x0008000C, 16, 0, 31, 0⟩
def F.OBS_ARM_C.C_NOM : Field := ⟨0x00098000, 32, 0, 31, 0⟩
def F.OBS_ARM_LEAK.LEAK_TAU : Field := ⟨0x00098004, 32, 0, 31, 0⟩
def F.OBS_ARM_CTRL.I_SIG : Field := ⟨0x00098008, 32, 0, 31, 20⟩
def F.OBS_ARM_CTRL.LEG : Field := ⟨0x00098008, 32, 0, 19, 17⟩
def F.OBS_ARM_CTRL.SIDE : Field := ⟨0x00098008, 32, 0, 16, 16⟩
def F.OBS_ARM_CTRL.CONV : Field := ⟨0x00098008, 32, 0, 15, 14⟩
def F.OBS_ARM_CTRL.SUB_FRAC : Field := ⟨0x00098008, 32, 0, 13, 5⟩
def F.OBS_ARM_GAIN.OBS_GAIN : Field := ⟨0x0009800C, 32, 0, 31, 0⟩
def F.OBS_ARM_STATUS.SUBST : Field := ⟨0x00098010, 32, 0, 25, 16⟩
def F.OBS_ARM_STATUS.LEDGER_VALID : Field := ⟨0x00098010, 32, 0, 15, 15⟩
def F.OBS_ARM_STATUS.N_INIT : Field := ⟨0x00098010, 32, 0, 9, 0⟩
def F.OBS_CTRL.RES_LIM : Field := ⟨0x00098400, 0, 0, 31, 16⟩
def F.OBS_CTRL.RES_COUNT : Field := ⟨0x00098400, 0, 0, 15, 10⟩
def F.OBS_CTRL.MISS_MAX : Field := ⟨0x00098400, 0, 0, 9, 3⟩
def F.OBS_CTRL2.FREEZE_TICKS : Field := ⟨0x00098404, 0, 0, 31, 27⟩
def F.OBS_CTRL2.FREEZE_MIN : Field := ⟨0x00098404, 0, 0, 26, 19⟩
def F.OBS_CTRL2.BLANK_WT : Field := ⟨0x00098404, 0, 0, 18, 15⟩
def F.OBS_CTRL3.RECOVER_TICKS : Field := ⟨0x00098408, 0, 0, 31, 16⟩
def F.OBS_CTRL3.LEDGER_BASE : Field := ⟨0x00098408, 0, 0, 11, 0⟩
def F.OBS_CMD.CNT_CLR : Field := ⟨0x0009840C, 0, 0, 0, 0⟩
def F.OBS_PROBE.INDEX : Field := ⟨0x00098410, 0, 0, 12, 0⟩
def F.OBS_PROBE_DATA.FROZEN_VCAP : Field := ⟨0x00098414, 0, 0, 31, 16⟩
def F.OBS_PROBE_DATA.GOOD_RUN : Field := ⟨0x00098414, 0, 0, 15, 0⟩
def F.OBS_SUBST_CNT.COUNT : Field := ⟨0x00098420, 0, 0, 31, 0⟩
def F.OBS_LATE_CNT.COUNT : Field := ⟨0x00098424, 0, 0, 31, 0⟩
def F.OBS_DISAGREE_CNT.COUNT : Field := ⟨0x00098428, 0, 0, 31, 0⟩
def F.OBS_EVT_CNT.FROZEN : Field := ⟨0x0009842C, 0, 0, 31, 16⟩
def F.OBS_EVT_CNT.MISMATCH : Field := ⟨0x0009842C, 0, 0, 15, 0⟩
def F.OBS_EXCL_CNT.MISSING : Field := ⟨0x00098430, 0, 0, 31, 16⟩
def F.OBS_EXCL_CNT.FAILED : Field := ⟨0x00098430, 0, 0, 15, 0⟩

-- 08_selection_engine.md R208 to R210
def F.SEL_ARM_SIG.SLOPE_SIG : Field := ⟨0x000A0000, 64, 0, 23, 12⟩
def F.SEL_ARM_SIG.REF_SIG : Field := ⟨0x000A0000, 64, 0, 11, 0⟩
def F.SEL_ARM_CTRL.SW_MAX : Field := ⟨0x000A0004, 64, 0, 31, 24⟩
def F.SEL_ARM_CTRL.PIP_HOLD : Field := ⟨0x000A0004, 64, 0, 23, 16⟩
def F.SEL_ARM_CTRL.SWAP_BAND : Field := ⟨0x000A0004, 64, 0, 15, 0⟩
def F.SEL_ARM_CTRL2.COMM_WAIT : Field := ⟨0x000A0008, 64, 0, 31, 16⟩
def F.SEL_ARM_CTRL2.DIR_LEAD : Field := ⟨0x000A0008, 64, 0, 9, 0⟩
def F.SEL_ARM_DEAD.I_DEAD : Field := ⟨0x000A000C, 64, 0, 15, 0⟩
def F.SEL_ARM_STATUS.ACTIVE : Field := ⟨0x000A0010, 64, 0, 31, 31⟩
def F.SEL_ARM_STATUS.DIR : Field := ⟨0x000A0010, 64, 0, 30, 30⟩
def F.SEL_ARM_STATUS.IN_DEAD : Field := ⟨0x000A0010, 64, 0, 29, 29⟩
def F.SEL_ARM_STATUS.COMM : Field := ⟨0x000A0010, 64, 0, 28, 28⟩
def F.SEL_ARM_STATUS.SAT : Field := ⟨0x000A0010, 64, 0, 27, 27⟩
def F.SEL_ARM_STATUS.PIP_VALID : Field := ⟨0x000A0010, 64, 0, 26, 26⟩
def F.SEL_ARM_STATUS.PIP_SIGN : Field := ⟨0x000A0010, 64, 0, 25, 25⟩
def F.SEL_ARM_STATUS.LEVEL : Field := ⟨0x000A0010, 64, 0, 24, 14⟩
def F.SEL_ARM_STATUS.N_MASK : Field := ⟨0x000A0010, 64, 0, 9, 0⟩
def F.SEL_ARM_PIP.PIP_INDEX : Field := ⟨0x000A0014, 64, 0, 31, 19⟩
def F.SEL_ARM_PIP.PIP_AGE : Field := ⟨0x000A0014, 64, 0, 18, 11⟩
def F.SEL_ARM_PIP.PIP_PTR : Field := ⟨0x000A0014, 64, 0, 9, 0⟩
def F.SEL_ARM_DUTY.VALUE : Field := ⟨0x000A0018, 64, 0, 31, 0⟩
def F.SEL_ARM_VMEAN.VALUE : Field := ⟨0x000A001C, 64, 0, 31, 0⟩
def F.SEL_ARM_US.VALUE : Field := ⟨0x000A0020, 64, 0, 31, 0⟩
def F.SEL_ARM_UE.VALUE : Field := ⟨0x000A0024, 64, 0, 31, 0⟩
def F.SEL_ARM_SWAP_CNT.COUNT : Field := ⟨0x000A0028, 64, 0, 31, 0⟩
def F.SEL_ARM_EVT_CNT.BUDGET_CUT : Field := ⟨0x000A002C, 64, 0, 31, 16⟩
def F.SEL_ARM_EVT_CNT.SAT_CNT : Field := ⟨0x000A002C, 64, 0, 15, 8⟩
def F.SEL_ARM_EVT_CNT.PIP_NONE : Field := ⟨0x000A002C, 64, 0, 7, 0⟩
def F.SEL_ARM_EVT_CNT2.COMM_CNT : Field := ⟨0x000A0030, 64, 0, 31, 16⟩
def F.SEL_ARM_EVT_CNT2.REF_INVALID : Field := ⟨0x000A0030, 64, 0, 15, 8⟩
def F.SEL_ARM_EVT_CNT2.WAIT_EXPIRED : Field := ⟨0x000A0030, 64, 0, 7, 0⟩
def F.SEL_ARM_PEND.WAIT : Field := ⟨0x000A0034, 64, 0, 31, 16⟩
def F.SEL_ARM_PEND.PENDING : Field := ⟨0x000A0034, 64, 0, 9, 0⟩
def F.SEL_CMD.CNT_CLR : Field := ⟨0x000A0400, 0, 0, 0, 0⟩
def F.SEL_SCHEDULE.CYCLES : Field := ⟨0x000A0404, 0, 0, 15, 0⟩
def F.SEL_CELL.ROLE : Field := ⟨0x000A1000, 4, 0, 31, 30⟩
def F.SEL_CELL.SIGN : Field := ⟨0x000A1000, 4, 0, 29, 29⟩
def F.SEL_CELL.CHANGED : Field := ⟨0x000A1000, 4, 0, 28, 28⟩
def F.SEL_CELL.RANK : Field := ⟨0x000A1000, 4, 0, 25, 16⟩
def F.SEL_CELL.END_STATE : Field := ⟨0x000A1000, 4, 0, 2, 0⟩

-- 09_edge_planner.md R235, R236
def F.EDGE_ARM_CTRL.CARRY_MAX : Field := ⟨0x000B0400, 32, 0, 31, 16⟩
def F.EDGE_ARM_CTRL.DT_COMP : Field := ⟨0x000B0400, 32, 0, 0, 0⟩
def F.EDGE_ARM_CARRY.CARRY : Field := ⟨0x000B0404, 32, 0, 31, 0⟩
def F.EDGE_ARM_STATUS.WIDTH : Field := ⟨0x000B0408, 32, 0, 31, 19⟩
def F.EDGE_ARM_STATUS.LONG_PIP : Field := ⟨0x000B0408, 32, 0, 18, 18⟩
def F.EDGE_ARM_STATUS.FROZEN : Field := ⟨0x000B0408, 32, 0, 17, 17⟩
def F.EDGE_ARM_STATUS.HALT_HUSK : Field := ⟨0x000B0408, 32, 0, 16, 16⟩
def F.EDGE_ARM_STATUS.SWAPS : Field := ⟨0x000B0408, 32, 0, 15, 8⟩
def F.EDGE_ARM_STATUS.CHANGES : Field := ⟨0x000B0408, 32, 0, 7, 0⟩
def F.EDGE_ARM_CNT.DWELL_MOVE : Field := ⟨0x000B040C, 32, 0, 31, 16⟩
def F.EDGE_ARM_CNT.DROP : Field := ⟨0x000B040C, 32, 0, 15, 0⟩
def F.EDGE_ARM_CNT2.CARRY_CLIP : Field := ⟨0x000B0410, 32, 0, 31, 16⟩
def F.EDGE_ARM_CNT2.PIP_SKIP : Field := ⟨0x000B0410, 32, 0, 15, 8⟩
def F.EDGE_ARM_CNT2.CROSS_SUB : Field := ⟨0x000B0410, 32, 0, 7, 0⟩
def F.EDGE_CTRL.MIN_DWELL : Field := ⟨0x000B0100, 0, 0, 13, 0⟩
def F.EDGE_HALT.HALT_REQ : Field := ⟨0x000B0104, 0, 0, 31, 31⟩
def F.EDGE_HALT.RESUME : Field := ⟨0x000B0104, 0, 0, 30, 30⟩
def F.EDGE_HALT.HALTED : Field := ⟨0x000B0104, 0, 0, 29, 29⟩
def F.EDGE_HALT.HALT_REFUSED : Field := ⟨0x000B0104, 0, 0, 28, 28⟩
def F.EDGE_HALT.LVTEST : Field := ⟨0x000B0104, 0, 0, 27, 27⟩
def F.EDGE_HALT.FREEZE_ACTIVE : Field := ⟨0x000B0104, 0, 0, 15, 0⟩
def F.EDGE_FREEZE.HALT_FREEZE : Field := ⟨0x000B0108, 0, 0, 15, 0⟩
def F.EDGE_CMD.CNT_CLR : Field := ⟨0x000B010C, 0, 0, 0, 0⟩
def F.EDGE_SCHEDULE.CYCLES : Field := ⟨0x000B0110, 0, 0, 15, 0⟩

-- 10_loop_engine.md R271 to R273
def F.CTX_CTRL.MODE : Field := ⟨0x000C0000, 512, 0, 31, 30⟩
def F.CTX_CTRL.FAULT_ACTION : Field := ⟨0x000C0000, 512, 0, 29, 28⟩
def F.CTX_CTRL.RUN_COND : Field := ⟨0x000C0000, 512, 0, 27, 27⟩
def F.CTX_CTRL.FALLBACK : Field := ⟨0x000C0000, 512, 0, 25, 18⟩
def F.CTX_CTRL.CMP_CTX : Field := ⟨0x000C0000, 512, 0, 17, 10⟩
def F.CTX_CTRL.ORDER : Field := ⟨0x000C0000, 512, 0, 9, 2⟩
def F.CTX_SCHED.DIVIDER : Field := ⟨0x000C0004, 512, 0, 30, 24⟩
def F.CTX_SCHED.PHASE : Field := ⟨0x000C0004, 512, 0, 21, 16⟩
def F.CTX_SCHED.COST : Field := ⟨0x000C0004, 512, 0, 15, 0⟩
def F.CTX_COEF.BASE : Field := ⟨0x000C0008, 512, 0, 31, 16⟩
def F.CTX_COEF.LENGTH : Field := ⟨0x000C0008, 512, 0, 15, 0⟩
def F.CTX_ARMS.ARM_MASK : Field := ⟨0x000C000C, 512, 0, 15, 0⟩
def F.CTX_LIMITS.LOST_MAX : Field := ⟨0x000C0010, 512, 0, 31, 24⟩
def F.CTX_LIMITS.FRZ_RUNS : Field := ⟨0x000C0010, 512, 0, 23, 16⟩
def F.CTX_LIMITS.CMP_WIN : Field := ⟨0x000C0010, 512, 0, 15, 0⟩
def F.CTX_FRZ_MIN.FRZ_MIN : Field := ⟨0x000C0014, 512, 0, 31, 0⟩
def F.CTX_STATUS.FAULTED : Field := ⟨0x000C0018, 512, 0, 31, 31⟩
def F.CTX_STATUS.CAUSE : Field := ⟨0x000C0018, 512, 0, 30, 28⟩
def F.CTX_STATUS.FE_OUT : Field := ⟨0x000C0018, 512, 0, 27, 24⟩
def F.CTX_STATUS.SEALED : Field := ⟨0x000C0018, 512, 0, 23, 23⟩
def F.CTX_STATUS.PERIOD_MISMATCH : Field := ⟨0x000C0018, 512, 0, 22, 22⟩
def F.CTX_STATUS.RAN : Field := ⟨0x000C0018, 512, 0, 21, 21⟩
def F.CTX_STATUS.SKIPPED : Field := ⟨0x000C0018, 512, 0, 20, 20⟩
def F.CTX_STATUS.LOST_CNT : Field := ⟨0x000C0018, 512, 0, 15, 8⟩
def F.CTX_INPUTS.FROZEN_IN : Field := ⟨0x000C001C, 512, 0, 31, 16⟩
def F.CTX_INPUTS.INVALID_IN : Field := ⟨0x000C001C, 512, 0, 15, 0⟩
def F.CTX_RUN_CNT.COUNT : Field := ⟨0x000C0020, 512, 0, 31, 0⟩
def F.CTX_EVT_CNT.FAULT_CNT : Field := ⟨0x000C0024, 512, 0, 31, 24⟩
def F.CTX_EVT_CNT.MISSED_RUN : Field := ⟨0x000C0024, 512, 0, 23, 16⟩
def F.CTX_EVT_CNT.SHADOW_SKIP : Field := ⟨0x000C0024, 512, 0, 15, 8⟩
def F.CTX_EVT_CNT.ECC_CORR : Field := ⟨0x000C0024, 512, 0, 7, 0⟩
def F.CTX_CMP_MAX.VALUE : Field := ⟨0x000C0028, 512, 0, 31, 0⟩
def F.CTX_CMP_RMS.VALUE : Field := ⟨0x000C002C, 512, 0, 31, 0⟩
def F.CTX_CMD.INJ_START : Field := ⟨0x000C0030, 512, 0, 4, 4⟩
def F.CTX_CMD.INJ_STOP : Field := ⟨0x000C0030, 512, 0, 3, 3⟩
def F.CTX_CMD.SEAL : Field := ⟨0x000C0030, 512, 0, 2, 2⟩
def F.CTX_CMD.FAULT_RESET : Field := ⟨0x000C0030, 512, 0, 1, 1⟩
def F.CTX_CMD.CNT_CLR : Field := ⟨0x000C0030, 512, 0, 0, 0⟩
def F.CTX_IN.INDEX_ODD : Field := ⟨0x000C0040, 512, 4, 27, 16⟩
def F.CTX_IN.INDEX_EVEN : Field := ⟨0x000C0040, 512, 4, 11, 0⟩
def F.CTX_OUT.INDEX_ODD : Field := ⟨0x000C0060, 512, 4, 27, 16⟩
def F.CTX_OUT.INDEX_EVEN : Field := ⟨0x000C0060, 512, 4, 11, 0⟩
def F.CTX_FF.INDEX_ODD : Field := ⟨0x000C0080, 512, 4, 27, 16⟩
def F.CTX_FF.INDEX_EVEN : Field := ⟨0x000C0080, 512, 4, 11, 0⟩
def F.CTX_FE_SIG.INDEX_ODD : Field := ⟨0x000C0090, 512, 4, 27, 16⟩
def F.CTX_FE_SIG.INDEX_EVEN : Field := ⟨0x000C0090, 512, 4, 11, 0⟩
def F.CTX_INJ_CTRL.TYPE : Field := ⟨0x000C00B0, 512, 0, 31, 29⟩
def F.CTX_INJ_CTRL.INJ_POINT : Field := ⟨0x000C00B0, 512, 0, 28, 28⟩
def F.CTX_INJ_CTRL.INJ_INDEX : Field := ⟨0x000C00B0, 512, 0, 27, 24⟩
def F.CTX_INJ_CTRL.PRBS_HOLD : Field := ⟨0x000C00B0, 512, 0, 23, 16⟩
def F.CTX_INJ_CTRL.DURATION : Field := ⟨0x000C00B0, 512, 0, 15, 0⟩
def F.CTX_INJ_AMP.VALUE : Field := ⟨0x000C00B4, 512, 0, 31, 0⟩
def F.CTX_INJ_F0.VALUE : Field := ⟨0x000C00B8, 512, 0, 31, 0⟩
def F.CTX_INJ_F1.VALUE : Field := ⟨0x000C00BC, 512, 0, 31, 0⟩
def F.CTX_INJ_STATUS.STATE : Field := ⟨0x000C00C0, 512, 0, 31, 30⟩
def F.CTX_INJ_STATUS.END : Field := ⟨0x000C00C0, 512, 0, 29, 28⟩
def F.CTX_INJ_STATUS.ALREADY_DONE : Field := ⟨0x000C00C0, 512, 0, 27, 27⟩
def F.CTX_INJ_STATUS.POSITION : Field := ⟨0x000C00C0, 512, 0, 15, 0⟩
def F.CTX_FE_LIM.FE_LIM : Field := ⟨0x000C0100, 512, 4, 31, 0⟩
def F.CTX_FE_TIME.FE_TIME_3 : Field := ⟨0x000C0140, 512, 4, 31, 24⟩
def F.CTX_FE_TIME.FE_TIME_2 : Field := ⟨0x000C0140, 512, 4, 23, 16⟩
def F.CTX_FE_TIME.FE_TIME_1 : Field := ⟨0x000C0140, 512, 4, 15, 8⟩
def F.CTX_FE_TIME.FE_TIME_0 : Field := ⟨0x000C0140, 512, 4, 7, 0⟩
def F.LOOP_CTRL.SCRUB_RATE : Field := ⟨0x000D8000, 0, 0, 10, 0⟩
def F.LOOP_STATUS.STAGE : Field := ⟨0x000D8004, 0, 0, 31, 16⟩
def F.LOOP_STATUS.USED : Field := ⟨0x000D8004, 0, 0, 15, 0⟩
def F.LOOP_ECC_CNT.CORRECTED : Field := ⟨0x000D8008, 0, 0, 31, 16⟩
def F.LOOP_ECC_CNT.UNCORRECTED : Field := ⟨0x000D8008, 0, 0, 15, 0⟩
def F.LOOP_SCRUB.CTX : Field := ⟨0x000D800C, 0, 0, 31, 24⟩
def F.LOOP_SCRUB.MISMATCH : Field := ⟨0x000D800C, 0, 0, 23, 16⟩
def F.LOOP_SCRUB.PASSES : Field := ⟨0x000D800C, 0, 0, 15, 0⟩
def F.LOOP_CMD.CNT_CLR : Field := ⟨0x000D8010, 0, 0, 0, 0⟩
def F.SIG_VALUE.VALUE : Field := ⟨0x00500000, 4, 0, 31, 0⟩
def F.SIG_VALID.VALID : Field := ⟨0x00504000, 4, 0, 31, 0⟩
def F.SIG_PROD.KIND : Field := ⟨0x00508000, 4, 0, 31, 28⟩
def F.SIG_PROD.SOURCE : Field := ⟨0x00508000, 4, 0, 7, 0⟩

-- 11_twin_operation.md R311, R312
def F.TWIN_CTRL.PAIR_WAIT : Field := ⟨0x00520000, 0, 0, 31, 24⟩
def F.TWIN_CTRL.HB_MISS : Field := ⟨0x00520000, 0, 0, 23, 20⟩
def F.TWIN_CTRL.PART_CONFIRM : Field := ⟨0x00520000, 0, 0, 19, 16⟩
def F.TWIN_CTRL.REDISC_AFTER : Field := ⟨0x00520000, 0, 0, 15, 12⟩
def F.TWIN_CTRL.SKEW_LIM : Field := ⟨0x00520000, 0, 0, 11, 4⟩
def F.TWIN_CTRL.TWIN_EN : Field := ⟨0x00520000, 0, 0, 0, 0⟩
def F.TWIN_CTRL2.REJOIN_MAX : Field := ⟨0x00520004, 0, 0, 31, 16⟩
def F.TWIN_CTRL2.REJOIN_RETRY : Field := ⟨0x00520004, 0, 0, 15, 0⟩
def F.TWIN_CMD.CNT_CLR : Field := ⟨0x00520008, 0, 0, 2, 2⟩
def F.TWIN_CMD.WITHDRAW : Field := ⟨0x00520008, 0, 0, 1, 1⟩
def F.TWIN_CMD.REJOIN_NOW : Field := ⟨0x00520008, 0, 0, 0, 0⟩
def F.TWIN_STATUS.MODE : Field := ⟨0x0052000C, 0, 0, 31, 29⟩
def F.TWIN_STATUS.ROLE : Field := ⟨0x0052000C, 0, 0, 28, 28⟩
def F.TWIN_STATUS.PEER_MODE : Field := ⟨0x0052000C, 0, 0, 27, 25⟩
def F.TWIN_STATUS.PEER_SEEN : Field := ⟨0x0052000C, 0, 0, 24, 24⟩
def F.TWIN_STATUS.WIDTH : Field := ⟨0x0052000C, 0, 0, 23, 22⟩
def F.TWIN_STATUS.FAIL_REASON : Field := ⟨0x0052000C, 0, 0, 21, 18⟩
def F.TWIN_STATUS.LAST_CAUSE : Field := ⟨0x0052000C, 0, 0, 17, 14⟩
def F.TWIN_STATUS.HEAD_LOST : Field := ⟨0x0052000C, 0, 0, 13, 13⟩
def F.TWIN_STATUS.MIXED : Field := ⟨0x0052000C, 0, 0, 12, 12⟩
def F.TWIN_LINK.XLAT : Field := ⟨0x00520010, 0, 0, 31, 16⟩
def F.TWIN_LINK.SKEW : Field := ⟨0x00520010, 0, 0, 15, 0⟩
def F.TWIN_MODE_TICK_LO.TICK : Field := ⟨0x00520014, 0, 0, 31, 0⟩
def F.TWIN_MODE_TICK_HI.TICK : Field := ⟨0x00520018, 0, 0, 31, 0⟩
def F.TWIN_DIGEST.DIGEST : Field := ⟨0x0052001C, 0, 0, 31, 0⟩
def F.TWIN_PEER_DIGEST.DIGEST : Field := ⟨0x00520020, 0, 0, 31, 0⟩
def F.TWIN_HB_CNT.HB_LOST : Field := ⟨0x00520024, 0, 0, 31, 16⟩
def F.TWIN_HB_CNT.HB_MISSED : Field := ⟨0x00520024, 0, 0, 15, 0⟩
def F.TWIN_AGREE_CNT.STR_DIS : Field := ⟨0x00520028, 0, 0, 31, 16⟩
def F.TWIN_AGREE_CNT.AGREE_MISS : Field := ⟨0x00520028, 0, 0, 15, 8⟩
def F.TWIN_AGREE_CNT.RELAY_CUT : Field := ⟨0x00520028, 0, 0, 7, 0⟩
def F.TWIN_DIV_CNT.DIVERGE : Field := ⟨0x0052002C, 0, 0, 31, 24⟩
def F.TWIN_DIV_CNT.WITHDRAWN : Field := ⟨0x0052002C, 0, 0, 23, 16⟩
def F.TWIN_DIV_CNT.REJOINED : Field := ⟨0x0052002C, 0, 0, 15, 8⟩
def F.TWIN_DIV_CNT.REJOIN_FAIL : Field := ⟨0x0052002C, 0, 0, 7, 0⟩
def F.TWIN_ADC_CNT.ADC_DIS : Field := ⟨0x00520030, 0, 0, 31, 16⟩
def F.TWIN_ADC_CNT.ADC_MISS : Field := ⟨0x00520030, 0, 0, 15, 0⟩
def F.TWIN_XL_CNT.XL_CRC : Field := ⟨0x00520034, 0, 0, 31, 16⟩
def F.TWIN_XL_CNT.LATE_CHG : Field := ⟨0x00520034, 0, 0, 15, 8⟩
def F.TWIN_XL_CNT.LAG : Field := ⟨0x00520034, 0, 0, 7, 0⟩
def F.TWIN_REJOIN.LOG_TICKS : Field := ⟨0x00520038, 0, 0, 31, 18⟩
def F.TWIN_REJOIN.LOG_MAX : Field := ⟨0x00520038, 0, 0, 17, 4⟩
def F.TWIN_REJOIN.PHASE : Field := ⟨0x00520038, 0, 0, 1, 0⟩
def F.TWIN_SNAP_BYTES.BYTES : Field := ⟨0x0052003C, 0, 0, 31, 0⟩
def F.TWIN_STR.DIS_CNT : Field := ⟨0x00520100, 4, 0, 31, 16⟩
def F.TWIN_STR.DIS_LAST : Field := ⟨0x00520100, 4, 0, 15, 15⟩
def F.TWIN_STR.CUT_LAST : Field := ⟨0x00520100, 4, 0, 14, 14⟩
def F.TWIN_STR.RUN : Field := ⟨0x00520100, 4, 0, 13, 8⟩
def F.TWIN_STR.ODD_CNT : Field := ⟨0x00520100, 4, 0, 7, 0⟩
def F.TWIN_ADC_TOL.AGREE_TOL : Field := ⟨0x00520200, 8, 0, 31, 0⟩
def F.TWIN_ADC_STAT.DIS_CNT : Field := ⟨0x00520204, 8, 0, 31, 16⟩
def F.TWIN_ADC_STAT.DISAGREE : Field := ⟨0x00520204, 8, 0, 15, 15⟩
def F.TWIN_ADC_STAT.PEER_VALID : Field := ⟨0x00520204, 8, 0, 14, 14⟩
def F.TWIN_ADC_STAT.PEER_BAD_1024 : Field := ⟨0x00520204, 8, 0, 10, 0⟩

-- 12_station_orders_and_telemetry.md R330
def F.STN_PORT_CTRL.SESS_EN : Field := ⟨0x00530000, 64, 0, 31, 31⟩
def F.STN_PORT_CTRL.TAG_EN : Field := ⟨0x00530000, 64, 0, 30, 30⟩
def F.STN_PORT_CTRL.BCAST : Field := ⟨0x00530000, 64, 0, 29, 29⟩
def F.STN_PORT_CTRL.PCP : Field := ⟨0x00530000, 64, 0, 28, 26⟩
def F.STN_PORT_CTRL.VID : Field := ⟨0x00530000, 64, 0, 11, 0⟩
def F.STN_PORT_IP.IPV4 : Field := ⟨0x00530004, 64, 0, 31, 0⟩
def F.STN_PORT_MAC_HI.MAC_47_32 : Field := ⟨0x00530008, 64, 0, 15, 0⟩
def F.STN_PORT_MAC_LO.MAC_31_0 : Field := ⟨0x0053000C, 64, 0, 31, 0⟩
def F.STN_PORT_CNT.RX_DROP : Field := ⟨0x00530010, 64, 0, 31, 16⟩
def F.STN_PORT_CNT.MSG_BAD : Field := ⟨0x00530010, 64, 0, 15, 8⟩
def F.STN_PORT_CNT.PAUSE_TX : Field := ⟨0x00530010, 64, 0, 7, 0⟩
def F.STN_SESS_STATUS.TAG : Field := ⟨0x00530400, 32, 0, 31, 16⟩
def F.STN_SESS_STATUS.VER : Field := ⟨0x00530400, 32, 0, 15, 14⟩
def F.STN_SESS_STATUS.HOME : Field := ⟨0x00530400, 32, 0, 13, 13⟩
def F.STN_SESS_STATUS.CREDIT : Field := ⟨0x00530400, 32, 0, 12, 0⟩
def F.STN_SESS_EXP_LO.VALUE : Field := ⟨0x00530404, 32, 0, 31, 0⟩
def F.STN_SESS_EXP_HI.VALUE : Field := ⟨0x00530408, 32, 0, 31, 0⟩
def F.STN_SESS_APPL_LO.VALUE : Field := ⟨0x0053040C, 32, 0, 31, 0⟩
def F.STN_SESS_APPL_HI.VALUE : Field := ⟨0x00530410, 32, 0, 31, 0⟩
def F.STN_SESS_CNT.GAP_CNT : Field := ⟨0x00530414, 32, 0, 31, 24⟩
def F.STN_SESS_CNT.DUP_CNT : Field := ⟨0x00530414, 32, 0, 23, 16⟩
def F.STN_SESS_CNT.OVER_CNT : Field := ⟨0x00530414, 32, 0, 15, 8⟩
def F.STN_SESS_CNT.LATE_ACCEPT : Field := ⟨0x00530414, 32, 0, 7, 0⟩
def F.STN_CTRL.ORDER_PORT : Field := ⟨0x00530800, 0, 0, 31, 16⟩
def F.STN_CTRL.SESS_TIMEOUT : Field := ⟨0x00530800, 0, 0, 15, 8⟩
def F.STN_CTRL.BEACON_MS : Field := ⟨0x00530800, 0, 0, 7, 0⟩
def F.STN_CTRL2.CNT_CLR : Field := ⟨0x00530804, 0, 0, 31, 31⟩
def F.STN_CTRL2.REPLAY : Field := ⟨0x00530804, 0, 0, 23, 16⟩
def F.STN_CTRL2.PAUSE_QUANTA : Field := ⟨0x00530804, 0, 0, 15, 0⟩
def F.STN_AUTH_CNT.AUTH_FAIL : Field := ⟨0x00530808, 0, 0, 31, 0⟩

-- 13_time.md R347
def F.TIME_LO.TIME_FRAC : Field := ⟨0x00540000, 0, 0, 31, 16⟩
def F.TIME_HI.TIME_NS : Field := ⟨0x00540004, 0, 0, 31, 0⟩
def F.TIME_INC_LO.INC_LO : Field := ⟨0x00540008, 0, 0, 31, 0⟩
def F.TIME_INC_HI.INC_HI : Field := ⟨0x0054000C, 0, 0, 7, 0⟩
def F.TIME_STEP.VALUE : Field := ⟨0x00540010, 0, 0, 31, 0⟩
def F.TIME_SET.VALUE : Field := ⟨0x00540014, 0, 0, 31, 0⟩
def F.TIME_EXT_SEC_LO.SEC_LO : Field := ⟨0x00540018, 0, 0, 31, 0⟩
def F.TIME_EXT_SEC_HI.SEC_HI : Field := ⟨0x0054001C, 0, 0, 15, 0⟩
def F.TIME_EXT_NS.NS : Field := ⟨0x00540020, 0, 0, 29, 0⟩
def F.TIME_SERVO.SOURCE : Field := ⟨0x00540024, 0, 0, 31, 30⟩
def F.TIME_SERVO.KP_SHIFT : Field := ⟨0x00540024, 0, 0, 29, 25⟩
def F.TIME_SERVO.KI_SHIFT : Field := ⟨0x00540024, 0, 0, 24, 20⟩
def F.TIME_SERVO.LOCK_CNT : Field := ⟨0x00540024, 0, 0, 19, 12⟩
def F.TIME_SERVO.LOCK_NS : Field := ⟨0x00540024, 0, 0, 11, 0⟩
def F.TIME_SERVO2.STEP_THR : Field := ⟨0x00540028, 0, 0, 31, 16⟩
def F.TIME_SERVO2.HOLD_MS : Field := ⟨0x00540028, 0, 0, 15, 0⟩
def F.TIME_STATUS.CNT_CLR : Field := ⟨0x0054002C, 0, 0, 7, 7⟩
def F.TIME_STATUS.EXT_VALID : Field := ⟨0x0054002C, 0, 0, 6, 6⟩
def F.TIME_STATUS.STEP_PENDING : Field := ⟨0x0054002C, 0, 0, 5, 5⟩
def F.TIME_STATUS.STEP_REFUSED : Field := ⟨0x0054002C, 0, 0, 4, 4⟩
def F.TIME_STATUS.INC_REFUSED : Field := ⟨0x0054002C, 0, 0, 3, 3⟩
def F.TIME_STATUS.STATE : Field := ⟨0x0054002C, 0, 0, 2, 0⟩
def F.TIME_OFFSET.OFFSET : Field := ⟨0x00540030, 0, 0, 31, 0⟩
def F.TIME_CNT.STEPS : Field := ⟨0x00540034, 0, 0, 31, 16⟩
def F.TIME_CNT.LOCK_LOSS : Field := ⟨0x00540034, 0, 0, 15, 8⟩
def F.TIME_CNT.PPS_GLITCH : Field := ⟨0x00540034, 0, 0, 7, 0⟩
def F.PPS_CTRL.PPS_OUT_EN : Field := ⟨0x00540038, 0, 0, 31, 31⟩
def F.PPS_CTRL.PPS_WIDTH : Field := ⟨0x00540038, 0, 0, 15, 0⟩
def F.PPS_STAMP_LO.STAMP : Field := ⟨0x0054003C, 0, 0, 31, 0⟩
def F.PPS_STAMP_HI.STAMP : Field := ⟨0x00540040, 0, 0, 31, 0⟩
def F.PTP_PORT.ROLE : Field := ⟨0x00540100, 16, 0, 31, 30⟩
def F.PTP_PORT.TRANSPORT : Field := ⟨0x00540100, 16, 0, 29, 29⟩
def F.PTP_PORT.ONE_STEP : Field := ⟨0x00540100, 16, 0, 28, 28⟩
def F.PTP_PORT.LOG_SYNC : Field := ⟨0x00540100, 16, 0, 27, 24⟩
def F.PTP_PORT.DOMAIN : Field := ⟨0x00540100, 16, 0, 23, 16⟩
def F.PTP_PORT.RX_EVT : Field := ⟨0x00540100, 16, 0, 15, 0⟩
def F.TIME_STR_CTRL.SYNC_TICKS : Field := ⟨0x00540200, 0, 0, 31, 16⟩
def F.TIME_STR_CTRL.MEAS_TICKS : Field := ⟨0x00540200, 0, 0, 15, 8⟩
def F.TIME_STR_FLAGS.LAT_DRIFT : Field := ⟨0x00540204, 0, 0, 31, 0⟩
def F.TIME_STR_FLAGS2.LAT_DRIFT : Field := ⟨0x00540208, 0, 0, 31, 0⟩
def F.TIME_STR_DITHER.NO_DITHER : Field := ⟨0x0054020C, 0, 0, 31, 0⟩
def F.TIME_STR_DITHER2.NO_DITHER : Field := ⟨0x00540210, 0, 0, 31, 0⟩

-- 14_fault_recording.md R374 to R378
def F.REC_CTRL.CNT_CLR : Field := ⟨0x00550000, 0, 0, 0, 0⟩
def F.REC_CMD.OP : Field := ⟨0x00550004, 0, 0, 31, 28⟩
def F.REC_CMD.UNIT : Field := ⟨0x00550004, 0, 0, 23, 16⟩
def F.REC_CMD.ARG : Field := ⟨0x00550004, 0, 0, 15, 0⟩
def F.REC_STATUS.FROZEN : Field := ⟨0x00550008, 0, 0, 31, 31⟩
def F.REC_STATUS.FREEZE_REQ : Field := ⟨0x00550008, 0, 0, 30, 30⟩
def F.REC_STATUS.WIPE_DONE : Field := ⟨0x00550008, 0, 0, 29, 29⟩
def F.REC_STATUS.MEM_PRESENT : Field := ⟨0x00550008, 0, 0, 28, 28⟩
def F.REC_STATUS.FREE_DIR : Field := ⟨0x00550008, 0, 0, 27, 22⟩
def F.REC_STATUS.STAGING_KIB : Field := ⟨0x00550008, 0, 0, 12, 0⟩
def F.REC_ECC.UNCORR : Field := ⟨0x0055000C, 0, 0, 31, 16⟩
def F.REC_ECC.CORR : Field := ⟨0x0055000C, 0, 0, 15, 0⟩
def F.REC_ECC_ADDR.ADDR : Field := ⟨0x00550010, 0, 0, 31, 0⟩
def F.REC_COND_SEL.SEL_ODD : Field := ⟨0x00550100, 4, 0, 31, 16⟩
def F.REC_COND_SEL.SEL_EVEN : Field := ⟨0x00550100, 4, 0, 15, 0⟩
def F.REC_THR_CTRL.ENABLE : Field := ⟨0x00550180, 8, 0, 31, 31⟩
def F.REC_THR_CTRL.BELOW : Field := ⟨0x00550180, 8, 0, 30, 30⟩
def F.REC_THR_CTRL.SIG_INDEX : Field := ⟨0x00550180, 8, 0, 11, 0⟩
def F.REC_THR_LEVEL.LEVEL : Field := ⟨0x00550184, 8, 0, 31, 0⟩
def F.REC_CH.KIND : Field := ⟨0x00554000, 4, 0, 31, 28⟩
def F.REC_CH.CAP : Field := ⟨0x00554000, 4, 0, 27, 20⟩
def F.REC_CH.INDEX : Field := ⟨0x00554000, 4, 0, 12, 0⟩
def F.PAT_CTRL.ENABLE : Field := ⟨0x00550400, 32, 0, 31, 31⟩
def F.PAT_CTRL.EDGE : Field := ⟨0x00550400, 32, 0, 30, 30⟩
def F.PAT_CTRL.SNAPSHOT : Field := ⟨0x00550400, 32, 0, 27, 27⟩
def F.PAT_CTRL.HOLD_MODE : Field := ⟨0x00550400, 32, 0, 26, 26⟩
def F.PAT_CTRL.TARGET : Field := ⟨0x00550400, 32, 0, 25, 18⟩
def F.PAT_CTRL.HOLDOFF : Field := ⟨0x00550400, 32, 0, 17, 0⟩
def F.SEQ_CTRL.ENABLE : Field := ⟨0x00550600, 256, 0, 31, 31⟩
def F.SEQ_CTRL.LAST_STATE : Field := ⟨0x00550600, 256, 0, 30, 28⟩
def F.SEQ_CTRL.SNAPSHOT : Field := ⟨0x00550600, 256, 0, 27, 27⟩
def F.SEQ_CTRL.HOLD_MODE : Field := ⟨0x00550600, 256, 0, 26, 26⟩
def F.SEQ_CTRL.TARGET : Field := ⟨0x00550600, 256, 0, 25, 18⟩
def F.SEQ_CTRL.HOLDOFF : Field := ⟨0x00550600, 256, 0, 17, 0⟩
def F.PAT_MASK_LO.BITS : Field := ⟨0x00550404, 32, 0, 31, 0⟩
def F.PAT_MASK_HI.BITS : Field := ⟨0x00550408, 32, 0, 31, 0⟩
def F.PAT_VALUE_LO.BITS : Field := ⟨0x0055040C, 32, 0, 31, 0⟩
def F.PAT_VALUE_HI.BITS : Field := ⟨0x00550410, 32, 0, 31, 0⟩
def F.SEQ_S_MASK_LO.BITS : Field := ⟨0x00550620, 256, 24, 31, 0⟩
def F.SEQ_S_MASK_HI.BITS : Field := ⟨0x00550624, 256, 24, 31, 0⟩
def F.SEQ_S_VALUE_LO.BITS : Field := ⟨0x00550628, 256, 24, 31, 0⟩
def F.SEQ_S_VALUE_HI.BITS : Field := ⟨0x0055062C, 256, 24, 31, 0⟩
def F.PAT_CNT.FIRED : Field := ⟨0x00550414, 32, 0, 31, 16⟩
def F.PAT_CNT.SUPPRESSED : Field := ⟨0x00550414, 32, 0, 15, 0⟩
def F.SEQ_CNT.FIRED : Field := ⟨0x00550608, 256, 0, 31, 16⟩
def F.SEQ_CNT.SUPPRESSED : Field := ⟨0x00550608, 256, 0, 15, 0⟩
def F.SEQ_STATUS.STATE : Field := ⟨0x00550604, 256, 0, 31, 29⟩
def F.SEQ_STATUS.IN_HOLDOFF : Field := ⟨0x00550604, 256, 0, 28, 28⟩
def F.SEQ_STATUS.COUNT : Field := ⟨0x00550604, 256, 0, 15, 0⟩
def F.SEQ_S_COUNT.CONSEC : Field := ⟨0x00550630, 256, 24, 31, 31⟩
def F.SEQ_S_COUNT.NEXT : Field := ⟨0x00550630, 256, 24, 30, 28⟩
def F.SEQ_S_COUNT.COUNT_MAX : Field := ⟨0x00550630, 256, 24, 15, 0⟩
def F.SEQ_S_TIMER.TIMEOUT_NEXT : Field := ⟨0x00550634, 256, 24, 31, 29⟩
def F.SEQ_S_TIMER.TIMER : Field := ⟨0x00550634, 256, 24, 23, 0⟩
def F.CAP_CTRL.ENABLE : Field := ⟨0x00550800, 64, 0, 31, 31⟩
def F.CAP_CTRL.KIND : Field := ⟨0x00550800, 64, 0, 30, 29⟩
def F.CAP_CTRL.RATE : Field := ⟨0x00550800, 64, 0, 28, 28⟩
def F.CAP_CTRL.AUTO_ARM : Field := ⟨0x00550800, 64, 0, 27, 27⟩
def F.CAP_CTRL.COMPRESS : Field := ⟨0x00550800, 64, 0, 26, 26⟩
def F.CAP_PRE.ROWS : Field := ⟨0x00550804, 64, 0, 23, 0⟩
def F.CAP_POST.ROWS : Field := ⟨0x00550808, 64, 0, 23, 0⟩
def F.CAP_REGION.BASE : Field := ⟨0x0055080C, 64, 0, 31, 16⟩
def F.CAP_REGION.SIZE : Field := ⟨0x0055080C, 64, 0, 15, 0⟩
def F.CAP_ROW.ROW_BYTES : Field := ⟨0x00550810, 64, 0, 31, 16⟩
def F.CAP_ROW.N_CH : Field := ⟨0x00550810, 64, 0, 15, 0⟩
def F.CAP_STATUS.STATE : Field := ⟨0x00550814, 64, 0, 31, 29⟩
def F.CAP_STATUS.ALREADY_DONE : Field := ⟨0x00550814, 64, 0, 28, 28⟩
def F.CAP_STATUS.DIR : Field := ⟨0x00550814, 64, 0, 27, 22⟩
def F.CAP_STATUS.SLOTS : Field := ⟨0x00550814, 64, 0, 21, 16⟩
def F.CAP_STATUS.SEGMENTS : Field := ⟨0x00550814, 64, 0, 15, 0⟩
def F.CAP_CNT.MISSED : Field := ⟨0x00550818, 64, 0, 31, 16⟩
def F.CAP_CNT.TRIG_BUSY : Field := ⟨0x00550818, 64, 0, 15, 8⟩
def F.CAP_CNT.NO_SLOT : Field := ⟨0x00550818, 64, 0, 7, 0⟩
def F.CAP_CNT2.RECORDS : Field := ⟨0x0055081C, 64, 0, 31, 16⟩
def F.CAP_CNT2.OVF : Field := ⟨0x0055081C, 64, 0, 15, 0⟩
def F.DIR_W0.STATE : Field := ⟨0x00550C00, 16, 0, 31, 29⟩
def F.DIR_W0.KIND : Field := ⟨0x00550C00, 16, 0, 28, 27⟩
def F.DIR_W0.CAPTURE : Field := ⟨0x00550C00, 16, 0, 26, 19⟩
def F.DIR_W0.FLAGS : Field := ⟨0x00550C00, 16, 0, 18, 10⟩
def F.DIR_W1.VALUE : Field := ⟨0x00550C04, 16, 0, 31, 0⟩
def F.DIR_W2.VALUE : Field := ⟨0x00550C08, 16, 0, 31, 0⟩
def F.DIR_W3.VALUE : Field := ⟨0x00550C0C, 16, 0, 31, 0⟩
def F.REC_WIN_SEL.DIR : Field := ⟨0x00551000, 0, 0, 31, 26⟩
def F.REC_WIN_SEL.OFFSET : Field := ⟨0x00551000, 0, 0, 25, 0⟩
def F.REC_WIN_POS.DIR : Field := ⟨0x00551004, 0, 0, 31, 26⟩
def F.REC_WIN_POS.OFFSET : Field := ⟨0x00551004, 0, 0, 25, 0⟩
def F.REC_WIN.DATA : Field := ⟨0x0055C000, 4, 0, 31, 0⟩

-- 15_protection_and_safety.md R412, R413
def F.SAFE_STATUS.SAFE_OK : Field := ⟨0x00560000, 0, 0, 31, 31⟩
def F.SAFE_STATUS.SBK : Field := ⟨0x00560000, 0, 0, 30, 30⟩
def F.SAFE_STATUS.HUSK_FORCED : Field := ⟨0x00560000, 0, 0, 29, 29⟩
def F.SAFE_STATUS.SILENCED : Field := ⟨0x00560000, 0, 0, 28, 28⟩
def F.SAFE_STATUS.FREEZE : Field := ⟨0x00560000, 0, 0, 27, 27⟩
def F.SAFE_STATUS.ILP_GRANTED : Field := ⟨0x00560000, 0, 0, 26, 26⟩
def F.SAFE_STATUS.CONFIRMED : Field := ⟨0x00560000, 0, 0, 25, 25⟩
def F.SAFE_STATUS.LVTEST : Field := ⟨0x00560000, 0, 0, 24, 24⟩
def F.SAFE_STATUS.SOP_OUT : Field := ⟨0x00560000, 0, 0, 23, 20⟩
def F.SAFE_STATUS.CURATOR_FAULT : Field := ⟨0x00560000, 0, 0, 19, 16⟩
def F.SAFE_STATUS.SBK_CLR_REFUSED : Field := ⟨0x00560000, 0, 0, 15, 15⟩
def F.SAFE_STATUS.SBK_CAUSE : Field := ⟨0x00560000, 0, 0, 8, 0⟩
def F.SAFE_CMD.CNT_CLR : Field := ⟨0x00560004, 0, 0, 8, 8⟩
def F.SAFE_CMD.SOP_CLR : Field := ⟨0x00560004, 0, 0, 7, 4⟩
def F.SAFE_CMD.ILP_DROP : Field := ⟨0x00560004, 0, 0, 3, 3⟩
def F.SAFE_CMD.ILP_REQ : Field := ⟨0x00560004, 0, 0, 2, 2⟩
def F.SAFE_CMD.SBK_CLR : Field := ⟨0x00560004, 0, 0, 1, 1⟩
def F.SAFE_CMD.SBK_REQ : Field := ⟨0x00560004, 0, 0, 0, 0⟩
def F.SAFE_CHECK.CHECK : Field := ⟨0x00560008, 0, 0, 31, 0⟩
def F.SAFE_CONFIRM.CONFIRM : Field := ⟨0x0056000C, 0, 0, 31, 0⟩
def F.TRIP_CFG.ENABLE : Field := ⟨0x00560040, 4, 0, 31, 31⟩
def F.TRIP_CFG.ACTIVE_LOW : Field := ⟨0x00560040, 4, 0, 30, 30⟩
def F.TRIP_CFG.FILT : Field := ⟨0x00560040, 4, 0, 29, 28⟩
def F.TRIP_CFG.ACT_SBK : Field := ⟨0x00560040, 4, 0, 27, 27⟩
def F.TRIP_CFG.ACT_ILP : Field := ⟨0x00560040, 4, 0, 26, 26⟩
def F.TRIP_CFG.ACT_OUT : Field := ⟨0x00560040, 4, 0, 25, 22⟩
def F.TRIP_STATUS.PAIR_FAULT : Field := ⟨0x00560060, 0, 0, 31, 24⟩
def F.TRIP_STATUS.CLR_REFUSED : Field := ⟨0x00560060, 0, 0, 23, 16⟩
def F.TRIP_STATUS.LATCH : Field := ⟨0x00560060, 0, 0, 15, 8⟩
def F.TRIP_STATUS.ACTIVE : Field := ⟨0x00560060, 0, 0, 7, 0⟩
def F.TRIP_OUT_CFG.OUT_0 : Field := ⟨0x00560064, 0, 0, 3, 1⟩
def F.TRIP_OUT_CFG.OUT_1 : Field := ⟨0x00560064, 0, 0, 7, 5⟩
def F.TRIP_OUT_CFG.OUT_2 : Field := ⟨0x00560064, 0, 0, 11, 9⟩
def F.TRIP_OUT_CFG.OUT_3 : Field := ⟨0x00560064, 0, 0, 15, 13⟩
def F.FB_CFG.ENABLE : Field := ⟨0x00560080, 4, 0, 31, 31⟩
def F.FB_CFG.SRC_OUT : Field := ⟨0x00560080, 4, 0, 30, 29⟩
def F.FB_CFG.INVERT : Field := ⟨0x00560080, 4, 0, 28, 28⟩
def F.FB_CFG.ACT_SOP : Field := ⟨0x00560080, 4, 0, 27, 27⟩
def F.FB_CFG.FB_TIME : Field := ⟨0x00560080, 4, 0, 9, 0⟩
def F.FB_STATUS.DISCREP : Field := ⟨0x005600A0, 0, 0, 15, 8⟩
def F.FB_STATUS.LEVEL : Field := ⟨0x005600A0, 0, 0, 7, 0⟩
def F.FAULT_SCOPE.SCOPE_0 : Field := ⟨0x005600C0, 0, 0, 2, 0⟩
def F.FAULT_SCOPE.SCOPE_1 : Field := ⟨0x005600C0, 0, 0, 5, 3⟩
def F.FAULT_SCOPE.SCOPE_2 : Field := ⟨0x005600C0, 0, 0, 8, 6⟩
def F.FAULT_SCOPE.SCOPE_3 : Field := ⟨0x005600C0, 0, 0, 11, 9⟩
def F.FAULT_SCOPE.SCOPE_4 : Field := ⟨0x005600C0, 0, 0, 14, 12⟩
def F.FAULT_SCOPE.SCOPE_5 : Field := ⟨0x005600C0, 0, 0, 17, 15⟩
def F.FAULT_SCOPE.SCOPE_6 : Field := ⟨0x005600C0, 0, 0, 20, 18⟩
def F.FAULT_SCOPE.SCOPE_7 : Field := ⟨0x005600C0, 0, 0, 23, 21⟩
def F.FAULT_ESC.ESC_EN : Field := ⟨0x005600C4, 0, 0, 31, 31⟩
def F.FAULT_ESC.ESC_SCOPE : Field := ⟨0x005600C4, 0, 0, 30, 28⟩
def F.CMP_SBK_HI.MASK : Field := ⟨0x005600C8, 0, 0, 23, 0⟩
def F.CMP_SBK_LO.MASK : Field := ⟨0x005600CC, 0, 0, 23, 0⟩
def F.WD_CFG.WD_TICKS : Field := ⟨0x005600D0, 0, 0, 31, 28⟩
def F.WD_CFG.FRZ_ON_SBK : Field := ⟨0x005600D0, 0, 0, 27, 27⟩
def F.ILP_CFG.ILP_OUT : Field := ⟨0x005600D4, 0, 0, 31, 30⟩
def F.ILP_CFG.ILP_OPEN : Field := ⟨0x005600D4, 0, 0, 29, 26⟩
def F.ILP_CFG.ILP_DELAY : Field := ⟨0x005600D4, 0, 0, 15, 0⟩
def F.ILP_ENERGY.LIMIT : Field := ⟨0x005600D8, 0, 0, 31, 0⟩
def F.SAFE_CNT.SBK_CNT : Field := ⟨0x005600E0, 0, 0, 31, 24⟩
def F.SAFE_CNT.FAULT_RX : Field := ⟨0x005600E0, 0, 0, 23, 16⟩
def F.SAFE_CNT.HUSK_FORCE : Field := ⟨0x005600E0, 0, 0, 15, 8⟩
def F.SAFE_CNT.LOG_LOST : Field := ⟨0x005600E0, 0, 0, 7, 0⟩
def F.SAFE_LOG_PTR.NEXT : Field := ⟨0x005600E4, 0, 0, 3, 0⟩
def F.SAFE_LOG_W0.TIME_NS : Field := ⟨0x00560100, 8, 0, 31, 0⟩
def F.SAFE_LOG_W1.SOURCE : Field := ⟨0x00560104, 8, 0, 31, 29⟩
def F.SAFE_LOG_W1.SCOPE : Field := ⟨0x00560104, 8, 0, 28, 26⟩
def F.SAFE_LOG_W1.STRING : Field := ⟨0x00560104, 8, 0, 25, 20⟩
def F.SAFE_LOG_W1.POSITION : Field := ⟨0x00560104, 8, 0, 19, 13⟩
def F.SAFE_LOG_W1.CODE : Field := ⟨0x00560104, 8, 0, 12, 5⟩
def F.SAFE_LOG_W1.FRAC : Field := ⟨0x00560104, 8, 0, 4, 0⟩

-- 16_start_up_and_life_cycle.md R435, R436
def F.BOOT_STATUS.READY : Field := ⟨0x00570000, 0, 0, 31, 31⟩
def F.BOOT_STATUS.STOPPED : Field := ⟨0x00570000, 0, 0, 30, 30⟩
def F.BOOT_STATUS.STRAP : Field := ⟨0x00570000, 0, 0, 29, 28⟩
def F.BOOT_STATUS.SLOT : Field := ⟨0x00570000, 0, 0, 27, 27⟩
def F.BOOT_STATUS.FALLBACK : Field := ⟨0x00570000, 0, 0, 26, 26⟩
def F.BOOT_STATUS.STEP : Field := ⟨0x00570000, 0, 0, 19, 16⟩
def F.BOOT_STATUS.CODE : Field := ⟨0x00570000, 0, 0, 15, 8⟩
def F.BOOT_STATUS.REREAD : Field := ⟨0x00570000, 0, 0, 7, 0⟩
def F.BOOT_IMAGE.SEQ : Field := ⟨0x00570004, 0, 0, 31, 0⟩
def F.BOOT_READY_TIME.TIME : Field := ⟨0x00570008, 0, 0, 31, 0⟩
def F.BOOT_CTRL.TRAIN_WAIT : Field := ⟨0x0057000C, 0, 0, 7, 0⟩
def F.IMAGE_TAG_LO.TAG : Field := ⟨0x00570010, 0, 0, 31, 0⟩
def F.IMAGE_TAG_HI.TAG : Field := ⟨0x00570014, 0, 0, 31, 0⟩
def F.RESET_CAUSE.WARM_CNT : Field := ⟨0x00570018, 0, 0, 15, 8⟩
def F.RESET_CAUSE.HEAD : Field := ⟨0x00570018, 0, 0, 5, 4⟩
def F.RESET_CAUSE.CAUSE : Field := ⟨0x00570018, 0, 0, 3, 0⟩
def F.LC_STATE.BURN_LOST : Field := ⟨0x00570020, 0, 0, 31, 24⟩
def F.LC_STATE.SAFETY_SLOTS : Field := ⟨0x00570020, 0, 0, 23, 20⟩
def F.LC_STATE.ROWS : Field := ⟨0x00570020, 0, 0, 13, 8⟩
def F.LC_STATE.KEY_SET : Field := ⟨0x00570020, 0, 0, 7, 7⟩
def F.LC_STATE.STATE : Field := ⟨0x00570020, 0, 0, 2, 0⟩
def F.LC_CMD.ARM : Field := ⟨0x00570024, 0, 0, 31, 31⟩
def F.LC_CMD.COMMIT : Field := ⟨0x00570024, 0, 0, 30, 30⟩
def F.LC_CMD.ARMED : Field := ⟨0x00570024, 0, 0, 29, 29⟩
def F.LC_CMD.TARGET : Field := ⟨0x00570024, 0, 0, 28, 26⟩
def F.LC_CMD.LC_RESULT : Field := ⟨0x00570024, 0, 0, 7, 4⟩
def F.LC_CMD.LC_REFUSED : Field := ⟨0x00570024, 0, 0, 3, 3⟩
def F.UID_LO.UID : Field := ⟨0x00570028, 0, 0, 31, 0⟩
def F.UID_HI.UID : Field := ⟨0x0057002C, 0, 0, 31, 0⟩
def F.DBG_STATUS.DBG_FAIL : Field := ⟨0x00570030, 0, 0, 31, 28⟩
def F.DBG_STATUS.BUSY : Field := ⟨0x00570030, 0, 0, 27, 27⟩
def F.DBG_STATUS.LEVEL : Field := ⟨0x00570030, 0, 0, 1, 0⟩
def F.DBG_CMD.VERIFY : Field := ⟨0x00570034, 0, 0, 31, 31⟩
def F.DBG_CMD.RELOCK : Field := ⟨0x00570034, 0, 0, 30, 30⟩
def F.DBG_CMD.REQ_LEVEL : Field := ⟨0x00570034, 0, 0, 1, 0⟩
def F.DBG_CHAL.CHAL : Field := ⟨0x00570040, 4, 0, 31, 0⟩
def F.DBG_RESP.RESP : Field := ⟨0x00570080, 4, 0, 31, 0⟩
def F.NVM_CMD.OP : Field := ⟨0x00570100, 0, 0, 31, 30⟩
def F.NVM_CMD.BLOCK : Field := ⟨0x00570100, 0, 0, 12, 0⟩
def F.NVM_STATUS.BUSY : Field := ⟨0x00570104, 0, 0, 31, 31⟩
def F.NVM_STATUS.NVM_REFUSED : Field := ⟨0x00570104, 0, 0, 30, 30⟩
def F.NVM_BUF.DATA : Field := ⟨0x00571000, 4, 0, 31, 0⟩

-- 17_integrity_and_check_units.md R450, R451
def F.INTEG_MEM_CNT.CORRECTED : Field := ⟨0x00580000, 4, 0, 31, 16⟩
def F.INTEG_MEM_CNT.UNCORRECTED : Field := ⟨0x00580000, 4, 0, 15, 0⟩
def F.INTEG_ECC_LAST.MEM : Field := ⟨0x00580040, 0, 0, 31, 28⟩
def F.INTEG_ECC_LAST.BY_SCRUB : Field := ⟨0x00580040, 0, 0, 27, 27⟩
def F.INTEG_ECC_LAST.WORD : Field := ⟨0x00580040, 0, 0, 20, 0⟩
def F.INTEG_SCRUB.SRAM_PERIOD : Field := ⟨0x00580044, 0, 0, 31, 16⟩
def F.INTEG_SCRUB.REC_PATROL : Field := ⟨0x00580044, 0, 0, 10, 0⟩
def F.INTEG_PASS.SRAM_PASSES : Field := ⟨0x00580048, 0, 0, 31, 16⟩
def F.INTEG_PASS.REC_PASSES : Field := ⟨0x00580048, 0, 0, 15, 0⟩
def F.INTEG_EVT.SIG_PAR : Field := ⟨0x0058004C, 0, 0, 31, 16⟩
def F.INTEG_EVT.LOCAL_CNT : Field := ⟨0x0058004C, 0, 0, 15, 8⟩
def F.INTEG_EVT.JRNL_DUAL : Field := ⟨0x0058004C, 0, 0, 7, 0⟩
def F.INTEG_CMD.CNT_CLR : Field := ⟨0x00580050, 0, 0, 0, 0⟩
def F.CHK_CTRL.POLY : Field := ⟨0x00580100, 64, 0, 31, 30⟩
def F.CHK_CTRL.MODE : Field := ⟨0x00580100, 64, 0, 29, 29⟩
def F.CHK_CTRL.SRC : Field := ⟨0x00580100, 64, 0, 28, 28⟩
def F.CHK_CTRL.WIDTH : Field := ⟨0x00580100, 64, 0, 27, 26⟩
def F.CHK_CTRL.FINISH : Field := ⟨0x00580100, 64, 0, 3, 3⟩
def F.CHK_CTRL.ABORT : Field := ⟨0x00580100, 64, 0, 2, 2⟩
def F.CHK_CTRL.START : Field := ⟨0x00580100, 64, 0, 1, 1⟩
def F.CHK_CTRL.INIT : Field := ⟨0x00580100, 64, 0, 0, 0⟩
def F.CHK_DATA.VALUE : Field := ⟨0x00580104, 64, 0, 31, 0⟩
def F.CHK_ADDR.VALUE : Field := ⟨0x00580108, 64, 0, 31, 0⟩
def F.CHK_EXPECTED.VALUE : Field := ⟨0x00580114, 64, 0, 31, 0⟩
def F.CHK_LEN.BYTES : Field := ⟨0x0058010C, 64, 0, 23, 0⟩
def F.CHK_RESULT.RESULT : Field := ⟨0x00580110, 64, 0, 31, 0⟩
def F.CHK_STATUS.BUSY : Field := ⟨0x00580118, 64, 0, 31, 31⟩
def F.CHK_STATUS.DONE : Field := ⟨0x00580118, 64, 0, 30, 30⟩
def F.CHK_STATUS.MISMATCH : Field := ⟨0x00580118, 64, 0, 29, 29⟩
def F.CHK_STATUS.ALREADY_DONE : Field := ⟨0x00580118, 64, 0, 28, 28⟩
def F.CHK_STATUS.ABORTED : Field := ⟨0x00580118, 64, 0, 27, 27⟩
def F.CHK_STATUS.REFUSED : Field := ⟨0x00580118, 64, 0, 26, 26⟩
def F.CHK_CNT.MATCH : Field := ⟨0x0058011C, 64, 0, 31, 16⟩
def F.CHK_CNT.MISMATCH_CNT : Field := ⟨0x0058011C, 64, 0, 15, 0⟩
def F.CHK_CMD.CNT_CLR : Field := ⟨0x00580120, 64, 0, 0, 0⟩

-- 18_supervisors_scheduling_and_power.md R468, R469
def F.CLK_STATUS.LOCK : Field := ⟨0x00010000, 0, 0, 6, 0⟩
def F.DROOP_CTRL.THR_LOOP : Field := ⟨0x00010010, 0, 0, 15, 8⟩
def F.DROOP_CTRL.THR_CORE : Field := ⟨0x00010010, 0, 0, 7, 0⟩
def F.DROOP_STATUS.LEVEL : Field := ⟨0x00010014, 0, 0, 31, 29⟩
def F.DROOP_STATUS.MIN_LEVEL : Field := ⟨0x00010014, 0, 0, 28, 26⟩
def F.DROOP_STATUS.CORE_SAG : Field := ⟨0x00010014, 0, 0, 25, 25⟩
def F.DROOP_STATUS.LOOP_SAG : Field := ⟨0x00010014, 0, 0, 24, 24⟩
def F.DROOP_STATUS.EVENTS : Field := ⟨0x00010014, 0, 0, 15, 0⟩
def F.DROOP_TIME.TIME : Field := ⟨0x00010018, 0, 0, 31, 0⟩
def F.CLK_CMD.CNT_CLR : Field := ⟨0x0001001C, 0, 0, 0, 0⟩
def F.PWR_CTRL.POWER_CAP : Field := ⟨0x00010100, 0, 0, 31, 22⟩
def F.PWR_CTRL.HYST : Field := ⟨0x00010100, 0, 0, 21, 16⟩
def F.PWR_CTRL.POWER_WIN : Field := ⟨0x00010100, 0, 0, 15, 0⟩
def F.PWR_STATUS.P_AVG : Field := ⟨0x00010104, 0, 0, 31, 22⟩
def F.PWR_STATUS.CURTAIL : Field := ⟨0x00010104, 0, 0, 21, 19⟩
def F.PWR_STATUS.OVER_CAP : Field := ⟨0x00010104, 0, 0, 18, 18⟩
def F.PWR_CNT.OVER_CAP_CNT : Field := ⟨0x00010108, 0, 0, 31, 16⟩
def F.PWR_CNT.RAISES : Field := ⟨0x00010108, 0, 0, 15, 0⟩
def F.PWR_BLK_LO.ENERGY : Field := ⟨0x00010200, 8, 0, 31, 0⟩
def F.PWR_BLK_HI.ENERGY : Field := ⟨0x00010204, 8, 0, 31, 0⟩
def F.SCHED_CTRL.ITEM_LIMIT : Field := ⟨0x00590000, 0, 0, 15, 0⟩
def F.SCHED_STATUS.CORE_UP : Field := ⟨0x00590004, 0, 0, 31, 24⟩
def F.SCHED_STATUS.HW_STALL : Field := ⟨0x00590004, 0, 0, 20, 20⟩
def F.SCHED_STATUS.POOL_PEAK : Field := ⟨0x00590004, 0, 0, 19, 10⟩
def F.SCHED_STATUS.POOL_USED : Field := ⟨0x00590004, 0, 0, 9, 0⟩
def F.SCHED_CNT.FULL_REFUSED : Field := ⟨0x00590008, 0, 0, 31, 16⟩
def F.SCHED_CNT.CANCEL_RACE : Field := ⟨0x00590008, 0, 0, 15, 8⟩
def F.SCHED_CNT.CORE_RESET : Field := ⟨0x00590008, 0, 0, 7, 0⟩
def F.SCHED_CMD.PEAK_CLR : Field := ⟨0x0059000C, 0, 0, 1, 1⟩
def F.SCHED_CMD.CNT_CLR : Field := ⟨0x0059000C, 0, 0, 0, 0⟩
def F.SCHED_CORE.STATE : Field := ⟨0x00590040, 4, 0, 31, 30⟩
def F.SCHED_CORE.CLASS : Field := ⟨0x00590040, 4, 0, 29, 26⟩
def F.SCHED_CORE.LOAD : Field := ⟨0x00590040, 4, 0, 9, 0⟩
def F.SCHED_CLASS.REL_DEADLINE : Field := ⟨0x00590100, 8, 0, 31, 16⟩
def F.SCHED_CLASS_CNT.MISS : Field := ⟨0x00590104, 8, 0, 31, 16⟩
def F.SCHED_CLASS_CNT.LATE_START : Field := ⟨0x00590104, 8, 0, 15, 0⟩

/-- The registers of 00_scope.md R11. -/
def regTable_global : List RegDesc := [
  ⟨"DEVICE_ID", 0x00000000, 1, 0, 1, 0, [
    ⟨"PART", 31, 16, .ro, .none, 24900, [], false⟩,
    ⟨"SILICON_REV", 15, 12, .ro, .none, 2, [], false⟩,
    ⟨"METAL_REV", 11, 8, .ro, .none, 0, [], false⟩,
    ⟨"VENDOR", 7, 0, .ro, .none, 167, [], false⟩]⟩]

/-- The registers of 01_the_tick.md R35 to R39. -/
def regTable_tick : List RegDesc := [
  ⟨"TICK_PERIOD", 0x000B0000, 1, 0, 1, 0, [
    ⟨"PERIOD", 14, 0, .roh, .none, 0, [], true⟩]⟩,
  ⟨"TICK_CUTOFF", 0x000B0004, 1, 0, 1, 0, [
    ⟨"CUTOFF", 14, 0, .roh, .none, 0, [], true⟩]⟩,
  ⟨"TICK_OUTPUT", 0x000B0008, 1, 0, 1, 0, [
    ⟨"OUTPUT", 14, 0, .roh, .none, 0, [], true⟩]⟩,
  ⟨"TICK_PIP", 0x000B000C, 1, 0, 1, 0, [
    ⟨"PIP_DIV", 3, 0, .roh, .none, 0, [], true⟩]⟩,
  ⟨"TICK_STG_PERIOD", 0x000B0010, 1, 0, 1, 0, [
    ⟨"VALUE", 14, 0, .rw, .live, 0, [], false⟩]⟩,
  ⟨"TICK_STG_CUTOFF", 0x000B0014, 1, 0, 1, 0, [
    ⟨"VALUE", 14, 0, .rw, .live, 0, [], false⟩]⟩,
  ⟨"TICK_STG_OUTPUT", 0x000B0018, 1, 0, 1, 0, [
    ⟨"VALUE", 14, 0, .rw, .live, 0, [], false⟩]⟩,
  ⟨"TICK_STG_PIP", 0x000B001C, 1, 0, 1, 0, [
    ⟨"VALUE", 3, 0, .rw, .live, 0, [], false⟩]⟩,
  ⟨"TICK_COMMIT", 0x000B0020, 1, 0, 1, 0, [
    ⟨"DISCARD", 1, 1, .wo, .live, 0, [], false⟩,
    ⟨"COMMIT", 0, 0, .wo, .live, 0, [], false⟩]⟩,
  ⟨"TICK_STAGE", 0x000B0024, 1, 0, 1, 0, [
    ⟨"RESULT_END", 22, 22, .roh, .none, 0, [], false⟩,
    ⟨"RESULT_STRING", 21, 16, .roh, .none, 0, [], false⟩,
    ⟨"RESULT", 15, 8, .roh, .none, 0, [], false⟩,
    ⟨"PENDING", 4, 4, .roh, .none, 0, [], false⟩,
    ⟨"STAGED", 3, 0, .roh, .none, 0, [], false⟩]⟩,
  ⟨"TICK_LAND_LO", 0x000B0028, 1, 0, 1, 0, [
    ⟨"LAND", 31, 0, .roh, .none, 0, [], false⟩]⟩,
  ⟨"TICK_LAND_HI", 0x000B002C, 1, 0, 1, 0, [
    ⟨"LAND", 31, 0, .roh, .none, 0, [], false⟩]⟩] ++ [
  ⟨"TICK_CNT_LO", 0x000B0030, 1, 0, 1, 0, [
    ⟨"COUNT", 31, 0, .roh, .none, 0, [], false⟩]⟩,
  ⟨"TICK_CNT_HI", 0x000B0034, 1, 0, 1, 0, [
    ⟨"COUNT", 31, 0, .roh, .none, 0, [], false⟩]⟩,
  ⟨"TICK_START", 0x000B0038, 1, 0, 1, 0, [
    ⟨"START", 31, 0, .roh, .none, 0, [], false⟩]⟩,
  ⟨"COMPUTE_SCHEDULE", 0x000B0040, 1, 0, 1, 0, [
    ⟨"CYCLES", 15, 0, .ro, .none, 0, [], true⟩]⟩,
  ⟨"COMPUTE_WINDOW", 0x000B0044, 1, 0, 1, 0, [
    ⟨"CYCLES", 15, 0, .roh, .none, 0, [], false⟩]⟩,
  ⟨"BUDGET_STATUS", 0x000B0048, 1, 0, 1, 0, [
    ⟨"CELL", 22, 16, .roh, .none, 0, [], false⟩,
    ⟨"END", 14, 14, .roh, .none, 0, [], false⟩,
    ⟨"STRING", 13, 8, .roh, .none, 0, [], false⟩,
    ⟨"CODE", 7, 0, .roh, .none, 0, [], false⟩]⟩,
  ⟨"BUDGET_MARGIN_C", 0x000B004C, 1, 0, 1, 0, [
    ⟨"MARGIN", 15, 0, .roh, .none, 0, [], false⟩]⟩,
  ⟨"BUDGET_MARGIN_O", 0x000B0050, 1, 0, 1, 0, [
    ⟨"MARGIN", 15, 0, .roh, .none, 0, [], false⟩]⟩,
  ⟨"BUDGET_MARGIN_U", 0x000B0054, 1, 0, 1, 0, [
    ⟨"MARGIN", 15, 0, .roh, .none, 0, [], false⟩]⟩,
  ⟨"OVERRUN_CNT", 0x000B0058, 1, 0, 1, 0, [
    ⟨"COUNT", 31, 0, .roh, .none, 0, [], false⟩]⟩,
  ⟨"OVERRUN_STATUS", 0x000B005C, 1, 0, 1, 0, [
    ⟨"OVERRUN_CLR", 31, 31, .wo, .any, 0, [], false⟩,
    ⟨"LATE_MAX", 30, 16, .roh, .none, 0, [], false⟩,
    ⟨"LAST_ACTION", 4, 4, .roh, .none, 0, [], false⟩,
    ⟨"CONSEC", 1, 0, .roh, .none, 0, [], false⟩]⟩]

/-- The registers of 02_serial_lanes.md R67, R68. -/
def regTable_lane : List RegDesc := [
  ⟨"LANE_CTRL", 0x00020000, 72, 256, 1, 0, [
    ⟨"STN_TRAIN", 20, 20, .rw, .cfg, 0, [], true⟩,
    ⟨"STN_FEC", 19, 18, .rw, .cfg, 0, [(0, 2)], true⟩,
    ⟨"STN_RATE", 17, 17, .rw, .cfg, 0, [], true⟩,
    ⟨"RETRAIN", 16, 16, .wo, .any, 0, [], false⟩,
    ⟨"BIT_SLIP", 15, 15, .wo, .any, 0, [], false⟩,
    ⟨"ALIGN_MODE", 14, 14, .rw, .any, 0, [], false⟩,
    ⟨"RX_PWR_REQ", 13, 12, .rw, .any, 0, [(0, 2)], false⟩,
    ⟨"TX_PWR_REQ", 11, 10, .rw, .any, 0, [(0, 2)], false⟩,
    ⟨"PRESET", 9, 7, .rw, .cfg, 0, [], true⟩,
    ⟨"TAP_MODE", 6, 6, .rw, .cfg, 0, [], true⟩,
    ⟨"LOS_THR", 5, 4, .rw, .cfg, 0, [], true⟩,
    ⟨"TX_INVERT", 3, 3, .rw, .cfg, 0, [], true⟩,
    ⟨"GEN_MAX", 2, 1, .rw, .cfg, 0, [(1, 3)], true⟩,
    ⟨"ENABLE", 0, 0, .rw, .cfg, 0, [], true⟩]⟩,
  ⟨"LANE_STATUS", 0x00020004, 72, 256, 1, 0, [
    ⟨"FAIL_REASON", 19, 16, .roh, .none, 0, [], false⟩,
    ⟨"RX_PWR", 15, 14, .roh, .none, 0, [], false⟩,
    ⟨"TX_PWR", 13, 12, .roh, .none, 0, [], false⟩,
    ⟨"RX_INVERTED", 11, 11, .roh, .none, 0, [], false⟩,
    ⟨"LEGACY", 10, 10, .roh, .none, 0, [], false⟩,
    ⟨"HI_ERR", 9, 9, .roh, .none, 0, [], false⟩,
    ⟨"BLOCK_LOCK", 8, 8, .roh, .none, 0, [], false⟩,
    ⟨"LOL", 7, 7, .roh, .none, 0, [], false⟩,
    ⟨"LOS", 6, 6, .roh, .none, 1, [], false⟩,
    ⟨"GEN", 5, 4, .roh, .none, 0, [], false⟩,
    ⟨"STATE", 3, 0, .roh, .none, 0, [], false⟩]⟩,
  ⟨"LANE_TAPS", 0x00020008, 72, 256, 1, 0, [
    ⟨"C_POST", 28, 24, .roh, .none, 0, [], false⟩,
    ⟨"C_MAIN", 21, 16, .roh, .none, 0, [], false⟩,
    ⟨"C_PRE", 11, 8, .roh, .none, 0, [], false⟩,
    ⟨"FAR_REQ_CAPABLE", 4, 4, .roh, .none, 0, [], false⟩,
    ⟨"FAR_GEN_CAP", 3, 0, .roh, .none, 0, [], false⟩]⟩,
  ⟨"LANE_SYNC_ERR_CNT", 0x00020010, 72, 256, 1, 0, [
    ⟨"COUNT", 31, 0, .roh, .none, 0, [], false⟩]⟩,
  ⟨"LANE_EVT_CNT", 0x00020014, 72, 256, 1, 0, [
    ⟨"LOL_CNT", 31, 16, .roh, .none, 0, [], false⟩,
    ⟨"LOS_CNT", 15, 0, .roh, .none, 0, [], false⟩]⟩,
  ⟨"LANE_EVT_CNT2", 0x00020018, 72, 256, 1, 0, [
    ⟨"POL_FLIPS", 31, 24, .roh, .none, 0, [], false⟩,
    ⟨"RETRAIN_CNT", 23, 16, .roh, .none, 0, [], false⟩,
    ⟨"LOCK_LOSS_CNT", 15, 0, .roh, .none, 0, [], false⟩]⟩,
  ⟨"LANE_CNT_CLR", 0x0002001C, 72, 256, 1, 0, [
    ⟨"CNT_CLR", 0, 0, .wo, .any, 0, [], false⟩]⟩,
  ⟨"LANE_EVENT", 0x00020020, 72, 256, 1, 0, [
    ⟨"REFUSED_SEEN", 5, 5, .w1c, .any, 0, [], false⟩,
    ⟨"POL_FLIP_SEEN", 4, 4, .w1c, .any, 0, [], false⟩,
    ⟨"FALLBACK_SEEN", 3, 3, .w1c, .any, 0, [], false⟩,
    ⟨"LOCK_LOSS_SEEN", 2, 2, .w1c, .any, 0, [], false⟩,
    ⟨"LOL_SEEN", 1, 1, .w1c, .any, 0, [], false⟩,
    ⟨"LOS_SEEN", 0, 0, .w1c, .any, 0, [], false⟩]⟩,
  ⟨"LANE_COMMON", 0x00024800, 1, 0, 1, 0, [
    ⟨"LANE_RETRY", 11, 2, .rw, .cfg, 0, [(1, 1000)], true⟩,
    ⟨"REFCLK_1_LOSS", 1, 1, .roh, .none, 0, [], false⟩,
    ⟨"REFCLK_0_LOSS", 0, 0, .roh, .none, 0, [], false⟩]⟩,
  ⟨"BOND_STATUS", 0x00024804, 1, 0, 1, 0, [
    ⟨"FAULT_CNT", 31, 16, .roh, .none, 0, [], false⟩,
    ⟨"SKEW", 15, 8, .roh, .none, 0, [], false⟩,
    ⟨"REVERSED", 5, 5, .roh, .none, 0, [], false⟩,
    ⟨"PAIR", 4, 3, .roh, .none, 0, [], false⟩,
    ⟨"WIDTH", 2, 1, .roh, .none, 0, [], false⟩,
    ⟨"FORMED", 0, 0, .roh, .none, 0, [], false⟩]⟩]

/-- The registers of 03_cell_link_protocol.md R102, R103. -/
def regTable_link : List RegDesc := [
  ⟨"LINK_STR_STATUS", 0x00040000, 64, 256, 1, 0, [
    ⟨"OTHER_END_SEEN", 7, 7, .roh, .none, 0, [], false⟩,
    ⟨"SCHED_LATE", 6, 6, .roh, .none, 0, [], false⟩,
    ⟨"HOP0_VER", 5, 4, .roh, .none, 0, [], false⟩,
    ⟨"STR_VER", 3, 2, .roh, .none, 0, [], false⟩]⟩,
  ⟨"LINK_REPORT_END", 0x00040004, 64, 256, 1, 0, [
    ⟨"END", 15, 0, .roh, .none, 0, [], false⟩]⟩,
  ⟨"LINK_CRC_CNT", 0x00040008, 64, 256, 1, 0, [
    ⟨"COUNT", 31, 0, .roh, .none, 0, [], false⟩]⟩,
  ⟨"LINK_NAK_CNT", 0x0004000C, 64, 256, 1, 0, [
    ⟨"NAK_TX", 31, 16, .roh, .none, 0, [], false⟩,
    ⟨"NAK_RX", 15, 0, .roh, .none, 0, [], false⟩]⟩,
  ⟨"LINK_RESEND_CNT", 0x00040010, 64, 256, 1, 0, [
    ⟨"RESENT", 31, 16, .roh, .none, 0, [], false⟩,
    ⟨"NO_COPY", 15, 8, .roh, .none, 0, [], false⟩,
    ⟨"NAK_BAD", 7, 0, .roh, .none, 0, [], false⟩]⟩,
  ⟨"LINK_DROP_CNT", 0x00040014, 64, 256, 1, 0, [
    ⟨"UNKNOWN", 31, 24, .roh, .none, 0, [], false⟩,
    ⟨"STRAY", 23, 16, .roh, .none, 0, [], false⟩,
    ⟨"FWD_BAD_RX", 15, 8, .roh, .none, 0, [], false⟩,
    ⟨"ABANDONED", 7, 0, .roh, .none, 0, [], false⟩]⟩,
  ⟨"LINK_LATE_CNT", 0x00040018, 64, 256, 1, 0, [
    ⟨"LATE_RX", 31, 16, .roh, .none, 0, [], false⟩,
    ⟨"TIMEOUT", 15, 0, .roh, .none, 0, [], false⟩]⟩,
  ⟨"LINK_FAULT_CNT", 0x0004001C, 64, 256, 1, 0, [
    ⟨"FAULT_OK", 31, 16, .roh, .none, 0, [], false⟩,
    ⟨"FAULT_BAD", 15, 8, .roh, .none, 0, [], false⟩,
    ⟨"HUSK_RX", 7, 0, .roh, .none, 0, [], false⟩]⟩,
  ⟨"LINK_CNT_CLR", 0x00040020, 64, 256, 1, 0, [
    ⟨"CNT_CLR", 0, 0, .wo, .any, 0, [], false⟩]⟩,
  ⟨"LINK_CTRL", 0x00044000, 1, 0, 1, 0, [
    ⟨"ORDER_TIMEOUT", 16, 12, .rw, .cfg, 0, [(2, 16)], true⟩,
    ⟨"REPLY_WAIT", 11, 4, .rw, .cfg, 0, [(2, 255)], true⟩,
    ⟨"REQ_TRIES", 3, 2, .rw, .cfg, 0, [(1, 3)], true⟩,
    ⟨"RESEND_EN", 0, 0, .rw, .cfg, 0, [], true⟩]⟩]

/-- The registers of 05_strings_and_catalogue.md R137, R144, R145. -/
def regTable_catalogue : List RegDesc := [
  ⟨"CAT_ENTRY_W0", 0x00060000, 6144, 16, 1, 0, [
    ⟨"STRING", 31, 26, .ro, .none, 0, [], true⟩,
    ⟨"POSITION", 25, 19, .ro, .none, 0, [], true⟩,
    ⟨"ARM", 18, 15, .ro, .none, 0, [], true⟩,
    ⟨"KIND", 14, 14, .ro, .none, 0, [], true⟩,
    ⟨"BYPASS", 13, 13, .ro, .none, 0, [], true⟩,
    ⟨"VER_SUP", 12, 10, .roh, .none, 0, [], false⟩,
    ⟨"GEN_TO_A", 9, 8, .roh, .none, 0, [], false⟩,
    ⟨"GEN_TO_B", 7, 6, .roh, .none, 0, [], false⟩,
    ⟨"REACH_A", 5, 5, .roh, .none, 0, [], false⟩,
    ⟨"REACH_B", 4, 4, .roh, .none, 0, [], false⟩]⟩,
  ⟨"CAT_ENTRY_W1", 0x00060004, 6144, 16, 1, 0, [
    ⟨"CAP", 31, 16, .roh, .none, 0, [], false⟩,
    ⟨"VNOM", 15, 0, .roh, .none, 0, [], false⟩]⟩,
  ⟨"CAT_ENTRY_W2", 0x00060008, 6144, 16, 1, 0, [
    ⟨"HEALTH", 31, 30, .roh, .none, 0, [], false⟩,
    ⟨"REASON", 29, 25, .roh, .none, 0, [], false⟩,
    ⟨"SVC", 24, 22, .roh, .none, 0, [], false⟩,
    ⟨"BLANK_CNT", 21, 16, .roh, .none, 0, [], false⟩,
    ⟨"ID_TAG", 15, 0, .roh, .none, 0, [], false⟩]⟩,
  ⟨"CAT_ENTRY_W3", 0x0006000C, 6144, 16, 1, 0, [
    ⟨"WEAR", 31, 0, .rw, .any, 0, [], false⟩]⟩,
  ⟨"CAT_STR_REACH", 0x00078000, 64, 16, 1, 0, [
    ⟨"CODE", 27, 24, .roh, .none, 0, [], false⟩,
    ⟨"BREAK_VALID", 23, 23, .roh, .none, 0, [], false⟩,
    ⟨"BREAK_AT", 22, 16, .roh, .none, 0, [], false⟩,
    ⟨"REACH_B", 15, 8, .roh, .none, 0, [], false⟩,
    ⟨"REACH_A", 7, 0, .roh, .none, 0, [], false⟩]⟩,
  ⟨"CAT_STR_LAT", 0x00078004, 64, 16, 1, 0, [
    ⟨"MAX_B", 31, 16, .roh, .none, 0, [], false⟩,
    ⟨"MAX_A", 15, 0, .roh, .none, 0, [], false⟩]⟩,
  ⟨"CAT_STR_LAT_UP", 0x00078008, 64, 16, 1, 0, [
    ⟨"MAX_B", 31, 16, .roh, .none, 0, [], false⟩,
    ⟨"MAX_A", 15, 0, .roh, .none, 0, [], false⟩]⟩,
  ⟨"CAT_STR_INFO", 0x0007800C, 64, 16, 1, 0, [
    ⟨"GEN_DECL", 28, 27, .ro, .none, 0, [], true⟩,
    ⟨"GEN_SLOW", 26, 25, .roh, .none, 0, [], false⟩,
    ⟨"ARM", 24, 21, .ro, .none, 0, [], true⟩,
    ⟨"DECLARED", 20, 13, .ro, .none, 0, [], true⟩,
    ⟨"BASE", 12, 0, .ro, .none, 0, [], true⟩]⟩,
  ⟨"CAT_CTRL", 0x00078400, 1, 0, 1, 0, [
    ⟨"DISC_PERIOD", 23, 12, .rw, .cfg, 0, [(10, 4000)], true⟩,
    ⟨"DISC_WAIT", 11, 8, .rw, .cfg, 0, [(1, 15)], true⟩,
    ⟨"DISC_TRIES", 7, 4, .rw, .cfg, 0, [(2, 15)], true⟩,
    ⟨"CNT_CLR", 1, 1, .wo, .any, 0, [], false⟩,
    ⟨"REDISCOVER", 0, 0, .wo, .any, 0, [], false⟩]⟩,
  ⟨"CAT_CTRL2", 0x00078404, 1, 0, 1, 0, [
    ⟨"ADMIT_RETRY", 31, 16, .rw, .cfg, 0, [(100, 60000)], true⟩,
    ⟨"REMEAS_PERIOD", 15, 0, .rw, .cfg, 0, [(100, 60000)], true⟩]⟩,
  ⟨"CAT_LAT_SEL", 0x00078408, 1, 0, 1, 0, [
    ⟨"DIR", 13, 13, .rw, .any, 0, [], false⟩,
    ⟨"INDEX", 12, 0, .rw, .any, 0, [], false⟩]⟩,
  ⟨"CAT_LAT_DATA_A", 0x0007840C, 1, 0, 1, 0, [
    ⟨"LAT", 19, 0, .roh, .none, 0, [], false⟩]⟩] ++ [
  ⟨"CAT_LAT_DATA_B", 0x00078410, 1, 0, 1, 0, [
    ⟨"LAT", 19, 0, .roh, .none, 0, [], false⟩]⟩,
  ⟨"CAT_COUNTS", 0x00078414, 1, 0, 1, 0, [
    ⟨"EXCL_CNT", 31, 16, .roh, .none, 0, [], false⟩,
    ⟨"ADMIT_CNT", 15, 0, .roh, .none, 0, [], false⟩]⟩,
  ⟨"CAT_ARM", 0x00078440, 16, 4, 1, 0, [
    ⟨"MIN_CELLS", 25, 16, .rw, .cfg, 0, [(1, 768)], true⟩,
    ⟨"AVAIL", 9, 0, .roh, .none, 0, [], false⟩]⟩]

/-- The registers of 06_measurement_inputs.md R165, R166. -/
def regTable_measure : List RegDesc := [
  ⟨"MCH_CTRL", 0x00510000, 24, 32, 1, 0, [
    ⟨"ENABLE", 31, 31, .rw, .cfg, 0, [], true⟩,
    ⟨"SOURCE", 30, 30, .rw, .cfg, 0, [], true⟩,
    ⟨"RANGE", 29, 28, .rw, .cfg, 0, [(0, 2)], true⟩,
    ⟨"SV_STREAM", 27, 25, .rw, .cfg, 0, [], true⟩,
    ⟨"SV_VALUE", 24, 22, .rw, .cfg, 0, [], true⟩,
    ⟨"CMP_EN_HI", 21, 21, .rw, .cfg, 0, [], true⟩,
    ⟨"CMP_EN_LO", 20, 20, .rw, .cfg, 0, [], true⟩,
    ⟨"DEB", 19, 17, .rw, .cfg, 0, [], true⟩,
    ⟨"SIG_INDEX", 11, 0, .rw, .cfg, 0, [], true⟩]⟩,
  ⟨"MCH_SCALE", 0x00510004, 24, 32, 1, 0, [
    ⟨"VALUE", 31, 0, .rw, .cfg, 0, [], true⟩]⟩,
  ⟨"MCH_OFFSET", 0x00510008, 24, 32, 1, 0, [
    ⟨"VALUE", 31, 0, .rw, .cfg, 0, [], true⟩]⟩,
  ⟨"MCH_CAL", 0x0051000C, 24, 32, 1, 0, [
    ⟨"GAIN", 31, 16, .roh, .none, 32768, [], false⟩,
    ⟨"OFS", 15, 0, .roh, .none, 0, [], false⟩]⟩,
  ⟨"MCH_CMP", 0x00510010, 24, 32, 1, 0, [
    ⟨"HI", 31, 16, .rw, .cfg, 0, [], true⟩,
    ⟨"LO", 15, 0, .rw, .cfg, 0, [], true⟩]⟩,
  ⟨"MCH_STATUS", 0x00510014, 24, 32, 1, 0, [
    ⟨"BAD_1024", 20, 10, .roh, .none, 1024, [], false⟩,
    ⟨"CMP_SEEN_HI", 9, 9, .w1c, .any, 0, [], false⟩,
    ⟨"CMP_SEEN_LO", 8, 8, .w1c, .any, 0, [], false⟩,
    ⟨"VALID", 4, 4, .roh, .none, 0, [], false⟩,
    ⟨"CAUSE", 3, 0, .roh, .none, 2, [], false⟩]⟩,
  ⟨"MCH_TICK_VALUE", 0x00510018, 24, 32, 1, 0, [
    ⟨"VALUE", 31, 0, .roh, .none, 0, [], false⟩]⟩,
  ⟨"MCH_SNAP_VALUE", 0x0051001C, 24, 32, 1, 0, [
    ⟨"VALUE", 31, 0, .roh, .none, 0, [], false⟩]⟩,
  ⟨"ADC_CTRL", 0x00510400, 1, 0, 1, 0, [
    ⟨"URGENT", 7, 7, .wo, .any, 0, [], false⟩,
    ⟨"CAL_START", 6, 6, .wo, .any, 0, [], false⟩,
    ⟨"CNT_CLR", 5, 5, .wo, .any, 0, [], false⟩,
    ⟨"ADC_MODE", 4, 4, .rw, .cfg, 0, [], true⟩,
    ⟨"OSR", 1, 0, .rw, .cfg, 0, [(0, 2)], true⟩]⟩,
  ⟨"ADC_STATUS", 0x00510404, 1, 0, 1, 0, [
    ⟨"CAL_TEMP", 31, 24, .roh, .none, 0, [], false⟩,
    ⟨"DIE_TEMP", 23, 16, .roh, .none, 0, [], false⟩,
    ⟨"CAL_STALE", 3, 3, .roh, .none, 0, [], false⟩,
    ⟨"CAL_REFUSED", 2, 2, .w1c, .any, 0, [], false⟩,
    ⟨"CAL_STATE", 1, 0, .roh, .none, 0, [], false⟩]⟩,
  ⟨"ADC_DROP_CNT", 0x00510408, 1, 0, 1, 0, [
    ⟨"COUNT", 31, 0, .roh, .none, 0, [], false⟩]⟩,
  ⟨"ADC_URGENT_CNT", 0x0051040C, 1, 0, 1, 0, [
    ⟨"COUNT", 31, 0, .roh, .none, 0, [], false⟩]⟩] ++ [
  ⟨"SV_CTRL", 0x00510800, 8, 32, 1, 0, [
    ⟨"ENABLE", 31, 31, .rw, .cfg, 0, [], true⟩,
    ⟨"MODE", 30, 30, .rw, .cfg, 0, [], true⟩,
    ⟨"REQ_SYNC", 29, 29, .rw, .cfg, 0, [], true⟩,
    ⟨"ACCEPT_TEST", 28, 28, .rw, .cfg, 0, [], true⟩,
    ⟨"PORT", 27, 26, .rw, .cfg, 0, [], true⟩,
    ⟨"ANY_PORT", 25, 25, .rw, .cfg, 0, [], true⟩,
    ⟨"NVALUES", 24, 22, .rw, .cfg, 0, [], true⟩,
    ⟨"RATE", 21, 20, .rw, .cfg, 0, [(0, 1)], true⟩,
    ⟨"APPID", 15, 0, .rw, .cfg, 0, [], true⟩]⟩,
  ⟨"SV_MATCH", 0x00510804, 8, 32, 1, 0, [
    ⟨"SVID_CRC", 31, 16, .rw, .cfg, 0, [], true⟩,
    ⟨"CONF_REV", 15, 0, .rw, .cfg, 0, [], true⟩]⟩,
  ⟨"SV_DELAY", 0x00510808, 8, 32, 1, 0, [
    ⟨"DELAY", 19, 0, .rw, .live, 0, [], true⟩]⟩,
  ⟨"SV_RX_CNT", 0x0051080C, 8, 32, 1, 0, [
    ⟨"RX", 31, 0, .roh, .none, 0, [], false⟩]⟩,
  ⟨"SV_ERR_CNT", 0x00510810, 8, 32, 1, 0, [
    ⟨"MISS", 31, 16, .roh, .none, 0, [], false⟩,
    ⟨"QUAL", 15, 8, .roh, .none, 0, [], false⟩,
    ⟨"REJECT", 7, 0, .roh, .none, 0, [], false⟩]⟩]

/-- The registers of 07_observer_and_energy_ledger.md R185 to R187. -/
def regTable_observer : List RegDesc := [
  ⟨"OBS_CELL_W0", 0x00080000, 6144, 16, 1, 0, [
    ⟨"V_HAT", 31, 0, .roh, .none, 0, [], false⟩]⟩,
  ⟨"OBS_CELL_W1", 0x00080004, 6144, 16, 1, 0, [
    ⟨"VCAP", 31, 16, .roh, .none, 0, [], false⟩,
    ⟨"RES", 15, 0, .roh, .none, 0, [], false⟩]⟩,
  ⟨"OBS_CELL_W2", 0x00080008, 6144, 16, 1, 0, [
    ⟨"GRADE", 31, 30, .roh, .none, 0, [], false⟩,
    ⟨"CAUSE", 29, 27, .roh, .none, 6, [], false⟩,
    ⟨"INIT", 26, 26, .roh, .none, 0, [], false⟩,
    ⟨"FROZEN", 25, 25, .roh, .none, 0, [], false⟩,
    ⟨"MISS_CNT", 24, 18, .roh, .none, 0, [], false⟩,
    ⟨"EXC_CNT", 17, 10, .roh, .none, 0, [], false⟩,
    ⟨"FRZ_CNT", 9, 5, .roh, .none, 0, [], false⟩]⟩,
  ⟨"OBS_CELL_W3", 0x0008000C, 6144, 16, 1, 0, [
    ⟨"ENERGY", 31, 0, .roh, .none, 0, [], false⟩]⟩,
  ⟨"OBS_ARM_C", 0x00098000, 16, 32, 1, 0, [
    ⟨"C_NOM", 31, 0, .rw, .cfg, 0, [], true⟩]⟩,
  ⟨"OBS_ARM_LEAK", 0x00098004, 16, 32, 1, 0, [
    ⟨"LEAK_TAU", 31, 0, .rw, .cfg, 0, [], true⟩]⟩,
  ⟨"OBS_ARM_CTRL", 0x00098008, 16, 32, 1, 0, [
    ⟨"I_SIG", 31, 20, .rw, .cfg, 0, [], true⟩,
    ⟨"LEG", 19, 17, .rw, .cfg, 0, [], true⟩,
    ⟨"SIDE", 16, 16, .rw, .cfg, 0, [], true⟩,
    ⟨"CONV", 15, 14, .rw, .cfg, 0, [], true⟩,
    ⟨"SUB_FRAC", 13, 5, .rw, .live, 0, [(0, 256)], true⟩]⟩,
  ⟨"OBS_ARM_GAIN", 0x0009800C, 16, 32, 1, 0, [
    ⟨"OBS_GAIN", 31, 0, .rw, .live, 0, [(0, 1065353216), (2147483648, 2147483648)], true⟩]⟩,
  ⟨"OBS_ARM_STATUS", 0x00098010, 16, 32, 1, 0, [
    ⟨"SUBST", 25, 16, .roh, .none, 0, [], false⟩,
    ⟨"LEDGER_VALID", 15, 15, .roh, .none, 0, [], false⟩,
    ⟨"N_INIT", 9, 0, .roh, .none, 0, [], false⟩]⟩,
  ⟨"OBS_CTRL", 0x00098400, 1, 0, 1, 0, [
    ⟨"RES_LIM", 31, 16, .rw, .live, 0, [(1, 65535)], true⟩,
    ⟨"RES_COUNT", 15, 10, .rw, .live, 0, [(1, 63)], true⟩,
    ⟨"MISS_MAX", 9, 3, .rw, .live, 0, [(1, 64)], true⟩]⟩,
  ⟨"OBS_CTRL2", 0x00098404, 1, 0, 1, 0, [
    ⟨"FREEZE_TICKS", 31, 27, .rw, .cfg, 0, [(2, 31)], true⟩,
    ⟨"FREEZE_MIN", 26, 19, .rw, .cfg, 0, [(1, 255)], true⟩,
    ⟨"BLANK_WT", 18, 15, .rw, .cfg, 0, [], true⟩]⟩,
  ⟨"OBS_CTRL3", 0x00098408, 1, 0, 1, 0, [
    ⟨"RECOVER_TICKS", 31, 16, .rw, .cfg, 0, [(64, 65535)], true⟩,
    ⟨"LEDGER_BASE", 11, 0, .rw, .cfg, 0, [(0, 4011)], true⟩]⟩] ++ [
  ⟨"OBS_CMD", 0x0009840C, 1, 0, 1, 0, [
    ⟨"CNT_CLR", 0, 0, .wo, .any, 0, [], false⟩]⟩,
  ⟨"OBS_PROBE", 0x00098410, 1, 0, 1, 0, [
    ⟨"INDEX", 12, 0, .rw, .any, 0, [], false⟩]⟩,
  ⟨"OBS_PROBE_DATA", 0x00098414, 1, 0, 1, 0, [
    ⟨"FROZEN_VCAP", 31, 16, .roh, .none, 0, [], false⟩,
    ⟨"GOOD_RUN", 15, 0, .roh, .none, 0, [], false⟩]⟩,
  ⟨"OBS_SUBST_CNT", 0x00098420, 1, 0, 1, 0, [
    ⟨"COUNT", 31, 0, .roh, .none, 0, [], false⟩]⟩,
  ⟨"OBS_LATE_CNT", 0x00098424, 1, 0, 1, 0, [
    ⟨"COUNT", 31, 0, .roh, .none, 0, [], false⟩]⟩,
  ⟨"OBS_DISAGREE_CNT", 0x00098428, 1, 0, 1, 0, [
    ⟨"COUNT", 31, 0, .roh, .none, 0, [], false⟩]⟩,
  ⟨"OBS_EVT_CNT", 0x0009842C, 1, 0, 1, 0, [
    ⟨"FROZEN", 31, 16, .roh, .none, 0, [], false⟩,
    ⟨"MISMATCH", 15, 0, .roh, .none, 0, [], false⟩]⟩,
  ⟨"OBS_EXCL_CNT", 0x00098430, 1, 0, 1, 0, [
    ⟨"MISSING", 31, 16, .roh, .none, 0, [], false⟩,
    ⟨"FAILED", 15, 0, .roh, .none, 0, [], false⟩]⟩]

/-- The registers of 08_selection_engine.md R208 to R210. -/
def regTable_select : List RegDesc := [
  ⟨"SEL_ARM_SIG", 0x000A0000, 16, 64, 1, 0, [
    ⟨"SLOPE_SIG", 23, 12, .rw, .cfg, 0, [], true⟩,
    ⟨"REF_SIG", 11, 0, .rw, .cfg, 0, [], true⟩]⟩,
  ⟨"SEL_ARM_CTRL", 0x000A0004, 16, 64, 1, 0, [
    ⟨"SW_MAX", 31, 24, .rw, .live, 0, [(2, 255)], true⟩,
    ⟨"PIP_HOLD", 23, 16, .rw, .live, 0, [(1, 255)], true⟩,
    ⟨"SWAP_BAND", 15, 0, .rw, .live, 0, [], true⟩]⟩,
  ⟨"SEL_ARM_CTRL2", 0x000A0008, 16, 64, 1, 0, [
    ⟨"COMM_WAIT", 31, 16, .rw, .live, 0, [(1, 65535)], true⟩,
    ⟨"DIR_LEAD", 9, 0, .rw, .live, 0, [], true⟩]⟩,
  ⟨"SEL_ARM_DEAD", 0x000A000C, 16, 64, 1, 0, [
    ⟨"I_DEAD", 15, 0, .rw, .live, 0, [], true⟩]⟩,
  ⟨"SEL_ARM_STATUS", 0x000A0010, 16, 64, 1, 0, [
    ⟨"ACTIVE", 31, 31, .roh, .none, 0, [], false⟩,
    ⟨"DIR", 30, 30, .roh, .none, 0, [], false⟩,
    ⟨"IN_DEAD", 29, 29, .roh, .none, 0, [], false⟩,
    ⟨"COMM", 28, 28, .roh, .none, 0, [], false⟩,
    ⟨"SAT", 27, 27, .roh, .none, 0, [], false⟩,
    ⟨"PIP_VALID", 26, 26, .roh, .none, 0, [], false⟩,
    ⟨"PIP_SIGN", 25, 25, .roh, .none, 0, [], false⟩,
    ⟨"LEVEL", 24, 14, .roh, .none, 0, [], false⟩,
    ⟨"N_MASK", 9, 0, .roh, .none, 0, [], false⟩]⟩,
  ⟨"SEL_ARM_PIP", 0x000A0014, 16, 64, 1, 0, [
    ⟨"PIP_INDEX", 31, 19, .roh, .none, 0, [], false⟩,
    ⟨"PIP_AGE", 18, 11, .roh, .none, 0, [], false⟩,
    ⟨"PIP_PTR", 9, 0, .roh, .none, 0, [], false⟩]⟩,
  ⟨"SEL_ARM_DUTY", 0x000A0018, 16, 64, 1, 0, [
    ⟨"VALUE", 31, 0, .roh, .none, 0, [], false⟩]⟩,
  ⟨"SEL_ARM_VMEAN", 0x000A001C, 16, 64, 1, 0, [
    ⟨"VALUE", 31, 0, .roh, .none, 0, [], false⟩]⟩,
  ⟨"SEL_ARM_US", 0x000A0020, 16, 64, 1, 0, [
    ⟨"VALUE", 31, 0, .roh, .none, 0, [], false⟩]⟩,
  ⟨"SEL_ARM_UE", 0x000A0024, 16, 64, 1, 0, [
    ⟨"VALUE", 31, 0, .roh, .none, 0, [], false⟩]⟩,
  ⟨"SEL_ARM_SWAP_CNT", 0x000A0028, 16, 64, 1, 0, [
    ⟨"COUNT", 31, 0, .roh, .none, 0, [], false⟩]⟩,
  ⟨"SEL_ARM_EVT_CNT", 0x000A002C, 16, 64, 1, 0, [
    ⟨"BUDGET_CUT", 31, 16, .roh, .none, 0, [], false⟩,
    ⟨"SAT_CNT", 15, 8, .roh, .none, 0, [], false⟩,
    ⟨"PIP_NONE", 7, 0, .roh, .none, 0, [], false⟩]⟩] ++ [
  ⟨"SEL_ARM_EVT_CNT2", 0x000A0030, 16, 64, 1, 0, [
    ⟨"COMM_CNT", 31, 16, .roh, .none, 0, [], false⟩,
    ⟨"REF_INVALID", 15, 8, .roh, .none, 0, [], false⟩,
    ⟨"WAIT_EXPIRED", 7, 0, .roh, .none, 0, [], false⟩]⟩,
  ⟨"SEL_ARM_PEND", 0x000A0034, 16, 64, 1, 0, [
    ⟨"WAIT", 31, 16, .roh, .none, 0, [], false⟩,
    ⟨"PENDING", 9, 0, .roh, .none, 0, [], false⟩]⟩,
  ⟨"SEL_CMD", 0x000A0400, 1, 0, 1, 0, [
    ⟨"CNT_CLR", 0, 0, .wo, .any, 0, [], false⟩]⟩,
  ⟨"SEL_SCHEDULE", 0x000A0404, 1, 0, 1, 0, [
    ⟨"CYCLES", 15, 0, .ro, .none, 0, [], true⟩]⟩,
  ⟨"SEL_CELL", 0x000A1000, 6144, 4, 1, 0, [
    ⟨"ROLE", 31, 30, .roh, .none, 0, [], false⟩,
    ⟨"SIGN", 29, 29, .roh, .none, 0, [], false⟩,
    ⟨"CHANGED", 28, 28, .roh, .none, 0, [], false⟩,
    ⟨"RANK", 25, 16, .roh, .none, 0, [], false⟩,
    ⟨"END_STATE", 2, 0, .roh, .none, 3, [], false⟩]⟩]

/-- The registers of 09_edge_planner.md R235, R236. -/
def regTable_edge : List RegDesc := [
  ⟨"EDGE_ARM_CTRL", 0x000B0400, 16, 32, 1, 0, [
    ⟨"CARRY_MAX", 31, 16, .rw, .live, 0, [], true⟩,
    ⟨"DT_COMP", 0, 0, .rw, .cfg, 0, [], true⟩]⟩,
  ⟨"EDGE_ARM_CARRY", 0x000B0404, 16, 32, 1, 0, [
    ⟨"CARRY", 31, 0, .roh, .none, 0, [], false⟩]⟩,
  ⟨"EDGE_ARM_STATUS", 0x000B0408, 16, 32, 1, 0, [
    ⟨"WIDTH", 31, 19, .roh, .none, 0, [], false⟩,
    ⟨"LONG_PIP", 18, 18, .roh, .none, 0, [], false⟩,
    ⟨"FROZEN", 17, 17, .roh, .none, 0, [], false⟩,
    ⟨"HALT_HUSK", 16, 16, .roh, .none, 0, [], false⟩,
    ⟨"SWAPS", 15, 8, .roh, .none, 0, [], false⟩,
    ⟨"CHANGES", 7, 0, .roh, .none, 0, [], false⟩]⟩,
  ⟨"EDGE_ARM_CNT", 0x000B040C, 16, 32, 1, 0, [
    ⟨"DWELL_MOVE", 31, 16, .roh, .none, 0, [], false⟩,
    ⟨"DROP", 15, 0, .roh, .none, 0, [], false⟩]⟩,
  ⟨"EDGE_ARM_CNT2", 0x000B0410, 16, 32, 1, 0, [
    ⟨"CARRY_CLIP", 31, 16, .roh, .none, 0, [], false⟩,
    ⟨"PIP_SKIP", 15, 8, .roh, .none, 0, [], false⟩,
    ⟨"CROSS_SUB", 7, 0, .roh, .none, 0, [], false⟩]⟩,
  ⟨"EDGE_CTRL", 0x000B0100, 1, 0, 1, 0, [
    ⟨"MIN_DWELL", 13, 0, .rw, .live, 0, [(0, 10000)], true⟩]⟩,
  ⟨"EDGE_HALT", 0x000B0104, 1, 0, 1, 0, [
    ⟨"HALT_REQ", 31, 31, .wo, .cfg, 0, [], false⟩,
    ⟨"RESUME", 30, 30, .wo, .cfg, 0, [], false⟩,
    ⟨"HALTED", 29, 29, .roh, .none, 0, [], false⟩,
    ⟨"HALT_REFUSED", 28, 28, .w1c, .any, 0, [], false⟩,
    ⟨"LVTEST", 27, 27, .roh, .none, 0, [], false⟩,
    ⟨"FREEZE_ACTIVE", 15, 0, .roh, .none, 0, [], false⟩]⟩,
  ⟨"EDGE_FREEZE", 0x000B0108, 1, 0, 1, 0, [
    ⟨"HALT_FREEZE", 15, 0, .rw, .cfg, 0, [], true⟩]⟩,
  ⟨"EDGE_CMD", 0x000B010C, 1, 0, 1, 0, [
    ⟨"CNT_CLR", 0, 0, .wo, .any, 0, [], false⟩]⟩,
  ⟨"EDGE_SCHEDULE", 0x000B0110, 1, 0, 1, 0, [
    ⟨"CYCLES", 15, 0, .ro, .none, 0, [], true⟩]⟩]

/-- The registers of 10_loop_engine.md R271 to R273. -/
def regTable_loop : List RegDesc := [
  ⟨"CTX_CTRL", 0x000C0000, 192, 512, 1, 0, [
    ⟨"MODE", 31, 30, .rw, .live, 0, [(0, 2)], true⟩,
    ⟨"FAULT_ACTION", 29, 28, .rw, .cfg, 0, [(0, 2)], true⟩,
    ⟨"RUN_COND", 27, 27, .rw, .cfg, 0, [], true⟩,
    ⟨"FALLBACK", 25, 18, .rw, .cfg, 0, [(0, 191), (255, 255)], true⟩,
    ⟨"CMP_CTX", 17, 10, .rw, .cfg, 0, [(0, 191), (255, 255)], true⟩,
    ⟨"ORDER", 9, 2, .rw, .cfg, 0, [(0, 191)], true⟩]⟩,
  ⟨"CTX_SCHED", 0x000C0004, 192, 512, 1, 0, [
    ⟨"DIVIDER", 30, 24, .rw, .cfg, 0, [(1, 64)], true⟩,
    ⟨"PHASE", 21, 16, .rw, .cfg, 0, [], true⟩,
    ⟨"COST", 15, 0, .roh, .none, 0, [], false⟩]⟩,
  ⟨"CTX_COEF", 0x000C0008, 192, 512, 1, 0, [
    ⟨"BASE", 31, 16, .rw, .cfg, 0, [], true⟩,
    ⟨"LENGTH", 15, 0, .rw, .cfg, 0, [], true⟩]⟩,
  ⟨"CTX_ARMS", 0x000C000C, 192, 512, 1, 0, [
    ⟨"ARM_MASK", 15, 0, .rw, .cfg, 0, [], true⟩]⟩,
  ⟨"CTX_LIMITS", 0x000C0010, 192, 512, 1, 0, [
    ⟨"LOST_MAX", 31, 24, .rw, .live, 0, [(0, 254)], true⟩,
    ⟨"FRZ_RUNS", 23, 16, .rw, .live, 0, [(0, 0), (2, 255)], true⟩,
    ⟨"CMP_WIN", 15, 0, .rw, .live, 0, [(1, 65535)], true⟩]⟩,
  ⟨"CTX_FRZ_MIN", 0x000C0014, 192, 512, 1, 0, [
    ⟨"FRZ_MIN", 31, 0, .rw, .live, 0, [], true⟩]⟩,
  ⟨"CTX_STATUS", 0x000C0018, 192, 512, 1, 0, [
    ⟨"FAULTED", 31, 31, .roh, .none, 0, [], false⟩,
    ⟨"CAUSE", 30, 28, .roh, .none, 0, [], false⟩,
    ⟨"FE_OUT", 27, 24, .roh, .none, 0, [], false⟩,
    ⟨"SEALED", 23, 23, .roh, .none, 0, [], false⟩,
    ⟨"PERIOD_MISMATCH", 22, 22, .roh, .none, 0, [], false⟩,
    ⟨"RAN", 21, 21, .roh, .none, 0, [], false⟩,
    ⟨"SKIPPED", 20, 20, .roh, .none, 0, [], false⟩,
    ⟨"LOST_CNT", 15, 8, .roh, .none, 0, [], false⟩]⟩,
  ⟨"CTX_INPUTS", 0x000C001C, 192, 512, 1, 0, [
    ⟨"FROZEN_IN", 31, 16, .roh, .none, 0, [], false⟩,
    ⟨"INVALID_IN", 15, 0, .roh, .none, 0, [], false⟩]⟩,
  ⟨"CTX_RUN_CNT", 0x000C0020, 192, 512, 1, 0, [
    ⟨"COUNT", 31, 0, .roh, .none, 0, [], false⟩]⟩,
  ⟨"CTX_EVT_CNT", 0x000C0024, 192, 512, 1, 0, [
    ⟨"FAULT_CNT", 31, 24, .roh, .none, 0, [], false⟩,
    ⟨"MISSED_RUN", 23, 16, .roh, .none, 0, [], false⟩,
    ⟨"SHADOW_SKIP", 15, 8, .roh, .none, 0, [], false⟩,
    ⟨"ECC_CORR", 7, 0, .roh, .none, 0, [], false⟩]⟩,
  ⟨"CTX_CMP_MAX", 0x000C0028, 192, 512, 1, 0, [
    ⟨"VALUE", 31, 0, .roh, .none, 0, [], false⟩]⟩,
  ⟨"CTX_CMP_RMS", 0x000C002C, 192, 512, 1, 0, [
    ⟨"VALUE", 31, 0, .roh, .none, 0, [], false⟩]⟩] ++ [
  ⟨"CTX_CMD", 0x000C0030, 192, 512, 1, 0, [
    ⟨"INJ_START", 4, 4, .wo, .live, 0, [], false⟩,
    ⟨"INJ_STOP", 3, 3, .wo, .live, 0, [], false⟩,
    ⟨"SEAL", 2, 2, .wo, .cfg, 0, [], false⟩,
    ⟨"FAULT_RESET", 1, 1, .wo, .live, 0, [], false⟩,
    ⟨"CNT_CLR", 0, 0, .wo, .any, 0, [], false⟩]⟩,
  ⟨"CTX_IN", 0x000C0040, 192, 512, 8, 4, [
    ⟨"INDEX_ODD", 27, 16, .rw, .cfg, 0, [], true⟩,
    ⟨"INDEX_EVEN", 11, 0, .rw, .cfg, 0, [], true⟩]⟩,
  ⟨"CTX_OUT", 0x000C0060, 192, 512, 8, 4, [
    ⟨"INDEX_ODD", 27, 16, .rw, .cfg, 0, [], true⟩,
    ⟨"INDEX_EVEN", 11, 0, .rw, .cfg, 0, [], true⟩]⟩,
  ⟨"CTX_FF", 0x000C0080, 192, 512, 4, 4, [
    ⟨"INDEX_ODD", 27, 16, .rw, .cfg, 0, [], true⟩,
    ⟨"INDEX_EVEN", 11, 0, .rw, .cfg, 0, [], true⟩]⟩,
  ⟨"CTX_FE_SIG", 0x000C0090, 192, 512, 8, 4, [
    ⟨"INDEX_ODD", 27, 16, .rw, .cfg, 0, [], true⟩,
    ⟨"INDEX_EVEN", 11, 0, .rw, .cfg, 0, [], true⟩]⟩,
  ⟨"CTX_INJ_CTRL", 0x000C00B0, 192, 512, 1, 0, [
    ⟨"TYPE", 31, 29, .rw, .live, 0, [], true⟩,
    ⟨"INJ_POINT", 28, 28, .rw, .live, 0, [], true⟩,
    ⟨"INJ_INDEX", 27, 24, .rw, .live, 0, [], true⟩,
    ⟨"PRBS_HOLD", 23, 16, .rw, .live, 0, [(1, 255)], true⟩,
    ⟨"DURATION", 15, 0, .rw, .live, 0, [(1, 65535)], true⟩]⟩,
  ⟨"CTX_INJ_AMP", 0x000C00B4, 192, 512, 1, 0, [
    ⟨"VALUE", 31, 0, .rw, .live, 0, [], true⟩]⟩,
  ⟨"CTX_INJ_F0", 0x000C00B8, 192, 512, 1, 0, [
    ⟨"VALUE", 31, 0, .rw, .live, 0, [], true⟩]⟩,
  ⟨"CTX_INJ_F1", 0x000C00BC, 192, 512, 1, 0, [
    ⟨"VALUE", 31, 0, .rw, .live, 0, [], true⟩]⟩,
  ⟨"CTX_INJ_STATUS", 0x000C00C0, 192, 512, 1, 0, [
    ⟨"STATE", 31, 30, .roh, .none, 0, [], false⟩,
    ⟨"END", 29, 28, .roh, .none, 0, [], false⟩,
    ⟨"ALREADY_DONE", 27, 27, .w1c, .any, 0, [], false⟩,
    ⟨"POSITION", 15, 0, .roh, .none, 0, [], false⟩]⟩,
  ⟨"CTX_FE_LIM", 0x000C0100, 192, 512, 16, 4, [
    ⟨"FE_LIM", 31, 0, .rw, .live, 0, [], true⟩]⟩,
  ⟨"CTX_FE_TIME", 0x000C0140, 192, 512, 4, 4, [
    ⟨"FE_TIME_3", 31, 24, .rw, .live, 0, [], true⟩,
    ⟨"FE_TIME_2", 23, 16, .rw, .live, 0, [], true⟩,
    ⟨"FE_TIME_1", 15, 8, .rw, .live, 0, [], true⟩,
    ⟨"FE_TIME_0", 7, 0, .rw, .live, 0, [], true⟩]⟩] ++ [
  ⟨"LOOP_CTRL", 0x000D8000, 1, 0, 1, 0, [
    ⟨"SCRUB_RATE", 10, 0, .rw, .cfg, 0, [(0, 1024)], true⟩]⟩,
  ⟨"LOOP_STATUS", 0x000D8004, 1, 0, 1, 0, [
    ⟨"STAGE", 31, 16, .ro, .none, 0, [], true⟩,
    ⟨"USED", 15, 0, .roh, .none, 0, [], false⟩]⟩,
  ⟨"LOOP_ECC_CNT", 0x000D8008, 1, 0, 1, 0, [
    ⟨"CORRECTED", 31, 16, .roh, .none, 0, [], false⟩,
    ⟨"UNCORRECTED", 15, 0, .roh, .none, 0, [], false⟩]⟩,
  ⟨"LOOP_SCRUB", 0x000D800C, 1, 0, 1, 0, [
    ⟨"CTX", 31, 24, .roh, .none, 0, [], false⟩,
    ⟨"MISMATCH", 23, 16, .roh, .none, 0, [], false⟩,
    ⟨"PASSES", 15, 0, .roh, .none, 0, [], false⟩]⟩,
  ⟨"LOOP_CMD", 0x000D8010, 1, 0, 1, 0, [
    ⟨"CNT_CLR", 0, 0, .wo, .any, 0, [], false⟩]⟩,
  ⟨"SIG_VALUE", 0x00500000, 4096, 4, 1, 0, [
    ⟨"VALUE", 31, 0, .rw, .cfg, 0, [], true⟩]⟩,
  ⟨"SIG_VALID", 0x00504000, 128, 4, 1, 0, [
    ⟨"VALID", 31, 0, .roh, .none, 0, [], false⟩]⟩,
  ⟨"SIG_PROD", 0x00508000, 4096, 4, 1, 0, [
    ⟨"KIND", 31, 28, .roh, .none, 0, [], true⟩,
    ⟨"SOURCE", 7, 0, .roh, .none, 0, [], true⟩]⟩]

/-- The registers of 11_twin_operation.md R311, R312. -/
def regTable_twin : List RegDesc := [
  ⟨"TWIN_CTRL", 0x00520000, 1, 0, 1, 0, [
    ⟨"PAIR_WAIT", 31, 24, .rw, .cfg, 0, [(1, 255)], true⟩,
    ⟨"HB_MISS", 23, 20, .rw, .cfg, 0, [(1, 8)], true⟩,
    ⟨"PART_CONFIRM", 19, 16, .rw, .cfg, 0, [(1, 15)], true⟩,
    ⟨"REDISC_AFTER", 15, 12, .rw, .cfg, 0, [(1, 15)], true⟩,
    ⟨"SKEW_LIM", 11, 4, .rw, .cfg, 0, [(1, 255)], true⟩,
    ⟨"TWIN_EN", 0, 0, .rw, .cfg, 0, [], true⟩]⟩,
  ⟨"TWIN_CTRL2", 0x00520004, 1, 0, 1, 0, [
    ⟨"REJOIN_MAX", 31, 16, .rw, .cfg, 0, [(10, 65535)], true⟩,
    ⟨"REJOIN_RETRY", 15, 0, .rw, .cfg, 0, [(10, 65535)], true⟩]⟩,
  ⟨"TWIN_CMD", 0x00520008, 1, 0, 1, 0, [
    ⟨"CNT_CLR", 2, 2, .wo, .any, 0, [], false⟩,
    ⟨"WITHDRAW", 1, 1, .wo, .any, 0, [], false⟩,
    ⟨"REJOIN_NOW", 0, 0, .wo, .any, 0, [], false⟩]⟩,
  ⟨"TWIN_STATUS", 0x0052000C, 1, 0, 1, 0, [
    ⟨"MODE", 31, 29, .roh, .none, 0, [], false⟩,
    ⟨"ROLE", 28, 28, .roh, .none, 0, [], false⟩,
    ⟨"PEER_MODE", 27, 25, .roh, .none, 0, [], false⟩,
    ⟨"PEER_SEEN", 24, 24, .roh, .none, 0, [], false⟩,
    ⟨"WIDTH", 23, 22, .roh, .none, 0, [], false⟩,
    ⟨"FAIL_REASON", 21, 18, .roh, .none, 0, [], false⟩,
    ⟨"LAST_CAUSE", 17, 14, .roh, .none, 0, [], false⟩,
    ⟨"HEAD_LOST", 13, 13, .roh, .none, 0, [], false⟩,
    ⟨"MIXED", 12, 12, .roh, .none, 0, [], false⟩]⟩,
  ⟨"TWIN_LINK", 0x00520010, 1, 0, 1, 0, [
    ⟨"XLAT", 31, 16, .roh, .none, 0, [], false⟩,
    ⟨"SKEW", 15, 0, .roh, .none, 0, [], false⟩]⟩,
  ⟨"TWIN_MODE_TICK_LO", 0x00520014, 1, 0, 1, 0, [
    ⟨"TICK", 31, 0, .roh, .none, 0, [], false⟩]⟩,
  ⟨"TWIN_MODE_TICK_HI", 0x00520018, 1, 0, 1, 0, [
    ⟨"TICK", 31, 0, .roh, .none, 0, [], false⟩]⟩,
  ⟨"TWIN_DIGEST", 0x0052001C, 1, 0, 1, 0, [
    ⟨"DIGEST", 31, 0, .roh, .none, 0, [], false⟩]⟩,
  ⟨"TWIN_PEER_DIGEST", 0x00520020, 1, 0, 1, 0, [
    ⟨"DIGEST", 31, 0, .roh, .none, 0, [], false⟩]⟩,
  ⟨"TWIN_HB_CNT", 0x00520024, 1, 0, 1, 0, [
    ⟨"HB_LOST", 31, 16, .roh, .none, 0, [], false⟩,
    ⟨"HB_MISSED", 15, 0, .roh, .none, 0, [], false⟩]⟩,
  ⟨"TWIN_AGREE_CNT", 0x00520028, 1, 0, 1, 0, [
    ⟨"STR_DIS", 31, 16, .roh, .none, 0, [], false⟩,
    ⟨"AGREE_MISS", 15, 8, .roh, .none, 0, [], false⟩,
    ⟨"RELAY_CUT", 7, 0, .roh, .none, 0, [], false⟩]⟩,
  ⟨"TWIN_DIV_CNT", 0x0052002C, 1, 0, 1, 0, [
    ⟨"DIVERGE", 31, 24, .roh, .none, 0, [], false⟩,
    ⟨"WITHDRAWN", 23, 16, .roh, .none, 0, [], false⟩,
    ⟨"REJOINED", 15, 8, .roh, .none, 0, [], false⟩,
    ⟨"REJOIN_FAIL", 7, 0, .roh, .none, 0, [], false⟩]⟩] ++ [
  ⟨"TWIN_ADC_CNT", 0x00520030, 1, 0, 1, 0, [
    ⟨"ADC_DIS", 31, 16, .roh, .none, 0, [], false⟩,
    ⟨"ADC_MISS", 15, 0, .roh, .none, 0, [], false⟩]⟩,
  ⟨"TWIN_XL_CNT", 0x00520034, 1, 0, 1, 0, [
    ⟨"XL_CRC", 31, 16, .roh, .none, 0, [], false⟩,
    ⟨"LATE_CHG", 15, 8, .roh, .none, 0, [], false⟩,
    ⟨"LAG", 7, 0, .roh, .none, 0, [], false⟩]⟩,
  ⟨"TWIN_REJOIN", 0x00520038, 1, 0, 1, 0, [
    ⟨"LOG_TICKS", 31, 18, .roh, .none, 0, [], false⟩,
    ⟨"LOG_MAX", 17, 4, .roh, .none, 0, [], false⟩,
    ⟨"PHASE", 1, 0, .roh, .none, 0, [], false⟩]⟩,
  ⟨"TWIN_SNAP_BYTES", 0x0052003C, 1, 0, 1, 0, [
    ⟨"BYTES", 31, 0, .roh, .none, 0, [], false⟩]⟩,
  ⟨"TWIN_STR", 0x00520100, 64, 4, 1, 0, [
    ⟨"DIS_CNT", 31, 16, .roh, .none, 0, [], false⟩,
    ⟨"DIS_LAST", 15, 15, .roh, .none, 0, [], false⟩,
    ⟨"CUT_LAST", 14, 14, .roh, .none, 0, [], false⟩,
    ⟨"RUN", 13, 8, .roh, .none, 0, [], false⟩,
    ⟨"ODD_CNT", 7, 0, .roh, .none, 0, [], false⟩]⟩,
  ⟨"TWIN_ADC_TOL", 0x00520200, 24, 8, 1, 0, [
    ⟨"AGREE_TOL", 31, 0, .rw, .live, 0, [], true⟩]⟩,
  ⟨"TWIN_ADC_STAT", 0x00520204, 24, 8, 1, 0, [
    ⟨"DIS_CNT", 31, 16, .roh, .none, 0, [], false⟩,
    ⟨"DISAGREE", 15, 15, .roh, .none, 0, [], false⟩,
    ⟨"PEER_VALID", 14, 14, .roh, .none, 0, [], false⟩,
    ⟨"PEER_BAD_1024", 10, 0, .roh, .none, 0, [], false⟩]⟩]

/-- The registers of 12_station_orders_and_telemetry.md R330. -/
def regTable_station : List RegDesc := [
  ⟨"STN_PORT_CTRL", 0x00530000, 4, 64, 1, 0, [
    ⟨"SESS_EN", 31, 31, .rw, .cfg, 0, [], true⟩,
    ⟨"TAG_EN", 30, 30, .rw, .cfg, 0, [], true⟩,
    ⟨"BCAST", 29, 29, .rw, .cfg, 0, [], true⟩,
    ⟨"PCP", 28, 26, .rw, .cfg, 0, [], true⟩,
    ⟨"VID", 11, 0, .rw, .cfg, 0, [], true⟩]⟩,
  ⟨"STN_PORT_IP", 0x00530004, 4, 64, 1, 0, [
    ⟨"IPV4", 31, 0, .rw, .cfg, 0, [], true⟩]⟩,
  ⟨"STN_PORT_MAC_HI", 0x00530008, 4, 64, 1, 0, [
    ⟨"MAC_47_32", 15, 0, .ro, .none, 0, [], true⟩]⟩,
  ⟨"STN_PORT_MAC_LO", 0x0053000C, 4, 64, 1, 0, [
    ⟨"MAC_31_0", 31, 0, .ro, .none, 0, [], true⟩]⟩,
  ⟨"STN_PORT_CNT", 0x00530010, 4, 64, 1, 0, [
    ⟨"RX_DROP", 31, 16, .roh, .none, 0, [], false⟩,
    ⟨"MSG_BAD", 15, 8, .roh, .none, 0, [], false⟩,
    ⟨"PAUSE_TX", 7, 0, .roh, .none, 0, [], false⟩]⟩,
  ⟨"STN_SESS_STATUS", 0x00530400, 4, 32, 1, 0, [
    ⟨"TAG", 31, 16, .roh, .none, 0, [], false⟩,
    ⟨"VER", 15, 14, .roh, .none, 0, [], false⟩,
    ⟨"HOME", 13, 13, .roh, .none, 0, [], false⟩,
    ⟨"CREDIT", 12, 0, .roh, .none, 0, [], false⟩]⟩,
  ⟨"STN_SESS_EXP_LO", 0x00530404, 4, 32, 1, 0, [
    ⟨"VALUE", 31, 0, .roh, .none, 0, [], false⟩]⟩,
  ⟨"STN_SESS_EXP_HI", 0x00530408, 4, 32, 1, 0, [
    ⟨"VALUE", 31, 0, .roh, .none, 0, [], false⟩]⟩,
  ⟨"STN_SESS_APPL_LO", 0x0053040C, 4, 32, 1, 0, [
    ⟨"VALUE", 31, 0, .roh, .none, 0, [], false⟩]⟩,
  ⟨"STN_SESS_APPL_HI", 0x00530410, 4, 32, 1, 0, [
    ⟨"VALUE", 31, 0, .roh, .none, 0, [], false⟩]⟩,
  ⟨"STN_SESS_CNT", 0x00530414, 4, 32, 1, 0, [
    ⟨"GAP_CNT", 31, 24, .roh, .none, 0, [], false⟩,
    ⟨"DUP_CNT", 23, 16, .roh, .none, 0, [], false⟩,
    ⟨"OVER_CNT", 15, 8, .roh, .none, 0, [], false⟩,
    ⟨"LATE_ACCEPT", 7, 0, .roh, .none, 0, [], false⟩]⟩,
  ⟨"STN_CTRL", 0x00530800, 1, 0, 1, 0, [
    ⟨"ORDER_PORT", 31, 16, .rw, .cfg, 0, [], true⟩,
    ⟨"SESS_TIMEOUT", 15, 8, .rw, .cfg, 0, [(1, 255)], true⟩,
    ⟨"BEACON_MS", 7, 0, .rw, .cfg, 0, [(1, 255)], true⟩]⟩] ++ [
  ⟨"STN_CTRL2", 0x00530804, 1, 0, 1, 0, [
    ⟨"CNT_CLR", 31, 31, .wo, .any, 0, [], false⟩,
    ⟨"REPLAY", 23, 16, .roh, .none, 0, [], false⟩,
    ⟨"PAUSE_QUANTA", 15, 0, .rw, .cfg, 0, [], true⟩]⟩,
  ⟨"STN_AUTH_CNT", 0x00530808, 1, 0, 1, 0, [
    ⟨"AUTH_FAIL", 31, 0, .roh, .none, 0, [], false⟩]⟩]

/-- The registers of 13_time.md R347. -/
def regTable_time : List RegDesc := [
  ⟨"TIME_LO", 0x00540000, 1, 0, 1, 0, [
    ⟨"TIME_FRAC", 31, 16, .roh, .none, 0, [], false⟩]⟩,
  ⟨"TIME_HI", 0x00540004, 1, 0, 1, 0, [
    ⟨"TIME_NS", 31, 0, .roh, .none, 0, [], false⟩]⟩,
  ⟨"TIME_INC_LO", 0x00540008, 1, 0, 1, 0, [
    ⟨"INC_LO", 31, 0, .rw, .any, 0, [], false⟩]⟩,
  ⟨"TIME_INC_HI", 0x0054000C, 1, 0, 1, 0, [
    ⟨"INC_HI", 7, 0, .rw, .any, 2, [], false⟩]⟩,
  ⟨"TIME_STEP", 0x00540010, 1, 0, 1, 0, [
    ⟨"VALUE", 31, 0, .wo, .any, 0, [], false⟩]⟩,
  ⟨"TIME_SET", 0x00540014, 1, 0, 1, 0, [
    ⟨"VALUE", 31, 0, .wo, .any, 0, [], false⟩]⟩,
  ⟨"TIME_EXT_SEC_LO", 0x00540018, 1, 0, 1, 0, [
    ⟨"SEC_LO", 31, 0, .roh, .none, 0, [], false⟩]⟩,
  ⟨"TIME_EXT_SEC_HI", 0x0054001C, 1, 0, 1, 0, [
    ⟨"SEC_HI", 15, 0, .roh, .none, 0, [], false⟩]⟩,
  ⟨"TIME_EXT_NS", 0x00540020, 1, 0, 1, 0, [
    ⟨"NS", 29, 0, .roh, .none, 0, [], false⟩]⟩,
  ⟨"TIME_SERVO", 0x00540024, 1, 0, 1, 0, [
    ⟨"SOURCE", 31, 30, .rw, .cfg, 0, [], true⟩,
    ⟨"KP_SHIFT", 29, 25, .rw, .cfg, 0, [], true⟩,
    ⟨"KI_SHIFT", 24, 20, .rw, .cfg, 0, [], true⟩,
    ⟨"LOCK_CNT", 19, 12, .rw, .cfg, 0, [(1, 255)], true⟩,
    ⟨"LOCK_NS", 11, 0, .rw, .cfg, 0, [(1, 4095)], true⟩]⟩,
  ⟨"TIME_SERVO2", 0x00540028, 1, 0, 1, 0, [
    ⟨"STEP_THR", 31, 16, .rw, .cfg, 0, [(1, 65535)], true⟩,
    ⟨"HOLD_MS", 15, 0, .rw, .cfg, 0, [(1, 65535)], true⟩]⟩,
  ⟨"TIME_STATUS", 0x0054002C, 1, 0, 1, 0, [
    ⟨"CNT_CLR", 7, 7, .wo, .any, 0, [], false⟩,
    ⟨"EXT_VALID", 6, 6, .roh, .none, 0, [], false⟩,
    ⟨"STEP_PENDING", 5, 5, .roh, .none, 0, [], false⟩,
    ⟨"STEP_REFUSED", 4, 4, .w1c, .any, 0, [], false⟩,
    ⟨"INC_REFUSED", 3, 3, .w1c, .any, 0, [], false⟩,
    ⟨"STATE", 2, 0, .roh, .none, 0, [], false⟩]⟩] ++ [
  ⟨"TIME_OFFSET", 0x00540030, 1, 0, 1, 0, [
    ⟨"OFFSET", 31, 0, .roh, .none, 0, [], false⟩]⟩,
  ⟨"TIME_CNT", 0x00540034, 1, 0, 1, 0, [
    ⟨"STEPS", 31, 16, .roh, .none, 0, [], false⟩,
    ⟨"LOCK_LOSS", 15, 8, .roh, .none, 0, [], false⟩,
    ⟨"PPS_GLITCH", 7, 0, .roh, .none, 0, [], false⟩]⟩,
  ⟨"PPS_CTRL", 0x00540038, 1, 0, 1, 0, [
    ⟨"PPS_OUT_EN", 31, 31, .rw, .cfg, 0, [], true⟩,
    ⟨"PPS_WIDTH", 15, 0, .rw, .cfg, 0, [(1, 65535)], true⟩]⟩,
  ⟨"PPS_STAMP_LO", 0x0054003C, 1, 0, 1, 0, [
    ⟨"STAMP", 31, 0, .roh, .none, 0, [], false⟩]⟩,
  ⟨"PPS_STAMP_HI", 0x00540040, 1, 0, 1, 0, [
    ⟨"STAMP", 31, 0, .roh, .none, 0, [], false⟩]⟩,
  ⟨"PTP_PORT", 0x00540100, 4, 16, 1, 0, [
    ⟨"ROLE", 31, 30, .rw, .cfg, 0, [(0, 2)], true⟩,
    ⟨"TRANSPORT", 29, 29, .rw, .cfg, 0, [], true⟩,
    ⟨"ONE_STEP", 28, 28, .rw, .cfg, 0, [], true⟩,
    ⟨"LOG_SYNC", 27, 24, .rw, .cfg, 0, [], true⟩,
    ⟨"DOMAIN", 23, 16, .rw, .cfg, 0, [], true⟩,
    ⟨"RX_EVT", 15, 0, .roh, .none, 0, [], false⟩]⟩,
  ⟨"TIME_STR_CTRL", 0x00540200, 1, 0, 1, 0, [
    ⟨"SYNC_TICKS", 31, 16, .rw, .cfg, 0, [(1, 65535)], true⟩,
    ⟨"MEAS_TICKS", 15, 8, .rw, .cfg, 0, [(16, 255)], true⟩]⟩,
  ⟨"TIME_STR_FLAGS", 0x00540204, 1, 0, 1, 0, [
    ⟨"LAT_DRIFT", 31, 0, .roh, .none, 0, [], false⟩]⟩,
  ⟨"TIME_STR_FLAGS2", 0x00540208, 1, 0, 1, 0, [
    ⟨"LAT_DRIFT", 31, 0, .roh, .none, 0, [], false⟩]⟩,
  ⟨"TIME_STR_DITHER", 0x0054020C, 1, 0, 1, 0, [
    ⟨"NO_DITHER", 31, 0, .roh, .none, 0, [], false⟩]⟩,
  ⟨"TIME_STR_DITHER2", 0x00540210, 1, 0, 1, 0, [
    ⟨"NO_DITHER", 31, 0, .roh, .none, 0, [], false⟩]⟩]

/-- The registers of 14_fault_recording.md R374 to R378. -/
def regTable_record : List RegDesc := [
  ⟨"REC_CTRL", 0x00550000, 1, 0, 1, 0, [
    ⟨"CNT_CLR", 0, 0, .wo, .any, 0, [], false⟩]⟩,
  ⟨"REC_CMD", 0x00550004, 1, 0, 1, 0, [
    ⟨"OP", 31, 28, .wo, .any, 0, [], false⟩,
    ⟨"UNIT", 23, 16, .wo, .any, 0, [], false⟩,
    ⟨"ARG", 15, 0, .wo, .any, 0, [], false⟩]⟩,
  ⟨"REC_STATUS", 0x00550008, 1, 0, 1, 0, [
    ⟨"FROZEN", 31, 31, .roh, .none, 0, [], false⟩,
    ⟨"FREEZE_REQ", 30, 30, .roh, .none, 0, [], false⟩,
    ⟨"WIPE_DONE", 29, 29, .roh, .none, 0, [], false⟩,
    ⟨"MEM_PRESENT", 28, 28, .roh, .none, 0, [], false⟩,
    ⟨"FREE_DIR", 27, 22, .roh, .none, 0, [], false⟩,
    ⟨"STAGING_KIB", 12, 0, .roh, .none, 0, [], false⟩]⟩,
  ⟨"REC_ECC", 0x0055000C, 1, 0, 1, 0, [
    ⟨"UNCORR", 31, 16, .roh, .none, 0, [], false⟩,
    ⟨"CORR", 15, 0, .roh, .none, 0, [], false⟩]⟩,
  ⟨"REC_ECC_ADDR", 0x00550010, 1, 0, 1, 0, [
    ⟨"ADDR", 31, 0, .roh, .none, 0, [], false⟩]⟩,
  ⟨"REC_COND_SEL", 0x00550100, 32, 4, 1, 0, [
    ⟨"SEL_ODD", 31, 16, .rw, .cfg, 0, [], true⟩,
    ⟨"SEL_EVEN", 15, 0, .rw, .cfg, 0, [], true⟩]⟩,
  ⟨"REC_THR_CTRL", 0x00550180, 16, 8, 1, 0, [
    ⟨"ENABLE", 31, 31, .rw, .cfg, 0, [], true⟩,
    ⟨"BELOW", 30, 30, .rw, .cfg, 0, [], true⟩,
    ⟨"SIG_INDEX", 11, 0, .rw, .cfg, 0, [], true⟩]⟩,
  ⟨"REC_THR_LEVEL", 0x00550184, 16, 8, 1, 0, [
    ⟨"LEVEL", 31, 0, .rw, .live, 0, [], true⟩]⟩,
  ⟨"REC_CH", 0x00554000, 8192, 4, 1, 0, [
    ⟨"KIND", 31, 28, .rw, .cfg, 0, [], true⟩,
    ⟨"CAP", 27, 20, .rw, .cfg, 0, [], true⟩,
    ⟨"INDEX", 12, 0, .rw, .cfg, 0, [], true⟩]⟩,
  ⟨"PAT_CTRL", 0x00550400, 8, 32, 1, 0, [
    ⟨"ENABLE", 31, 31, .rw, .live, 0, [], true⟩,
    ⟨"EDGE", 30, 30, .rw, .cfg, 0, [], true⟩,
    ⟨"SNAPSHOT", 27, 27, .rw, .cfg, 0, [], true⟩,
    ⟨"HOLD_MODE", 26, 26, .rw, .cfg, 0, [], true⟩,
    ⟨"TARGET", 25, 18, .rw, .cfg, 0, [], true⟩,
    ⟨"HOLDOFF", 17, 0, .rw, .live, 0, [], true⟩]⟩,
  ⟨"SEQ_CTRL", 0x00550600, 2, 256, 1, 0, [
    ⟨"ENABLE", 31, 31, .rw, .live, 0, [], true⟩,
    ⟨"LAST_STATE", 30, 28, .rw, .cfg, 0, [], true⟩,
    ⟨"SNAPSHOT", 27, 27, .rw, .cfg, 0, [], true⟩,
    ⟨"HOLD_MODE", 26, 26, .rw, .cfg, 0, [], true⟩,
    ⟨"TARGET", 25, 18, .rw, .cfg, 0, [], true⟩,
    ⟨"HOLDOFF", 17, 0, .rw, .live, 0, [], true⟩]⟩,
  ⟨"PAT_MASK_LO", 0x00550404, 8, 32, 1, 0, [
    ⟨"BITS", 31, 0, .rw, .live, 0, [], true⟩]⟩] ++ [
  ⟨"PAT_MASK_HI", 0x00550408, 8, 32, 1, 0, [
    ⟨"BITS", 31, 0, .rw, .live, 0, [], true⟩]⟩,
  ⟨"PAT_VALUE_LO", 0x0055040C, 8, 32, 1, 0, [
    ⟨"BITS", 31, 0, .rw, .live, 0, [], true⟩]⟩,
  ⟨"PAT_VALUE_HI", 0x00550410, 8, 32, 1, 0, [
    ⟨"BITS", 31, 0, .rw, .live, 0, [], true⟩]⟩,
  ⟨"SEQ_S_MASK_LO", 0x00550620, 2, 256, 8, 24, [
    ⟨"BITS", 31, 0, .rw, .live, 0, [], true⟩]⟩,
  ⟨"SEQ_S_MASK_HI", 0x00550624, 2, 256, 8, 24, [
    ⟨"BITS", 31, 0, .rw, .live, 0, [], true⟩]⟩,
  ⟨"SEQ_S_VALUE_LO", 0x00550628, 2, 256, 8, 24, [
    ⟨"BITS", 31, 0, .rw, .live, 0, [], true⟩]⟩,
  ⟨"SEQ_S_VALUE_HI", 0x0055062C, 2, 256, 8, 24, [
    ⟨"BITS", 31, 0, .rw, .live, 0, [], true⟩]⟩,
  ⟨"PAT_CNT", 0x00550414, 8, 32, 1, 0, [
    ⟨"FIRED", 31, 16, .roh, .none, 0, [], false⟩,
    ⟨"SUPPRESSED", 15, 0, .roh, .none, 0, [], false⟩]⟩,
  ⟨"SEQ_CNT", 0x00550608, 2, 256, 1, 0, [
    ⟨"FIRED", 31, 16, .roh, .none, 0, [], false⟩,
    ⟨"SUPPRESSED", 15, 0, .roh, .none, 0, [], false⟩]⟩,
  ⟨"SEQ_STATUS", 0x00550604, 2, 256, 1, 0, [
    ⟨"STATE", 31, 29, .roh, .none, 0, [], false⟩,
    ⟨"IN_HOLDOFF", 28, 28, .roh, .none, 0, [], false⟩,
    ⟨"COUNT", 15, 0, .roh, .none, 0, [], false⟩]⟩,
  ⟨"SEQ_S_COUNT", 0x00550630, 2, 256, 8, 24, [
    ⟨"CONSEC", 31, 31, .rw, .cfg, 0, [], true⟩,
    ⟨"NEXT", 30, 28, .rw, .cfg, 0, [], true⟩,
    ⟨"COUNT_MAX", 15, 0, .rw, .live, 0, [(1, 65535)], true⟩]⟩,
  ⟨"SEQ_S_TIMER", 0x00550634, 2, 256, 8, 24, [
    ⟨"TIMEOUT_NEXT", 31, 29, .rw, .cfg, 0, [], true⟩,
    ⟨"TIMER", 23, 0, .rw, .live, 0, [], true⟩]⟩] ++ [
  ⟨"CAP_CTRL", 0x00550800, 8, 64, 1, 0, [
    ⟨"ENABLE", 31, 31, .rw, .cfg, 0, [], true⟩,
    ⟨"KIND", 30, 29, .rw, .cfg, 0, [(0, 1)], true⟩,
    ⟨"RATE", 28, 28, .rw, .cfg, 0, [], true⟩,
    ⟨"AUTO_ARM", 27, 27, .rw, .cfg, 0, [], true⟩,
    ⟨"COMPRESS", 26, 26, .rw, .cfg, 0, [], true⟩]⟩,
  ⟨"CAP_PRE", 0x00550804, 8, 64, 1, 0, [
    ⟨"ROWS", 23, 0, .rw, .cfg, 0, [], true⟩]⟩,
  ⟨"CAP_POST", 0x00550808, 8, 64, 1, 0, [
    ⟨"ROWS", 23, 0, .rw, .cfg, 0, [(1, 16777215)], true⟩]⟩,
  ⟨"CAP_REGION", 0x0055080C, 8, 64, 1, 0, [
    ⟨"BASE", 31, 16, .rw, .cfg, 0, [(64, 65535)], true⟩,
    ⟨"SIZE", 15, 0, .rw, .cfg, 0, [], true⟩]⟩,
  ⟨"CAP_ROW", 0x00550810, 8, 64, 1, 0, [
    ⟨"ROW_BYTES", 31, 16, .ro, .none, 0, [], true⟩,
    ⟨"N_CH", 15, 0, .ro, .none, 0, [], true⟩]⟩,
  ⟨"CAP_STATUS", 0x00550814, 8, 64, 1, 0, [
    ⟨"STATE", 31, 29, .roh, .none, 0, [], false⟩,
    ⟨"ALREADY_DONE", 28, 28, .w1c, .any, 0, [], false⟩,
    ⟨"DIR", 27, 22, .roh, .none, 0, [], false⟩,
    ⟨"SLOTS", 21, 16, .ro, .none, 0, [], true⟩,
    ⟨"SEGMENTS", 15, 0, .roh, .none, 0, [], false⟩]⟩,
  ⟨"CAP_CNT", 0x00550818, 8, 64, 1, 0, [
    ⟨"MISSED", 31, 16, .roh, .none, 0, [], false⟩,
    ⟨"TRIG_BUSY", 15, 8, .roh, .none, 0, [], false⟩,
    ⟨"NO_SLOT", 7, 0, .roh, .none, 0, [], false⟩]⟩,
  ⟨"CAP_CNT2", 0x0055081C, 8, 64, 1, 0, [
    ⟨"RECORDS", 31, 16, .roh, .none, 0, [], false⟩,
    ⟨"OVF", 15, 0, .roh, .none, 0, [], false⟩]⟩,
  ⟨"DIR_W0", 0x00550C00, 64, 16, 1, 0, [
    ⟨"STATE", 31, 29, .roh, .none, 0, [], false⟩,
    ⟨"KIND", 28, 27, .roh, .none, 0, [], false⟩,
    ⟨"CAPTURE", 26, 19, .roh, .none, 0, [], false⟩,
    ⟨"FLAGS", 18, 10, .roh, .none, 0, [], false⟩]⟩,
  ⟨"DIR_W1", 0x00550C04, 64, 16, 1, 0, [
    ⟨"VALUE", 31, 0, .roh, .none, 0, [], false⟩]⟩,
  ⟨"DIR_W2", 0x00550C08, 64, 16, 1, 0, [
    ⟨"VALUE", 31, 0, .roh, .none, 0, [], false⟩]⟩,
  ⟨"DIR_W3", 0x00550C0C, 64, 16, 1, 0, [
    ⟨"VALUE", 31, 0, .roh, .none, 0, [], false⟩]⟩] ++ [
  ⟨"REC_WIN_SEL", 0x00551000, 1, 0, 1, 0, [
    ⟨"DIR", 31, 26, .wo, .any, 0, [], false⟩,
    ⟨"OFFSET", 25, 0, .wo, .any, 0, [], false⟩]⟩,
  ⟨"REC_WIN_POS", 0x00551004, 1, 0, 1, 0, [
    ⟨"DIR", 31, 26, .roh, .none, 0, [], false⟩,
    ⟨"OFFSET", 25, 0, .roh, .none, 0, [], false⟩]⟩,
  ⟨"REC_WIN", 0x0055C000, 4096, 4, 1, 0, [
    ⟨"DATA", 31, 0, .roh, .none, 0, [], false⟩]⟩]

/-- The registers of 15_protection_and_safety.md R412, R413. -/
def regTable_curator : List RegDesc := [
  ⟨"SAFE_STATUS", 0x00560000, 1, 0, 1, 0, [
    ⟨"SAFE_OK", 31, 31, .roh, .none, 0, [], false⟩,
    ⟨"SBK", 30, 30, .roh, .none, 0, [], false⟩,
    ⟨"HUSK_FORCED", 29, 29, .roh, .none, 0, [], false⟩,
    ⟨"SILENCED", 28, 28, .roh, .none, 0, [], false⟩,
    ⟨"FREEZE", 27, 27, .roh, .none, 0, [], false⟩,
    ⟨"ILP_GRANTED", 26, 26, .roh, .none, 0, [], false⟩,
    ⟨"CONFIRMED", 25, 25, .roh, .none, 0, [], false⟩,
    ⟨"LVTEST", 24, 24, .roh, .none, 0, [], false⟩,
    ⟨"SOP_OUT", 23, 20, .roh, .none, 0, [], false⟩,
    ⟨"CURATOR_FAULT", 19, 16, .roh, .none, 0, [], false⟩,
    ⟨"SBK_CLR_REFUSED", 15, 15, .w1c, .any, 0, [], false⟩,
    ⟨"SBK_CAUSE", 8, 0, .roh, .none, 0, [], false⟩]⟩,
  ⟨"SAFE_CMD", 0x00560004, 1, 0, 1, 0, [
    ⟨"CNT_CLR", 8, 8, .wo, .any, 0, [], false⟩,
    ⟨"SOP_CLR", 7, 4, .wo, .any, 0, [], false⟩,
    ⟨"ILP_DROP", 3, 3, .wo, .any, 0, [], false⟩,
    ⟨"ILP_REQ", 2, 2, .wo, .any, 0, [], false⟩,
    ⟨"SBK_CLR", 1, 1, .wo, .any, 0, [], false⟩,
    ⟨"SBK_REQ", 0, 0, .wo, .any, 0, [], false⟩]⟩,
  ⟨"SAFE_CHECK", 0x00560008, 1, 0, 1, 0, [
    ⟨"CHECK", 31, 0, .roh, .none, 0, [], false⟩]⟩,
  ⟨"SAFE_CONFIRM", 0x0056000C, 1, 0, 1, 0, [
    ⟨"CONFIRM", 31, 0, .rw, .com, 0, [], false⟩]⟩,
  ⟨"TRIP_CFG", 0x00560040, 8, 4, 1, 0, [
    ⟨"ENABLE", 31, 31, .rw, .com, 0, [], true⟩,
    ⟨"ACTIVE_LOW", 30, 30, .rw, .com, 0, [], true⟩,
    ⟨"FILT", 29, 28, .rw, .com, 0, [], true⟩,
    ⟨"ACT_SBK", 27, 27, .rw, .com, 0, [], true⟩,
    ⟨"ACT_ILP", 26, 26, .rw, .com, 0, [], true⟩,
    ⟨"ACT_OUT", 25, 22, .rw, .com, 0, [], true⟩]⟩,
  ⟨"TRIP_STATUS", 0x00560060, 1, 0, 1, 0, [
    ⟨"PAIR_FAULT", 31, 24, .roh, .none, 0, [], false⟩,
    ⟨"CLR_REFUSED", 23, 16, .w1c, .any, 0, [], false⟩,
    ⟨"LATCH", 15, 8, .w1c, .any, 0, [], false⟩,
    ⟨"ACTIVE", 7, 0, .roh, .none, 0, [], false⟩]⟩,
  ⟨"TRIP_OUT_CFG", 0x00560064, 1, 0, 1, 0, [
    ⟨"OUT_0", 3, 1, .rw, .com, 0, [], true⟩,
    ⟨"OUT_1", 7, 5, .rw, .com, 0, [], true⟩,
    ⟨"OUT_2", 11, 9, .rw, .com, 0, [], true⟩,
    ⟨"OUT_3", 15, 13, .rw, .com, 0, [], true⟩]⟩,
  ⟨"FB_CFG", 0x00560080, 8, 4, 1, 0, [
    ⟨"ENABLE", 31, 31, .rw, .com, 0, [], true⟩,
    ⟨"SRC_OUT", 30, 29, .rw, .com, 0, [], true⟩,
    ⟨"INVERT", 28, 28, .rw, .com, 0, [], true⟩,
    ⟨"ACT_SOP", 27, 27, .rw, .com, 0, [], true⟩,
    ⟨"FB_TIME", 9, 0, .rw, .com, 0, [(1, 1000)], true⟩]⟩,
  ⟨"FB_STATUS", 0x005600A0, 1, 0, 1, 0, [
    ⟨"DISCREP", 15, 8, .w1c, .any, 0, [], false⟩,
    ⟨"LEVEL", 7, 0, .roh, .none, 0, [], false⟩]⟩,
  ⟨"FAULT_SCOPE", 0x005600C0, 1, 0, 1, 0, [
    ⟨"SCOPE_0", 2, 0, .rw, .com, 0, [(0, 4)], true⟩,
    ⟨"SCOPE_1", 5, 3, .rw, .com, 0, [(0, 4)], true⟩,
    ⟨"SCOPE_2", 8, 6, .rw, .com, 0, [(0, 4)], true⟩,
    ⟨"SCOPE_3", 11, 9, .rw, .com, 0, [(0, 4)], true⟩,
    ⟨"SCOPE_4", 14, 12, .rw, .com, 0, [(0, 4)], true⟩,
    ⟨"SCOPE_5", 17, 15, .rw, .com, 0, [(0, 4)], true⟩,
    ⟨"SCOPE_6", 20, 18, .rw, .com, 0, [(0, 4)], true⟩,
    ⟨"SCOPE_7", 23, 21, .rw, .com, 0, [(0, 4)], true⟩]⟩,
  ⟨"FAULT_ESC", 0x005600C4, 1, 0, 1, 0, [
    ⟨"ESC_EN", 31, 31, .rw, .com, 0, [], true⟩,
    ⟨"ESC_SCOPE", 30, 28, .rw, .com, 0, [(0, 4)], true⟩]⟩,
  ⟨"CMP_SBK_HI", 0x005600C8, 1, 0, 1, 0, [
    ⟨"MASK", 23, 0, .rw, .com, 0, [], true⟩]⟩] ++ [
  ⟨"CMP_SBK_LO", 0x005600CC, 1, 0, 1, 0, [
    ⟨"MASK", 23, 0, .rw, .com, 0, [], true⟩]⟩,
  ⟨"WD_CFG", 0x005600D0, 1, 0, 1, 0, [
    ⟨"WD_TICKS", 31, 28, .rw, .com, 0, [(2, 15)], true⟩,
    ⟨"FRZ_ON_SBK", 27, 27, .rw, .com, 0, [], true⟩]⟩,
  ⟨"ILP_CFG", 0x005600D4, 1, 0, 1, 0, [
    ⟨"ILP_OUT", 31, 30, .rw, .com, 0, [], true⟩,
    ⟨"ILP_OPEN", 29, 26, .rw, .com, 0, [], true⟩,
    ⟨"ILP_DELAY", 15, 0, .rw, .com, 0, [], true⟩]⟩,
  ⟨"ILP_ENERGY", 0x005600D8, 1, 0, 1, 0, [
    ⟨"LIMIT", 31, 0, .rw, .com, 0, [], true⟩]⟩,
  ⟨"SAFE_CNT", 0x005600E0, 1, 0, 1, 0, [
    ⟨"SBK_CNT", 31, 24, .roh, .none, 0, [], false⟩,
    ⟨"FAULT_RX", 23, 16, .roh, .none, 0, [], false⟩,
    ⟨"HUSK_FORCE", 15, 8, .roh, .none, 0, [], false⟩,
    ⟨"LOG_LOST", 7, 0, .roh, .none, 0, [], false⟩]⟩,
  ⟨"SAFE_LOG_PTR", 0x005600E4, 1, 0, 1, 0, [
    ⟨"NEXT", 3, 0, .roh, .none, 0, [], false⟩]⟩,
  ⟨"SAFE_LOG_W0", 0x00560100, 16, 8, 1, 0, [
    ⟨"TIME_NS", 31, 0, .roh, .none, 0, [], false⟩]⟩,
  ⟨"SAFE_LOG_W1", 0x00560104, 16, 8, 1, 0, [
    ⟨"SOURCE", 31, 29, .roh, .none, 0, [], false⟩,
    ⟨"SCOPE", 28, 26, .roh, .none, 0, [], false⟩,
    ⟨"STRING", 25, 20, .roh, .none, 0, [], false⟩,
    ⟨"POSITION", 19, 13, .roh, .none, 0, [], false⟩,
    ⟨"CODE", 12, 5, .roh, .none, 0, [], false⟩,
    ⟨"FRAC", 4, 0, .roh, .none, 0, [], false⟩]⟩]

/-- The registers of 16_start_up_and_life_cycle.md R435, R436. NVM_CMD.OP 3 and LC_CMD.TARGET 6 and 7, to which
the spec gives no meaning, are out of range (DESIGN CHOICE, log entry 95). -/
def regTable_boot : List RegDesc := [
  ⟨"BOOT_STATUS", 0x00570000, 1, 0, 1, 0, [
    ⟨"READY", 31, 31, .roh, .none, 0, [], false⟩,
    ⟨"STOPPED", 30, 30, .roh, .none, 0, [], false⟩,
    ⟨"STRAP", 29, 28, .roh, .none, 0, [], false⟩,
    ⟨"SLOT", 27, 27, .roh, .none, 0, [], false⟩,
    ⟨"FALLBACK", 26, 26, .roh, .none, 0, [], false⟩,
    ⟨"STEP", 19, 16, .roh, .none, 1, [], false⟩,
    ⟨"CODE", 15, 8, .roh, .none, 0, [], false⟩,
    ⟨"REREAD", 7, 0, .roh, .none, 0, [], false⟩]⟩,
  ⟨"BOOT_IMAGE", 0x00570004, 1, 0, 1, 0, [
    ⟨"SEQ", 31, 0, .roh, .none, 0, [], false⟩]⟩,
  ⟨"BOOT_READY_TIME", 0x00570008, 1, 0, 1, 0, [
    ⟨"TIME", 31, 0, .roh, .none, 0, [], false⟩]⟩,
  ⟨"BOOT_CTRL", 0x0057000C, 1, 0, 1, 0, [
    ⟨"TRAIN_WAIT", 7, 0, .ro, .none, 0, [], true⟩]⟩,
  ⟨"IMAGE_TAG_LO", 0x00570010, 1, 0, 1, 0, [
    ⟨"TAG", 31, 0, .roh, .none, 0, [], false⟩]⟩,
  ⟨"IMAGE_TAG_HI", 0x00570014, 1, 0, 1, 0, [
    ⟨"TAG", 31, 0, .roh, .none, 0, [], false⟩]⟩,
  ⟨"RESET_CAUSE", 0x00570018, 1, 0, 1, 0, [
    ⟨"WARM_CNT", 15, 8, .roh, .none, 0, [], false⟩,
    ⟨"HEAD", 5, 4, .roh, .none, 0, [], false⟩,
    ⟨"CAUSE", 3, 0, .roh, .none, 0, [], false⟩]⟩,
  ⟨"LC_STATE", 0x00570020, 1, 0, 1, 0, [
    ⟨"BURN_LOST", 31, 24, .roh, .none, 0, [], false⟩,
    ⟨"SAFETY_SLOTS", 23, 20, .roh, .none, 0, [], false⟩,
    ⟨"ROWS", 13, 8, .roh, .none, 0, [], false⟩,
    ⟨"KEY_SET", 7, 7, .roh, .none, 0, [], false⟩,
    ⟨"STATE", 2, 0, .roh, .none, 0, [], false⟩]⟩,
  ⟨"LC_CMD", 0x00570024, 1, 0, 1, 0, [
    ⟨"ARM", 31, 31, .wo, .any, 0, [], false⟩,
    ⟨"COMMIT", 30, 30, .wo, .any, 0, [], false⟩,
    ⟨"ARMED", 29, 29, .roh, .none, 0, [], false⟩,
    ⟨"TARGET", 28, 26, .rw, .any, 0, [(0, 5)], false⟩,
    ⟨"LC_RESULT", 7, 4, .roh, .none, 0, [], false⟩,
    ⟨"LC_REFUSED", 3, 3, .w1c, .any, 0, [], false⟩]⟩,
  ⟨"UID_LO", 0x00570028, 1, 0, 1, 0, [
    ⟨"UID", 31, 0, .ro, .none, 0, [], false⟩]⟩,
  ⟨"UID_HI", 0x0057002C, 1, 0, 1, 0, [
    ⟨"UID", 31, 0, .ro, .none, 0, [], false⟩]⟩,
  ⟨"DBG_STATUS", 0x00570030, 1, 0, 1, 0, [
    ⟨"DBG_FAIL", 31, 28, .roh, .none, 0, [], false⟩,
    ⟨"BUSY", 27, 27, .roh, .none, 0, [], false⟩,
    ⟨"LEVEL", 1, 0, .roh, .none, 0, [], false⟩]⟩] ++ [
  ⟨"DBG_CMD", 0x00570034, 1, 0, 1, 0, [
    ⟨"VERIFY", 31, 31, .wo, .none, 0, [], false⟩,
    ⟨"RELOCK", 30, 30, .wo, .none, 0, [], false⟩,
    ⟨"REQ_LEVEL", 1, 0, .wo, .none, 0, [], false⟩]⟩,
  ⟨"DBG_CHAL", 0x00570040, 4, 4, 1, 0, [
    ⟨"CHAL", 31, 0, .roh, .none, 0, [], false⟩]⟩,
  ⟨"DBG_RESP", 0x00570080, 24, 4, 1, 0, [
    ⟨"RESP", 31, 0, .wo, .none, 0, [], false⟩]⟩,
  ⟨"NVM_CMD", 0x00570100, 1, 0, 1, 0, [
    ⟨"OP", 31, 30, .wo, .any, 0, [(0, 2)], false⟩,
    ⟨"BLOCK", 12, 0, .wo, .any, 0, [], false⟩]⟩,
  ⟨"NVM_STATUS", 0x00570104, 1, 0, 1, 0, [
    ⟨"BUSY", 31, 31, .roh, .none, 0, [], false⟩,
    ⟨"NVM_REFUSED", 30, 30, .w1c, .any, 0, [], false⟩]⟩,
  ⟨"NVM_BUF", 0x00571000, 1024, 4, 1, 0, [
    ⟨"DATA", 31, 0, .rw, .any, 0, [], false⟩]⟩]

/-- The registers of 17_integrity_and_check_units.md R450, R451. -/
def regTable_check : List RegDesc := [
  ⟨"INTEG_MEM_CNT", 0x00580000, 10, 4, 1, 0, [
    ⟨"CORRECTED", 31, 16, .roh, .none, 0, [], false⟩,
    ⟨"UNCORRECTED", 15, 0, .roh, .none, 0, [], false⟩]⟩,
  ⟨"INTEG_ECC_LAST", 0x00580040, 1, 0, 1, 0, [
    ⟨"MEM", 31, 28, .roh, .none, 0, [], false⟩,
    ⟨"BY_SCRUB", 27, 27, .roh, .none, 0, [], false⟩,
    ⟨"WORD", 20, 0, .roh, .none, 0, [], false⟩]⟩,
  ⟨"INTEG_SCRUB", 0x00580044, 1, 0, 1, 0, [
    ⟨"SRAM_PERIOD", 31, 16, .rw, .cfg, 0, [(10, 10000)], true⟩,
    ⟨"REC_PATROL", 10, 0, .rw, .cfg, 0, [(1, 1024)], true⟩]⟩,
  ⟨"INTEG_PASS", 0x00580048, 1, 0, 1, 0, [
    ⟨"SRAM_PASSES", 31, 16, .roh, .none, 0, [], false⟩,
    ⟨"REC_PASSES", 15, 0, .roh, .none, 0, [], false⟩]⟩,
  ⟨"INTEG_EVT", 0x0058004C, 1, 0, 1, 0, [
    ⟨"SIG_PAR", 31, 16, .roh, .none, 0, [], false⟩,
    ⟨"LOCAL_CNT", 15, 8, .roh, .none, 0, [], false⟩,
    ⟨"JRNL_DUAL", 7, 0, .roh, .none, 0, [], false⟩]⟩,
  ⟨"INTEG_CMD", 0x00580050, 1, 0, 1, 0, [
    ⟨"CNT_CLR", 0, 0, .wo, .any, 0, [], false⟩]⟩,
  ⟨"CHK_CTRL", 0x00580100, 4, 64, 1, 0, [
    ⟨"POLY", 31, 30, .rw, .any, 0, [], false⟩,
    ⟨"MODE", 29, 29, .rw, .any, 0, [], false⟩,
    ⟨"SRC", 28, 28, .rw, .any, 0, [], false⟩,
    ⟨"WIDTH", 27, 26, .rw, .any, 0, [(0, 2)], false⟩,
    ⟨"FINISH", 3, 3, .wo, .any, 0, [], false⟩,
    ⟨"ABORT", 2, 2, .wo, .any, 0, [], false⟩,
    ⟨"START", 1, 1, .wo, .any, 0, [], false⟩,
    ⟨"INIT", 0, 0, .wo, .any, 0, [], false⟩]⟩,
  ⟨"CHK_DATA", 0x00580104, 4, 64, 1, 0, [
    ⟨"VALUE", 31, 0, .wo, .any, 0, [], false⟩]⟩,
  ⟨"CHK_ADDR", 0x00580108, 4, 64, 1, 0, [
    ⟨"VALUE", 31, 0, .rw, .any, 0, [], false⟩]⟩,
  ⟨"CHK_EXPECTED", 0x00580114, 4, 64, 1, 0, [
    ⟨"VALUE", 31, 0, .rw, .any, 0, [], false⟩]⟩,
  ⟨"CHK_LEN", 0x0058010C, 4, 64, 1, 0, [
    ⟨"BYTES", 23, 0, .rw, .any, 0, [(1, 16777215)], false⟩]⟩,
  ⟨"CHK_RESULT", 0x00580110, 4, 64, 1, 0, [
    ⟨"RESULT", 31, 0, .roh, .none, 0, [], false⟩]⟩] ++ [
  ⟨"CHK_STATUS", 0x00580118, 4, 64, 1, 0, [
    ⟨"BUSY", 31, 31, .roh, .none, 0, [], false⟩,
    ⟨"DONE", 30, 30, .roh, .none, 0, [], false⟩,
    ⟨"MISMATCH", 29, 29, .w1c, .any, 0, [], false⟩,
    ⟨"ALREADY_DONE", 28, 28, .w1c, .any, 0, [], false⟩,
    ⟨"ABORTED", 27, 27, .roh, .none, 0, [], false⟩,
    ⟨"REFUSED", 26, 26, .w1c, .any, 0, [], false⟩]⟩,
  ⟨"CHK_CNT", 0x0058011C, 4, 64, 1, 0, [
    ⟨"MATCH", 31, 16, .roh, .none, 0, [], false⟩,
    ⟨"MISMATCH_CNT", 15, 0, .roh, .none, 0, [], false⟩]⟩,
  ⟨"CHK_CMD", 0x00580120, 4, 64, 1, 0, [
    ⟨"CNT_CLR", 0, 0, .wo, .any, 0, [], false⟩]⟩]

/-- The registers of 18_supervisors_scheduling_and_power.md R468, R469. -/
def regTable_sched : List RegDesc := [
  ⟨"CLK_STATUS", 0x00010000, 1, 0, 1, 0, [
    ⟨"LOCK", 6, 0, .roh, .none, 0, [], false⟩]⟩,
  ⟨"DROOP_CTRL", 0x00010010, 1, 0, 1, 0, [
    ⟨"THR_LOOP", 15, 8, .rw, .cfg, 0, [(20, 60)], true⟩,
    ⟨"THR_CORE", 7, 0, .rw, .cfg, 0, [(20, 60)], true⟩]⟩,
  ⟨"DROOP_STATUS", 0x00010014, 1, 0, 1, 0, [
    ⟨"LEVEL", 31, 29, .roh, .none, 0, [], false⟩,
    ⟨"MIN_LEVEL", 28, 26, .roh, .none, 0, [], false⟩,
    ⟨"CORE_SAG", 25, 25, .roh, .none, 0, [], false⟩,
    ⟨"LOOP_SAG", 24, 24, .roh, .none, 0, [], false⟩,
    ⟨"EVENTS", 15, 0, .roh, .none, 0, [], false⟩]⟩,
  ⟨"DROOP_TIME", 0x00010018, 1, 0, 1, 0, [
    ⟨"TIME", 31, 0, .roh, .none, 0, [], false⟩]⟩,
  ⟨"CLK_CMD", 0x0001001C, 1, 0, 1, 0, [
    ⟨"CNT_CLR", 0, 0, .wo, .any, 0, [], false⟩]⟩,
  ⟨"PWR_CTRL", 0x00010100, 1, 0, 1, 0, [
    ⟨"POWER_CAP", 31, 22, .rw, .live, 0, [(100, 600)], true⟩,
    ⟨"HYST", 21, 16, .rw, .live, 0, [(1, 63)], true⟩,
    ⟨"POWER_WIN", 15, 0, .rw, .cfg, 0, [(16, 65535)], true⟩]⟩,
  ⟨"PWR_STATUS", 0x00010104, 1, 0, 1, 0, [
    ⟨"P_AVG", 31, 22, .roh, .none, 0, [], false⟩,
    ⟨"CURTAIL", 21, 19, .roh, .none, 0, [], false⟩,
    ⟨"OVER_CAP", 18, 18, .roh, .none, 0, [], false⟩]⟩,
  ⟨"PWR_CNT", 0x00010108, 1, 0, 1, 0, [
    ⟨"OVER_CAP_CNT", 31, 16, .roh, .none, 0, [], false⟩,
    ⟨"RAISES", 15, 0, .roh, .none, 0, [], false⟩]⟩,
  ⟨"PWR_BLK_LO", 0x00010200, 16, 8, 1, 0, [
    ⟨"ENERGY", 31, 0, .roh, .none, 0, [], false⟩]⟩,
  ⟨"PWR_BLK_HI", 0x00010204, 16, 8, 1, 0, [
    ⟨"ENERGY", 31, 0, .roh, .none, 0, [], false⟩]⟩,
  ⟨"SCHED_CTRL", 0x00590000, 1, 0, 1, 0, [
    ⟨"ITEM_LIMIT", 15, 0, .rw, .cfg, 0, [(10, 65535)], true⟩]⟩,
  ⟨"SCHED_STATUS", 0x00590004, 1, 0, 1, 0, [
    ⟨"CORE_UP", 31, 24, .roh, .none, 0, [], false⟩,
    ⟨"HW_STALL", 20, 20, .roh, .none, 0, [], false⟩,
    ⟨"POOL_PEAK", 19, 10, .roh, .none, 0, [], false⟩,
    ⟨"POOL_USED", 9, 0, .roh, .none, 0, [], false⟩]⟩] ++ [
  ⟨"SCHED_CNT", 0x00590008, 1, 0, 1, 0, [
    ⟨"FULL_REFUSED", 31, 16, .roh, .none, 0, [], false⟩,
    ⟨"CANCEL_RACE", 15, 8, .roh, .none, 0, [], false⟩,
    ⟨"CORE_RESET", 7, 0, .roh, .none, 0, [], false⟩]⟩,
  ⟨"SCHED_CMD", 0x0059000C, 1, 0, 1, 0, [
    ⟨"PEAK_CLR", 1, 1, .wo, .any, 0, [], false⟩,
    ⟨"CNT_CLR", 0, 0, .wo, .any, 0, [], false⟩]⟩,
  ⟨"SCHED_CORE", 0x00590040, 8, 4, 1, 0, [
    ⟨"STATE", 31, 30, .roh, .none, 0, [], false⟩,
    ⟨"CLASS", 29, 26, .roh, .none, 0, [], false⟩,
    ⟨"LOAD", 9, 0, .roh, .none, 0, [], false⟩]⟩,
  ⟨"SCHED_CLASS", 0x00590100, 16, 8, 1, 0, [
    ⟨"REL_DEADLINE", 31, 16, .rw, .cfg, 0, [(1, 65535)], true⟩]⟩,
  ⟨"SCHED_CLASS_CNT", 0x00590104, 16, 8, 1, 0, [
    ⟨"MISS", 31, 16, .roh, .none, 0, [], false⟩,
    ⟨"LATE_START", 15, 0, .roh, .none, 0, [], false⟩]⟩]

end Sys2Proof.Machine
end

