-- ==== Sys2Proof/Machine/State.lean ====
section
/-!
DEFINITION. The state of the NPC-6144 as plain data, and the state after a reset.
Every register of the management space lives in one sparse table, `regs`; what the spec gives the
device beyond its registers lives in the parts of Machine/Units.lean.
-/

namespace Sys2Proof.Machine

/-- What a register word reads at the end of a cold reset, before the image is loaded (R8). Every
word is 0 but for those listed: the spec gives them other reset values. A field the image loads
("img") has no reset value in the spec and reads 0 until then (DESIGN CHOICE, log entry 1). -/
def resetWord (a : Nat) : Word :=
  if a = 0x0 then 0x614420A7#32                                     -- DEVICE_ID (R11)
  else if 0x20000 ≤ a ∧ a < 0x24800 then
    (if a % 0x100 = 0x4 then 0x40#32 else 0#32)                     -- LANE_STATUS.LOS (R67)
  else if 0x80000 ≤ a ∧ a < 0x98000 then
    (if a % 0x10 = 0x8 then 0x30000000#32 else 0#32)                -- OBS_CELL_W2.CAUSE (R185)
  else if 0xA1000 ≤ a ∧ a < 0xA7000 then 3#32                       -- SEL_CELL.END_STATE (R210)
  else if 0x510000 ≤ a ∧ a < 0x510300 then
    (if a % 0x20 = 0xC then 0x80000000#32                           -- MCH_CAL.GAIN (R165)
     else if a % 0x20 = 0x14 then 0x00100002#32 else 0#32)          -- MCH_STATUS (R165)
  else if a = 0x54000C then 2#32                                    -- TIME_INC_HI (R347)
  else if a = 0x570000 then 0x10000#32                              -- BOOT_STATUS.STEP (R435)
  else if a = 0x570028 then Config.uid.setWidth 32                  -- UID_LO, fused (R436)
  else if a = 0x57002C then (Config.uid >>> 32).setWidth 32         -- UID_HI, fused (R436)
  else 0#32

/-- The block: its registers, the parts of it no register shows, what it has sent, and the commands
that wait. -/
structure State where
  /-- Every register word that differs from its reset value, by address. -/
  regs : AMap Word := []
  /-- The tick and its plan (R12 to R38). -/
  tick : TickState := {}
  /-- Lanes 0 to 71 (R40). -/
  lanes : AMap LaneState := []
  bond : BondState := {}
  /-- Strings 0 to 63. -/
  links : AMap LinkState := []
  /-- Cells by catalogue index: link and admission side, tick input, observer instance, orders. -/
  cells : AMap CellLink := []
  inputs : AMap CellInput := []
  obs : AMap ObsInst := []
  orders : AMap CellOrders := []
  /-- Arms 0 to 15. -/
  arms : AMap ArmState := []
  /-- The entries planned for the tick, by catalogue index. -/
  plan : AMap Ent := []
  ctxs : AMap CtxState := []
  /-- Measurement channels and sampled-value streams. -/
  chans : AMap Chan := []
  streams : AMap StreamIn := []
  /-- The vitrine and the Curator. -/
  vit : RecState := {}
  cur : Curator := {}
  twin : TwinState := {}
  stn : StnState := {}
  img : ImageState := {}
  clk : Clock := {}
  /-- Start-up, life cycle and debug access; what fuses and retention registers hold through resets. -/
  boot : Boot := {}
  fuse : Fuses := {}
  kept : Retained := {}
  dbg : Debug := {}
  /-- Access paths 0 to 13, check units 0 to 3, the dispatcher, and the power ledger. -/
  paths : AMap PathState := []
  chks : AMap ChkUnit := []
  sched : Sched := {}
  pwr : PowerState := {}
  /-- What the device has given its pins, lanes and ports to send, and how many of these entries the lane
transmitters have taken (the model's own record). -/
  wire : List Wire := []
  taken : Nat := 0
  /-- How many free values the run has drawn (the model's own counter, DESIGN CHOICE, log entry 12). -/
  freeCount : Nat := 0
  /-- The commands that wait, first in first out. -/
  pending : List Instr := []
deriving DecidableEq, Repr

/-- The reasons a step stops with a fault. None: every command of the table has an effect the spec
describes, and an event that cannot occur in the present state changes nothing. -/
inductive Fault where
deriving DecidableEq, Repr

/-- The reasons a step is refused. -/
inductive Refusal where
  /-- The command has no meaning in this model yet: raised by exec's arm for it. Safe. -/
  | notModelled (mnemonic : String)
deriving DecidableEq, Repr

/-- The device right after a reset of everything on chip. -/
def State.reset : State := {}

end Sys2Proof.Machine
end

