-- ==== Sys2Proof/Machine/Ops.lean ====
section
/-!
DEFINITION. The named operations over registers, fields, parts of the state and the wire, which
every meaning is written in.
-/

namespace Sys2Proof.Machine

-- Words and fields

/-- Bits hi to lo of a number. -/
def bits (v hi lo : Nat) : Nat := v / 2 ^ lo % 2 ^ (hi + 1 - lo)

/-- The number with bits hi to lo replaced by v. -/
def withBits (x hi lo v : Nat) : Nat :=
  x - bits x hi lo * 2 ^ lo + v % 2 ^ (hi + 1 - lo) * 2 ^ lo

/-- A field of a block payload. -/
def Block.get (b : Block) (hi lo : Nat) : Nat := bits b.toNat hi lo

/-- A block payload made of fields: (value, low bit). -/
def mkBlock (fs : List (Nat × Nat)) : Block := BitVec.ofNat 64 (fs.foldl (fun a f => a + f.1 * 2 ^ f.2) 0)

/-- A value as a two's complement number of w bits. -/
def toSigned (w v : Nat) : Int := if v % 2 ^ w < 2 ^ (w - 1) then (v % 2 ^ w : Nat) else (v % 2 ^ w : Nat) - 2 ^ w

/-- A number in two's complement of w bits. -/
def ofSigned (w : Nat) (v : Int) : Nat := (v % (2 ^ w : Nat)).toNat

/-- v limited to lo through hi. -/
def clampInt (lo hi v : Int) : Int := max lo (min hi v)

/-- Address of element i, j of a field's register array. -/
def Field.addr (f : Field) (i j : Nat := 0) : Nat := f.base + f.s1 * i + f.s2 * j

/-- The field's value in a word. -/
def Field.ofWord (f : Field) (w : Word) : Nat := bits w.toNat f.hi f.lo

/-- The word with the field set. -/
def Field.inWord (f : Field) (w : Word) (v : Nat) : Word := BitVec.ofNat 32 (withBits w.toNat f.hi f.lo v)

/-- Largest value of the field. -/
def Field.max (f : Field) : Nat := 2 ^ (f.hi + 1 - f.lo) - 1

namespace State

/-- The stored word of the register at address a. -/
def reg (s : State) (a : Nat) : Word := AMap.read resetWord s.regs a

/-- The state with word w stored at address a. -/
def setReg (s : State) (a : Nat) (w : Word) : State := { s with regs := AMap.put resetWord s.regs a w }

/-- A field's value. -/
def get (s : State) (f : Field) (i : Nat := 0) (j : Nat := 0) : Nat := f.ofWord (s.reg (f.addr i j))

/-- A one-bit field, or whether a field differs from 0. -/
def flag (s : State) (f : Field) (i : Nat := 0) (j : Nat := 0) : Bool := s.get f i j != 0

/-- The state with a field set. -/
def set (s : State) (f : Field) (v : Nat) (i : Nat := 0) (j : Nat := 0) : State :=
  s.setReg (f.addr i j) (f.inWord (s.reg (f.addr i j)) v)

/-- The state with a one-bit field set to a truth value. -/
def setB (s : State) (f : Field) (b : Bool) (i : Nat := 0) (j : Nat := 0) : State :=
  s.set f (if b then 1 else 0) i j

/-- A counter raised by n, saturating at the field's maximum. -/
def bump (s : State) (f : Field) (n : Nat := 1) (i : Nat := 0) (j : Nat := 0) : State :=
  s.set f (min f.max (s.get f i j + n)) i j

/-- Bit b of a field. -/
def bit (s : State) (f : Field) (b : Nat) (i : Nat := 0) : Bool := s.get f i / 2 ^ b % 2 = 1

/-- The state with bit b of a field set to a truth value. -/
def setBit (s : State) (f : Field) (b : Nat) (v : Bool) (i : Nat := 0) : State :=
  s.set f (withBits (s.get f i) b b (if v then 1 else 0)) i

/-- Fields cleared to 0, at index i. -/
def clearAll (s : State) (fs : List Field) (i : Nat := 0) : State := fs.foldl (fun s f => s.set f 0 i) s

/-- A 64-bit value held in a LO and a HI word (R447). -/
def get64 (s : State) (lo hi : Field) (i : Nat := 0) : Nat := s.get lo i + s.get hi i * 2 ^ 32

def set64 (s : State) (lo hi : Field) (v : Nat) (i : Nat := 0) : State :=
  (s.set lo (v % 2 ^ 32) i).set hi (v / 2 ^ 32) i

/-- What the device sends. -/
def emit (s : State) (w : Wire) : State := { s with wire := s.wire ++ [w] }

/-- The instant the time registers show (R331). -/
def now (s : State) : Stamp :=
  ⟨BitVec.ofNat 32 (s.get F.TIME_HI.TIME_NS), BitVec.ofNat 16 (s.get F.TIME_LO.TIME_FRAC)⟩

/-- Device time in ns counted without the wrap of TIME_NS. -/
def absNs (s : State) : Nat := s.clk.wraps * 2 ^ 32 + s.get F.TIME_HI.TIME_NS

/-- The servo follows the station source: LOCKED (R339). -/
def timeLocked (s : State) : Bool := s.get F.TIME_STATUS.STATE = 2

/-- The start of the present second as device time reckons it, in ns without wrap (R335). -/
def secondStart (s : State) : Int :=
  (s.absNs : Int) - ((s.get F.TIME_EXT_NS.NS + s.get F.TIME_HI.TIME_NS) % 1000000000 : Nat)

/-- The device has reached READY (R418, R420). -/
def isReady (s : State) : Bool := s.flag F.BOOT_STATUS.READY && !s.boot.readyWait

-- Parts by number

def lane (s : State) (l : Nat) : LaneState := AMap.read (fun _ => {}) s.lanes l
def setLane (s : State) (l : Nat) (x : LaneState) : State := { s with lanes := AMap.put (fun _ => {}) s.lanes l x }
def link (s : State) (k : Nat) : LinkState := AMap.read (fun _ => {}) s.links k
def setLink (s : State) (k : Nat) (x : LinkState) : State := { s with links := AMap.put (fun _ => {}) s.links k x }
def cell (s : State) (i : Nat) : CellLink := AMap.read (fun _ => {}) s.cells i
def setCell (s : State) (i : Nat) (x : CellLink) : State := { s with cells := AMap.put (fun _ => {}) s.cells i x }
def input (s : State) (i : Nat) : CellInput := AMap.read (fun _ => {}) s.inputs i
def setInput (s : State) (i : Nat) (x : CellInput) : State := { s with inputs := AMap.put (fun _ => {}) s.inputs i x }
def inst (s : State) (i : Nat) : ObsInst := AMap.read (fun _ => {}) s.obs i
def setInst (s : State) (i : Nat) (x : ObsInst) : State := { s with obs := AMap.put (fun _ => {}) s.obs i x }
def ord (s : State) (i : Nat) : CellOrders := AMap.read (fun _ => {}) s.orders i
def setOrd (s : State) (i : Nat) (x : CellOrders) : State := { s with orders := AMap.put (fun _ => {}) s.orders i x }
def arm (s : State) (a : Nat) : ArmState := AMap.read (fun _ => {}) s.arms a
def setArm (s : State) (a : Nat) (x : ArmState) : State := { s with arms := AMap.put (fun _ => {}) s.arms a x }
def ent (s : State) (i : Nat) : Ent := AMap.read (fun _ => {}) s.plan i
def setEnt (s : State) (i : Nat) (x : Ent) : State := { s with plan := AMap.put (fun _ => {}) s.plan i x }
def ctx (s : State) (c : Nat) : CtxState := AMap.read (fun _ => {}) s.ctxs c
def setCtx (s : State) (c : Nat) (x : CtxState) : State := { s with ctxs := AMap.put (fun _ => {}) s.ctxs c x }

def chan (s : State) (n : Nat) : Chan := AMap.read (fun _ => {}) s.chans n
def setChan (s : State) (n : Nat) (x : Chan) : State := { s with chans := AMap.put (fun _ => {}) s.chans n x }
def stream (s : State) (n : Nat) : StreamIn := AMap.read (fun _ => {}) s.streams n
def setStream (s : State) (n : Nat) (x : StreamIn) : State := { s with streams := AMap.put (fun _ => {}) s.streams n x }
def cap (s : State) (c : Nat) : Cap := AMap.read (fun _ => {}) s.vit.caps c
def setCap (s : State) (c : Nat) (x : Cap) : State :=
  { s with vit := { s.vit with caps := AMap.put (fun _ => {}) s.vit.caps c x } }
def unit (s : State) (u : Nat) : TrigUnit := AMap.read (fun _ => {}) s.vit.units u
def setUnit (s : State) (u : Nat) (x : TrigUnit) : State :=
  { s with vit := { s.vit with units := AMap.put (fun _ => {}) s.vit.units u x } }
def path (s : State) (p : Nat) : PathState := AMap.read (fun _ => {}) s.paths p
def setPath (s : State) (p : Nat) (x : PathState) : State := { s with paths := AMap.put (fun _ => {}) s.paths p x }
def chk (s : State) (n : Nat) : ChkUnit := AMap.read (fun _ => {}) s.chks n
def setChk (s : State) (n : Nat) (x : ChkUnit) : State := { s with chks := AMap.put (fun _ => {}) s.chks n x }
def core (s : State) (c : Nat) : CoreState := AMap.read (fun _ => {}) s.sched.cores c
def setCore (s : State) (c : Nat) (x : CoreState) : State :=
  { s with sched := { s.sched with cores := AMap.put (fun _ => {}) s.sched.cores c x } }
def dirRec (s : State) (d : Nat) : Option Rec := AMap.read (fun _ => none) s.vit.dir d
def setDirRec (s : State) (d : Nat) (x : Option Rec) : State :=
  { s with vit := { s.vit with dir := AMap.put (fun _ => none) s.vit.dir d x } }

/-- The state folded over a list. -/
def each {α : Type} (s : State) (l : List α) (f : State → α → State) : State := l.foldl f s

-- The tick

/-- The number of the current tick (R14). -/
def tickNo (s : State) : Nat := s.get64 F.TICK_CNT_LO.COUNT F.TICK_CNT_HI.COUNT

/-- Live period and phases in ns; the registers count units of 2 ns (R39). -/
def periodNs (s : State) : Nat := 2 * s.get F.TICK_PERIOD.PERIOD
def cutoffNs (s : State) : Nat := 2 * s.get F.TICK_CUTOFF.CUTOFF
def outputNs (s : State) : Nat := 2 * s.get F.TICK_OUTPUT.OUTPUT

/-- The twin mode (R279): 0 ALONE, 1 PAIRING, 2 DUPLEX, 3 SOLO, 4 PARTITIONED, 5 REJOINING. -/
def mode (s : State) : Nat := s.get F.TWIN_STATUS.MODE

/-- This twin is the junior (R274). -/
def junior (s : State) : Bool := s.flag F.TWIN_STATUS.ROLE

/-- The end of the strings this device drives: A for the senior and for a device without a twin, B
for the junior (R127, R274). -/
def ownEnd (s : State) : End := if s.flag F.TWIN_CTRL.TWIN_EN && s.junior then .b else .a

/-- A local cause of the tick (R291). -/
def localCause (s : State) : State := { s with tick := { s.tick with localNow := true } }

-- Strings and cells as declared (R128)

def declared (s : State) (k : Nat) : Nat := s.get F.CAT_STR_INFO.DECLARED k
def base (s : State) (k : Nat) : Nat := s.get F.CAT_STR_INFO.BASE k

/-- The strings in use, ascending. -/
def strings (s : State) : List Nat := (List.range 64).filter fun k => s.declared k != 0

/-- Catalogue indices of a string's declared positions, ascending. -/
def stringCells (s : State) (k : Nat) : List Nat := (List.range (s.declared k)).map (s.base k + ·)

/-- Catalogue indices of an arm's declared cells, ascending. -/
def armCells (s : State) (a : Nat) : List Nat :=
  (s.strings.filter fun k => s.get F.CAT_STR_INFO.ARM k = a).flatMap s.stringCells

/-- Every declared catalogue index, ascending. -/
def allCells (s : State) : List Nat := s.strings.flatMap s.stringCells

/-- The arms the image declares cells for, ascending. -/
def declaredArms (s : State) : List Nat :=
  (List.range 16).filter fun a => s.strings.any fun k => s.get F.CAT_STR_INFO.ARM k = a

def cellArm (s : State) (i : Nat) : Nat := s.get F.CAT_ENTRY_W0.ARM i
def cellString (s : State) (i : Nat) : Nat := s.get F.CAT_ENTRY_W0.STRING i
def cellPos (s : State) (i : Nat) : Nat := s.get F.CAT_ENTRY_W0.POSITION i
def fullBridge (s : State) (i : Nat) : Bool := s.flag F.CAT_ENTRY_W0.KIND i

/-- Service states (R139): 0 ABSENT, 1 ADMITTING, 2 AVAILABLE, 3 EXCLUDED, 4 RETIRED. -/
def svc (s : State) (i : Nat) : Nat := s.get F.CAT_ENTRY_W2.SVC i

/-- Some arm is deblocked. -/
def anyDeblocked (s : State) : Bool := s.arms.any fun e => e.2.deblocked

/-- Distance of position p of string k from an end (R106). -/
def dist (s : State) (k : Nat) (e : End) (p : Nat) : Nat :=
  match e with
  | .a => p
  | .b => s.declared k - 1 - p

-- The signal table (R242)

def sig (s : State) (i : Nat) : Word := s.reg (F.SIG_VALUE.VALUE.addr i)
def sigOk (s : State) (i : Nat) : Bool := s.bit F.SIG_VALID.VALID (i % 32) (i / 32)
def setSig (s : State) (i : Nat) (v : Word) : State := s.setReg (F.SIG_VALUE.VALUE.addr i) v
def setSigOk (s : State) (i : Nat) (b : Bool) : State := s.setBit F.SIG_VALID.VALID (i % 32) b (i / 32)

/-- A free value: one the spec leaves open, numbered by a plain counter. -/
def free (s : State) : Word × State := (Config.freeWord s.freeCount, { s with freeCount := s.freeCount + 1 })

end State

/-- The bytes of a list of block payloads, each most significant byte first (R71). -/
def blockBytes (bs : List Block) : List Nat := bs.flatMap fun b => Crc.bytesBE 8 b.toNat

/-- CRC-8 of R71: polynomial 0x07, initial value 0. -/
def crc8 (bs : List Nat) : Nat := bs.foldl (Crc.stepMsb 8 0x07) 0

end Sys2Proof.Machine
end

