-- ==== Sys2Proof/Machine/Vitrine.lean ====
section
/-!
DEFINITION. What other families do to the vitrine (14_fault_recording.md): events it may record,
the directory, and the freeze of R363. The trigger units and captures stand in Record.lean.
-/

namespace Sys2Proof.Machine

/-- n rounded up to a multiple of m. -/
def padTo (m n : Nat) : Nat := (n + m - 1) / m * m

/-- Bytes of a record: header, channel list padded to 64 bytes, rows or their code (R366, R368). -/
def Rec.length (r : Rec) : Nat :=
  384 + padTo 64 (4 * r.chans.length) + 4 * (match r.packed with
    | some ws => ws.length
    | none => (r.rows.map List.length).sum)

namespace State

/-- An event source of the present interval (R352, classes 5 and 6). -/
def noteEvent (s : State) (cls idx : Nat) : State :=
  { s with vit := { s.vit with events := s.vit.events ++ [(cls, idx)] } }

/-- An event that counts at the hand-over of the tick (R352, classes 8 to 10). -/
def noteTick (s : State) (cls idx : Nat) : State :=
  { s with vit := { s.vit with tickEvents := s.vit.tickEvents ++ [(cls, idx)] } }

/-- A level source is asserted in the present interval (R352, classes 1 to 4 and 7). -/
def noteLevel (s : State) (cls idx : Nat) : State :=
  { s with vit := { s.vit with rose := s.vit.rose ++ [(cls, idx)] } }

/-- Directory states (R365): 0 FREE, 1 OPEN, 2 CLOSED, 3 COMPRESSING, 4 OFFLOADING. -/
def dirState (s : State) (d : Nat) : Nat := s.get F.DIR_W0.STATE d

/-- Lowest free directory entry. -/
def freeDir (s : State) : Option Nat := (List.range 64).find? fun d => s.dirState d = 0

/-- FREE_DIR of REC_STATUS: free entries, 63 at most shown (R375). -/
def countDir (s : State) : State :=
  s.set F.REC_STATUS.FREE_DIR (min 63 ((List.range 64).filter fun d => s.dirState d = 0).length)

def setDirState (s : State) (d v : Nat) : State := (s.set F.DIR_W0.STATE v d).countDir

/-- A record stored at its entry, with the entry's flags, id and length (R378). -/
def putRec (s : State) (d : Nat) (r : Rec) (flags : Nat) : State :=
  (((s.setDirRec d (some r)).set F.DIR_W0.FLAGS flags d).set F.DIR_W1.VALUE r.id d).set F.DIR_W3.VALUE r.length d

/-- STATUS bits of R366. -/
def stComplete : Nat := 1
def stShortPre : Nat := 2
def stOverflow : Nat := 4
def stFrozen : Nat := 8
def stAborted : Nat := 16
def stCompressed : Nat := 32
def stLateTrig : Nat := 64
def stSnapValid : Nat := 128
def stOpen : Nat := 256

/-- STOP_INDEX of a record cut now: the record index of the first row not written, in a session the
number of the segment it would stand in (R362). -/
def stopIndex (s : State) (r : Rec) : Nat :=
  if r.kind = 1 then (if (s.cap r.cap).inSeg then r.segments - 1 else r.segments) else r.count

/-- An OPEN record closes with a status bit set; inMemory says whether the header in record memory is
completed now (R359, R363, R371). -/
def closeRec (s : State) (d st : Nat) (stopped inMemory : Bool) : State :=
  match s.dirRec d with
  | none => s
  | some r =>
    let flags := (s.get F.DIR_W0.FLAGS d &&& 0xFF) ||| st
    let r := if stopped then { r with stop := s.stopIndex r } else r
    let r := if inMemory then { r with status := flags } else r
    let s := (s.putRec d r flags).setDirState d 2
    if r.cap < 8 then s.bump F.CAP_CNT2.RECORDS 1 r.cap else s

/-- Captures' records and tuning records that are OPEN. -/
def openDirs (s : State) : List Nat := (List.range 64).filter fun d => s.dirState d = 1

/-- The freeze signal rises: every open record is marked FROZEN with STOP_INDEX, its header in memory
left OPEN, and every capture stops (R363). -/
def freeze (s : State) : State :=
  if s.flag F.REC_STATUS.FREEZE_REQ then s
  else
    let s := (s.setB F.SAFE_STATUS.FREEZE true).setB F.REC_STATUS.FREEZE_REQ true
    let s := s.setB F.REC_STATUS.FROZEN true
    let s := s.each s.openDirs fun s d => s.closeRec d stFrozen true false
    s.each (List.range 8) fun s c =>
      if s.get F.CAP_STATUS.STATE c = 0 then s
      else (s.setCap c { s.cap c with ring := [], dir := none, left := 0, inSeg := false }).set F.CAP_STATUS.STATE 6 c

/-- The freeze signal falls; THAW resumes recording (R363, R399). -/
def unfreeze (s : State) : State := (s.setB F.SAFE_STATUS.FREEZE false).setB F.REC_STATUS.FREEZE_REQ false

end State

end Sys2Proof.Machine
end

