-- ==== Sys2Proof/Machine/Curator.lean ====
section
/-!
DEFINITION. The Curator of 15_protection_and_safety.md: forced HUSK, Safe Block, Safe Open,
Interlock Permit, trip and feedback inputs, the watchdog, the safety parameter set. FAULT and HUSK
received from cells stand in LinkRx.lean.
-/

namespace Sys2Proof.Machine

/-- Curator fault codes of SAFE_STATUS.CURATOR_FAULT (R413). -/
def cfOsc : Nat := 1
def cfForceRail : Nat := 3
def cfInputPair : Nat := 4
def cfReadback : Nat := 5
def cfParity : Nat := 6
def cfSetCrc : Nat := 7

namespace State

/-- An entry of the Curator's log ring (R412, R413). -/
def safeLog (s : State) (src : Nat) (at_ : Stamp) (scope string pos code : Nat := 0) : State :=
  let i := s.get F.SAFE_LOG_PTR.NEXT
  let s := if s.cur.logged ≥ 16 then s.bump F.SAFE_CNT.LOG_LOST
    else { s with cur := { s.cur with logged := s.cur.logged + 1 } }
  let s := s.set F.SAFE_LOG_W0.TIME_NS at_.ns.toNat i
  let s := ((s.set F.SAFE_LOG_W1.SOURCE src i).set F.SAFE_LOG_W1.SCOPE scope i).set F.SAFE_LOG_W1.STRING string i
  let s := ((s.set F.SAFE_LOG_W1.POSITION pos i).set F.SAFE_LOG_W1.CODE code i).set F.SAFE_LOG_W1.FRAC
    (at_.frac.toNat / 2 ^ 11) i
  s.set F.SAFE_LOG_PTR.NEXT ((i + 1) % 16)

-- HUSK

/-- The generation at which a lane's transmitter runs: SL-1 in DETECT, BASE, NEGOTIATE and FAILED, the target
in FINAL, and the generation held in UP and RELOCK (R64). -/
def txGen (s : State) (l : Nat) : Nat :=
  match s.get F.LANE_STATUS.STATE l with
  | 4 => (s.lane l).target
  | 5 | 6 => s.get F.LANE_STATUS.GEN l
  | _ => 1

/-- A burst of 4 HUSK blocks on every lane of the list whose ENABLE is 1 and whose transmitter is in
TX_ACTIVE or TX_QUIET; TX_QUIET returns to TX_ACTIVE, and the training counts of a lane that is not UP
restart (R64, R381). A silenced device and one whose lanes have not left reset send none (R65, R401). -/
def huskOn (s : State) (ks : List Nat) (forced : Bool := false) : State :=
  if s.flag F.SAFE_STATUS.SILENCED then s
  else s.each ks fun s k =>
    if s.flag F.LANE_CTRL.ENABLE k && s.get F.LANE_STATUS.STATE k != 0 && s.get F.LANE_STATUS.TX_PWR k ≤ 1 then
      let s := (s.set F.LANE_STATUS.TX_PWR 0 k).emit (.husk k (s.txGen k) forced)
      if s.get F.LANE_STATUS.STATE k = 5 then s
      else s.setLane k { s.lane k with matched := 0, readyRun := 0, tx := { (s.lane k).tx with trained := 0 } }
    else s

/-- The force line rises: HUSK on every CELL lane; while it stays asserted it starts no further burst (R381). -/
def force (s : State) : State :=
  if s.flag F.SAFE_STATUS.HUSK_FORCED then s
  else ((s.setB F.SAFE_STATUS.HUSK_FORCED true).bump F.SAFE_CNT.HUSK_FORCE).huskOn (List.range 64) true

-- Trip outputs

/-- TRIP_OUT_CFG of output o: ENABLE, ROLE, SBK_REL (R413). -/
def outCfg (s : State) (o : Nat) : Nat := bits (s.reg F.TRIP_OUT_CFG.OUT_0.base).toNat (4 * o + 3) (4 * o + 1)
def outEnabled (s : State) (o : Nat) : Bool := s.outCfg o / 4 % 2 = 1
def outPermit (s : State) (o : Nat) : Bool := s.outCfg o / 2 % 2 = 1
def outSbkRel (s : State) (o : Nat) : Bool := s.outCfg o % 2 = 1
def released (s : State) (o : Nat) : Bool := s.bit F.SAFE_STATUS.SOP_OUT o

/-- Output o pulses: enabled and not released; a PERMIT output only while the permit is granted on it;
none before READY or under R402 (R393, R400, R420). -/
def pulses (s : State) (o : Nat) : Bool :=
  s.isReady && s.outEnabled o && !s.cur.oscFail
    && (if s.outPermit o then s.flag F.SAFE_STATUS.ILP_GRANTED && s.get F.ILP_CFG.ILP_OUT = o else !s.released o)

/-- Outputs released (R395). -/
def release (s : State) (os : List Nat) : State := s.each os fun s o => s.setBit F.SAFE_STATUS.SOP_OUT o true

def sbkOutputs (s : State) : List Nat := (List.range 4).filter s.outSbkRel

/-- Trip inputs whose LATCH is set and whose configuration has field f. -/
def latched (s : State) (f : Field) : Bool :=
  (List.range 8).any fun n => s.bit F.TRIP_STATUS.LATCH n && s.flag f n

/-- A cause of R395 that names output o holds; sbk says whether Safe Block counts. -/
def releaseHolds (s : State) (o : Nat) : Bool :=
  (List.range 8).any (fun n => s.bit F.TRIP_STATUS.LATCH n && s.bit F.TRIP_CFG.ACT_OUT o n)
    || s.flag F.SAFE_STATUS.SBK && s.outSbkRel o
    || (List.range 8).any (fun n => s.bit F.FB_STATUS.DISCREP n && s.flag F.FB_CFG.ACT_SOP n)
    || s.cur.oscFail || s.cur.faults / 2 ^ cfReadback % 2 = 1

/-- SAFE_OK: high from READY on where no Safe Block is recorded, no watchdog expiry and no failure
under R402 (R398, R401, R402, R420). -/
def refreshOk (s : State) : State :=
  s.setB F.SAFE_STATUS.SAFE_OK (s.isReady && !s.flag F.SAFE_STATUS.SBK && !s.cur.wdExpired && !s.cur.oscFail)

-- Interlock Permit

/-- Every condition of the grant but ILP_DELAY (R400). -/
def ilpOk (s : State) : Bool :=
  !s.anyDeblocked
    && (List.range 4).all (fun o => !s.bit F.ILP_CFG.ILP_OPEN o ||
        s.released o && (List.range 8).all fun n =>
          !(s.bit F.FB_STATUS.DISCREP n && s.get F.FB_CFG.SRC_OUT n = o))
    && (match s.cur.kick with
        | some k => k.valid && !k.aged && Fp.lt k.energy (s.reg F.ILP_ENERGY.LIMIT.base)
        | none => false)
    && !s.latched F.TRIP_CFG.ACT_ILP
    && s.cur.faults = 0
    && s.outEnabled (s.get F.ILP_CFG.ILP_OUT) && s.outPermit (s.get F.ILP_CFG.ILP_OUT)

/-- The permit withdrawn: the grant and the request end (R400). -/
def dropIlp (s : State) : State :=
  ({ s with cur := { s.cur with ilpReq := false } }).setB F.SAFE_STATUS.ILP_GRANTED false

/-- A granted permit is withdrawn when any condition fails (R400). -/
def checkIlp (s : State) : State :=
  if s.flag F.SAFE_STATUS.ILP_GRANTED && !s.ilpOk then s.dropIlp else s

-- Safe Block

/-- Safe Block recorded with a cause bit (R398): HUSK forced, the outputs with SBK_REL released, the
freeze signal raised where FRZ_ON_SBK asks for it, SAFE_OK low; every arm blocks from the first
compute window that opens after it. -/
def recordSbk (s : State) (cause : Nat) : State :=
  let s := s.setBit F.SAFE_STATUS.SBK_CAUSE cause true
  let s := if s.flag F.SAFE_STATUS.SBK then s
    else
      let s := ((s.setB F.SAFE_STATUS.SBK true).bump F.SAFE_CNT.SBK_CNT).force
      let s := { s with cur := { s.cur with blockDue := true } }
      if s.flag F.WD_CFG.FRZ_ON_SBK then s.freeze else s
  ((s.release s.sbkOutputs).refreshOk).checkIlp

/-- A Safe Block request of the compute path or of management, logged as SOURCE 4 (R397). -/
def requestSbk (s : State) (cause : Nat) : State := (s.safeLog 4 s.now 0 0 0 cause).recordSbk cause

/-- A Curator fault recorded: CURATOR_FAULT keeps the first, every further one is only logged (R409). -/
def curatorFault (s : State) (code : Nat) (n : Nat := 0) : State :=
  let s := s.safeLog 6 s.now 0 n 0 code
  let s := if s.flag F.SAFE_STATUS.CURATOR_FAULT then s else s.set F.SAFE_STATUS.CURATOR_FAULT code
  let s := { s with cur := { s.cur with faults := s.cur.faults ||| 2 ^ code } }
  let s := if code = cfReadback || code = cfOsc then s.release [0, 1, 2, 3] else s
  if code = cfInputPair then s.checkIlp else s.recordSbk 8

/-- An enabled trip input is active: its LATCH is set and its actions are taken (R390). -/
def tripActive (s : State) (n : Nat) (at_ : Stamp) : State :=
  let s := s.noteLevel 1 n
  if s.bit F.TRIP_STATUS.ACTIVE n then s
  else
    let s := s.setBit F.TRIP_STATUS.ACTIVE n true
    if !s.flag F.TRIP_CFG.ENABLE n then s
    else
      let s := (s.setBit F.TRIP_STATUS.LATCH n true).safeLog 1 at_ 0 n 0 0
      let s := s.release ((List.range 4).filter fun o => s.bit F.TRIP_CFG.ACT_OUT o n)
      if s.flag F.TRIP_CFG.ACT_SBK n then s.recordSbk 0 else s.checkIlp

/-- Level feedback n should show: high while its output pulses, the opposite with INVERT (R396). -/
def fbExpected (s : State) (n : Nat) : Bool := Bool.xor (s.pulses (s.get F.FB_CFG.SRC_OUT n)) (s.flag F.FB_CFG.INVERT n)

def fbDiffers (s : State) (n : Nat) : Bool :=
  s.flag F.FB_CFG.ENABLE n && s.bit F.FB_STATUS.LEVEL n != s.fbExpected n

/-- A comparator of channel n signals the Curator; a new assertion with its bit in CMP_SBK records
Safe Block (R159, R397). -/
def comparator (s : State) (n : Nat) (hi : Bool) : State :=
  let s := s.noteLevel (if hi then 3 else 4) n
  if s.bit (if hi then F.CMP_SBK_HI.MASK else F.CMP_SBK_LO.MASK) n then
    (s.safeLog 2 s.now 0 n 0 1).recordSbk 1
  else s

/-- A cause of R397 still holds (R399). -/
def sbkHolds (s : State) : Bool :=
  s.latched F.TRIP_CFG.ACT_SBK
    || (List.range 24).any (fun n => s.bit F.CMP_SBK_HI.MASK n && (s.chan n).fireHi
        || s.bit F.CMP_SBK_LO.MASK n && (s.chan n).fireLo)
    || s.flag F.FB_STATUS.DISCREP || s.cur.faults != 0 || s.cur.wdExpired

-- The safety parameter set

/-- Registers of the safety parameter set, ascending: each address with the mask of its bits (R407). -/
def safetySet : List (Nat × Nat) :=
  (List.range 24).flatMap (fun n => [(F.MCH_CTRL.DEB.addr n, 0x003E0000), (F.MCH_CMP.HI.addr n, 0xFFFFFFFF)])
    ++ (List.range 8).map (fun n => (F.TRIP_CFG.ENABLE.addr n, 0xFFFFFFFF))
    ++ [(F.TRIP_OUT_CFG.OUT_0.base, 0xFFFFFFFF)]
    ++ (List.range 8).map (fun n => (F.FB_CFG.ENABLE.addr n, 0xFFFFFFFF))
    ++ [(F.FAULT_SCOPE.SCOPE_0.base, 0xFFFFFFFF), (F.FAULT_ESC.ESC_EN.base, 0xFFFFFFFF), (F.CMP_SBK_HI.MASK.base, 0xFFFFFFFF),
        (F.CMP_SBK_LO.MASK.base, 0xFFFFFFFF), (F.WD_CFG.WD_TICKS.base, 0xFFFFFFFF), (F.ILP_CFG.ILP_OUT.base, 0xFFFFFFFF),
        (F.ILP_ENERGY.LIMIT.base, 0xFFFFFFFF)]

def inSafetySet (a : Nat) : Bool := safetySet.any fun m => m.1 = a

/-- SAFE_CHECK of the set as it stands (R407). -/
def safetyCrc (s : State) : Nat :=
  Crc.crc32 (safetySet.flatMap fun m => Crc.wordBytes (s.reg m.1 &&& BitVec.ofNat 32 m.2))

/-- SAFE_CHECK recomputed, and CONFIRMED with it (R407). -/
def recheck (s : State) : State :=
  let s := s.setReg F.SAFE_CHECK.CHECK.base (BitVec.ofNat 32 s.safetyCrc)
  s.setB F.SAFE_STATUS.CONFIRMED (s.reg F.SAFE_CHECK.CHECK.base = s.reg F.SAFE_CONFIRM.CONFIRM.base)

-- What management writes do

/-- A write of SBK_CLR: Safe Block ends when no cause of R397 holds, else the write is refused (R399).
The force line falls, and the freeze signal with it; no arm deblocks. -/
def sbkClear (s : State) : State :=
  if s.sbkHolds then s.setB F.SAFE_STATUS.SBK_CLR_REFUSED true
  else
    let s := (s.setB F.SAFE_STATUS.SBK false).set F.SAFE_STATUS.SBK_CAUSE 0
    let s := s.setB F.SAFE_STATUS.HUSK_FORCED s.cur.oscFail
    s.unfreeze.refreshOk

/-- A write of SOP_CLR bit o: the output pulses again when no cause that names it holds (R395). -/
def sopClear (s : State) (o : Nat) : State :=
  if s.releaseHolds o then s else (s.setBit F.SAFE_STATUS.SOP_OUT o false).checkIlp

def ilpRequest (s : State) : State := { s with cur := { s.cur with ilpReq := true } }

def safeCntClear (s : State) : State :=
  s.clearAll [F.SAFE_CNT.SBK_CNT, F.SAFE_CNT.FAULT_RX, F.SAFE_CNT.HUSK_FORCE, F.SAFE_CNT.LOG_LOST]

/-- A failure of the SAFE oscillator (R402): the force line, outputs and SAFE_OK safe, the freeze signal
raised, until a cold reset. -/
def oscFailure (s : State) : State :=
  if s.cur.oscFail then s
  else
    let s := ({ s with cur := { s.cur with oscFail := true } }).force
    ((s.curatorFault cfOsc).freeze).refreshOk

end State

/-- TRIP_INPUT_ACTIVE (R390): FILT + 1 samples show the active level at the instant given. -/
def execTripInputActive (n : Fin 8) (at_ : Stamp) (s : State) : Host.Outcome State Fault Refusal :=
  .next (s.tripActive n at_)

/-- TRIP_INPUT_INACTIVE (R391): the level is inactive again; an input with PAIR_FAULT counts as active. -/
def execTripInputInactive (n : Fin 8) (s : State) : Host.Outcome State Fault Refusal :=
  .next (if s.bit F.TRIP_STATUS.PAIR_FAULT n then s else s.setBit F.TRIP_STATUS.ACTIVE n false)

/-- TRIP_PAIR_FAULT (R390, R409): the pair has disagreed for 4 samples; the input counts as active. -/
def execTripPairFault (n : Fin 8) (at_ : Stamp) (s : State) : Host.Outcome State Fault Refusal :=
  .next (if s.bit F.TRIP_STATUS.PAIR_FAULT n then s
    else ((s.setBit F.TRIP_STATUS.PAIR_FAULT n true).curatorFault cfInputPair n).tripActive n at_)

/-- TRIP_SELF_TEST (R409): one comparator of an input is tested; the other stays in service. A failed
test sets PAIR_FAULT and the input counts as active. -/
def execTripSelfTest (n : Fin 8) (pass : Bool) (at_ : Stamp) (s : State) : Host.Outcome State Fault Refusal :=
  .next (if pass || s.bit F.TRIP_STATUS.PAIR_FAULT n then s
    else ((s.setBit F.TRIP_STATUS.PAIR_FAULT n true).curatorFault cfInputPair n).tripActive n at_)

/-- FB_LEVEL_CHANGE (R396): the level of a feedback input. -/
def execFbLevelChange (n : Fin 8) (high : Bool) (s : State) : Host.Outcome State Fault Refusal :=
  .next ((if high then s.noteLevel 2 n else s).setBit F.FB_STATUS.LEVEL n high)

/-- FEEDBACK_DISCREPANCY (R396): a level has differed from the expected one for FB_TIME. -/
def execFeedbackDiscrepancy (n : Fin 8) (at_ : Stamp) (s : State) : Host.Outcome State Fault Refusal :=
  .next (if !s.fbDiffers n then s
    else
      let s := (s.setBit F.FB_STATUS.DISCREP n true).safeLog 3 at_ 0 n 0 6
      (if s.flag F.FB_CFG.ACT_SOP n then s.release [0, 1, 2, 3] else s).recordSbk 6)

/-- ILP_GRANT (R400): ILP_DELAY has passed with every arm blocked; the permit is granted when every
other condition holds too. -/
def execIlpGrant (s : State) : Host.Outcome State Fault Refusal :=
  .next (if s.cur.ilpReq && s.ilpOk then s.setB F.SAFE_STATUS.ILP_GRANTED true else s)

/-- ILP_KICK_AGED (R400): the last kick is older than two ticks. -/
def execIlpKickAged (s : State) : Host.Outcome State Fault Refusal :=
  .next (match s.cur.kick with
    | some k => ({ s with cur := { s.cur with kick := some { k with aged := true } } }).checkIlp
    | none => s)

/-- WATCHDOG_EXPIRY (R401): no valid kick for WD_TICKS periods. By the twin mode of the last kick the
device is silenced (DUPLEX, PARTITIONED) or Safe Block is recorded. -/
def execWatchdogExpiry (s : State) : Host.Outcome State Fault Refusal :=
  .next (if s.cur.wdExpired || !s.isReady then s
    else
      let s := { s with cur := { s.cur with wdExpired := true } }
      let m := match s.cur.kick with | some k => k.mode | none => 0
      let s := s.safeLog 5 s.now 0 0 0 7
      let s := if m = 2 || m = 4 then s.setB F.SAFE_STATUS.SILENCED true else s.recordSbk 7
      s.freeze.refreshOk)

/-- SAFE_CLOCK_CHECK (R402): the monitor's comparison, as the deviation in ppm; beyond ±10 % it fails. -/
def execSafeClockCheck (ppm : Int) (s : State) : Host.Outcome State Fault Refusal :=
  .next (if ppm < -100000 || 100000 < ppm then s.oscFailure else s)

/-- OUTPUT_READBACK_FAULT (R409): an output pin differs from the driven level. -/
def execOutputReadbackFault (o : Fin 4) (s : State) : Host.Outcome State Fault Refusal :=
  .next (s.curatorFault cfReadback o)

/-- FORCE_RAIL_MISMATCH (R409): the force line's rails differ; a mismatch counts as asserted. -/
def execForceRailMismatch (s : State) : Host.Outcome State Fault Refusal :=
  .next ((s.curatorFault cfForceRail).force)

/-- CURATOR_PARITY_FAULT (R409): a Curator register reads with a parity error. -/
def execCuratorParityFault (s : State) : Host.Outcome State Fault Refusal :=
  .next (s.curatorFault cfParity)

end Sys2Proof.Machine
end

