-- ==== Sys2Proof/Machine/Budget.lean ====
section
/-!
DEFINITION. The budget checks of 01_the_tick.md (R20 to R27) and the report schedule of
03_cell_link_protocol.md (R92 to R94, R494). Times are in ps unless a name says ns.
-/

namespace Sys2Proof.Machine

/-- Block time of a generation (R44). -/
def blockPs (g : Nat) : Nat := if g = 1 then 25600 else if g = 2 then 6400 else 2560

/-- t_cell of R24, in units of half a ps. -/
def cellHalfPs (g : Nat) : Nat := if g = 1 then 312500 else if g = 2 then 78125 else 31250

/-- The generation ceiling of R24 for a period in ns. -/
def ceilingOf (pNs g : Nat) : Nat := min 128 (2000 * pNs / cellHalfPs g)

/-- Compute window of R21 in LOOP cycles, for a period and a cutoff in ns. -/
def computeWindow (pNs cNs : Nat) : Nat := 12 * (pNs - cNs - 1000) / 10

/-- Blocks of the order frame of a string of n cells (R69). -/
def frameBlocks (n : Nat) : Nat := 2 + (n + 1) / 2

/-- The four interlocked values, in the registers' units of 2 ns (R35). -/
structure Group where
  period : Nat
  cutoff : Nat
  output : Nat
  pip : Nat
deriving DecidableEq, Repr

/-- Outcome of a check run: the code of R27, and the string, end and position it names. -/
structure Budget where
  code : Nat := 0
  string : Nat := 0
  e : End := .a
  cell : Nat := 0
deriving DecidableEq, Repr

namespace State

def liveGroup (s : State) : Group :=
  ⟨s.get F.TICK_PERIOD.PERIOD, s.get F.TICK_CUTOFF.CUTOFF, s.get F.TICK_OUTPUT.OUTPUT, s.get F.TICK_PIP.PIP_DIV⟩

def stagedGroup (s : State) : Group :=
  ⟨s.get F.TICK_STG_PERIOD.VALUE, s.get F.TICK_STG_CUTOFF.VALUE, s.get F.TICK_STG_OUTPUT.VALUE, s.get F.TICK_STG_PIP.VALUE⟩

/-- The result of the last completed run from an end, as landed. -/
def result (s : State) (k : Nat) (e : End) : Option DiscResult :=
  match e with
  | .a => (s.link k).resA
  | .b => (s.link k).resB

/-- The ends whose results this twin holds (R133): both in DUPLEX, its own in every other mode. -/
def drivenEnds (s : State) : List End := if s.mode = 2 then [.a, .b] else [s.ownEnd]

/-- How many cells the last completed run from an end reached. -/
def reach (s : State) (k : Nat) (e : End) : Nat :=
  match s.result k e with
  | some r => min r.reach (s.declared k)
  | none => 0

/-- Generation of the hop before distance d from an end, as announced; the declared generation where
nothing announced it (R20). -/
def hopGen (s : State) (k : Nat) (e : End) (d : Nat) : Nat :=
  let g := match (s.result k e).bind (fun r => r.found.lookup d) with
    | some a => Block.get a.hdr 39 38
    | none => 0
  if g = 0 then s.get F.CAT_STR_INFO.GEN_DECL k else g

/-- Block time of the slowest hop between an end and the cell at distance d. -/
def slowestTo (s : State) (k : Nat) (e : End) (d : Nat) : Nat :=
  ((List.range (d + 1)).map fun h => blockPs (s.hopGen k e h)).foldl max 0

/-- Catalogue index of the cell at distance d from an end. -/
def atDist (s : State) (k : Nat) (e : End) (d : Nat) : Nat :=
  s.base k + (match e with | .a => d | .b => s.declared k - 1 - d)

def measured (s : State) (e : End) (i : Nat) : Option (Nat × Nat) :=
  match e with
  | .a => (s.cell i).latA.bind fun l => (s.cell i).upA.map fun u => (l, u)
  | .b => (s.cell i).latB.bind fun l => (s.cell i).upB.map fun u => (l, u)

/-- LAT and lat_up of the cell at distance d, in 0.125 ns units; a cell without a measurement takes
those of the nearest measured cell towards the end, or 0 (R494; DESIGN CHOICE for the dispatch check of
R22, log entry 89). -/
def latAt (s : State) (k : Nat) (e : End) : Nat → Nat × Nat
  | 0 => (s.measured e (s.atDist k e 0)).getD (0, 0)
  | d + 1 => match s.measured e (s.atDist k e (d + 1)) with
    | some v => v
    | none => latAt s k e d

-- The checks, one string and end each; the value is the margin, none a failure

/-- R24 for a string of n cells whose slowest hop runs at generation g. -/
def ceilingHolds (gr : Group) (n g : Nat) : Bool := n ≤ ceilingOf (2 * gr.period) g

/-- R24 for the declared cells of a string. -/
def ceilingOk (s : State) (gr : Group) (k g : Nat) : Bool := ceilingHolds gr (s.declared k) g

/-- The discovered population of a string (R20): the cells the driven ends' last completed runs reach. -/
def population (s : State) (k : Nat) : Nat := min (s.declared k) ((s.drivenEnds.map (s.reach k)).foldl (· + ·) 0)

/-- The slowest generation the last runs of the driven ends report for a string. -/
def slowestGen (s : State) (k : Nat) : Nat :=
  let gs := s.drivenEnds.flatMap fun e => (List.range (s.reach k e)).map (s.hopGen k e)
  gs.foldl min (if gs = [] then s.get F.CAT_STR_INFO.GEN_DECL k else 3)

/-- R23 for every hop towards an end carrying the reports of m cells: smallest margin in ps. -/
def upstreamMargin (cutPs : Nat) (m : Nat) (gen : Nat → Nat) : Option Int :=
  (List.range m).foldl (fun (acc : Option Int) h =>
    acc.bind fun a =>
      let need := 3 * (m - h) * blockPs (gen h)
      if need + 100000 ≤ cutPs then some (min a ((cutPs : Int) - 100000 - need)) else none)
    (some ((cutPs : Int) - 100000))

/-- R22 for the cell at distance d from an end: the margin in ps, negative for a failure. -/
def dispatchMargin (s : State) (gr : Group) (k : Nat) (e : End) (d : Nat) : Int :=
  let frame := frameBlocks (s.declared k) * s.slowestTo k e d
  ((2000 * gr.output + 590000 : Nat) : Int) - (frame + 125 * (s.latAt k e d).1 : Nat)

/-- The first cell in ascending distance that fails R22, or the smallest margin. -/
def dispatchCheck (s : State) (gr : Group) (k : Nat) (e : End) : Nat ⊕ Int :=
  (List.range (s.reach k e)).foldl (fun acc d =>
    match acc with
    | .inl p => .inl p
    | .inr m =>
      let x := s.dispatchMargin gr k e d
      if x < 0 then .inl (s.atDist k e d - s.base k) else .inr (min m x))
    (.inr (((2000 * gr.output + 590000 : Nat)) : Int))

/-- Ranges of R12, R17 and PIP_DIV, and the SYNC bound of R342. -/
def rangesOk (s : State) (gr : Group) : Bool :=
  2000 ≤ gr.period && gr.period ≤ 20000 && 100 ≤ gr.cutoff && gr.cutoff + 550 ≤ gr.period
    && gr.output + 1 ≤ gr.period && 1 ≤ gr.pip && gr.pip ≤ 8
    && s.get F.TIME_STR_CTRL.SYNC_TICKS * gr.period * 2 ≤ 1000000

/-- The transition window of R226, in ns, from the old output phase to a new group. -/
def transitionOk (s : State) (gr : Group) : Bool :=
  let l : Int := 2 * (gr.period + gr.output : Nat) - (s.outputNs : Nat)
  2000 ≤ l && l ≤ 65535

/-- Which checks an occasion of R20 runs, and at which generations: the declared ones at the image
check, the discovered ones later. -/
structure Occasion where
  ranges : Bool
  transition : Bool
  compute : Bool
  dispatch : Bool
  declaredGen : Bool
  /-- The ceiling is held against the discovered populations (R20, second row). -/
  found : Bool := false
  only : Option Nat := none
deriving DecidableEq, Repr

/-- A check run's outcome with the smallest margins: compute in cycles, dispatch and upstream in ns. -/
structure BudgetRun where
  res : Budget := {}
  mC : Option Nat := none
  mO : Option Nat := none
  mU : Option Nat := none
deriving DecidableEq, Repr

/-- The procedure after R24: the checks in order, strings ascending, ends A then B; the first failure
is the outcome. A check that asks nothing of a string or an end fails at the first of both. Margins
count whole ns, rounded down (DESIGN CHOICE, log entry 90). -/
def runBudget (s : State) (gr : Group) (o : Occasion) : BudgetRun :=
  let ks := match o.only with | some k => [k] | none => s.strings
  let pairs := ks.flatMap fun k => s.drivenEnds.map fun e => (k, e)
  let gen := fun k e h => if o.declaredGen then s.get F.CAT_STR_INFO.GEN_DECL k else s.hopGen k e h
  let cells := fun k e => if o.declaredGen then s.declared k else s.reach k e
  let fst := pairs.head?.getD (0, .a)
  if o.ranges && !(s.rangesOk gr) || o.transition && !(s.transitionOk gr) then
    { res := { code := 5, string := fst.1, e := fst.2 } }
  else
    match pairs.find? fun p => !(ceilingHolds gr (if o.found then s.population p.1 else s.declared p.1)
        (if o.declaredGen then s.get F.CAT_STR_INFO.GEN_DECL p.1 else s.slowestGen p.1)) with
    | some p => { res := { code := 4, string := p.1, e := p.2 } }
    | none =>
      let win := computeWindow (2 * gr.period) (2 * gr.cutoff)
      let need := (s.get F.COMPUTE_SCHEDULE.CYCLES * 16 + 11) / 12
      if o.compute && need > win then { res := { code := 1, string := fst.1, e := fst.2 }, mC := some 0 }
      else
        let mC := if o.compute then some (win - need) else none
        let ups := pairs.map fun p => (p, upstreamMargin (2000 * gr.cutoff) (cells p.1 p.2) (gen p.1 p.2))
        match ups.find? fun u => u.2.isNone with
        | some u => { res := { code := 3, string := u.1.1, e := u.1.2 }, mC := mC, mU := some 0 }
        | none =>
          let mU := some ((ups.foldl (fun a u => min a (u.2.getD 0)) ((2000 * gr.cutoff : Nat) - 100000 : Int)).toNat / 1000)
          if !o.dispatch then { mC := mC, mU := mU }
          else
            let dis := pairs.map fun p => (p, s.dispatchCheck gr p.1 p.2)
            match dis.find? fun d => d.2.isLeft with
            | some d => { res := { code := 2, string := d.1.1, e := d.1.2, cell := match d.2 with | .inl p => p | .inr _ => 0 },
                          mC := mC, mU := mU, mO := some 0 }
            | none =>
              { mC := mC, mU := mU,
                mO := some ((dis.foldl (fun a d => min a (match d.2 with | .inl _ => 0 | .inr m => m))
                  ((2000 * gr.output + 590000 : Nat) : Int)).toNat / 1000) }

/-- COMPUTE_WINDOW under the live group (R21, R39). -/
def storeWindow (s : State) : State := s.set F.COMPUTE_WINDOW.CYCLES (min 65535 (computeWindow s.periodNs s.cutoffNs))

/-- The margins of a run stored in the BUDGET_MARGIN registers. -/
def storeMargins (s : State) (r : BudgetRun) : State :=
  let put := fun (s : State) (f : Field) (m : Option Nat) => match m with
    | some v => s.set f (min f.max v)
    | none => s
  put (put (put s F.BUDGET_MARGIN_C.MARGIN r.mC) F.BUDGET_MARGIN_O.MARGIN r.mO) F.BUDGET_MARGIN_U.MARGIN r.mU

/-- A check run's outcome in BUDGET_STATUS (R27); CELL is 0 for every code but OUTPUT_BUDGET (R22). -/
def storeBudget (s : State) (r : BudgetRun) : State :=
  ((((s.storeMargins r).set F.BUDGET_STATUS.CODE r.res.code).set F.BUDGET_STATUS.STRING r.res.string).set
    F.BUDGET_STATUS.END r.res.e.num).set F.BUDGET_STATUS.CELL (if r.res.code = 2 then r.res.cell else 0)

-- The report schedule of R92

/-- The quiet window at the cell at distance j from end e, ps after T_n: from the arrival of the other
end's order frame header less two block times, to the end of its CHECK block plus 0.040 µs and two
block times, in whole ns; a cell without a latency from the other end takes R494's. No twin, no window. -/
def quietWindow (s : State) (k : Nat) (e : End) (j : Nat) : Option (Int × Int) :=
  if !s.flag F.TWIN_CTRL.TWIN_EN then none
  else
    let n := s.declared k
    let fd := n - 1 - j
    let tb : Int := blockPs (s.hopGen k e j)
    let arr : Int := -630000 + 125 * (s.latAt k e.other fd).1
    let frame : Int := (frameBlocks n * s.slowestTo k e.other fd : Nat)
    some ((arr - 2 * tb) / 1000 * 1000, -((-(arr + frame + 40000 + 2 * tb)) / 1000) * 1000)

/-- One placement of R92: the report of the cell at distance d moved past every quiet window it meets;
fuel bounds the repetitions by the cells passed. -/
def placeReport (s : State) (k : Nat) (e : End) (d : Nat) : Nat → Int → Int × Int
  | 0, arr => (arr - 125 * (s.latAt k e d).2, arr)
  | fuel + 1, arr0 =>
    let up : Int := 125 * (s.latAt k e d).2
    let ofs := -((-(arr0 - up)) / 1000) * 1000
    let arr := ofs + up
    let r := (List.range (d + 1)).reverse.foldl (fun (a : Int × Bool) j =>
      match s.quietWindow k e j with
      | none => a
      | some (q0, q1) =>
        let upj : Int := 125 * (s.latAt k e j).2
        let at0 := a.1 - upj
        if at0 < q1 && q0 < at0 + 3 * blockPs (s.hopGen k e j) then (q1 + upj, true) else a) (arr, false)
    if r.2 then placeReport s k e d fuel r.1 else (ofs, arr)

/-- The schedule of R92 for the own end of a string: RPT_OFS in ns and the header's arrival in ps for
every cell reached, and report_end in ns. -/
def reportSchedule (s : State) (k : Nat) : List (Nat × Int) × Nat :=
  let e := s.ownEnd
  let r := (List.range (s.reach k e)).foldl (fun (a : List (Nat × Int) × Int × Int) d =>
    let first : Int := max a.2.1 (100000 + 125 * (s.latAt k e d).2)
    let p := s.placeReport k e d (2 * d + 4) first
    (a.1 ++ [((p.1 / 1000).toNat, p.2)], p.2 + 3 * s.slowestTo k e d, p.2)) ([], 0, 0)
  if r.1 = [] then ([], 0)
  else (r.1, ((-((-(r.2.2 + 3 * blockPs (s.hopGen k e 0))) / 1000)).toNat))

/-- The schedule stored for the cells of a string, LINK_REPORT_END, the cells' quiet windows, and
SCHED_LATE when report_end lies beyond the cutoff (R93). -/
def storeSchedule (s : State) (k : Nat) : State :=
  let sc := s.reportSchedule k
  let e := s.ownEnd
  let s := (s.set F.LINK_REPORT_END.END (min 65535 sc.2) k).setB F.LINK_STR_STATUS.SCHED_LATE
    (sc.2 > s.cutoffNs || !(s.ceilingOk s.liveGroup k (s.slowestGen k))
      || (upstreamMargin (1000 * s.cutoffNs) (s.reach k e) (s.hopGen k e)).isNone) k
  let s := s.setLink k { s.link k with schedN := sc.1.length }
  s.each (sc.1.zipIdx) fun s x =>
    let i := s.atDist k e x.2
    let q := (s.quietWindow k e x.2).getD (0, 0)
    let p : Int := max 1 (s.periodNs : Int)
    s.setCell i { s.cell i with rptOfs := x.1.1, schedAt := x.1.2.toNat
                                quietOfs := (q.1 / 1000 % p).toNat, quietLen := ((q.2 - q.1) / 1000).toNat }

/-- The cell's scheduled last block arrives after the cutoff (R93). -/
def schedTooLate (s : State) (k : Nat) (i : Nat) : Bool :=
  (s.cell i).schedAt + 3 * blockPs (s.hopGen k s.ownEnd 0) > 1000 * s.cutoffNs

end State

end Sys2Proof.Machine
end

