-- ==== Sys2Proof/Machine/Cat.lean ====
section
/-!
DEFINITION. The catalogue of 05_strings_and_catalogue.md: reasons and service states, admission,
discovery results and their combination, and the proposals by which changes reach both twins.
-/

namespace Sys2Proof.Machine

-- ANNOUNCE (R89, R132)

def Announce.endOf (a : Announce) : End := if Block.get a.hdr 55 55 = 1 then .b else .a
def Announce.dist (a : Announce) : Nat := Block.get a.hdr 54 48
def Announce.callId (a : Announce) : Nat := Block.get a.hdr 47 40
def Announce.genTo (a : Announce) : Nat := Block.get a.hdr 39 38
def Announce.genAway (a : Announce) : Nat := Block.get a.hdr 37 36
def Announce.verTo (a : Announce) : Nat := Block.get a.hdr 35 34
def Announce.verAway (a : Announce) : Nat := Block.get a.hdr 33 32
def Announce.versions (a : Announce) : Nat := Block.get a.hdr 31 29
def Announce.kind (a : Announce) : Nat := Block.get a.hdr 28 28
def Announce.bypass (a : Announce) : Nat := Block.get a.hdr 27 27
def Announce.vendor (a : Announce) : Nat := Block.get a.d1 63 48
def Announce.model (a : Announce) : Nat := Block.get a.d1 47 32
def Announce.capacitance (a : Announce) : Nat := Block.get a.d2 63 48
def Announce.voltage (a : Announce) : Nat := Block.get a.d2 47 32

/-- ID_TAG: CRC-16/CCITT of D1, most significant byte first (R132). -/
def Announce.idTag (a : Announce) : Nat := Crc.crc16 (Crc.bytesBE 8 a.d1.toNat)

/-- The generation and version fields of both hops. -/
def Announce.hops (a : Announce) : Nat := Block.get a.hdr 39 32

/-- The lowest code whose bit is set, 0 where none is (R142). -/
def lowestCode (m : Nat) : Nat := ((List.range 20).find? fun c => m / 2 ^ c % 2 = 1).getD 0

def hasBit (m c : Nat) : Bool := m / 2 ^ c % 2 = 1
def withBit (m c : Nat) : Nat := if hasBit m c then m else m + 2 ^ c
def withoutBit (m c : Nat) : Nat := if hasBit m c then m - 2 ^ c else m

namespace State

/-- Whether a reason holds for a cell. -/
def holds (s : State) (i c : Nat) : Bool := hasBit (s.cell i).reasons c

/-- What the last completed run from an end announced for a position. -/
def announced (s : State) (k : Nat) (e : End) (p : Nat) : Option Announce :=
  (s.result k e).bind fun r => r.found.lookup (s.dist k e p)

/-- What the driven ends announced for a position: A before B. -/
def announcedAny (s : State) (k p : Nat) : Option Announce :=
  s.drivenEnds.findSome? fun e => s.announced k e p

/-- The string's arm is deblocked. -/
def cellDeblocked (s : State) (i : Nat) : Bool := (s.arm (s.cellArm i)).deblocked

-- Service states (R139)

/-- The readouts of a deleted instance (R167). -/
def dropInst (s : State) (i : Nat) : State :=
  let s := s.setInst i {}
  (s.clearAll [F.OBS_CELL_W0.V_HAT, F.OBS_CELL_W1.VCAP, F.OBS_CELL_W1.RES, F.OBS_CELL_W2.GRADE, F.OBS_CELL_W2.INIT,
    F.OBS_CELL_W2.FROZEN, F.OBS_CELL_W2.MISS_CNT, F.OBS_CELL_W2.EXC_CNT, F.OBS_CELL_W2.FRZ_CNT, F.OBS_CELL_W3.ENERGY,
    F.CAT_ENTRY_W2.HEALTH] i).set F.OBS_CELL_W2.CAUSE 6 i

/-- A cell's service state: the counters of CAT_COUNTS and AVAIL follow it, an observer instance lives
while it is ADMITTING, AVAILABLE or EXCLUDED (R167), and a cell that becomes AVAILABLE in a deblocked
arm is pending addition (R201). -/
def setSvc (s : State) (i v : Nat) : State :=
  let old := s.svc i
  if old = v then s
  else
    let a := s.cellArm i
    let s := s.set F.CAT_ENTRY_W2.SVC v i
    let s := if v = 2 then (s.bump F.CAT_COUNTS.ADMIT_CNT).set F.CAT_ARM.AVAIL (s.get F.CAT_ARM.AVAIL a + 1) a else s
    let s := if v = 3 then s.bump F.CAT_COUNTS.EXCL_CNT else s
    let s := if old = 2 then
        let m := s.arm a
        (s.set F.CAT_ARM.AVAIL (s.get F.CAT_ARM.AVAIL a - 1) a).setArm a { m with pend := m.pend.filter fun x => x.1 ≠ i }
      else s
    let s := if v = 2 then
        let m := s.arm a
        let s := if m.deblocked && !m.justDeblocked then s.setArm a { m with pend := m.pend ++ [(i, 0)] } else s
        s.setCell i { s.cell i with admitted := true, adm := .none }
      else if v = 1 then s
      else if v = 0 then s.setCell i { s.cell i with admitted := false, adm := .none }
      else s.setCell i { s.cell i with adm := .none }
    if (v = 0 || v = 4) && 1 ≤ old && old ≤ 3 then s.dropInst i else s

/-- Reasons of a cell stored, and REASON with the lowest of them (R142). -/
def setReasons (s : State) (i m : Nat) : State :=
  (s.setCell i { s.cell i with reasons := m }).set F.CAT_ENTRY_W2.REASON (lowestCode m) i

-- Admission (R138 to R140)

/-- Codes a full admission clears when it starts: 12 and 19, and with a fresh attempt 7 to 10 (R138). -/
def fullMask (retry : Bool) : Nat := 2 ^ 12 + 2 ^ 19 + (if retry then 2 ^ 7 + 2 ^ 8 + 2 ^ 9 + 2 ^ 10 else 0)

/-- Full admission starts: its checks and its latency measurement begin anew (R140). -/
def startFull (s : State) (i : Nat) : State :=
  let s := s.setReasons i 0
  let s := s.setSvc i 1
  let k := s.cellString i
  let s := s.setLink k { s.link k with measuring := true }
  s.setCell i { s.cell i with adm := .full, ownPass := false, peerPass := false, probeOk := false, gateOk := false,
                              tagDue := false, tagSeen := false, timeOk := false, measOk := false, schedOk := false
                              tests := 0, repRun := 0, rttSum := 0, rttN := 0, rttMin := 0, rttMax := 0 }

/-- A cell that waits to be admitted: full admission while its arm is blocked and only codes that it
clears hold; short admission after codes 1, 2, 11, 13 or 14 of an admitted cell while its arm is
deblocked; else it stays as it is until the arm blocks (R140). -/
def tryAdmit (s : State) (i : Nat) (retry : Bool) : State :=
  let c := s.cell i
  let sv := s.svc i
  if !(sv = 1 && c.adm ≠ .full || sv = 3) then s
  else if !s.cellDeblocked i then
    if c.reasons &&& fullMask retry = c.reasons then s.startFull i else s
  else if sv = 3 && c.reasons = 0 && c.admitted && c.tag.isSome && [1, 2, 11, 13, 14].contains c.lastCode then
    (s.setSvc i 1).setCell i { c with adm := .short, ownPass := false, peerPass := false, repRun := 0 }
  else s

/-- A reason arises (R138, R142): the cell leaves ADMITTING and AVAILABLE, code 17 retires it. -/
def catArise (s : State) (i c : Nat) : State :=
  if s.holds i c then s
  else
    let s := s.setReasons i (withBit (s.cell i).reasons c)
    if c = 17 then s.setSvc i 4
    else if s.svc i = 1 || s.svc i = 2 then s.setSvc i 3 else s

/-- A reason ceases to hold; a cell that no reason holds any longer seeks admission (R142). -/
def catClear (s : State) (i c : Nat) : State :=
  if !s.holds i c then s
  else
    let s := s.setReasons i (withoutBit (s.cell i).reasons c)
    let s := s.setCell i { s.cell i with lastCode := c }
    s.tryAdmit i false

/-- A cell reached for the first time since it became ABSENT (R139): in a deblocked arm, or while a
reason holds that full admission does not clear, it stays EXCLUDED (R140, R142). -/
def catReached (s : State) (i : Nat) : State :=
  if s.svc i ≠ 0 then s
  else
    let s := s.setSvc i 1
    let m := (s.cell i).reasons
    if s.cellDeblocked i || decide (m &&& fullMask false ≠ m) then s.setSvc i 3 else s.tryAdmit i false

/-- The arm's cells when it becomes blocked: those that wait start full admission (R140). -/
def catArmBlocked (s : State) (a : Nat) : State := s.each (s.armCells a) fun s i => s.tryAdmit i false

/-- The arm's cells when it becomes deblocked: full admission runs only while the arm is blocked (R140). -/
def catArmDeblocked (s : State) (a : Nat) : State :=
  s.each (s.armCells a) fun s i => if s.svc i = 1 && (s.cell i).adm = .full then s.setSvc i 3 else s

-- Proposals (R288)

/-- A change of one reason, applied. -/
def applyReason (s : State) (i c : Nat) (arises : Bool) : State := if arises then s.catArise i c else s.catClear i c

/-- A proposal entered with its landing tick; an equal one lands at the earlier of the two. -/
def addChange (s : State) (land : Nat) (c : CatChange) : State :=
  let l := s.twin.changes
  let l := if l.any fun x => x.2 = c then l.map fun x => if x.2 = c then (min x.1 land, c) else x else l ++ [(land, c)]
  { s with twin := { s.twin with changes := l } }

/-- JOURNAL, CHANGE or PAIR sent with the next EVT_SEQ and kept until the peer acknowledges it (R276). -/
def sendEvt (s : State) (m : EvtMsg) : State :=
  let t := s.twin
  let q := t.evtSeq
  ({ s with twin := { t with evtSeq := (q + 1) % 2 ^ 16, unacked := t.unacked ++ [(q, s.tickNo, m)] } }).emit (.event q m)

/-- The two twins hold the catalogue in common: in DUPLEX, while this twin serves a rejoin, and while it
joins on the serving twin's count (R288, R302, R304). -/
def sharesCatalogue (s : State) : Bool :=
  s.mode = 2 || s.twin.serve.isSome || s.mode = 5 && s.twin.join.snapTick.isSome && s.twin.join.adopt.isNone

/-- A change that arises in this twin: a CHANGE proposal for tick t + 2 where the peer holds the catalogue
too, else the apply function at once (R288, R304). -/
def proposeWith (s : State) (c : CatChange) (apply : State → State) : State :=
  if s.sharesCatalogue then
    let land := s.tickNo + 2
    s.addChange land c |>.sendEvt (.change c land)
  else apply s

/-- A reason that arises or clears in this twin alone. -/
def proposeReason (s : State) (i c : Nat) (arises : Bool) : State :=
  s.proposeWith (if arises then .arise i c else .clear i c) fun s => s.applyReason i c arises

-- String versions and schedules

/-- The string version (R99): the lowest version of the hops that are UP, by the device's own hop and the
hop version fields of the last completed run from the own end. -/
def refreshVersion (s : State) (k : Nat) : State :=
  let own := s.get F.LINK_STR_STATUS.HOP0_VER k
  let vs := match s.result k s.ownEnd with
    | some r => r.found.flatMap fun f => [f.2.verTo, f.2.verAway]
    | none => []
  let up := (own :: vs).filter (· ≠ 0)
  s.set F.LINK_STR_STATUS.STR_VER (if up = [] then 0 else up.foldl min 3) k

/-- The own end's late cells after a measurement, a run or a commit: each change of R25, R93 and R26 is
proposed (R288). -/
def checkLate (s : State) (k : Nat) : State :=
  let e := s.ownEnd
  let g := s.liveGroup
  let ceil := ceilingOf s.periodNs (s.slowestGen k)
  let tooMany := s.declared k > ceil
  let s := if tooMany then s.setB F.LINK_STR_STATUS.SCHED_LATE true k else s
  s.each (List.range (s.declared k)) fun s p =>
    let i := s.base k + p
    let d := s.dist k e p
    let late := tooMany && p ≥ ceil
      || d < s.reach k e && (s.dispatchMargin g k e d < 0 || s.flag F.LINK_STR_STATUS.SCHED_LATE k && s.schedTooLate k i)
    let c := s.cell i
    if late then
      let s := s.setCell i { c with lateOwn := true }
      if s.holds i 11 then s else s.proposeReason i 11 true
    else if c.lateOwn then
      (s.setCell i { c with lateOwn := false }).proposeReason i 11 false
    else s

-- Discovery results (R133, R134)

/-- The combination of the driven ends' results: CODE, BREAK_AT, positions not reached (R133). -/
def combine (s : State) (k : Nat) : Nat × Option Nat × List Nat :=
  let n := s.declared k
  let ra := if s.drivenEnds.contains .a then s.result k .a else none
  let rb := if s.drivenEnds.contains .b then s.result k .b else none
  let crossed := match ra, rb with
    | some x, some y => (List.range n).any fun p =>
        match x.found.lookup p, y.found.lookup (n - 1 - p) with
        | some u, some v => p < x.reach && n - 1 - p < y.reach && u.idTag ≠ v.idTag
        | _, _ => false
    | _, _ => false
  let range := fun lo hi => (List.range n).filter fun p => lo ≤ p && p < hi
  match ra, rb with
  | none, none => (0, none, [])
  | _, _ =>
    if (ra.map (·.reach)).getD 0 > n || (rb.map (·.reach)).getD 0 > n then (4, none, [])
    else if crossed then (5, none, [])
    else if (ra.map (·.unstable)).getD false || (rb.map (·.unstable)).getD false then (6, none, [])
    else match ra, rb with
      | some x, some y =>
        if x.reach = n && y.reach = n then (1, none, [])
        else if x.reach + y.reach = n then (2, some x.reach, [])
        else if x.reach + y.reach < n then (3, some x.reach, range x.reach (n - y.reach))
        else (6, none, [])
      | some x, none => if x.reach = n then (1, none, []) else (2, some x.reach, range x.reach n)
      | none, some y => if y.reach = n then (1, none, []) else (2, some (n - y.reach), range 0 (n - y.reach))
      | none, none => (0, none, [])

/-- The fields of a catalogue entry that come from ANNOUNCE (R137). -/
def storeAnnounced (s : State) (k p : Nat) : State :=
  let i := s.base k + p
  let ea := s.drivenEnds.contains .a
  let eb := s.drivenEnds.contains .b
  let a := if ea then s.announced k .a p else none
  let b := if eb then s.announced k .b p else none
  let s := (s.setB F.CAT_ENTRY_W0.REACH_A (ea && p < s.reach k .a) i).setB F.CAT_ENTRY_W0.REACH_B
    (eb && s.dist k .b p < s.reach k .b) i
  match a, b with
  | none, none => s
  | _, _ =>
    let x := (a.orElse fun _ => b).getD ⟨0, 0, 0⟩
    let ga := match a with | some u => u.genTo | none => (b.map (·.genAway)).getD 0
    let gb := match b with | some u => u.genTo | none => (a.map (·.genAway)).getD 0
    let s := ((s.set F.CAT_ENTRY_W0.VER_SUP x.versions i).set F.CAT_ENTRY_W0.GEN_TO_A ga i).set F.CAT_ENTRY_W0.GEN_TO_B gb i
    (s.set F.CAT_ENTRY_W1.CAP x.capacitance i).set F.CAT_ENTRY_W1.VNOM x.voltage i

/-- The reasons a landed run changes for one position, after the reasons that clear (R138). -/
def landPosition (s : State) (old : State) (k : Nat) (code : Nat) (unreached : List Nat) (p : Nat) : State :=
  let i := s.base k + p
  let ends := s.drivenEnds
  let a := s.announcedAny k p
  let a0 := old.announcedAny k p
  let near := [p, p + 1, p - 1]
  let hopsOf := fun (s : State) => near.map fun q => (s.announcedAny k q).map fun u => (u.hops, u.versions)
  let newTag : Bool := match a, a0 with
    | some x, some y => x.idTag != y.idTag
    | some _, none => true
    | _, _ => false
  let reachedBy := fun e => s.dist k e p < s.reach k e
  let reached := ends.any reachedBy && !unreached.contains p
  let silent := reached && a.isNone
  let s := if newTag then ((s.catClear i 3).catClear i 4).catClear i 5 else s
  let s := if hopsOf s ≠ hopsOf old || s.get F.LINK_STR_STATUS.STR_VER k ≠ old.get F.LINK_STR_STATUS.STR_VER k
    then s.catClear i 6 else s
  let bad := code = 4 || code = 5 || code = 6
  let s := if bad then s.catArise i 18 else if 1 ≤ code && code ≤ 3 then s.catClear i 18 else s
  let s := if unreached.contains p then s.catArise i 1 else if reached && !bad then s.catClear i 1 else s
  let s := if reached && !bad && silent then s.catReached i else s
  let s := if silent then s.catArise i 2 else if a.isSome then s.catClear i 2 else s
  let s := match a with
    | some x => if (s.cell i).admitted && (s.cell i).adm ≠ .full && x.idTag ≠ s.get F.CAT_ENTRY_W2.ID_TAG i
        then s.catArise i 19 else s
    | none => s
  if reached && !bad && a.isSome then s.catReached i else s

/-- Largest of the latencies of an end over the cells it reaches, in ns rounded up (R144; the rounding is
DEDUCED, log entry 20). -/
def maxLat (s : State) (k : Nat) (e : End) (up : Bool) : Nat :=
  let ls := (List.range (s.reach k e)).filterMap fun d =>
    (s.measured e (s.atDist k e d)).map fun m => if up then m.2 else m.1
  (ls.foldl max 0 + 7) / 8

/-- CAT_STR_LAT and CAT_STR_LAT_UP of an end (R144). -/
def storeMaxLat (s : State) (k : Nat) (e : End) : State :=
  let v := fun up => min 65535 (s.maxLat k e up)
  match e with
  | .a => (s.set F.CAT_STR_LAT.MAX_A (v false) k).set F.CAT_STR_LAT_UP.MAX_A (v true) k
  | .b => (s.set F.CAT_STR_LAT.MAX_B (v false) k).set F.CAT_STR_LAT_UP.MAX_B (v true) k

/-- A measurement starts for a string: samples of every cell begin anew (R136, R344). -/
def startMeasure (s : State) (k : Nat) : State :=
  let s := s.setLink k { s.link k with measuring := true, devRun := 0 }
  s.each (s.stringCells k) fun s i => s.setCell i { s.cell i with rttSum := 0, rttN := 0, rttMin := 0, rttMax := 0 }

/-- NO_HOP: the own end alone is driven and the device's own hop is not UP (R144; DESIGN CHOICE, log
entry 92). -/
def noHop (s : State) (k : Nat) : Bool := s.drivenEnds = [s.ownEnd] && decide (s.get F.LANE_STATUS.STATE k ≠ 5)

/-- A completed discovery run of one end lands (R133 to R136, R288). -/
def landDisc (s : State) (k : Nat) (e : End) (r : DiscResult) : State :=
  let old := s
  let l := s.link k
  let s := s.setLink k (match e with | .a => { l with resA := some r } | .b => { l with resB := some r })
  let s := s.refreshVersion k
  let (code, brk, un) := s.combine k
  let s := s.set F.CAT_STR_REACH.CODE (if s.noHop k then 7 else code) k
  let s := (s.setB F.CAT_STR_REACH.BREAK_VALID brk.isSome k).set F.CAT_STR_REACH.BREAK_AT (brk.getD 0) k
  let s := match e with
    | .a => s.set F.CAT_STR_REACH.REACH_A r.reach k
    | .b => s.set F.CAT_STR_REACH.REACH_B r.reach k
  let s := s.set F.CAT_STR_INFO.GEN_SLOW
    (if s.drivenEnds.any (fun e => s.reach k e > 0) then s.slowestGen k else 0) k
  let ps := List.range (s.declared k)
  let s := s.each ps fun s p => s.storeAnnounced k p
  let s := s.each ps fun s p => s.landPosition old k code un p
  let s := s.storeMaxLat k e
  if e = s.ownEnd then ((s.startMeasure k).storeSchedule k).checkLate k else s

/-- Latencies measured from one end land (R136). -/
def landLat (s : State) (k : Nat) (e : End) (l : LatList) : State :=
  let s := s.each l.zipIdx fun s x =>
    if x.2 < s.declared k then
      let i := s.atDist k e x.2
      let c := s.cell i
      s.setCell i (match e with
        | .a => { c with latA := some x.1.1, upA := some x.1.2 }
        | .b => { c with latB := some x.1.1, upB := some x.1.2 })
    else s
  let s := s.storeMaxLat k e
  -- the schedule of the own end depends on both ends' latencies (R92)
  let s := s.storeSchedule k
  if e = s.ownEnd && s.isReady then
    let b := s.runBudget s.liveGroup { ranges := false, transition := false, compute := false, dispatch := true
                                       declaredGen := false, only := some k }
    (s.storeBudget b).checkLate k
  else s.checkLate k

/-- An admission result of one end lands (R126, R140): a failure excludes the cell; it becomes
AVAILABLE when every driven end that reaches it has passed. -/
def landAdmit (s : State) (i : Nat) (e : End) (code : Nat) : State :=
  let c := s.cell i
  if code ≠ 0 then s.catArise i code
  else if s.svc i ≠ 1 then s
  else
    let c := if e = s.ownEnd then { c with ownPass := true } else { c with peerPass := true }
    let s := s.setCell i c
    let k := s.cellString i
    let reaches := fun e => s.dist k e (s.cellPos i) < s.reach k e
    let need := s.drivenEnds.filter reaches
    if need.all fun e => if e = s.ownEnd then c.ownPass else c.peerPass then
      let s := match s.announcedAny k (s.cellPos i) with
        | some a => s.set F.CAT_ENTRY_W2.ID_TAG a.idTag i
        | none => s
      s.setSvc i 2
    else s

/-- The scope FAULT_SCOPE assigns to a fault code (R385, R413). -/
def faultScope (s : State) (code : Nat) : Nat :=
  let slot := if 1 ≤ code && code ≤ 6 then code - 1 else if code ≥ 0x80 then 7 else 6
  bits (s.reg F.FAULT_SCOPE.SCOPE_0.base).toNat (3 * slot + 2) (3 * slot)

/-- LEG and CONV of the arm of a string. -/
def strLeg (s : State) (k : Nat) : Nat := s.get F.OBS_ARM_CTRL.LEG (s.get F.CAT_STR_INFO.ARM k)
def strConv (s : State) (k : Nat) : Nat := s.get F.OBS_ARM_CTRL.CONV (s.get F.CAT_STR_INFO.ARM k)

/-- The strings a scope reaches from a string (R384). -/
def scopeStrings (s : State) (scope k : Nat) : List Nat :=
  match scope with
  | 0 => []
  | 1 => [k]
  | 2 => s.strings.filter fun j => s.get F.CAT_STR_INFO.ARM j = s.get F.CAT_STR_INFO.ARM k
  | 3 => s.strings.filter fun j => s.strConv j = s.strConv k
  | _ => List.range 64

/-- The exclusion of a faulted cell lands (R386): the arms of the HUSK set block in this tick's compute
window, the own reaction's set where this device began one. -/
def landFault (s : State) (i code : Nat) : State :=
  let k := s.cellString i
  let own := s.cur.landing.filter fun l => decide (l.1 = i)
  let ks := s.scopeStrings (s.faultScope code) k ++ own.flatMap (·.2)
  let s := { s with cur := { s.cur with landing := s.cur.landing.filter (fun l => decide (l.1 ≠ i))
                                        landed := s.cur.landed ++ ks } }
  s.catArise i 15

/-- RPT_OFS = 0, or another value, is applied in a cell towards an end (R26). -/
def landSilent (s : State) (i : Nat) (e : End) (on : Bool) : State :=
  let c := s.cell i
  s.setCell i (match e with | .a => { c with silentA := on } | .b => { c with silentB := on })

/-- A change lands (R288). -/
def applyChange (s : State) : CatChange → State
  | .arise i c => s.catArise i c
  | .clear i c => s.catClear i c
  | .disc k e r => s.landDisc k e r
  | .admission i e c => s.landAdmit i e c
  | .lat k e l => s.landLat k e l
  | .fault i code => s.landFault i code
  | .silent i e on => s.landSilent i e on

/-- A discovery, admission or latency result of this twin. -/
def propose (s : State) (c : CatChange) : State := s.proposeWith c fun s => s.applyChange c

/-- Every proposal whose landing tick is t lands, in the order they were entered (R288). -/
def landChanges (s : State) (t : Nat) : State :=
  let due := s.twin.changes.filter fun x => x.1 ≤ t
  let s := { s with twin := { s.twin with changes := s.twin.changes.filter fun x => t < x.1 } }
  s.each due fun s x => s.applyChange x.2

/-- The catalogue right after a reset or a life-cycle change: every entry ABSENT, its measured fields
cleared (R139). -/
def catAbsent (s : State) : State :=
  s.each s.allCells fun s i => (s.setReasons i 0).setSvc i 0

/-- CAT_LAT_DATA for the index and direction selected; 0 for a cell the end does not reach (R145), and for
an index beyond the catalogue (DESIGN CHOICE, log entry 93). -/
def latData (s : State) (e : End) : Nat :=
  let i := s.get F.CAT_LAT_SEL.INDEX
  let reached := decide (i < 6144) && match e with
    | .a => s.flag F.CAT_ENTRY_W0.REACH_A i
    | .b => s.flag F.CAT_ENTRY_W0.REACH_B i
  if !reached then 0
  else
  let v := match e with
    | .a => if s.flag F.CAT_LAT_SEL.DIR then (s.cell i).upA else (s.cell i).latA
    | .b => if s.flag F.CAT_LAT_SEL.DIR then (s.cell i).upB else (s.cell i).latB
  v.getD 0

end State
end Sys2Proof.Machine
end

