-- ==== Sys2Proof/Machine/Link.lean ====
section
/-!
DEFINITION. The Synide cell link at the device's own hops (03_cell_link_protocol.md): messages and
their CHECK blocks, hop-level re-send, requests, discovery runs and latency measurement
(04 and 05, R342 to R346 of 13_time.md).
-/

namespace Sys2Proof.Machine

-- Blocks (R69 to R89)

def bType (b : Block) : Nat := Block.get b 63 56

/-- HCHK: CRC-8 over bits [63:40] of a CHECK block. -/
def hchkOf (b : Block) : Nat := crc8 (Crc.bytesBE 3 (Block.get b 63 40))

/-- The CHECK block of a message on a hop of the version given (R71). -/
def checkBlock (ver seq : Nat) (resent : Bool) (msg : List Block) : Block :=
  let crc := Crc.crc32c (blockBytes msg)
  if ver = 1 then mkBlock [(0xF0, 56), (crc, 0)]
  else
    let b := mkBlock [(0xF0, 56), (seq, 48), (if resent then 1 else 0, 46)]
    mkBlock [(b.toNat, 0), (hchkOf b, 32), (crc, 0)]

/-- The NAK ordered set (R75). -/
def nakSet (seq : Nat) : Block := mkBlock [(0xC4, 56), (seq, 48), (255 - seq % 256, 40)]

/-- How a received message came through its check (R95, R96). -/
inductive Rx where
  | ok (msg : List Block) (seq : Nat)
  | failed (nak : Option Nat)
  | fwdBad
  | abandoned
deriving DecidableEq, Repr

/-- The check of a received message on a hop of version ver; lastSeq is the last HOP_SEQ received
correctly (R71, R96). -/
def checkRx (ver lastSeq : Nat) (bs : List Block) : Rx :=
  match bs.getLast? with
  | none => .abandoned
  | some c =>
    let msg := bs.dropLast
    if bType c ≠ 0xF0 || msg = [] then .abandoned
    else if ver = 1 then
      if Crc.crc32c (blockBytes msg) = Block.get c 31 0 then .ok msg lastSeq else .failed none
    else if Block.get c 47 47 = 1 then .fwdBad
    else if hchkOf c ≠ Block.get c 39 32 then .failed (some ((lastSeq + 1) % 256))
    else if Crc.crc32c (blockBytes msg) ≠ Block.get c 31 0 then .failed (some (Block.get c 55 48))
    else .ok msg (Block.get c 55 48)

/-- The HOP_SEQ received correctly with a CHECK block: that of the block where HCHK holds, else the last
one (R96). -/
def rxSeqOf (ver lastSeq : Nat) (bs : List Block) : Nat :=
  match bs.getLast? with
  | some c => if ver ≠ 1 && decide (hchkOf c = Block.get c 39 32) then Block.get c 55 48 else lastSeq
  | none => lastSeq

/-- The HUSK word, and its recognition within three bits (R74). -/
def huskWord : Block := 0xD29669A55AC33CE1#64

def isHusk (b : Block) : Bool := ((List.range 64).filter fun j => (b ^^^ huskWord).getLsbD j).length ≤ 3

/-- The control types that open a message of more than one block: every type but IDLE, FAULT, the NAK
ordered set, the lane layer's and CHECK (R69, R70, R72). -/
def opensMsg (t : Nat) : Bool := t ≠ 0x00 && t ≠ 0x30 && t ≠ 0xC4 && !(0xE0 ≤ t && t ≤ 0xEF) && t ≠ 0xF0

/-- The types R69 lists. -/
def listedType (t : Nat) : Bool :=
  [0x00, 0x10, 0x20, 0x30, 0x40, 0x50, 0x60, 0x70, 0x71, 0x80, 0x81, 0xC4, 0xD2, 0xF0].contains t || decide (0xE0 ≤ t ∧ t ≤ 0xEF)

/-- What a receiver makes of the blocks that arrive (R70). -/
inductive RxEvent where
  /-- A message with its CHECK block. -/
  | msg (bs : List Block)
  | abandoned
  | stray
deriving DecidableEq, Repr

/-- The message open before the blocks, and what they make (R70): FAULT blocks and NAK ordered sets are set
aside, any other control block before the CHECK block abandons the message, and a data block with none open
is stray. A block with an invalid header is taken as data, and a CHECK block with no message open as
stray; a message still open at the end is abandoned (DESIGN CHOICE, log entry 94). -/
def frame : Option (List Block) → List RxBlock → List RxEvent
  | none, [] => []
  | some _, [] => [.abandoned]
  | o, .ctrl b :: r =>
    let cut : List RxEvent := if o.isSome then [.abandoned] else []
    if isHusk b then cut ++ frame none r
    else if bType b = 0x30 || bType b = 0xC4 then frame o r
    else if bType b = 0xF0 then
      match o with
      | some m => .msg (m ++ [b]) :: frame none r
      | none => .stray :: frame none r
    else cut ++ frame (if opensMsg (bType b) then some [b] else none) r
  | some m, .data b :: r | some m, .invalid b :: r => frame (some (m ++ [b])) r
  | none, .data _ :: r | none, .invalid _ :: r => .stray :: frame none r

/-- A whole message as it arrives undisturbed: header, data blocks, CHECK block. -/
def onLane (bs : List Block) : List RxBlock :=
  match bs with
  | [] => []
  | h :: t => .ctrl h :: (t.dropLast.map .data ++ (t.getLast?.map RxBlock.ctrl).toList)

/-- A parameter of a CONFIG. -/
def Request.param (r : Request) (id : Nat) : Option Nat :=
  (r.msg.drop 1).findSome? fun b => if Block.get b 63 48 = id then some (Block.get b 47 0) else none

/-- The tick after which the reports of a cell carry the TAG of a CONFIG acknowledged at tick n: n, or
APPLY_TNUM with AT_TICK = 1 (R84). -/
def Request.tagAt (r : Request) (n : Nat) : Nat :=
  let h := r.msg.headD 0
  if Block.get h 29 29 = 1 then n + (Block.get h 28 5 + 2 ^ 24 - n % 2 ^ 24) % 2 ^ 24 else n

namespace State

def hopVer (s : State) (k : Nat) : Nat := s.get F.LINK_STR_STATUS.HOP0_VER k

/-- The own hop of a string carries messages: its lane is UP, its version is fixed and the device
drives it (R62, R98, R401). -/
def hopOpen (s : State) (k : Nat) : Bool :=
  s.get F.LANE_STATUS.STATE k = 5 && s.hopVer k != 0 && s.get F.LANE_STATUS.TX_PWR k = 0 && !s.flag F.SAFE_STATUS.SILENCED

/-- A multi-block message starts on a string's own hop: it takes the next HOP_SEQ and is kept among
the last four (R71, R96). -/
def sendMsg (s : State) (k : Nat) (msg : List Block) : State :=
  if !s.hopOpen k then s
  else
    let l := s.link k
    let seq := (l.txSeq + 1) % 256
    let s := s.setLink k { l with txSeq := seq, kept := (((seq, false, msg)) :: l.kept).take 4 }
    s.emit (.cell k (msg ++ [checkBlock (s.hopVer k) seq false msg]))

/-- A NAK ordered set received: the named message is sent once more with the next HOP_SEQ (R96). -/
def resend (s : State) (k seq : Nat) : State :=
  let l := s.link k
  match l.kept.find? fun m => m.1 = seq with
  | some (_, false, msg) =>
    if !s.hopOpen k then s
    else
      let q := (l.txSeq + 1) % 256
      let kept := l.kept.map fun m => if m.1 = seq then (m.1, true, m.2.2) else m
      let s := s.setLink k { l with txSeq := q, kept := ((q, true, msg) :: kept).take 4 }
      (s.bump F.LINK_RESEND_CNT.RESENT 1 k).emit (.cell k (msg ++ [checkBlock (s.hopVer k) q true msg]))
  | _ => s.bump F.LINK_RESEND_CNT.NO_COPY 1 k

def stray (s : State) (k : Nat) : State := s.bump F.LINK_DROP_CNT.STRAY 1 k

/-- A whole message received on a string's own hop: its check decides between the message's effect and
the counters of R96 and R101. -/
def rxChecked (s : State) (k : Nat) (bs : List Block) (f : State → List Block → State) : State :=
  let last := (s.link k).rxSeq
  let ver := s.hopVer k
  let s := s.setLink k { s.link k with rxSeq := rxSeqOf ver last bs }
  match checkRx ver last bs with
  | .ok msg _ => f s msg
  | .failed nak =>
    let s := s.bump F.LINK_CRC_CNT.COUNT 1 k
    match nak with
    | some q => if s.flag F.LINK_CTRL.RESEND_EN && s.hopOpen k
        then (s.bump F.LINK_NAK_CNT.NAK_TX 1 k).emit (.cell k [nakSet q]) else s
    | none => s
  | .fwdBad => s.bump F.LINK_DROP_CNT.FWD_BAD_RX 1 k
  | .abandoned => s.bump F.LINK_DROP_CNT.ABANDONED 1 k

/-- Blocks received on a string's own hop, which is UP with its version fixed: what R70 makes of them. -/
def rxMsg (s : State) (k : Nat) (bs : List RxBlock) (f : State → List Block → State) : State :=
  if s.hopVer k = 0 || s.get F.LANE_STATUS.STATE k ≠ 5 then s
  else s.each (frame none bs) fun s e => match e with
    | .msg bs => s.rxChecked k bs f
    | .abandoned => s.bump F.LINK_DROP_CNT.ABANDONED 1 k
    | .stray => s.stray k

-- Requests (R94)

/-- Service messages may start: from the report cutoff of a tick to its dispatch slot (R94). -/
def serviceTime (s : State) : Bool := !s.tick.reportsOpen && !s.tick.sent

/-- A request that expects a reply may start: one per string and tick (R94), while the dispatcher keeps a
place for its reply (R453). -/
def requestTime (s : State) (k : Nat) : Bool :=
  s.serviceTime && (s.link k).reqTick != some s.tickNo
    && decide ((s.sched.waiting.filter fun (w : Waiting) => decide (w.source = 9 ∧ w.sub = k)).length < 16)

def requestSlot (s : State) (k : Nat) : Bool := s.hopOpen k && s.requestTime k

/-- A CONFIG or TEST sent to a position, or to every cell with bcast; a reply is awaited from a single
cell only, and a broadcast CONFIG is kept until the reports have confirmed it (R86). -/
def sendRequest (s : State) (k p : Nat) (bcast : Bool) (kind : ReqKind) (mk : Nat → List Block) : State :=
  if !(s.hopOpen k && s.serviceTime) || !bcast && !s.requestTime k then s
  else
    let l := s.link k
    let tag := l.nextTag % 255 + 1
    let msg := mk tag
    let l := { l with nextTag := tag }
    let s := if bcast then
        s.setLink k (match kind with
          | .config _ => { l with cast := some ⟨kind, p, tag, 1, s.tickNo, msg⟩ }
          | .test _ _ => l)
      else s.setLink k { l with reqTick := some s.tickNo
                                reqs := l.reqs ++ [⟨kind, p, tag, 1, s.tickNo, msg⟩] }
    s.sendMsg k msg

/-- The report schedule parameters of a cell towards the own end (R85, R92). -/
def schedParams (s : State) (k i : Nat) : List (Nat × Nat) :=
  let c := s.cell i
  [(0x20, c.rptOfs), (0x21, s.get F.LINK_REPORT_END.END k), (0x22, c.quietOfs), (0x23, c.quietLen)]

/-- LAT of the cell from the own end, 0.125 ns units. -/
def ownLat (s : State) (i : Nat) : Nat := ((s.measured s.ownEnd i).getD (0, 0)).1

/-- The parameters a CONFIG of each kind carries (R85, R126, R346, R493). -/
def cfgParams (s : State) (k p : Nat) : CfgKind → List (Nat × Nat)
  | .probe => [(0x03, 1)]
  | .gateSet => AMap.read (fun _ => []) s.img.gates (s.get F.CAT_STR_INFO.ARM k)
      ++ [(0x10, s.get F.LINK_CTRL.ORDER_TIMEOUT)] ++ s.schedParams k (s.base k + p)
      ++ [(0x24, s.ownLat (s.base k + p))]
  | .schedule => s.schedParams k (s.base k + p)
  | .silent => [(0x20, 0)]
  | .latFrom => [(0x24, s.ownLat (s.base k + p))]

/-- A CONFIG message (R84). -/
def configMsg (k p tag : Nat) (ps : List (Nat × Nat)) (atTick : Bool) (tnum : Nat) : List Block :=
  mkBlock [(0x40, 56), (k, 50), (p, 43), (tag, 35), (ps.length, 30), (if atTick then 1 else 0, 29),
           (if atTick then tnum % 2 ^ 24 else 0, 5)]
    :: ps.map fun x => mkBlock [(x.1, 48), (x.2, 0)]

/-- A TEST message (R87). -/
def testMsg (k p tag code tnum : Nat) : List Block :=
  [mkBlock [(0x60, 56), (k, 50), (p, 43), (tag, 35), (code, 31), (tnum % 2 ^ 24, 7)]]

/-- LAT_FROM at a cell is delivered only by AT_TICK = 1 on version 3, or while the own orders for it
are BLOCK and its last report shows STATE = 3 (R346). -/
def latDeliverable (s : State) (k i : Nat) (atTick : Bool) : Bool :=
  if atTick then s.get F.LINK_STR_STATUS.STR_VER k = 3
  else (s.ord i).last = 3 && (s.cell i).seenState = some 3

/-- LAT_DRIFT of the string: some cell's LAT_FROM differs from LAT by more than 2 ns (R346). -/
def refreshDrift (s : State) (k : Nat) : State :=
  let drift := (s.stringCells k).any fun i =>
    (s.measured s.ownEnd i).any fun m => 16 < (max m.1 (s.cell i).latFrom) - (min m.1 (s.cell i).latFrom)
  s.setBit (if k < 32 then F.TIME_STR_FLAGS.LAT_DRIFT else F.TIME_STR_FLAGS2.LAT_DRIFT) (k % 32) drift

/-- What an acknowledged CONFIG left in the cell (R84, R86): its TAG, LAT_FROM, and RPT_OFS, whose change
between 0 and another value is proposed (R26). -/
def applyAcked (s : State) (i : Nat) (r : Request) : State :=
  let c := s.cell i
  let e := s.ownEnd
  let was := match e with | .a => c.silentA | .b => c.silentB
  let c := { c with tag := some r.tag, tagAt := r.tagAt s.tickNo, latFrom := (r.param 0x24).getD c.latFrom
                    schedOk := c.schedOk || c.measOk && (r.param 0x20).any (· ≠ 0)
                    repRun := if c.adm = .full && (r.param 0x20).isSome then 0 else c.repRun }
  let s := s.setCell i c
  match r.param 0x20 with
  | some v => if was = decide (v = 0) then s else s.propose (.silent i e (v = 0))
  | none => s

/-- The outstanding request a reply answers: same TAG and position (R86). -/
def findReq (s : State) (k p tag : Nat) : Option Request :=
  (s.link k).reqs.find? fun r => r.tag = tag && r.pos = p

def dropReq (s : State) (k tag : Nat) : State :=
  let l := s.link k
  s.setLink k { l with reqs := l.reqs.filter fun r => r.tag ≠ tag }

/-- A cell answered: NOT_ANSWERING ceases (R138). -/
def cellAnswers (s : State) (i : Nat) : State := if s.holds i 2 then s.proposeReason i 2 false else s

/-- An ACK for a request (R86, R126). -/
def ackFor (s : State) (k i : Nat) (r : Request) : State :=
  let s := (s.dropReq k r.tag).cellAnswers i
  match r.kind with
  | .config .probe => s.setCell i { s.cell i with probeOk := false, tag := some r.tag, tagAt := r.tagAt s.tickNo }
  | .config .gateSet => let s := s.applyAcked i r
                        s.setCell i { s.cell i with gateOk := true, tagDue := true, tagSeen := false }
  | .config _ => (s.applyAcked i r).refreshDrift k
  | .test c run => s.setCell i { s.cell i with testRuns := (s.cell i).testRuns ++ [(run, c)] }

/-- A NAK message for a request (R86, R126). -/
def nakFor (s : State) (k i : Nat) (r : Request) (code idx : Nat) : State :=
  let s := (s.dropReq k r.tag).cellAnswers i
  match r.kind with
  | .config .probe => s.setCell i { s.cell i with probeOk := code = 2 && idx = 0 }
  | .config .gateSet => s.setCell i { s.cell i with gateOk := false }
  | .config _ => s.refreshDrift k
  | .test c _ => s.setCell i { s.cell i with tests := withoutBit (s.cell i).tests c }

/-- An unanswered ECHO_REQ: the next one repeats it, up to REQ_TRIES in total, then a timeout (R94). -/
def echoTimeout (s : State) (k : Nat) : State :=
  let l := s.link k
  if l.echo.isNone then s
  else if l.echoTries < s.get F.LINK_CTRL.REQ_TRIES then s.setLink k { l with echo := none }
  else ((s.setLink k { l with echo := none, echoTries := 0 }).bump F.LINK_LATE_CNT.TIMEOUT 1 k).proposeReason
    (s.atDist k s.ownEnd 0) 2 true

/-- An unanswered request: sent again up to REQ_TRIES times, then a timeout, and the cell is reported
as not answering (R94). -/
def requestTimeout (s : State) (k tag : Nat) : State :=
  match (s.link k).reqs.find? fun r => r.tag = tag with
  | none => s
  | some r =>
    if r.tries < s.get F.LINK_CTRL.REQ_TRIES then
      if !(s.requestSlot k) then s
      else
        let l := s.link k
        let s := s.setLink k { l with reqTick := some s.tickNo
                                      reqs := l.reqs.map fun x => if x.tag = tag then { x with tries := x.tries + 1, tick := s.tickNo } else x }
        s.sendMsg k r.msg
    else ((s.dropReq k tag).bump F.LINK_LATE_CNT.TIMEOUT 1 k).proposeReason (s.base k + r.pos) 2 true

-- Discovery runs (R130, R131)

/-- A run is due on every string in use. -/
def runAll (s : State) : State := s.each s.strings fun s k => s.setLink k { s.link k with runDue := true }

/-- The next CALL of a run: a run that is due starts with it (R130). While the own hop is not open nothing
leaves, and the CALL counts as one that nothing announced (R131; DESIGN CHOICE, log entry 92). -/
def sendCall (s : State) (k : Nat) : State :=
  let l := s.link k
  let run := match l.run with
    | some r => if r.sent.isSome then none else some r
    | none => if l.runDue then some ⟨0, 0, none, [], none⟩ else none
  match run with
  | none => s
  | some r =>
    if !(s.requestTime k) then s
    else
      let id := (l.callId + 1) % 256
      let s := s.setLink k { l with callId := id, runDue := false, reqTick := some s.tickNo
                                    run := some { r with callId := id, calls := r.calls + 1, sent := some s.tickNo, found := [] } }
      s.sendMsg k [mkBlock [(0x70, 56), (s.ownEnd.num, 55), (0, 48), (id, 40), (k, 34)]]

/-- What two CALLs must agree in: reach, distances, ID_TAG, hop fields (R131). -/
def sameRun (a b : DiscResult) : Bool :=
  a.reach = b.reach && a.found.map (fun f => (f.1, f.2.idTag, f.2.hops)) = b.found.map (fun f => (f.1, f.2.idTag, f.2.hops))

/-- A START_CAT segment for a completed run during start-up: CALL_ID, TIME_NS, CODE, reach, BREAK_AT,
and ID_TAG and hop fields by distance (R143). -/
def startSegment (s : State) (k : Nat) (e : End) (r : DiscResult) : State :=
  if s.isReady then s
  else
    let ws := [k * 2 + e.num, r.callId, s.now.ns.toNat, s.get F.CAT_STR_REACH.CODE k, r.reach, s.get F.CAT_STR_REACH.BREAK_AT k]
      ++ r.found.flatMap fun f => [f.1, f.2.idTag * 2 ^ 16 + f.2.hops]
    let seg := ws.map (BitVec.ofNat 32)
    if s.vit.startCat.length < 384 then
      let s := { s with vit := { s.vit with startCat := s.vit.startCat ++ [seg] } }
      s.set F.REC_STATUS.STAGING_KIB (min 8191 ((4 * (s.vit.startCat.map List.length).sum + 1023) / 1024))
    else s

/-- DISC_WAIT ticks after a CALL its results are taken (R130); two matching ones complete the run,
DISC_TRIES without a match end it UNSTABLE (R131). -/
def takeCall (s : State) (k : Nat) : State :=
  match (s.link k).run with
  | none => s
  | some r =>
    if r.sent.isNone then s
    else
      let found := r.found.mergeSort fun a b => a.1 ≤ b.1
      let reach := (found.map fun f => f.1 + 1).foldl max 0
      let res : DiscResult := ⟨r.callId, reach, false, found⟩
      let l := s.link k
      let finish := fun (s : State) (res : DiscResult) =>
        ((s.setLink k { s.link k with run := none }).propose (.disc k s.ownEnd res)).startSegment k s.ownEnd res
      if r.prev.any fun p => sameRun p res then finish s res
      else if r.calls ≥ s.get F.CAT_CTRL.DISC_TRIES then finish s { res with unstable := true }
      else s.setLink k { l with run := some { r with sent := none, prev := some res } }

-- Latency measurement (R344)

/-- Block time of the cell's hop towards the own end, in ps. -/
def cellTb (s : State) (k p : Nat) : Nat := blockPs (s.hopGen k s.ownEnd (s.dist k s.ownEnd p))

/-- Every cell's last 16 round-trip samples lie within one block time plus 10 ns of their mean; for the
cell at distance 0, 16 ECHO exchanges met the time check too (R126). -/
def timeCheck (s : State) (k p : Nat) : Bool :=
  let i := s.base k + p
  let xs := (s.cell i).rtts
  let tol : Int := 16 * (s.cellTb k p + 10000)
  xs.length = 16 && xs.all (fun x => 16 * x - xs.sum ≤ tol && xs.sum - 16 * x ≤ tol)
    && (s.dist k s.ownEnd p ≠ 0 || (s.link k).echoRun ≥ 16)

/-- A round-trip sample: arrival of the report's first bit less T_n + RPT_OFS, in ps (R344). -/
def addSample (s : State) (k p : Nat) (arr : Nat) : State :=
  let i := s.base k + p
  let c := s.cell i
  let x : Int := (arr : Int) - 1000 * c.rptOfs
  let c := { c with rtts := (x :: c.rtts).take 16 }
  let c := if (s.link k).measuring then
      { c with rttSum := c.rttSum + x, rttN := c.rttN + 1, rttMin := if c.rttN = 0 then x else min c.rttMin x
               rttMax := if c.rttN = 0 then x else max c.rttMax x }
    else c
  let s := s.setCell i c
  s.setCell i { c with timeOk := s.timeCheck k p }

/-- LAT of the cell at distance d from the samples, in 0.125 ns units, nearest; d_0 for the first cell;
a cell without a sample keeps what it had (R344, R494; the rounding is DESIGN CHOICE, log entry 21). -/
def sampledLat (s : State) (k d : Nat) : Nat × Nat :=
  let i := s.atDist k s.ownEnd d
  let c := s.cell i
  let clamp := fun (v : Int) => (clampInt 0 (2 ^ 20 - 1) v).toNat
  match d, (s.link k).hopDelay with
  | 0, some h => let v := clamp ((8 * h + 2 ^ 15) / 2 ^ 16)
                 (v, v)
  | _, _ =>
    if c.rttN = 0 then s.latAt k s.ownEnd d
    else
      let tb : Int := s.cellTb k (s.cellPos i)
      -- ((sum / n) + LAT_FROM·125 − tb/2) / 2 ps, in units of 125 ps
      let num : Int := 2 * c.rttSum + (2 * 125 * c.latFrom - tb) * c.rttN
      let v := clamp ((num + 250 * c.rttN) / (500 * c.rttN))
      (v, v)

/-- MEAS_TICKS samples are taken: the own end's latencies are proposed, NO_DITHER and LAT_DRIFT follow
(R136, R344 to R346). -/
def finishMeasure (s : State) (k : Nat) : State :=
  if !(s.link k).measuring then s
  else
    let e := s.ownEnd
    let n := s.reach k e
    let lats := (List.range n).map fun d => s.sampledLat k d
    let spread := (List.range n).all fun d =>
      let c := s.cell (s.atDist k e d)
      c.rttN = 0 || 4 * (c.rttMax - c.rttMin) < (s.cellTb k (s.cellPos (s.atDist k e d)) : Int)
    let any := (List.range n).any fun d => (s.cell (s.atDist k e d)).rttN ≠ 0
    let s := s.setLink k { s.link k with measuring := false, devRun := 0 }
    let s := s.each (s.stringCells k) fun s i =>
      if s.get F.TIME_STR_CTRL.MEAS_TICKS ≤ (s.cell i).rttN then s.setCell i { s.cell i with measOk := true } else s
    let s := s.setBit (if k < 32 then F.TIME_STR_DITHER.NO_DITHER else F.TIME_STR_DITHER2.NO_DITHER) (k % 32) (any && spread)
    (s.propose (.lat k e lats)).refreshDrift k

-- Admission checks (R126)

/-- The first check of R126 that fails for a cell in full admission from the own end, by its reason
code; 0 when every check passes. An admission without a latency measurement of R140 has not passed the
time check, one without the schedule that follows it not the parameter check. -/
def admissionCode (s : State) (i : Nat) : Nat :=
  let k := s.cellString i
  let p := s.cellPos i
  let c := s.cell i
  match s.announced k s.ownEnd p with
  | none => 2
  | some a =>
    let rat := AMap.read (fun _ => (0, 0)) s.img.ratings (s.cellArm i)
    let within := fun (x y : Nat) => 95 * y ≤ 100 * x && 100 * x ≤ 105 * y
    let v := s.get F.LINK_STR_STATUS.STR_VER k
    let d := s.dist k s.ownEnd p
    let agrees := fun (q : Nat) (f : Announce → Announce → Bool) =>
      match (s.result k s.ownEnd).bind fun r => r.found.lookup q with
      | some b => f a b
      | none => true
    let own := d ≠ 0 || decide (a.genTo = s.get F.LANE_STATUS.GEN k ∧ a.verTo = s.hopVer k)
    let hops := own && (d = 0 || agrees (d - 1) fun a b => a.genTo = b.genAway && a.verTo = b.verAway)
      && agrees (d + 1) fun a b => a.genAway = b.genTo && a.verAway = b.verTo
    let tests := if v ≥ 2 then [0, 1, 2, 3] else [3]
    if !s.img.models.contains (a.vendor, a.model) then 3
    else if a.kind ≠ s.get F.CAT_ENTRY_W0.KIND i || a.bypass ≠ s.get F.CAT_ENTRY_W0.BYPASS i then 4
    else if !(within a.capacitance rat.1 && within a.voltage rat.2) then 5
    else if v = 0 || !hasBit a.versions (v - 1) || !hops then 6
    else if !(c.timeOk && c.measOk) then 7
    else if !(c.probeOk && c.gateOk && c.tagSeen && c.schedOk) then 8
    else if c.repRun < 64 then 9
    else if !tests.all fun t => hasBit c.tests t then 10
    else 0

/-- The outcome of the own end's admission attempt (R140): full admission by every check; short by an
unchanged ID_TAG, the last TAG and 64 reports; the result crosses to the peer (R288). -/
def admissionComplete (s : State) (i : Nat) : State :=
  let c := s.cell i
  if s.svc i ≠ 1 then s
  else match c.adm with
    | .none => s
    | .full => s.propose (.admission i s.ownEnd (s.admissionCode i))
    | .short =>
      let tagOk := match s.announced (s.cellString i) s.ownEnd (s.cellPos i) with
        | some a => a.idTag = s.get F.CAT_ENTRY_W2.ID_TAG i
        | none => false
      s.propose (.admission i s.ownEnd
        (if !tagOk then 19 else if c.seenTag ≠ c.tag then 12 else if c.repRun < 64 then 9 else 0))

-- Counters cleared by management writes

def linkCntClear (s : State) (k : Nat) : State :=
  s.clearAll [F.LINK_CRC_CNT.COUNT, F.LINK_NAK_CNT.NAK_TX, F.LINK_NAK_CNT.NAK_RX, F.LINK_RESEND_CNT.RESENT,
    F.LINK_RESEND_CNT.NO_COPY, F.LINK_RESEND_CNT.NAK_BAD, F.LINK_DROP_CNT.UNKNOWN, F.LINK_DROP_CNT.STRAY,
    F.LINK_DROP_CNT.FWD_BAD_RX, F.LINK_DROP_CNT.ABANDONED, F.LINK_LATE_CNT.LATE_RX, F.LINK_LATE_CNT.TIMEOUT,
    F.LINK_FAULT_CNT.FAULT_OK, F.LINK_FAULT_CNT.FAULT_BAD, F.LINK_FAULT_CNT.HUSK_RX] k

def catCntClear (s : State) : State := s.clearAll [F.CAT_COUNTS.EXCL_CNT, F.CAT_COUNTS.ADMIT_CNT]

end State
end Sys2Proof.Machine
end

