-- ==== Sys2Proof/Machine/LinkRx.lean ====
section
/-!
DEFINITION. The commands of the cell link: messages received from cells, service messages sent to
them, FAULT and HUSK reactions (R381 to R388), discovery, latency and admission events.
-/

namespace Sys2Proof.Machine

namespace State

-- FAULT and HUSK (R381 to R388)

/-- The reaction to a first valid FAULT copy (R386, R387): HUSK on the lanes of the scope, a log entry,
an exclusion proposal, the arms of the HUSK set blocked when it lands, and Safe Block for STATION. -/
def faultReaction (s : State) (k p code : Nat) (at_ : Stamp) : State :=
  let i := s.base k + p
  let own := s.faultScope code
  let desat := code = 1 || code = 2
  let n := s.tickNo
  let escalates := desat && s.flag F.FAULT_ESC.ESC_EN
    && s.cur.desats.any fun d => d.1 = n && (d.2.1 ≠ s.strLeg k || d.2.2 ≠ s.strConv k)
  let scope := if escalates then max own (s.get F.FAULT_ESC.ESC_SCOPE) else own
  let ks := s.scopeStrings scope k
  let s := (s.bump F.SAFE_CNT.FAULT_RX).safeLog 0 at_ scope k p code
  let s := ((s.noteEvent 5 k).noteEvent 5 64).noteEvent 6 code
  let cur := s.cur
  let s := { s with cur := { cur with
    desats := (if desat then [(n, s.strLeg k, s.strConv k)] else []) ++ cur.desats.filter (fun d : Nat × Nat × Nat => d.1 = n)
    reacts := (if ks = [] then [] else [(n, ks)]) ++ cur.reacts.filter (fun r : Nat × List Nat => n ≤ r.1 + 2)
    landing := cur.landing ++ (if ks = [] then [] else [(i, ks)]) } }
  let s := s.huskOn ks
  let s := s.propose (.fault i code)
  if scope = 4 then s.recordSbk 2 else s

/-- A HUSK that no FAULT reaction of the previous two ticks covers blocks the arm of its string from
the next compute window on (R383). -/
def huskReceived (s : State) (k : Nat) (at_ : Stamp) : State :=
  let s := (s.bump F.LINK_FAULT_CNT.HUSK_RX 1 k).safeLog 7 at_ 0 k 0 0
  let attributed := (s.mode = 2 || s.mode = 3 || s.mode = 4)
    && s.cur.reacts.any fun r => s.tickNo ≤ r.1 + 2 && r.2.contains k
  if attributed || s.declared k = 0 then s
  else { s with cur := { s.cur with huskArms := s.cur.huskArms ++ [s.get F.CAT_STR_INFO.ARM k] } }

/-- STRING, POSITION, CODE and TNUM of a FAULT block, by which a repetition is known (R82). -/
def faultKey (b : Block) : Nat := Block.get b 55 35 * 2 ^ 24 + Block.get b 31 8

/-- A FAULT block deserialized, blk counting the lane's blocks: the first valid copy is acted on, one
with a failed CHK8 or a repetition within 64 blocks is counted (R82). -/
def rxFault (s : State) (k : Nat) (b : Block) (blk : Nat) (at_ : Stamp) : State :=
  let seen := (s.link k).faults.any fun f => f.1 = faultKey b && blk ≤ f.2 + 64
  if crc8 (Crc.bytesBE 7 (Block.get b 63 8)) ≠ Block.get b 7 0 || bType b ≠ 0x30 then s.bump F.LINK_FAULT_CNT.FAULT_BAD 1 k
  else if Block.get b 55 50 ≠ k || s.declared k ≤ Block.get b 49 43 then s.stray k
  else if seen then s.bump F.LINK_FAULT_CNT.FAULT_BAD 1 k
  else
    let l := s.link k
    let s := s.setLink k { l with faults := (faultKey b, blk) :: l.faults.filter fun f => blk ≤ f.2 + 64 }
    (s.bump F.LINK_FAULT_CNT.FAULT_OK 1 k).faultReaction k (Block.get b 49 43) (Block.get b 42 35) at_

-- Messages

/-- HEARD_A and HEARD_B of a report in the own reception (R295 to R297): a junior in PARTITIONED hears
the senior from tick p + ORDER_TIMEOUT on, a junior in SOLO at any time, and either leaves for
REJOINING at the next dispatch; a senior in PARTITIONED notes that the junior still sends. -/
def hearReport (s : State) (d : Block) : State :=
  let t := s.twin
  let senior := Block.get d 18 18 = 1
  if s.flag F.TWIN_CTRL.TWIN_EN && s.junior then
    if senior && (s.mode = 3 || s.mode = 4 && t.partTick + s.get F.LINK_CTRL.ORDER_TIMEOUT ≤ s.tickNo)
    then { s with twin := { t with atDispatch := some (5, 7) } } else s
  else if s.mode = 4 && Block.get d 17 17 = 1 then { s with twin := { t with heard := true } }
  else s

/-- What CFG_TAG of a report says (R80): it confirms a broadcast CONFIG (R86), it fails or passes the check
that the report after the gate set's acknowledgement makes (R126), and one that differs from the device's
last TAG shows that the cell was reset (R138). -/
def takeTag (s : State) (k p tag : Nat) : State :=
  let i := s.base k + p
  let s := match (s.link k).cast with
    | some r => if r.tag = tag && (s.cell i).tag ≠ some tag then s.ackFor k i r else s
    | none => s
  let c := s.cell i
  let due := c.tagDue && decide (c.tagAt < s.tickNo)
  let s := s.setCell i { c with seenTag := some tag, tagDue := c.tagDue && !due
                                tagSeen := if due then c.tag = some tag else c.tagSeen }
  if c.adm ≠ .full && c.tag.any (· ≠ tag) && decide (c.tagAt < s.tickNo)
      && !(s.link k).reqs.any (fun r => r.pos = p && r.tag = tag) && !s.holds i 12
    then s.proposeReason i 12 true else s

/-- What the FLAGS of a report say (R80): DESAT_IN_BLANK counts in BLANK_CNT (R137), BYPASS_CLOSED
retires the cell (R138, R139). -/
def takeFlags (s : State) (i : Nat) (flags : Nat) : State :=
  let s := if hasBit flags 2 then s.bump F.CAT_ENTRY_W2.BLANK_CNT 1 i else s
  if hasBit flags 5 && !s.holds i 17 then s.proposeReason i 17 true else s

/-- A REPORT whose check passed: held for its tick inside the report window; late after it, and counted
alone where it names another tick (R18, R80, R101, R168). Its arrival feeds the latency samples and the
report check of R126. A REPORT of another number of blocks is stray (R72; DESIGN CHOICE, log entry 101). -/
def takeReport (s : State) (k : Nat) (arr : Nat) (clean : Bool) (msg : List Block) : State :=
  match msg with
  | [h, d] =>
    let p := Block.get h 23 17
    if bType h ≠ 0x20 || Block.get h 31 26 ≠ k || s.declared k ≤ p then s.stray k
    else if Block.get h 55 32 ≠ s.tickNo % 2 ^ 24 then s.bump F.LINK_LATE_CNT.LATE_RX 1 k
    else if !s.tick.reportsOpen then
      let i := s.base k + p
      let s := (s.bump F.LINK_LATE_CNT.LATE_RX 1 k).setInput i { s.input i with late := true }
      s.setLink k { s.link k with devNow := true }
    else
      let i := s.base k + p
      let c := s.cell i
      let s := (s.setInput i { s.input i with own := some d }).hearReport d
      let tol := s.cellTb k p + 10000
      let near := arr ≤ c.schedAt + tol && c.schedAt ≤ arr + tol
      let st := Block.get d 37 35
      let good := near && (if c.adm = .short then st = 0 else st = 3)
      let ran := c.testRuns.find? fun t => decide (t.1 + 1 = s.tickNo && Block.get d 25 25 = 1)
      let bad := Block.get d 26 26 = 1
      let s := s.setCell i { c with seenState := some st
                                    repRun := if good then c.repRun + 1 else 0
                                    tests := match ran with
                                      | some t => if bad then withoutBit c.tests t.2 else withBit c.tests t.2
                                      | none => c.tests
                                    failed := match ran with
                                      | some t => if bad then withBit c.failed t.2 else withoutBit c.failed t.2
                                      | none => c.failed
                                    testRuns := c.testRuns.filter fun t => decide (s.tickNo < t.1 + 1) }
      let s := (s.takeTag k p (Block.get d 16 9)).takeFlags i (Block.get d 34 19)
      let s := if near then s else s.setLink k { s.link k with devNow := true }
      if clean then s.addSample k p arr else s
  | _ => s.stray k

/-- An ACK or NAK message (R86). One that answers no outstanding request changes nothing (DESIGN CHOICE, log
entry 102). -/
def takeReply (s : State) (k : Nat) (typ : Nat) (msg : List Block) : State :=
  match msg with
  | [h] =>
    let p := Block.get h 49 43
    if bType h ≠ typ || Block.get h 55 50 ≠ k || s.declared k ≤ p then s.stray k
    else match s.findReq k p (Block.get h 42 35) with
      | none => s
      | some r => if typ = 0x80 then s.ackFor k (s.base k + p) r
                  else s.nakFor k (s.base k + p) r (Block.get h 26 19) (Block.get h 18 14)
  | _ => s.stray k

/-- An ANNOUNCE for the CALL under way, else late (R130). -/
def takeAnnounce (s : State) (k : Nat) (msg : List Block) : State :=
  match msg with
  | [h, d1, d2] =>
    let a : Announce := ⟨h, d1, d2⟩
    if bType h ≠ 0x71 then s.stray k
    else match (s.link k).run with
      | some r =>
        if r.sent.isSome && a.callId = r.callId && a.endOf = s.ownEnd then
          if (r.found.lookup a.dist).isSome then s
          else s.setLink k { s.link k with run := some { r with found := r.found ++ [(a.dist, a)] } }
        else s.bump F.LINK_LATE_CNT.LATE_RX 1 k
      | none => s.bump F.LINK_LATE_CNT.LATE_RX 1 k
  | _ => s.stray k

/-- A stamp of a TIME message: NS[63:32], FRAC[31:16], in 2^-16 ns (R88). -/
def blockStamp (b : Block) : Nat := Block.get b 63 16

def stampBlock (t : Stamp) : Block := mkBlock [(t.ns.toNat, 32), (t.frac.toNat, 16)]

/-- An ECHO_RESP: d_0 = ((T4 − T1) − (T3 − T2))/2, and the time check of the nearest cell (R126, R344). -/
def takeEcho (s : State) (k : Nat) (t4 : Stamp) (msg : List Block) : State :=
  match msg with
  | [h, d1, d2, d3] =>
    let l := s.link k
    if bType h ≠ 0x50 || Block.get h 55 52 ≠ 2 then s.stray k
    else match l.echo with
      | some (id, t1) =>
        if id ≠ Block.get h 50 47 || t1 ≠ blockStamp d1 then s
        else
          let sub := fun (x y : Nat) => toSigned 48 (x + 2 ^ 48 - y)
          let hold := sub (blockStamp d3) (blockStamp d2)
          let d0 := (sub t4.units t1 - hold) / 2
          let ok := 0 < hold && hold ≤ 2000 * 2 ^ 16 && 0 ≤ sub t4.units t1
            && l.echoT3.all fun p => 0 < sub (blockStamp d2) p
          s.setLink k { l with echo := none, echoTries := 0, hopDelay := some d0, echoT3 := some (blockStamp d3)
                               echoRun := if ok then l.echoRun + 1 else 0 }
      | none => s
  | _ => s.stray k

/-- The hop version: the highest both ends offer and the generation allows; a LEGACY hop and an end
with an all-zero VER_CAP run version 1 (R73, R98). With a new string version VERSION_MISMATCH clears (R138). -/
def fixVersion (s : State) (k : Nat) (cap : Nat) : State :=
  let g := s.get F.LANE_STATUS.GEN k
  let far := if cap = 0 || s.flag F.LANE_STATUS.LEGACY k then 1 else cap
  let allowed := if g = 1 then [2, 1] else if g = 2 then [3, 2] else if g = 3 then [3] else []
  let v := (allowed.find? fun v => hasBit far (v - 1)).getD 0
  if s.get F.LANE_STATUS.STATE k ≠ 5 || s.hopVer k ≠ 0 then s
  else
    let t := (s.set F.LINK_STR_STATUS.HOP0_VER v k).refreshVersion k
    if t.get F.LINK_STR_STATUS.STR_VER k = s.get F.LINK_STR_STATUS.STR_VER k then t
    else t.each (t.stringCells k) fun s i => if s.holds i 6 then s.proposeReason i 6 false else s

/-- A SYNC from the own end (R88, R342), with the departure stamp the device writes into it. -/
def syncMsg (s : State) (tx : Stamp) : List Block :=
  let next := s.tick.landing
  [mkBlock [(0x50, 56), (0, 52), (s.ownEnd.num, 51)], stampBlock tx,
   mkBlock [(s.tickNo % 2 ^ 24, 40), ((s.reg F.TICK_START.START.base).toNat, 8)],
   mkBlock [(s.get F.TICK_PERIOD.PERIOD, 49), (s.get F.TICK_OUTPUT.OUTPUT, 34), (if next.isSome then 1 else 0, 33),
            ((next.map (·.period)).getD 0, 18), ((next.map (·.output)).getD 0, 3)],
   mkBlock [((next.map fun l => (l.apply + 1) % 2 ^ 24).getD 0, 40)]]

/-- An ECHO_REQ with its departure stamp (R88, R344); it is the tick's request. -/
def sendEcho (s : State) (k : Nat) (t1 : Stamp) : State :=
  if !(s.requestSlot k) then s
  else
    let l := s.link k
    let id := (l.echoId + 1) % 16
    let s := s.setLink k { l with echoId := id, echo := some (id, t1.units), echoTries := l.echoTries + 1, reqTick := some s.tickNo }
    s.sendMsg k [mkBlock [(0x50, 56), (1, 52), (s.ownEnd.num, 51), (id, 47)], stampBlock t1]

end State

/-- FAULT_RX (R82, R386). -/
def execFaultRx (k : Fin 64) (b : Block) (blk : Nat) (at_ : Stamp) (s : State) : Host.Outcome State Fault Refusal :=
  .next (s.rxFault k b blk at_)

/-- HUSK_RX (R74, R383): a control block; within three bits of the HUSK word it is a HUSK. -/
def execHuskRx (k : Fin 64) (b : Block × Stamp) (s : State) : Host.Outcome State Fault Refusal :=
  .next (if isHusk b.1 then s.huskReceived k b.2 else s)

/-- REPORT_RX (R80, R18): arr is the arrival of the header's first bit in ps after T_n; clean says that
no block of another message preceded it within two block times and that it is a first copy (R344). -/
def execReportRx (k : Fin 64) (bs : List RxBlock) (arr : Nat) (clean : Bool) (s : State) : Host.Outcome State Fault Refusal :=
  .next (s.rxMsg k bs fun s msg => s.takeReport k arr clean msg)

/-- ACK_RX (R86). -/
def execAckRx (k : Fin 64) (bs : List RxBlock) (s : State) : Host.Outcome State Fault Refusal :=
  .next (s.rxMsg k bs fun s msg => s.takeReply k 0x80 msg)

/-- NAK_MSG_RX (R86). -/
def execNakMsgRx (k : Fin 64) (bs : List RxBlock) (s : State) : Host.Outcome State Fault Refusal :=
  .next (s.rxMsg k bs fun s msg => s.takeReply k 0x81 msg)

/-- ANNOUNCE_RX (R89, R130). -/
def execAnnounceRx (k : Fin 64) (bs : List RxBlock) (s : State) : Host.Outcome State Fault Refusal :=
  .next (s.rxMsg k bs fun s msg => s.takeAnnounce k msg)

/-- ECHO_RESP_RX (R88, R344), with its arrival stamp. -/
def execEchoRespRx (k : Fin 64) (bs : List RxBlock) (t4 : Stamp) (s : State) : Host.Outcome State Fault Refusal :=
  .next (s.rxMsg k bs fun s msg => s.takeEcho k t4 msg)

/-- NAK_SET_RX (R75, R96). -/
def execNakSetRx (k : Fin 64) (b : Block) (s : State) : Host.Outcome State Fault Refusal :=
  .next (if Block.get b 55 48 + Block.get b 47 40 ≠ 255 then s.bump F.LINK_RESEND_CNT.NAK_BAD 1 k
    else
      let s := s.bump F.LINK_NAK_CNT.NAK_RX 1 k
      if s.flag F.LINK_CTRL.RESEND_EN && 2 ≤ s.hopVer k then s.resend k (Block.get b 55 48) else s)

/-- UNKNOWN_MESSAGE_RX (R69, R72): a message of a type R69 does not list is absorbed and counted; CONFIG,
TEST and SYNC of the other end's twin are absorbed here, and the last cell's CALL is consumed. -/
def execUnknownMessageRx (k : Fin 64) (bs : List RxBlock) (s : State) : Host.Outcome State Fault Refusal :=
  .next (s.rxMsg k bs fun s msg =>
    if listedType (bType (msg.headD 0)) then s else s.bump F.LINK_DROP_CNT.UNKNOWN 1 k)

/-- HOP_VERSION_FIXED (R73, R98): 8 consecutive IDLE blocks after UP carry VER_CAP. -/
def execHopVersionFixed (k : Fin 64) (verCap : Fin 8) (s : State) : Host.Outcome State Fault Refusal :=
  .next (s.fixVersion k verCap)

/-- CONFIG_SEND (R84, R94): a CONFIG of the kind named to one position or to every cell; AT_TICK = 1
only on a version 3 string, applied ahead ticks later (R100). -/
def execConfigSend (k : Fin 64) (p : Fin 128) (bcast : Bool) (c : CfgKind) (atTick : Bool) (ahead : Nat) (s : State) :
    Host.Outcome State Fault Refusal :=
  .next (if s.declared k ≤ p || atTick && s.get F.LINK_STR_STATUS.STR_VER k ≠ 3 then s
    else if c = .latFrom && !s.latDeliverable k (s.base k + p) atTick then s.refreshDrift k
    else s.sendRequest k p bcast (.config c) fun tag =>
      State.configMsg k (if bcast then 0x7F else p) tag (s.cfgParams k p c) atTick (s.tickNo + ahead))

/-- TEST_SEND (R87, R94): a version 1 string runs code 0x3 only (R100). -/
def execTestSend (k : Fin 64) (p : Fin 128) (bcast : Bool) (code : Fin 4) (ahead : Nat) (s : State) :
    Host.Outcome State Fault Refusal :=
  .next (if s.declared k ≤ p || s.get F.LINK_STR_STATUS.STR_VER k < 2 && code ≠ 3 then s
    else
      let run := s.tickNo + ahead
      let s := if bcast && s.hopOpen k && s.serviceTime then
          let s := s.each (s.stringCells k) fun s i => s.setCell i { s.cell i with testRuns := (s.cell i).testRuns ++ [(run, code.val)] }
          if s.isReady then s else s.setLink k { s.link k with bcasts := (s.link k).bcasts ++ [(code.val, run)] }
        else s
      s.sendRequest k p bcast (.test code run) fun tag => State.testMsg k (if bcast then 0x7F else p) tag code (s.tickNo + ahead))

/-- SYNC is due on a string in this tick, once (R342): SYNC_TICKS ticks after the last one, from the
acceptance of a staged group to its landing tick, and in the 4 ticks after a load. That the count starts at
the last SYNC sent is DESIGN CHOICE (log entry 115). -/
def State.syncDue (s : State) (k : Nat) : Bool :=
  let n := s.tickNo
  let at_ := (s.link k).syncAt
  at_ ≠ some n
    && (at_.all (fun t => decide (n < t ∨ t + s.get F.TIME_STR_CTRL.SYNC_TICKS ≤ n)) || s.flag F.TICK_STAGE.PENDING
      || s.tick.landedAt = some n || s.clk.syncUntil.any (n ≤ ·))

/-- SYNC_SEND (R342): SYNC from the own end on a string in use where it is due, at the times of R94. -/
def execSyncSend (k : Fin 64) (tx : Stamp) (s : State) : Host.Outcome State Fault Refusal :=
  .next (if s.declared k = 0 || !s.serviceTime || !s.syncDue k then s
    else (s.setLink k { s.link k with syncAt := some s.tickNo }).sendMsg k (s.syncMsg tx))

/-- CALL_SEND (R130). -/
def execCallSend (k : Fin 64) (s : State) : Host.Outcome State Fault Refusal := .next (s.sendCall k)

/-- ECHO_REQ_SEND (R344). -/
def execEchoReqSend (k : Fin 64) (t1 : Stamp) (s : State) : Host.Outcome State Fault Refusal := .next (s.sendEcho k t1)

/-- REQUEST_TIMEOUT (R94): REPLY_WAIT ticks have passed without a reply to the request of this TAG; an
ECHO_REQ, which carries none, goes by 0. -/
def execRequestTimeout (k : Fin 64) (tag : BitVec 8) (s : State) : Host.Outcome State Fault Refusal :=
  .next (if tag = 0 then s.echoTimeout k else s.requestTimeout k tag.toNat)

/-- DISC_WAIT_EXPIRY (R130, R131). -/
def execDiscWaitExpiry (k : Fin 64) (s : State) : Host.Outcome State Fault Refusal := .next (s.takeCall k)

/-- DISC_PERIOD_EXPIRY (R135): a run is due on every string. -/
def execDiscPeriodExpiry (s : State) : Host.Outcome State Fault Refusal := .next s.runAll

/-- REMEAS_PERIOD_EXPIRY (R136): the next string's latency is measured again. -/
def execRemeasPeriodExpiry (k : Fin 64) (s : State) : Host.Outcome State Fault Refusal :=
  .next (if s.declared k = 0 then s else s.startMeasure k)

/-- SCHEDULE_DEVIATION (R136): four consecutive ticks with a report off its schedule. -/
def execScheduleDeviation (k : Fin 64) (s : State) : Host.Outcome State Fault Refusal :=
  .next (if (s.link k).devRun < 4 then s else s.startMeasure k)

/-- LATENCY_MEASURED (R136, R344): MEAS_TICKS samples are taken. -/
def execLatencyMeasured (k : Fin 64) (s : State) : Host.Outcome State Fault Refusal := .next (s.finishMeasure k)

/-- ADMIT_RETRY_EXPIRY (R138): cells of blocked arms with codes 7 to 10 try again. -/
def execAdmitRetryExpiry (s : State) : Host.Outcome State Fault Refusal :=
  .next (s.each s.allCells fun s i => if s.cellDeblocked i then s else s.tryAdmit i true)

/-- ADMISSION_COMPLETE (R126, R140). -/
def execAdmissionComplete (i : Fin 6144) (s : State) : Host.Outcome State Fault Refusal := .next (s.admissionComplete i)

end Sys2Proof.Machine
end

