-- ==== Sys2Proof/Machine/Lanes.lean ====
section
/-!
DEFINITION. The serial lanes of 02_serial_lanes.md: detectors, block lock, the bring-up of a hop,
transmit taps, the twin bond, power states. CELL lanes are 0 to 63, TWIN 64 to 67, STN 68 to 71 (R40).
-/

namespace Sys2Proof.Machine

def isCell (l : Nat) : Bool := l < 64
def isTwin (l : Nat) : Bool := 64 ≤ l && l < 68
def isStn (l : Nat) : Bool := 68 ≤ l && l < 72

/-- Lane states (R67). -/
def lsDisabled : Nat := 0
def lsDetect : Nat := 1
def lsBase : Nat := 2
def lsNegotiate : Nat := 3
def lsFinal : Nat := 4
def lsUp : Nat := 5
def lsRelock : Nat := 6
def lsFailed : Nat := 7

/-- Reference input of a lane (R40). -/
def refOf (l : Nat) : Nat := if l < 32 || isTwin l then 0 else 1

/-- The presets of R56: C_PRE, C_MAIN, C_POST. -/
def presetTaps : Nat → Nat × Nat × Nat
  | 0 => (0, 63, 0) | 1 => (0, 57, 6) | 2 => (0, 53, 10) | 3 => (0, 48, 15)
  | 4 => (4, 53, 6) | 5 => (4, 49, 10) | 6 => (6, 45, 12) | _ => (8, 41, 14)

/-- The bounds of R55. -/
def tapsOk (t : Int × Int × Int) : Bool :=
  0 ≤ t.1 && t.1 ≤ 15 && 32 ≤ t.2.1 && t.2.1 ≤ 63 && 0 ≤ t.2.2 && t.2.2 ≤ 31
    && t.1 + t.2.1 + t.2.2 ≤ 63 && 16 ≤ t.2.1 - t.1 - t.2.2

/-- CHECK of a training block (R51). -/
def trainingOk (b : Block) : Bool := bType b = 0xE1 && Crc.crc16 (Crc.bytesBE 6 (Block.get b 63 16)) = Block.get b 15 0

namespace State

def laneSt (s : State) (l : Nat) : Nat := s.get F.LANE_STATUS.STATE l

def setTaps (s : State) (l : Nat) (t : Nat × Nat × Nat) : State :=
  ((s.set F.LANE_TAPS.C_PRE t.1 l).set F.LANE_TAPS.C_MAIN t.2.1 l).set F.LANE_TAPS.C_POST t.2.2 l

-- The twin bond (R59, R60)

/-- Logical lanes that are UP, by the accepted map. -/
def bondUp (s : State) (logical : Nat) : Bool :=
  (List.range 4).any fun p => s.bond.map[p]? = some logical && s.laneSt (64 + p) = lsUp

def setWidth (s : State) (w : Nat) : State :=
  ((s.set F.BOND_STATUS.WIDTH w).set F.TWIN_STATUS.WIDTH w).setB F.BOND_STATUS.FORMED (w != 0)

/-- The bond fails with BOND_MAP or BOND_SKEW: all four lanes retrain after LANE_RETRY (R59, R60). -/
def bondFault (s : State) (reason : Nat) : State :=
  let s := (s.bump F.BOND_STATUS.FAULT_CNT).setWidth 0
  let s := { s with bond := { s.bond with map := [], widen := false, queue := [] } }
  s.each [64, 65, 66, 67] fun s l => (s.set F.LANE_STATUS.STATE lsFailed l).set F.LANE_STATUS.FAIL_REASON reason l

/-- The bond after a lane has come UP: four lanes form it by the identity or the full reversal, and a lane
that comes UP again with another LANE_ID breaks the map; a bond at half width waits for the next alignment
block; a pair that is UP again carries a bond that was down. -/
def bondJoin (s : State) : State :=
  let all := [64, 65, 66, 67].all fun l => s.laneSt l = lsUp
  let wrong := (List.range 4).any fun p => s.laneSt (64 + p) = lsUp
    && (s.lane (64 + p)).laneId.any fun i => s.bond.map[p]? ≠ some i
  if s.bond.map ≠ [] && wrong then s.bondFault 2
  else if s.bond.map = [] then
    if !all then s
    else
      let ids := [64, 65, 66, 67].map fun l => (s.lane l).laneId.getD 0
      if ids = [0, 1, 2, 3] || ids = [3, 2, 1, 0] then
        (({ s with bond := { s.bond with map := ids, widen := false, phase := 0, slot := 0 } }).setB F.BOND_STATUS.REVERSED (ids = [3, 2, 1, 0])).setWidth 2
      else s.bondFault 2
  else if all then { s with bond := { s.bond with widen := true } }
  else if s.get F.BOND_STATUS.WIDTH = 0 then
    if s.bondUp 0 && s.bondUp 1 then (s.set F.BOND_STATUS.PAIR 0).setWidth 1
    else if s.bondUp 2 && s.bondUp 3 then (s.set F.BOND_STATUS.PAIR 1).setWidth 1 else s
  else s

/-- A lane of the bond has left UP: the bond narrows to the pair of logical lanes 0 and 1 or 2 and 3
that is entirely UP, else it is down (R60). With no lane UP the map is read anew (R59). -/
def bondNarrow (s : State) : State :=
  let s := if [64, 65, 66, 67].any fun l => s.laneSt l = lsUp then s
    else { s with bond := { s.bond with map := [], queue := [] } }
  if s.get F.BOND_STATUS.WIDTH = 0 then s
  else
    let s := { s with bond := { s.bond with widen := false } }
    if s.bondUp 0 && s.bondUp 1 then (s.set F.BOND_STATUS.PAIR 0).setWidth 1
    else if s.bondUp 2 && s.bondUp 3 then (s.set F.BOND_STATUS.PAIR 1).setWidth 1
    else s.setWidth 0

-- State changes

/-- What a lane that leaves UP takes with it: the hop version and the kept messages of a string's hop, and
the HOP_SEQ received last, which begins anew at 0 (R98; DESIGN CHOICE, log entry 100), the width of the
bond (R60). -/
def leaveUp (s : State) (l : Nat) : State :=
  if isCell l then
    let s := (s.set F.LINK_STR_STATUS.HOP0_VER 0 l).setLink l { s.link l with kept := [], rxSeq := 0 }
    let x := s.lane l
    let s := s.setLane l { x with tx := { x.tx with naks := [], cur := [], resent := [], own := [] } }
    s.refreshVersion l
  else if isTwin l then s.bondNarrow
  else s

/-- A lane's new state; leaving UP takes its consequences. -/
def setLaneSt (s : State) (l v : Nat) : State :=
  let old := s.laneSt l
  let s := s.set F.LANE_STATUS.STATE v l
  if old = lsUp && v ≠ lsUp then s.leaveUp l else s

/-- BASE: SL-1 clock recovery and block lock (R50). -/
def enterBase (s : State) (l : Nat) : State :=
  let s := (s.setLaneSt l lsBase).setB F.LANE_STATUS.BLOCK_LOCK false l
  let s := s.set F.LANE_STATUS.GEN (if isCell l then 1 else 0) l
  let x := s.lane l
  s.setLane l { x with target := 0, matched := 0, heard := false, ownReady := false, readyRun := 0, hdrRun := 0
                       tx := { x.tx with trained := 0 } }

/-- FINAL at a generation (R50, R52); a TWIN lane has one rate and no generation. -/
def enterFinal (s : State) (l g : Nat) : State :=
  let s := (s.setLaneSt l lsFinal).setB F.LANE_STATUS.BLOCK_LOCK false l
  let s := s.set F.LANE_STATUS.GEN (if isCell l then g else 0) l
  let x := s.lane l
  s.setLane l { x with target := g, ownReady := false, readyRun := 0, lastSeq := none, stat := (0, 0, 0), hdrRun := 0
                       tx := { x.tx with req := 0 } }

/-- The signal is there: DETECT leads on (R50); TWIN lanes train at their one rate. -/
def leaveDetect (s : State) (l : Nat) : State := if isTwin l then s.enterFinal l 0 else s.enterBase l

/-- The preset named by PRESET in LANE_TAPS (R56). -/
def presetLane (s : State) (l : Nat) : State := s.setTaps l (presetTaps (s.get F.LANE_CTRL.PRESET l))

/-- DETECT: every generation is offered again, the preset taps apply (R50, R54, R56). GEN reads 0 here, in
FAILED, and on TWIN and STN lanes (R67; DESIGN CHOICE, log entry 98). -/
def enterDetect (s : State) (l : Nat) : State :=
  let s := ((s.setLaneSt l lsDetect).setB F.LANE_STATUS.BLOCK_LOCK false l).set F.LANE_STATUS.GEN 0 l
  let s := ((s.setB F.LANE_STATUS.LEGACY false l).set F.LANE_STATUS.FAIL_REASON 0 l).presetLane l
  let x := s.lane l
  let s := s.setLane l { bitPos := x.bitPos, tx := { x.tx with trained := 0, req := 0 } }
  if s.flag F.LANE_STATUS.LOS l then s else s.leaveDetect l

/-- The taps the start-up training of Clause 72 leaves on an STN lane: the spec names none, so they are free
within R55 (R61; log entry 96). -/
def stnTrained (s : State) (l : Nat) : State :=
  let (w, s) := s.free
  let t := (bits w.toNat 3 0, bits w.toNat 13 8, bits w.toNat 20 16)
  if tapsOk ((t.1 : Int), (t.2.1 : Int), (t.2.2 : Int)) then s.setTaps l t else s

/-- UP; the own hop of a string that returns to UP starts a discovery run (R135). -/
def enterUp (s : State) (l : Nat) : State :=
  let s := s.set F.LANE_STATUS.STATE lsUp l
  if isStn l then (if s.flag F.LANE_CTRL.STN_TRAIN l then s.stnTrained l else s)
  else if isCell l then s.setLink l { s.link l with runDue := s.declared l ≠ 0 }
  else if isTwin l then s.bondJoin
  else s

/-- DISABLED: the transmitter at electrical idle (R50). -/
def disableLane (s : State) (l : Nat) : State :=
  (((s.setLaneSt l lsDisabled).setB F.LANE_STATUS.BLOCK_LOCK false l).set F.LANE_STATUS.GEN 0 l).setLane l
    { tx := { scr := (s.lane l).tx.scr } }

/-- Lane training begins for every enabled lane of a list (R50, R418). -/
def startTraining (s : State) (ls : List Nat) : State :=
  s.each ls fun s l => if s.flag F.LANE_CTRL.ENABLE l && s.laneSt l = lsDisabled then s.enterDetect l else s

/-- A request that would stop the lane is refused: its string holds a cell of a deblocked arm, or the
twin mode is DUPLEX, PARTITIONED or REJOINING (R63). -/
def laneBusy (s : State) (l : Nat) : Bool :=
  isCell l && s.declared l ≠ 0 && (s.arm (s.get F.CAT_STR_INFO.ARM l)).deblocked
    || isTwin l && (s.mode = 2 || s.mode = 4 || s.mode = 5)

def refuseLane (s : State) (l : Nat) : State := s.setB F.LANE_EVENT.REFUSED_SEEN true l

/-- Lane training has begun in this start-up (R418 step 6). -/
def trainingBegun (s : State) : Bool := s.get F.BOOT_STATUS.STEP ≥ 6

-- Detectors (R48, R49)

def losAssert (s : State) (l : Nat) : State :=
  let s := ((s.setB F.LANE_STATUS.LOS true l).setB F.LANE_EVENT.LOS_SEEN true l).bump F.LANE_EVT_CNT.LOS_CNT 1 l
  if s.laneSt l = lsDisabled then s else s.enterDetect l

/-- The effect of a loss of lock or of block lock: an UP lane goes to RELOCK. -/
def toRelock (s : State) (l : Nat) : State :=
  let s := if s.laneSt l = lsFinal then s.setLane l { s.lane l with ownReady := false } else s
  if s.laneSt l = lsUp then s.setLaneSt l lsRelock else s

/-- LOL; lock says that block lock is lost in the same cycle, which then neither counts nor sets its sticky
bit (R49). -/
def lolAssert (s : State) (l : Nat) (lock : Bool := false) : State :=
  let s := if lock then s.setB F.LANE_STATUS.BLOCK_LOCK false l else s
  (((s.setB F.LANE_STATUS.LOL true l).setB F.LANE_EVENT.LOL_SEEN true l).bump F.LANE_EVT_CNT.LOL_CNT 1 l).toRelock l

def lockLoss (s : State) (l : Nat) : State :=
  (((s.setB F.LANE_STATUS.BLOCK_LOCK false l).setB F.LANE_EVENT.LOCK_LOSS_SEEN true l).bump F.LANE_EVT_CNT2.LOCK_LOSS_CNT 1 l).toRelock l

/-- Lock is back: RELOCK leads to UP at the same generation and taps (R50). -/
def relocked (s : State) (l : Nat) : State :=
  if s.laneSt l = lsRelock && s.flag F.LANE_STATUS.BLOCK_LOCK l && !s.flag F.LANE_STATUS.LOL l then s.enterUp l else s

/-- Block lock is gained: a FINAL end is ready, an STN lane in BASE comes UP, a lane in RELOCK returns (R50,
R61). The states of R50 are those of CELL lanes; an STN lane passes DETECT, BASE, UP and RELOCK (DESIGN
CHOICE, log entry 96). -/
def lockGain (s : State) (l : Nat) : State :=
  let s := s.setB F.LANE_STATUS.BLOCK_LOCK true l
  if s.laneSt l = lsFinal then s.setLane l { s.lane l with ownReady := true }
  else if isStn l && s.laneSt l = lsBase then s.enterUp l
  else s.relocked l

/-- Block lock by the headers (R45): locked after 64 consecutive valid ones; unlocked when 16 invalid ones
fall within any 64; while unlocked in automatic alignment each invalid one slips the boundary by a bit. -/
structure HdrScan where
  lock : Bool
  run : Nat
  win : List Bool
  slip : Nat
deriving DecidableEq, Repr

def HdrScan.next (auto : Bool) (x : HdrScan) (ok : Bool) : HdrScan :=
  if x.lock then
    let w := (ok :: x.win).take 64
    if 16 ≤ (w.filter (!·)).length then { x with lock := false, run := 0, win := [] } else { x with win := w }
  else
    let r := if ok then x.run + 1 else 0
    if 64 ≤ r then { x with lock := true, run := 0, win := [] }
    else { x with run := r, slip := if auto && !ok then x.slip + 1 else x.slip }

/-- The headers received on a lane since the last such command: invalid ones count in SYNC_ERR_CNT (R42),
and block lock, the boundary and what they lead to follow R45 on CELL and TWIN lanes. An STN lane keeps
the block lock of its standard, which the command reports as gained or lost (R61). -/
def takeHeaders (s : State) (l : Nat) (hs : List Bool) (gained : Bool) : State :=
  let s := s.bump F.LANE_SYNC_ERR_CNT.COUNT (hs.filter (!·)).length l
  if isStn l then (if gained then s.lockGain l else s.lockLoss l)
  else
    let x := s.lane l
    let auto := !s.flag F.LANE_CTRL.ALIGN_MODE l
    let was := s.flag F.LANE_STATUS.BLOCK_LOCK l
    let r := hs.foldl (HdrScan.next auto) ⟨was, x.hdrRun, x.hdrs, 0⟩
    let s := s.setLane l { x with hdrRun := r.run, hdrs := r.win, bitPos := (x.bitPos + r.slip) % 66 }
    if r.lock && !was then s.lockGain l else if was && !r.lock then s.lockLoss l else s

-- Training (R51 to R57)

/-- Generations the device offers: up to GEN_MAX, less those that failed since DETECT (R52). -/
def offered (s : State) (l : Nat) : List Nat :=
  [3, 2, 1].filter fun g => g ≤ s.get F.LANE_CTRL.GEN_MAX l && !(s.lane l).removed.contains g

/-- GEN_SEL: the highest generation both ends offer (R52). -/
def genSel (s : State) (l : Nat) : Nat :=
  ((s.offered l).find? fun g => hasBit (s.get F.LANE_TAPS.FAR_GEN_CAP l) (g - 1)).getD 0

/-- The device accepts tap requests: always on TWIN, on CELL with TAP_MODE = 1 (R57). -/
def reqCapable (s : State) (l : Nat) : Bool := isTwin l || s.flag F.LANE_CTRL.TAP_MODE l

/-- One tap request with the changes already applied: the new taps and the answer (R57). -/
def tapRequest (t : Int × Int × Int) (which req : Nat) : (Int × Int × Int) × Nat :=
  let d : Int := if req = 1 then 1 else -1
  let t' := if which = 0 then (t.1 + d, t.2.1, t.2.2) else if which = 1 then (t.1, t.2.1 + d, t.2.2) else (t.1, t.2.1, t.2.2 + d)
  if req = 0 || req = 3 then (t, 0) else if tapsOk t' then (t', 1) else (t, if req = 1 then 3 else 2)

/-- The tap requests of a training block, in the order pre, main, post; a preset overrides them (R57). After
a preset every tap is answered 'updated' (DESIGN CHOICE, log entry 97). -/
def applyTaps (s : State) (l : Nat) (b : Block) : State :=
  let pr := Block.get b 43 42
  let ma := Block.get b 41 40
  let po := Block.get b 39 38
  if pr = 3 || ma = 3 || po = 3 then
    (s.setTaps l (presetTaps (Block.get b 37 35))).setLane l { s.lane l with stat := (1, 1, 1) }
  else
    let t : Int × Int × Int := (s.get F.LANE_TAPS.C_PRE l, s.get F.LANE_TAPS.C_MAIN l, s.get F.LANE_TAPS.C_POST l)
    let (t, a) := tapRequest t 0 pr
    let (t, m) := tapRequest t 1 ma
    let (t, p) := tapRequest t 2 po
    (s.setTaps l (t.1.toNat, t.2.1.toNat, t.2.2.toNat)).setLane l { s.lane l with stat := (a, m, p) }

/-- A valid training block: capabilities, LANE_ID, the count of matching GEN_SEL, RX_READY and tap
requests (R50 to R52, R57, R59). -/
def takeTraining (s : State) (l : Nat) (b : Block) : State :=
  let s := (s.set F.LANE_TAPS.FAR_GEN_CAP (Block.get b 51 48) l).set F.LANE_TAPS.FAR_REQ_CAPABLE (Block.get b 44 44) l
  let s := s.setLane l { s.lane l with heard := true, laneId := some (Block.get b 27 24) }
  if s.laneSt l = lsBase && isCell l then
    let s := s.setLaneSt l lsNegotiate
    s.setLane l { s.lane l with matched := if Block.get b 47 46 = s.genSel l && s.genSel l ≠ 0 then 1 else 0, target := s.genSel l }
  else if s.laneSt l = lsNegotiate then
    let x := s.lane l
    s.setLane l { x with matched := if Block.get b 47 46 = s.genSel l && s.genSel l ≠ 0 then x.matched + 1 else 0, target := s.genSel l }
  else if s.laneSt l = lsFinal then
    let x := s.lane l
    let s := s.setLane l { x with readyRun := if Block.get b 45 45 = 1 then x.readyRun + 1 else 0 }
    let fresh := x.lastSeq ≠ some (Block.get b 55 52)
    let s := if fresh && s.reqCapable l && Block.get b 44 44 = 1 then s.applyTaps l b else s
    s.setLane l { s.lane l with lastSeq := some (Block.get b 55 52) }
  else s

/-- A block received while training: an inverted one corrects the polarity, one whose CHECK fails is
ignored (R51, R58). -/
def rxTraining (s : State) (l : Nat) (ctrl : Bool) (b : Block) : State :=
  let st := s.laneSt l
  if isStn l || st = lsDisabled || st = lsUp then s
  else if ctrl then (if trainingOk b then s.takeTraining l b else s)
  else if trainingOk (~~~b) then
    let s := (s.bump F.LANE_EVT_CNT2.POL_FLIPS 1 l).setB F.LANE_EVENT.POL_FLIP_SEEN true l
    s.setB F.LANE_STATUS.RX_INVERTED (!s.flag F.LANE_STATUS.RX_INVERTED l) l
  else s

-- Management requests (R46, R62, R63, R66)

def laneCntClear (s : State) (l : Nat) : State :=
  s.clearAll [F.LANE_SYNC_ERR_CNT.COUNT, F.LANE_EVT_CNT.LOL_CNT, F.LANE_EVT_CNT.LOS_CNT, F.LANE_EVT_CNT2.POL_FLIPS,
    F.LANE_EVT_CNT2.RETRAIN_CNT, F.LANE_EVT_CNT2.LOCK_LOSS_CNT] l

/-- RETRAIN returns the lane to DETECT unless R63 refuses it. -/
def retrain (s : State) (l : Nat) : State :=
  if s.laneBusy l then s.refuseLane l
  else if s.laneSt l = lsDisabled then s
  else (s.bump F.LANE_EVT_CNT2.RETRAIN_CNT 1 l).enterDetect l

/-- BIT_SLIP moves the boundary by one bit in manual alignment while unlocked (R46). -/
def bitSlip (s : State) (l : Nat) : State :=
  if s.flag F.LANE_CTRL.ALIGN_MODE l && !s.flag F.LANE_STATUS.BLOCK_LOCK l then
    s.setLane l { s.lane l with bitPos := ((s.lane l).bitPos + 1) % 66 }
  else s

/-- A forced HUSK has gone to the lane in the present cycle (R64): no TIME cycle has passed since. -/
def huskNow (s : State) (l : Nat) : Bool :=
  (s.wire.drop s.taken).any fun w => match w with
    | .husk k _ true => k = l
    | _ => false

/-- A write of ENABLE (R50, R63); a TWIN lane trains in a twin installation only (R274). -/
def enableWrite (s : State) (l : Nat) (on : Bool) : State :=
  if !on && s.laneBusy l then s.refuseLane l
  else
    let s := s.setB F.LANE_CTRL.ENABLE on l
    if !on then s.disableLane l
    else if s.trainingBegun && s.laneSt l = lsDisabled && (!isTwin l || s.flag F.TWIN_CTRL.TWIN_EN) then s.enterDetect l else s

/-- The requested power state is reached (R62). A receiver that leaves a low-power state enters RELOCK
if its lane was UP, and DETECT otherwise; on its way there BLOCK_LOCK reads 0 without a count, and STATE
stays (DESIGN CHOICE, log entry 99). -/
def powerReached (s : State) (l : Nat) (tx : Bool) : State :=
  if tx then s.set F.LANE_STATUS.TX_PWR (s.get F.LANE_CTRL.TX_PWR_REQ l) l
  else
    let old := s.get F.LANE_STATUS.RX_PWR l
    let new := s.get F.LANE_CTRL.RX_PWR_REQ l
    let s := s.set F.LANE_STATUS.RX_PWR new l
    if old = 0 && new ≠ 0 then
      (s.setLane l { s.lane l with wasUp := s.laneSt l = lsUp }).setB F.LANE_STATUS.BLOCK_LOCK false l
    else if old ≠ 0 && new = 0 && s.laneSt l ≠ lsDisabled then
      if (s.lane l).wasUp then s.setLaneSt l lsRelock else s.enterDetect l
    else s

end State

/-- LOS_ASSERT (R48, R49): LOS counts alone where LOL, block lock loss or a RETRAIN write fall in the
same cycle; lol says that the LOL detector is asserted as well. -/
def execLosAssert (l : Fin 72) (lol : Bool) (s : State) : Host.Outcome State Fault Refusal :=
  .next ((if lol then s.setB F.LANE_STATUS.LOL true l else s).losAssert l)

/-- LOS_DEASSERT (R48, R50). -/
def execLosDeassert (l : Fin 72) (s : State) : Host.Outcome State Fault Refusal :=
  .next (let s := s.setB F.LANE_STATUS.LOS false l
         if s.laneSt l = lsDetect then s.leaveDetect l else s)

/-- LOL_ASSERT (R48, R49) on a lane, and whether block lock loss falls in the same cycle. -/
def execLolAssert (l : Fin 72 × Bool) (s : State) : Host.Outcome State Fault Refusal := .next (s.lolAssert l.1 l.2)

/-- LOL_DEASSERT (R48); a lane whose reference is lost keeps its loss of lock (R41). -/
def execLolDeassert (l : Fin 72) (s : State) : Host.Outcome State Fault Refusal :=
  .next (if s.flag (if refOf l = 0 then F.LANE_COMMON.REFCLK_0_LOSS else F.LANE_COMMON.REFCLK_1_LOSS) then s
    else (s.setB F.LANE_STATUS.LOL false l).relocked l)

/-- BLOCK_LOCK_GAIN (R45), with the headers received since the last such event, true for a valid one (R42). -/
def execBlockLockGain (l : Fin 72) (hs : List Bool) (s : State) : Host.Outcome State Fault Refusal :=
  .next (s.takeHeaders l hs true)

/-- BLOCK_LOCK_LOSS (R45, R48), with the headers received since the last such event. -/
def execBlockLockLoss (l : Fin 72) (hs : List Bool) (s : State) : Host.Outcome State Fault Refusal :=
  .next (s.takeHeaders l hs false)

/-- HI_ERR_WINDOW_END (R47): n invalid headers fell in the window that ends. On an STN lane the standard's
monitor, which the spec does not lay out, decides: a free value (R61; log entry 96). -/
def execHiErrWindowEnd (l : Fin 72) (n : Nat) (s : State) : Host.Outcome State Fault Refusal :=
  .next (let s := s.bump F.LANE_SYNC_ERR_CNT.COUNT n l
         if isStn l then (let (w, s) := s.free; s.setB F.LANE_STATUS.HI_ERR (w.getLsbD 0) l)
         else if n ≥ 16 then (if s.flag F.LANE_STATUS.BLOCK_LOCK l then s.setB F.LANE_STATUS.HI_ERR true l else s)
         else s.setB F.LANE_STATUS.HI_ERR false l)

/-- REFCLK_LOSS (R41): every lane the input feeds reports loss of lock. -/
def execRefclkLoss (r : Fin 2) (s : State) : Host.Outcome State Fault Refusal :=
  .next (let s := s.setB (if r = 0 then F.LANE_COMMON.REFCLK_0_LOSS else F.LANE_COMMON.REFCLK_1_LOSS) true
         s.each ((List.range 72).filter fun l => refOf l = r) fun s l =>
           (s.lolAssert l).set F.LANE_STATUS.FAIL_REASON 4 l)

/-- REFCLK_RETURN (R41). -/
def execRefclkReturn (r : Fin 2) (s : State) : Host.Outcome State Fault Refusal :=
  .next (let s := s.setB (if r = 0 then F.LANE_COMMON.REFCLK_0_LOSS else F.LANE_COMMON.REFCLK_1_LOSS) false
         s.each ((List.range 72).filter fun l => refOf l = r && s.get F.LANE_STATUS.FAIL_REASON l = 4) fun s l =>
           s.set F.LANE_STATUS.FAIL_REASON 0 l)

/-- TRAINING_BLOCK_RX (R51, R58): ctrl says that the block came with the control header. -/
def execTrainingBlockRx (l : Fin 72) (ctrl : Bool) (b : Block) (s : State) : Host.Outcome State Fault Refusal :=
  .next (s.rxTraining l ctrl b)

/-- GEN_SWITCH (R52): 16 matching blocks received and 32 more sent. -/
def execGenSwitch (l : Fin 72) (s : State) : Host.Outcome State Fault Refusal :=
  .next (if s.laneSt l = lsNegotiate && (s.lane l).matched ≥ 16 && (s.lane l).tx.trained ≥ 32 && s.genSel l ≠ 0 then s.enterFinal l (s.genSel l) else s)

/-- FINAL_UP (R50): 8 consecutive RX_READY while the own receiver is ready. -/
def execFinalUp (l : Fin 72) (s : State) : Host.Outcome State Fault Refusal :=
  .next (if s.laneSt l = lsFinal && (s.lane l).ownReady && (s.lane l).readyRun ≥ 8 then s.enterUp l else s)

/-- LEGACY_TIMEOUT (R53): a fixed-rate SL-1 end; the preset taps apply. -/
def execLegacyTimeout (l : Fin 72) (s : State) : Host.Outcome State Fault Refusal :=
  .next (if isCell l && s.laneSt l = lsBase && s.flag F.LANE_STATUS.BLOCK_LOCK l && !(s.lane l).heard then
      ((s.setB F.LANE_STATUS.LEGACY true l).presetLane l).enterUp l
    else s)

/-- FINAL_TIMEOUT (R54): the target generation leaves the offer; a TWIN lane, with one rate, starts again. -/
def execFinalTimeout (l : Fin 72) (s : State) : Host.Outcome State Fault Refusal :=
  .next (if s.laneSt l ≠ lsFinal then s
    else
      let s := (s.bump F.LANE_EVT_CNT2.RETRAIN_CNT 1 l).setB F.LANE_EVENT.FALLBACK_SEEN true l
      if isTwin l then s.enterDetect l
      else (s.setLane l { s.lane l with removed := (s.lane l).target :: (s.lane l).removed }).enterBase l)

/-- BASE_TIMEOUT (R54): no SL-1 block lock within 4 ms. -/
def execBaseTimeout (l : Fin 72) (s : State) : Host.Outcome State Fault Refusal :=
  .next (if isCell l && s.laneSt l = lsBase && !s.flag F.LANE_STATUS.BLOCK_LOCK l then
      ((s.setLaneSt l lsFailed).set F.LANE_STATUS.FAIL_REASON 1 l).set F.LANE_STATUS.GEN 0 l
    else s)

/-- LANE_RETRY_EXPIRY (R54, R59). -/
def execLaneRetryExpiry (l : Fin 72) (s : State) : Host.Outcome State Fault Refusal :=
  .next (if s.laneSt l = lsFailed then s.enterDetect l else s)

/-- RELOCK_TIMEOUT (R50). -/
def execRelockTimeout (l : Fin 72) (s : State) : Host.Outcome State Fault Refusal :=
  .next (if s.laneSt l = lsRelock then s.enterDetect l else s)

/-- BOND_ALIGN_BLOCK (R60), with the skew it shows, in blocks. -/
def execBondAlignBlock (skew : Nat) (s : State) : Host.Outcome State Fault Refusal :=
  .next (if s.get F.BOND_STATUS.WIDTH = 0 then s
    else if skew > 32 then s.bondFault 3
    else
      let s := s.set F.BOND_STATUS.SKEW (max (s.get F.BOND_STATUS.SKEW) skew)
      if s.bond.widen then ({ s with bond := { s.bond with widen := false } }).setWidth 2 else s)

/-- LANE_POWER_STATE_REACHED (R62), of the transmitter or the receiver. -/
def execLanePowerStateReached (l : Fin 72) (tx : Bool) (s : State) : Host.Outcome State Fault Refusal :=
  .next (s.powerReached l tx)

end Sys2Proof.Machine
end

