-- ==== Sys2Proof/Machine/Measure.lean ====
section
/-!
DEFINITION. The measurement inputs of 06_measurement_inputs.md: conversions, comparators, calibration,
urgent requests, sampled-value streams, and each channel's tick value and validity.
-/

namespace Sys2Proof.Machine

/-- Raw codes that mark an overrange conversion (R149). -/
def overCode (c : Int) : Bool := c = 32767 || c = -32768

namespace State

def analogue (s : State) (n : Nat) : Bool := s.flag F.MCH_CTRL.ENABLE n && !s.flag F.MCH_CTRL.SOURCE n

def calRunning (s : State) : Bool := s.get F.ADC_STATUS.CAL_STATE = 1

def calGain (s : State) (n : Nat) : Int := s.get F.MCH_CAL.GAIN n
def calOfs (s : State) (n : Nat) : Int := toSigned 16 (s.get F.MCH_CAL.OFS n)

/-- code_c of a raw code times 32,768 (R152). -/
def corrected (s : State) (n : Nat) (raw : Int) : Int := s.calGain n * (raw - s.calOfs n)

/-- Engineering value of a sum of m raw codes: SCALE × code_c + OFFSET in binary32, code_c formed exactly
and rounded once, product and sum each rounded (R152, R238; DEDUCED, log entry 22). -/
def engValue (s : State) (n : Nat) (sum : Int) (m : Nat) : Word :=
  let c := Fp.ofRatio (s.calGain n * (sum - m * s.calOfs n)) (32768 * m)
  Fp.add (Fp.mul (s.reg (F.MCH_SCALE.VALUE.addr n)) c) (s.reg (F.MCH_OFFSET.VALUE.addr n))

/-- One comparator of a channel after a conversion (R159). -/
def compareSide (s : State) (n : Nat) (hi beyond : Bool) : State :=
  let c := s.chan n
  let en := s.flag (if hi then F.MCH_CTRL.CMP_EN_HI else F.MCH_CTRL.CMP_EN_LO) n && !s.calRunning
  let run := if beyond && en then (if hi then c.runHi else c.runLo) + 1 else 0
  let fire := decide (run > s.get F.MCH_CTRL.DEB n)
  let was := if hi then c.fireHi else c.fireLo
  let s := s.setChan n (if hi then { c with runHi := run, fireHi := fire } else { c with runLo := run, fireLo := fire })
  if fire && !was then
    (s.setB (if hi then F.MCH_STATUS.CMP_SEEN_HI else F.MCH_STATUS.CMP_SEEN_LO) true n).comparator n hi
  else s

/-- A conversion of one analogue channel: its code and both comparators (R151, R159). -/
def convert (s : State) (n : Nat) (raw : Int) : State :=
  if !s.analogue n then s
  else
    let s := s.setChan n { s.chan n with raw := raw }
    let x := s.corrected n raw
    let hi := toSigned 16 (s.get F.MCH_CMP.HI n)
    let lo := toSigned 16 (s.get F.MCH_CMP.LO n)
    let s := s.compareSide n true (raw = 32767 || (raw ≠ -32768 && hi * 32768 ≤ x))
    s.compareSide n false (raw = -32768 || (raw ≠ 32767 && x ≤ lo * 32768))

/-- One conversion of all channels. -/
def convertAll (s : State) (codes : List (BitVec 16)) : State :=
  s.each codes.zipIdx fun s c => s.convert c.2 c.1.toInt

/-- A stream conversion also reaches the record unit (R151, R350). -/
def streamed (s : State) : State :=
  if s.flag F.ADC_CTRL.ADC_MODE then s.each (List.range 24) fun s n => if s.analogue n then s.setChan n { s.chan n with fresh := true } else s
  else s

/-- OSR: conversions in a burst (R151, R166). -/
def osr (s : State) : Nat := match s.get F.ADC_CTRL.OSR with
  | 0 => 1
  | 1 => 2
  | _ => 4

/-- The tick burst of OSR conversions: the codes of each channel kept for its tick value (R151, R152). Any
other number of conversions is no burst. -/
def burst (s : State) (convs : List (List (BitVec 16))) : State :=
  if convs.length ≠ s.osr then s else
  let s := s.each (List.range 24) fun s n =>
    let codes := convs.map fun c => (c.getD n 0#16).toInt
    if s.analogue n then s.setChan n { s.chan n with burst := codes, ovr := codes.any overCode } else s
  (s.each convs fun s c => s.convertAll c).streamed

-- Tick values (R152 to R154, R162, R163)

/-- Ns between samples of a stream. -/
def svInterval (s : State) (k : Nat) : Rat := 1000000000 / (if s.get F.SV_CTRL.RATE k = 0 then 4800 else 14400)

/-- Quality of a sample's value: 6 for invalid or questionable or an unaccepted test, 7 unsynchronised,
0 usable. Validity is bits [1:0] of the quality word, test bit 11 (R163; PRESUMED, log entry 23). -/
def svReject (s : State) (k : Nat) (x : Sample) (v : Nat) : Nat :=
  let q := ((x.vals[v]?).map (·.2.toNat)).getD 0
  if q % 4 = 1 || q % 4 = 3 || (bits q 11 11 = 1 && !s.flag F.SV_CTRL.ACCEPT_TEST k) then 6
  else if s.flag F.SV_CTRL.REQ_SYNC k && x.synch = 0 then 7 else 0

def svInt (x : Sample) (v : Nat) : Rat := (((x.vals[v]?).map fun y => y.1.toInt).getD 0 : Int)

/-- The sample of the latest nominal time that is at or before t, and the one of the earliest after t: samples
may arrive in any order (R162). -/
def sampleBefore (got : List Sample) (t : Rat) : Option Sample :=
  (got.filter fun x => x.time ≤ t).foldl (fun a x => match a with
    | none => some x
    | some y => if y.time < x.time then some x else some y) none

def sampleAfter (got : List Sample) (t : Rat) : Option Sample :=
  (got.filter fun x => t < x.time).foldl (fun a x => match a with
    | none => some x
    | some y => if x.time < y.time then some x else some y) none

/-- The value of a sampled-value channel for the tick whose sample instant is t: a number, or the cause
why there is none (R162, R163). -/
def svValue (s : State) (n : Nat) (t : Rat) : Rat ⊕ Nat :=
  let k := s.get F.MCH_CTRL.SV_STREAM n
  let v := s.get F.MCH_CTRL.SV_VALUE n
  let got := (s.stream k).got
  if !s.flag F.SV_CTRL.ENABLE k then .inr 5
  else if !s.flag F.SV_CTRL.MODE k then
    match sampleBefore got t with
    | none => .inr 5
    | some x =>
      if 2 * s.svInterval k < t - x.time then .inr 5
      else match s.svReject k x v with
        | 0 => .inl (svInt x v)
        | c => .inr c
  else
    let at_ := t - 1000 * s.get F.SV_DELAY.DELAY k
    match sampleBefore got at_, sampleAfter got at_ with
    | some a, some b =>
      if s.svInterval k < b.time - a.time then .inr 5
      else match s.svReject k a v, s.svReject k b v with
        | 0, 0 => .inl (svInt a v + (svInt b v - svInt a v) * (at_ - a.time) / (b.time - a.time))
        | 0, c => .inr c
        | c, 0 => .inr c
        | c, d => .inr (min c d)
    | _, _ => .inr 5

/-- A channel's own value and cause for the present tick (R152, R153, R162). -/
def ownValue (s : State) (n : Nat) : Word × Nat :=
  let c := s.chan n
  let last := s.reg (F.MCH_TICK_VALUE.VALUE.addr n)
  if !s.flag F.MCH_CTRL.ENABLE n then (last, 1)
  else if s.analogue n then
    let v := if c.burst = [] then last else s.engValue n c.burst.sum c.burst.length
    (v, if s.calRunning || !c.calDone || c.rangeWr || c.burst = [] then 2 else if c.calFail then 3 else if c.ovr then 4 else 0)
  else match s.svValue n (s.tick.absT : Rat) with
    | .inr q => (last, q)
    | .inl x =>
      (Fp.add (Fp.mul (s.reg (F.MCH_SCALE.VALUE.addr n)) (Fp.ofRatio x.num x.den)) (s.reg (F.MCH_OFFSET.VALUE.addr n)),
       if s.timeLocked then 0 else 8)

/-- The own value handed over: MCH_TICK_VALUE, cause, validity and the health record (R152 to R154). -/
def handChannel (s : State) (n : Nat) : State :=
  let (v, cause) := s.ownValue n
  let c := s.chan n
  let bad := if cause = 0 then 0 else 1
  let top := c.hist / 2 ^ 1023 % 2
  let s := s.setChan n { c with hist := (2 * c.hist + bad) % 2 ^ 1024, cause := cause, burst := [], ovr := false }
  let s := s.setReg (F.MCH_TICK_VALUE.VALUE.addr n) v
  let s := (s.set F.MCH_STATUS.CAUSE cause n).setB F.MCH_STATUS.VALID (cause = 0) n
  s.set F.MCH_STATUS.BAD_1024 (s.get F.MCH_STATUS.BAD_1024 n + bad - top) n

def handValues (s : State) : State := s.each (List.range 24) fun s n => s.handChannel n

-- Calibration (R155 to R158)

/-- A calibration starts: it covers every channel; comparators are disarmed while it runs. -/
def calBegin (s : State) : State :=
  let s := s.set F.ADC_STATUS.CAL_STATE 1
  s.each (List.range 24) fun s n =>
    s.setChan n { s.chan n with runHi := 0, runLo := 0, fireHi := false, fireLo := false, rangeWr := false }

/-- A write of CAL_START (R155). -/
def calStart (s : State) : State :=
  if s.calRunning then s else if s.anyDeblocked then s.setB F.ADC_STATUS.CAL_REFUSED true else s.calBegin

/-- GAIN and OFS from the mean raw codes of the three phases, given as sums of 256,000 codes (R155). -/
def calFactors (m : Int × Int × Int) : Nat × Int :=
  let ofs := Fp.roundDivEven m.1 256000
  let d := m.2.1 - m.2.2
  let g := if 0 < d then Fp.roundDivEven (32768 * 49152 * 256000) d.toNat else 65535
  ((clampInt 0 65535 g).toNat, clampInt (-32768) 32767 ofs)

/-- A calibration completes; it covers every channel, whatever its source (R155 to R157). -/
def calFinish (s : State) (sums : List (Int × Int × Int)) (temp : Nat) : State :=
  if !s.calRunning then s
  else
    let s := s.each sums.zipIdx fun s x =>
      let n := x.2
      if n ≥ 24 then s
      else
        let (g, o) := calFactors x.1
        let fail := decide (g < 31130 || 34406 < g || o < -328 || 328 < o)
        let s := (s.set F.MCH_CAL.GAIN g n).set F.MCH_CAL.OFS (ofSigned 16 o) n
        s.setChan n { s.chan n with calDone := true, calFail := fail }
    let anyFail := (List.range 24).any fun n => (s.chan n).calFail
    let s := (s.set F.ADC_STATUS.CAL_STATE (if anyFail then 3 else 2)).set F.ADC_STATUS.CAL_TEMP temp
    (s.set F.ADC_STATUS.DIE_TEMP temp).setB F.ADC_STATUS.CAL_STALE false

/-- A write of a channel's RANGE sets CAL_PENDING (R153, R165). -/
def rangeWritten (s : State) (n : Nat) : State := s.setChan n { s.chan n with rangeWr := true }

/-- A write of MCH_CTRL: a channel that is no enabled analogue channel any more has no comparators, and one
whose enable bit is 0 is not armed; what was asserted ceases (R159). -/
def rearm (s : State) (n : Nat) : State :=
  let c := s.chan n
  let c := if s.analogue n && s.flag F.MCH_CTRL.CMP_EN_HI n then c else { c with runHi := 0, fireHi := false }
  let c := if s.analogue n && s.flag F.MCH_CTRL.CMP_EN_LO n then c else { c with runLo := 0, fireLo := false }
  s.setChan n c

/-- The ADC cycle, in ns from T_n, at or after an instant given from T_n in units of 1/32 ns: five cycles
make a conversion (R150, R160; log entry 107). -/
def adcCycle (off : Nat) : Nat := (off + 319) / 320 * 10

/-- A conversion that starts c ns after T_n meets a burst: that of tick n goes on, or it would not end before
the first instant of the next (R151, R160). -/
def burstBusy (s : State) (c : Nat) : Bool :=
  let half := (s.osr - 1) * 25
  s.tick.begun && (decide (c < half + 50) || decide (s.periodNs < c + 50 + half))

/-- Another urgent conversion goes on at the cycle (R160). -/
def urgentBusy (s : State) (t : Nat) : Bool := s.tick.urgent.any fun u => u < t && t < u + 50

/-- An urgent request at an instant given from T_n in units of 1/32 ns, served or dropped: one of the same ADC
cycle as a request served before shares its conversion (R160). -/
def urgentServe (s : State) (off : Nat) (codes : List (BitVec 16)) (busy : Bool) : Bool × State :=
  let c := adcCycle off
  let t := s.tick.absT + c
  if busy || s.calRunning || s.flag F.ADC_CTRL.ADC_MODE || s.burstBusy c || s.urgentBusy t then (false, s.bump F.ADC_DROP_CNT.COUNT)
  else
    let shared := s.tick.urgent = some t
    let s := s.bump F.ADC_URGENT_CNT.COUNT
    (true, if shared then s else ({ s with tick := { s.tick with urgent := some t } }).convertAll codes)

/-- The present instant from T_n in units of 1/32 ns. -/
def sinceT (s : State) : Nat := (s.absNs - s.tick.absT) * 32 + s.now.frac.toNat / 2048

/-- The last conversion of each channel in engineering units; 0 for a channel that is not analogue. -/
def lastValues (s : State) : List Word :=
  (List.range 24).map fun n => if s.analogue n then s.engValue n (s.chan n).raw 1 else 0

/-- An urgent request of a write of URGENT: a served result goes to MCH_SNAP_VALUE (R160). -/
def urgent (s : State) (codes : List (BitVec 16)) (busy : Bool) : State :=
  let (ok, s) := s.urgentServe s.sinceT codes busy
  if ok then
    s.each (List.range 24) fun s n =>
      if s.analogue n then s.setReg (F.MCH_SNAP_VALUE.VALUE.addr n) (s.engValue n (s.chan n).raw 1) else s
  else s

def adcCntClear (s : State) : State :=
  let s := s.clearAll [F.ADC_DROP_CNT.COUNT, F.ADC_URGENT_CNT.COUNT]
  s.each (List.range 8) fun s k => s.clearAll [F.SV_RX_CNT.RX, F.SV_ERR_CNT.MISS, F.SV_ERR_CNT.QUAL, F.SV_ERR_CNT.REJECT] k

-- Sampled-value streams (R161, R162)

/-- A stream takes a frame's port. -/
def svPort (s : State) (k : Nat) (f : SvFrame) : Bool :=
  s.flag F.SV_CTRL.ENABLE k && (s.flag F.SV_CTRL.ANY_PORT k || s.get F.SV_CTRL.PORT k = f.port)

/-- The rest of R161: APPID, svID, confRev, ASDUs. -/
def svBelongs (s : State) (k : Nat) (f : SvFrame) : Bool :=
  s.get F.SV_CTRL.APPID k = f.appid.toNat && !f.secured
    && Crc.crc16 (f.svId.map BitVec.toNat) = s.get F.SV_MATCH.SVID_CRC k
    && f.confRev.toNat % 2 ^ 16 = s.get F.SV_MATCH.CONF_REV k
    && 1 ≤ f.asdus.length && f.asdus.length ≤ 8
    && f.asdus.all fun a => a.2.2.length = s.get F.SV_CTRL.NVALUES k + 1

/-- Nominal time of a sample: the second in which it falls plus smpCnt over the rate; the second is the
one that places the sample nearest the present (R162). -/
def sampleTime (s : State) (k cnt : Nat) : Rat :=
  let t : Rat := (s.secondStart : Rat) + s.svInterval k * cnt
  let now : Rat := s.absNs
  if 500000000 < t - now then t - 1000000000 else if 500000000 < now - t then t + 1000000000 else t

/-- One ASDU of an accepted frame; a second copy on a stream with ANY_PORT is discarded uncounted (R161). A
sample one of whose values R163 rejects counts in QUAL once (R166; DESIGN CHOICE, log entry 106). -/
def takeSample (s : State) (k : Nat) (a : Nat × Nat × List (Word × Word)) : State :=
  let g := (s.stream k).got
  let rate := if s.get F.SV_CTRL.RATE k = 0 then 4800 else 14400
  let t := s.sampleTime k a.1
  if s.flag F.SV_CTRL.ANY_PORT k && g.any fun x => x.cnt = a.1 && x.time = t then s
  else
    let gap : Bool := match g with
      | x :: _ => a.1 != (x.cnt + 1) % rate
      | [] => false
    let s := if gap then s.bump F.SV_ERR_CNT.MISS 1 k else s
    let x : Sample := ⟨t, a.1, a.2.1, a.2.2⟩
    let s := if (List.range a.2.2.length).any fun v => s.svReject k x v != 0 then s.bump F.SV_ERR_CNT.QUAL 1 k else s
    s.setStream k { got := (x :: g).take 16384 }

/-- A sampled-value frame (R161). -/
def rxSv (s : State) (f : SvFrame) : State :=
  let ks := (List.range 8).filter fun k => s.svPort k f
  match ks.filter fun k => s.svBelongs k f with
  | [] =>
    let named := ks.filter fun k => s.get F.SV_CTRL.APPID k = f.appid.toNat
    s.each (if named = [] then ks else named) fun s k => s.bump F.SV_ERR_CNT.REJECT 1 k
  | hit => s.each hit fun s k =>
      let copy := s.flag F.SV_CTRL.ANY_PORT k && f.asdus.all fun a =>
        (s.stream k).got.any fun x => x.cnt = a.1 && x.time = s.sampleTime k a.1
      if copy then s else (s.bump F.SV_RX_CNT.RX 1 k).each f.asdus fun s a => s.takeSample k a

end State

/-- ADC_BURST (R151): the codes of 24 channels in each of the OSR conversions. -/
def execAdcBurst (convs : List (List (BitVec 16))) (s : State) : Host.Outcome State Fault Refusal := .next (s.burst convs)

/-- ADC_STREAM_CONVERSION (R151): one conversion of all channels in STREAM mode. -/
def execAdcStreamConversion (codes : List (BitVec 16)) (s : State) : Host.Outcome State Fault Refusal :=
  .next (if s.flag F.ADC_CTRL.ADC_MODE then (s.convertAll codes).streamed else s)

/-- CAL_STALE_SET (R157): the die temperature as measured; CAL_STALE when it lies more than 15 °C from
CAL_TEMP. -/
def execCalStaleSet (temp : BitVec 8) (s : State) : Host.Outcome State Fault Refusal :=
  .next (let s := s.set F.ADC_STATUS.DIE_TEMP temp.toNat
         let c := s.get F.ADC_STATUS.CAL_TEMP
         if max c temp.toNat - min c temp.toNat > 15 then s.setB F.ADC_STATUS.CAL_STALE true else s)

/-- SV_FRAME_RX (R161). -/
def execSvFrameRx (f : SvFrame) (s : State) : Host.Outcome State Fault Refusal := .next (s.rxSv f)

end Sys2Proof.Machine
end

