-- ==== Sys2Proof/Machine/Observer.lean ====
section
/-!
DEFINITION. The cell observer and the energy ledger of 07_observer_and_energy_ledger.md: the switching
a cell executes by the orders, the prediction, correction and substitution, health grades, and the
ledger's 85 entries of the signal table.
-/

namespace Sys2Proof.Machine

/-- The datum nearest to a rational. -/
def Fp.ofRat (q : Rat) : Word := Fp.ofRatio q.num q.den

/-- A finite datum as a rational. -/
def Fp.toRat (w : Word) : Rat := mkRat (Fp.units w) (2 ^ 149)

-- The switching by the orders (R113 to R115, R169)

/-- The switches a condition asks for, left and right leg (R114). -/
def Sw.legs : Sw → Option Bool × Option Bool
  | .zero => (some false, some false)
  | .pos | .pipPos => (some true, some false)
  | .neg | .pipNeg => (some false, some true)
  | .off => (none, none)

/-- The STATE code of a condition in force (R78, R108). -/
def Sw.code : Sw → Nat
  | .zero => 0
  | .pos => 1
  | .neg => 2
  | .off => 3
  | .pipPos => 4
  | .pipNeg => 5

def Sw.ofState : Nat → Sw
  | 0 => .zero
  | 1 => .pos
  | 2 => .neg
  | _ => .off

/-- A leg commanded at t to a switch: turn-off of the other at once, turn-on a dead time after the
latest turn-off of the other switch; a pending turn-on that the new state does not use is cancelled (R113). -/
def Leg.to (dead : Nat) (t : Int) (g : Option Bool) (l : Leg) : Leg :=
  if g = l.tgt then l
  else
    let l := match l.tgt with
      | some true => if l.onAt ≤ t then { l with offU := some t } else l
      | some false => if l.onAt ≤ t then { l with offL := some t } else l
      | none => l
    match g with
    | none => { l with tgt := none, onAt := t }
    | some up =>
      { l with tgt := some up
               onAt := match (if up then l.offL else l.offU) with
                 | some x => max t (x + dead)
                 | none => t }

/-- Least and greatest contribution of a leg at time x; a leg without a switch on allows both (R169). -/
def Leg.range (x : Rat) (l : Leg) : Int × Int :=
  match l.tgt with
  | none => (0, 1)
  | some up => if (l.onAt : Rat) ≤ x then (if up then (1, 1) else (0, 0)) else (0, 1)

namespace CellOrders

/-- The orders with one condition taken up. -/
def take1 (dead : Nat) (o : CellOrders) (c : Int × Sw) : CellOrders :=
  { o with legL := o.legL.to dead c.1 c.2.legs.1, legR := o.legR.to dead c.1 c.2.legs.2, sw := c.2 }

/-- Every condition that holds from an instant up to t taken up. -/
def upTo (dead : Nat) (t : Rat) (o : CellOrders) : CellOrders :=
  let due := o.cmds.filter fun c => decide ((c.1 : Rat) ≤ t)
  { due.foldl (take1 dead) o with cmds := o.cmds.filter fun c => !decide ((c.1 : Rat) ≤ t) }

/-- The condition in force at t. -/
def inForce (t : Rat) (o : CellOrders) : Sw :=
  (((o.cmds.filter fun c => decide ((c.1 : Rat) ≤ t)).getLast?).map (·.2)).getD o.sw

/-- The condition in force before t. -/
def inForceBefore (t : Rat) (o : CellOrders) : Sw :=
  (((o.cmds.filter fun c => decide ((c.1 : Rat) < t)).getLast?).map (·.2)).getD o.sw

/-- The conditions accepted at t: with an edge within 10 ns of t, both ends included, either side of it (R172). -/
def accepted (t : Rat) (o : CellOrders) : List Nat :=
  (o.inForceBefore (t - 10)).code :: (o.cmds.filter fun c => decide (t - 10 ≤ (c.1 : Rat) ∧ (c.1 : Rat) ≤ t + 10)).map fun c => c.2.code

/-- A dispatched entry: its changes join the list; it cancels every change pending at or after its
edge; HOLD continues (R78, R115). -/
def order (dead : Nat) (origin : Int) (e : Ent) (o : CellOrders) : CellOrders :=
  if e.st = 6 then o
  else
    let t := origin + e.edge
    let kept := o.cmds.filter fun c => decide (c.1 < t)
    if e.st = 4 ∨ e.st = 5 then
      if e.width * 8 ≤ dead then { o with cmds := kept ++ [(t, .zero)] }
      else { o with cmds := kept ++ [(t, if e.st = 4 then .pipPos else .pipNeg), (t + e.width * 8, .zero)] }
    else { o with cmds := kept ++ [(t, Sw.ofState e.st)] }

/-- Least and greatest insertion factor at time x (R169). -/
def factor (full : Bool) (x : Rat) (o : CellOrders) : Int × Int :=
  let l := o.legL.range x
  let r := o.legR.range x
  if full then (l.1 - r.2, l.2 - r.1) else l

/-- Every instant at which a switch changes, or may change, after the commands taken so far. -/
def instants (dead : Nat) (o : CellOrders) : List Int :=
  (o.cmds.foldl (fun (a : CellOrders × List Int) c =>
    let n := take1 dead a.1 c
    (n, a.2 ++ [c.1, n.legL.onAt, n.legR.onAt])) (o, [o.legL.onAt, o.legR.onAt])).2

/-- The parts of constant s over [0, span] ns after t0, split at the zero z of the current: start,
end, s. The larger of s × i(t) governs while a leg holds no switch on (R169, R170). -/
def parts (dead : Nat) (full : Bool) (t0 span : Nat) (i0 i1 : Rat) (z : Option Rat) (o : CellOrders) : List (Rat × Rat × Int) :=
  let o := o.upTo dead t0
  let inside := (o.instants dead).filterMap fun (t : Int) =>
    let x : Rat := (t : Rat) - t0
    if 0 < x ∧ x < span then some x else none
  let cuts := ((0 : Rat) :: (span : Rat) :: (z.toList ++ inside)).mergeSort (· ≤ ·) |>.eraseDups
  (cuts.zip (cuts.drop 1)).foldl (fun (acc : List (Rat × Rat × Int)) c =>
    let (a, b) := c
    let f := (o.upTo dead (t0 + a)).factor full (t0 + a)
    let i : Rat := if span = 0 then i0 else i0 + (i1 - i0) * ((a + b) / 2) / span
    let v := if 0 < i then f.2 else if i < 0 then f.1 else 0
    match acc.getLast? with
    | some (a', _, v') => if v' = v ∧ z ≠ some a then acc.dropLast ++ [(a', b, v)] else acc ++ [(a, b, v)]
    | none => [(a, b, v)]) []

end CellOrders

/-- Q of R169 in binary32, in the order of R171; times in s after T_(n−1). A current between the ends is
i_0 + (i_1 − i_0) × t / span, every operation rounded (R170, R171; DEDUCED, log entry 45). -/
def chargeOf (ps : List (Rat × Rat × Int)) (span : Nat) (w0 w1 : Word) (z : Option Rat) : Word :=
  let sec := fun (t : Rat) => Fp.ofRat (t / 1000000000)
  let cur := fun (t : Rat) =>
    if t = 0 then w0 else if t = span then w1
    else Fp.add w0 (Fp.div (Fp.mul (Fp.sub w1 w0) (sec t)) (sec span))
  -- the zero crossing from the ends of the two parts that meet there
  let zt : Word := match z with
    | none => 0
    | some x =>
      let ta : Rat := match ps.find? fun p => p.2.1 = x with
        | some p => p.1
        | none => 0
      let tb : Rat := match ps.find? fun p => p.1 = x with
        | some p => p.2.1
        | none => span
      Fp.add (sec ta) (Fp.div (Fp.mul (Fp.sub (sec tb) (sec ta)) (cur ta)) (Fp.sub (cur ta) (cur tb)))
  let at_ := fun (t : Rat) => if z = some t then (zt, (0 : Word)) else (sec t, cur t)
  ps.foldl (fun (q : Word) (p : Rat × Rat × Int) =>
    if p.2.2 = (0 : Int) then q
    else
      let (ta, ca) := at_ p.1
      let (tb, cb) := at_ p.2.1
      let x := Fp.mul (Fp.mul (Fp.sub tb ta) (Fp.add ca cb)) Fp.half
      Fp.add q (if p.2.2 < (0 : Int) then Fp.negate x else x)) (Fp.zero false)

namespace State

/-- DEAD_TIME of an arm's cells in ns, as sent by CONFIG (R85). -/
def deadNs (s : State) (a : Nat) : Nat :=
  10 * (((AMap.read (fun _ => []) s.img.gates a).lookup 3).getD 0)

/-- The orders of one cell as dispatched for the window with the origin given (R169). -/
def noteOrder (s : State) (i : Nat) (origin : Int) (e : Ent) : State :=
  s.setOrd i ((s.ord i).order (s.deadNs (s.cellArm i)) origin e)

-- Arm currents (R170, R200)

def signOf (w : Word) : Int := if Fp.isZero w || Fp.isNaN w then 0 else if Fp.neg w then -1 else 1

/-- The agreed I_SIG entry of every arm at T_n taken beside that of T_(n−1). -/
def takeCurrents (s : State) : State :=
  s.each s.declaredArms fun s a =>
    let m := s.arm a
    let g := s.get F.OBS_ARM_CTRL.I_SIG a
    let v := s.sig g
    let now := if s.sigOk g then some v else none
    let sg := if s.sigOk g then (if signOf v = 0 then m.curSign else signOf v) else m.curSign
    s.setArm a { m with prevI := m.curI, curI := now, prevLast := m.lastI, lastI := now.orElse (fun _ => m.lastI)
                        prevSign := m.curSign, curSign := sg }

/-- Currents at T_(n−1) and T_n, an invalid one replaced by the last valid value, by 0 A where none
has existed since the reset; and whether both were valid (R170). -/
def armCurrent (s : State) (a : Nat) : Word × Word × Bool :=
  let m := s.arm a
  (m.prevI.getD (m.prevLast.getD (m.curI.getD 0)), m.curI.getD (m.lastI.getD 0), m.prevI.isSome && m.curI.isSome)

-- Prediction (R169 to R171)

/-- A 48-bit value the spec states nothing of: a result outside the form (DESIGN CHOICE, log entry 24). -/
def freeFixed (s : State) : Nat × State :=
  let (a, s) := s.free
  let (b, s) := s.free
  (a.toNat + b.toNat % 2 ^ 16 * 2 ^ 32, s)

/-- V̂ moved by a binary32 difference, the sum rounded once, held at 0 from below; outside the 48-bit form
the spec states no value (R171). -/
def moveV (s : State) (v : Nat) (d : Word) : Nat × State :=
  if Fp.isFinite d then
    let x := Fp.roundDivEven ((v : Int) * 2 ^ 117 + Fp.units d) (2 ^ 117)
    if x < 2 ^ 48 then (x.toNat, s) else s.freeFixed
  else s.freeFixed

/-- Q/C less the leakage term of R169 over the interval from T_(n−1) to T_n, whose length the leakage term
takes as the TICK_PERIOD that governed it (R171). -/
def predictDelta (s : State) (i : Nat) (v : Nat) : Word :=
  let a := s.cellArm i
  let (w0, w1, _) := s.armCurrent a
  let span := s.tick.absT - s.tick.absPrev
  let i0 := Fp.toRat w0
  let i1 := Fp.toRat w1
  let z : Option Rat := if i0 * i1 < 0 then some (span * i0 / (i0 - i1)) else none
  let ps := (s.ord i).parts (s.deadNs a) (s.fullBridge i) s.tick.absPrev span i0 i1 z
  let q := if Fp.isFinite w0 && Fp.isFinite w1 then chargeOf ps span w0 w1 z else Fp.nan w0 w1
  let qc := Fp.div q (s.reg (F.OBS_ARM_C.C_NOM.addr a))
  let tau := s.reg (F.OBS_ARM_LEAK.LEAK_TAU.addr a)
  if Fp.isZero tau then qc
  else Fp.sub qc (Fp.div (Fp.mul (Fp.ofNat v (-32)) (Fp.ofRatio s.tick.periodPrev 1000000000)) tau)

-- Exclusions and grades (R173, R176)

/-- REPORTS_MISSING for a cell whose MISS_CNT has gone beyond the limit (R173). -/
def missingExclude (s : State) (i lim : Nat) : State :=
  let x := s.inst i
  if x.init && lim ≤ x.miss && !s.holds i 13 && (s.svc i = 1 || s.svc i = 2 || s.svc i = 3) then
    ((s.setInst i { x with afterMissing := true }).bump F.OBS_EXCL_CNT.MISSING).catArise i 13
  else s

/-- A station order that lowers MISS_MAX to or below a running MISS_CNT (R173). -/
def missLowered (s : State) (old : Nat) : State :=
  let lim := s.get F.OBS_CTRL.MISS_MAX
  if lim < old then s.each s.allCells fun s i => s.missingExclude i (max 1 lim) else s

/-- A health condition fires the grade table of R176, rows in order, one transition per tick at most. -/
def gradeStep (s : State) (i : Nat) (froze : Bool) : State :=
  let x := s.inst i
  let rc := s.get F.OBS_CTRL.RES_COUNT
  let put := fun (s : State) (y : ObsInst) => (s.setInst i { y with movedAt := some s.tickNo }).set F.CAT_ENTRY_W2.HEALTH y.grade i
  if !x.init || x.movedAt = some s.tickNo then s
  else if x.grade ≠ 3 && (froze || 2 * rc ≤ x.exc) then
    ((put s { x with grade := 3, goodRun := 0 }).bump F.OBS_EXCL_CNT.FAILED).catArise i 14
  else if (x.grade = 0 || x.grade = 1) && rc ≤ x.exc then put s { x with grade := 2 }
  else if x.grade = 0 && 64 ≤ x.goodRun then put s { x with grade := 1 }
  else if x.grade = 2 && x.exc = 0 then put s { x with grade := 1 }
  else if x.grade = 3 && s.get F.OBS_CTRL3.RECOVER_TICKS ≤ x.goodRun then (put s { x with grade := 1, exc := 0 }).catClear i 14
  else s

/-- The station order that resets a grade (R176, R177). -/
def gradeReset (s : State) (i : Nat) : State :=
  let x := s.inst i
  let s := s.setInst i { x with grade := 0, exc := 0, frz := 0, goodRun := 0, movedAt := some s.tickNo }
  let s := (s.set F.CAT_ENTRY_W2.HEALTH 0 i).set F.OBS_CELL_W2.GRADE 0 i
  let s := (s.set F.OBS_CELL_W2.EXC_CNT 0 i).set F.OBS_CELL_W2.FRZ_CNT 0 i
  s.catClear i 14

/-- The instance becomes frozen: FRZ_CNT has reached FREEZE_TICKS (R174). -/
def freezeInst (s : State) (i : Nat) : State :=
  let x := s.inst i
  if x.init && !x.frozen && s.get F.OBS_CTRL2.FREEZE_TICKS ≤ x.frz then
    (s.setInst i { x with frozen := true, frozenVcap := x.lastVcap, goodRun := 0 }).bump F.OBS_EVT_CNT.FROZEN
  else s

-- One instance in one tick (R168, R172 to R176)

/-- A cell-tick without a valid report counted: of those LATE, of those DISAGREED (R187). -/
def countMissing (s : State) (cause : Nat) : State :=
  let s := s.bump F.OBS_SUBST_CNT.COUNT
  if cause = 2 then s.bump F.OBS_LATE_CNT.COUNT else if cause = 3 then s.bump F.OBS_DISAGREE_CNT.COUNT else s

/-- A tick without a valid report: substitution (R173). -/
def substitute (s : State) (i vp cause : Nat) : State :=
  let x := s.inst i
  let s := s.setInst i { x with vhat := vp, miss := min 127 (x.miss + 1), goodRun := 0, cause := cause }
  (s.countMissing cause).missingExclude i (s.get F.OBS_CTRL.MISS_MAX + 1)

/-- FRZ_CNT after an otherwise valid report (R174). -/
def frzAfter (s : State) (x : ObsInst) (vcap vp : Nat) : Nat :=
  let moved := max vp x.vhat - min vp x.vhat
  if vcap ≠ x.lastVcap then 0
  else if s.get F.OBS_CTRL2.FREEZE_MIN * 2 ^ 29 ≤ moved then min 31 (x.frz + 1) else x.frz

/-- EXC_CNT after step 2 of R175. -/
def blankAdd (s : State) (exc : Nat) (d : Block) : Nat :=
  if Block.get d 21 21 = 1 then min 255 (exc + s.get F.OBS_CTRL2.BLANK_WT) else exc

/-- A valid report with the prediction vp: correction or resynchronisation (R172), grading (R175). -/
def takeValid (s : State) (i vp : Nat) (d : Block) (thawed : Bool) : State :=
  let x := s.inst i
  let a := s.cellArm i
  let vcap := Block.get d 63 48
  let frz := if thawed then 0 else s.frzAfter x vcap vp
  -- one rounding of the exact difference (DEDUCED, log entry 45)
  let r := Fp.ofRatio ((vcap * 2 ^ 29 : Nat) - (vp : Int)) (2 ^ 32)
  let mismatch := !((s.ord i).accepted (s.tick.absT : Rat)).contains (Block.get d 37 35) || Block.get d 27 27 = 1
  let s := if mismatch then s.bump F.OBS_EVT_CNT.MISMATCH else s
  let resync := thawed || mismatch || x.afterMissing || !(s.armCurrent a).2.2 || (s.arm a).justDeblocked
  let small := !Fp.lt (Fp.ofNat (s.get F.OBS_CTRL.RES_LIM) (-3)) (Fp.abs r)
  let (v, s) := if resync then (vcap * 2 ^ 29, s)
    else s.moveV vp (Fp.mul (s.reg (F.OBS_ARM_GAIN.OBS_GAIN.addr a)) r)
  let exc := if resync then x.exc else if small then x.exc - 1 else min 255 (x.exc + 4)
  let x := { x with vhat := v, lastVcap := vcap, frozen := false, frz := frz, miss := 0, exc := s.blankAdd exc d
                    goodRun := if resync then x.goodRun else if small then min 65535 (x.goodRun + 1) else 0
                    cause := if resync then 5 else 0, res := Fp.toFixed r 6, afterMissing := false }
  (s.setInst i x).catClear i 13

/-- The tick's valid report of a cell: the agreed one, unless its string is disagreed (R168). -/
def validReport (inp : CellInput) : Option Block := if inp.cause = 0 then inp.agreed else none

/-- An instance's update for the tick; a cell without an instance has none (R167). -/
def observe (s : State) (i : Nat) : State :=
  let x := s.inst i
  let inp := s.input i
  let why := if inp.cause = 2 || inp.cause = 3 then inp.cause else 0
  if !(s.svc i = 1 || s.svc i = 2 || s.svc i = 3) then s
  else if !x.init then
    match validReport inp with
    | some d =>
      let vcap := Block.get d 63 48
      let x := { x with init := true, vhat := vcap * 2 ^ 29, lastVcap := vcap, cause := 5, exc := s.blankAdd x.exc d
                        afterMissing := false }
      -- the creation is the tick's one transition
      (s.setInst i { x with movedAt := some s.tickNo }).catClear i 13
    | none => (s.setInst i { x with cause := if why = 0 then 6 else why }).countMissing why
  else
    let (vp, s) := s.moveV x.vhat (s.predictDelta i x.vhat)
    match validReport inp with
    | some d =>
      if x.frozen && Block.get d 63 48 = x.frozenVcap then (s.substitute i vp 4).gradeStep i false
      else
        let s := s.takeValid i vp d x.frozen
        let was := (s.inst i).frozen
        let s := s.freezeInst i
        s.gradeStep i (!was && (s.inst i).frozen)
    | none => (s.substitute i vp (if why ≠ 0 then why else if x.frozen then 4 else 1)).gradeStep i false

/-- The readout of an instance (R185). -/
def showInst (s : State) (i : Nat) : State :=
  let x := s.inst i
  let s := (s.set F.OBS_CELL_W0.V_HAT (x.vhat / 2 ^ 16) i).set F.OBS_CELL_W1.VCAP x.lastVcap i
  let s := s.set F.OBS_CELL_W1.RES (ofSigned 16 (clampInt (-32768) 32767 x.res)) i
  let s := (s.set F.OBS_CELL_W2.GRADE x.grade i).set F.OBS_CELL_W2.CAUSE x.cause i
  let s := (s.setB F.OBS_CELL_W2.INIT x.init i).setB F.OBS_CELL_W2.FROZEN x.frozen i
  let s := (s.set F.OBS_CELL_W2.MISS_CNT x.miss i).set F.OBS_CELL_W2.EXC_CNT x.exc i
  s.set F.OBS_CELL_W2.FRZ_CNT x.frz i

/-- The observer stage: ascending catalogue index (R171). The switching before T_(n−1) is then no
longer needed (R169). -/
def obsStage (s : State) : State :=
  let s := s.takeCurrents
  s.each s.allCells fun s i =>
    let s := s.observe i
    s.setOrd i ((s.ord i).upTo (s.deadNs (s.cellArm i)) (s.tick.absT - 20 : Int))

-- The ledger (R178 to R180)

/-- e = (0.5 × C_NOM) × v × v (R178). -/
def cellEnergy (s : State) (i : Nat) : Word :=
  let v := Fp.ofNat (s.inst i).vhat (-32)
  Fp.mul (Fp.mul (Fp.mul Fp.half (s.reg (F.OBS_ARM_C.C_NOM.addr (s.cellArm i)))) v) v

def sumWords (l : List Word) : Word := l.foldl Fp.add (Fp.zero false)

/-- No valid report of the tick stands behind the estimate. -/
def unmeasured (x : ObsInst) : Bool := 1 ≤ x.cause && x.cause ≤ 4 || x.cause = 6

/-- One arm's entries and status (R179, R180, R186): E_ARM and its validity. -/
def ledgerArm (s : State) (a : Nat) : State :=
  let base := s.get F.OBS_CTRL3.LEDGER_BASE + 4 * a
  let cells := (s.armCells a).filter fun i => (s.inst i).init
  let av := cells.filter fun i => s.svc i = 2
  let n := av.length
  let subst := ((s.armCells a).filter fun i => s.svc i = 2 && unmeasured (s.inst i)).length
  let e := sumWords (cells.map s.cellEnergy)
  let ea := sumWords (av.map s.cellEnergy)
  let vs := sumWords (av.map fun i => Fp.ofNat (s.inst i).vhat (-32))
  let ok := (s.armCurrent a).2.2 && subst * 256 ≤ s.get F.OBS_ARM_CTRL.SUB_FRAC a * n
  let ok := if s.declaredArms.contains a then ok else true
  let s := s.each cells fun s i => s.setReg (F.OBS_CELL_W3.ENERGY.addr i) (s.cellEnergy i)
  let s := s.each [(0, e), (1, ea), (2, vs), (3, Fp.ofNat n)] fun s x => (s.setSig (base + x.1) x.2).setSigOk (base + x.1) ok
  let s := (s.set F.OBS_ARM_STATUS.SUBST (min 1023 subst) a).set F.OBS_ARM_STATUS.N_INIT (min 1023 cells.length) a
  s.setB F.OBS_ARM_STATUS.LEDGER_VALID ok a

/-- One sum over arms: E_ARM of each, in ascending number; invalid with any of them (R178, R180). -/
def ledgerSum (s : State) (ofs : Nat) (arms : List Nat) : State :=
  let base := s.get F.OBS_CTRL3.LEDGER_BASE
  let v := sumWords (arms.map fun a => s.sig (base + 4 * a))
  (s.setSig (base + ofs) v).setSigOk (base + ofs) (arms.all fun a => s.sigOk (base + 4 * a))

/-- The ledger stage, and the readouts of the observer (R179, R185). -/
def ledgerStage (s : State) : State :=
  let s := s.each (List.range 16) fun s a => s.ledgerArm a
  let arms := s.declaredArms
  let s := s.each (List.range 8) fun s l => s.ledgerSum (64 + l) (arms.filter fun a => s.get F.OBS_ARM_CTRL.LEG a = l)
  let s := s.each (List.range 4) fun s c =>
    let mine := arms.filter fun a => s.get F.OBS_ARM_CTRL.CONV a = c
    let s := s.ledgerSum (72 + 2 * c) (mine.filter fun a => s.get F.OBS_ARM_CTRL.SIDE a = 0)
    let s := s.ledgerSum (73 + 2 * c) (mine.filter fun a => s.get F.OBS_ARM_CTRL.SIDE a = 1)
    s.ledgerSum (80 + c) mine
  let s := s.ledgerSum 84 arms
  s.each (s.allCells.filter fun i => s.svc i = 1 || s.svc i = 2 || s.svc i = 3) fun s i => s.showInst i

/-- E_TOTAL and its validity, which the kick carries (R380). -/
def eTotal (s : State) : Word × Bool :=
  let i := s.get F.OBS_CTRL3.LEDGER_BASE + 84
  (s.sig i, s.sigOk i)

def obsCntClear (s : State) : State :=
  s.clearAll [F.OBS_SUBST_CNT.COUNT, F.OBS_LATE_CNT.COUNT, F.OBS_DISAGREE_CNT.COUNT, F.OBS_EVT_CNT.FROZEN,
    F.OBS_EVT_CNT.MISMATCH, F.OBS_EXCL_CNT.MISSING, F.OBS_EXCL_CNT.FAILED]

end State

/-- REPORTS_MISSING_EXCLUSION (R173): MISS_CNT has reached MISS_MAX + 1. -/
def execReportsMissingExclusion (i : Fin 6144) (s : State) : Host.Outcome State Fault Refusal :=
  .next (s.missingExclude i (s.get F.OBS_CTRL.MISS_MAX + 1))

/-- SENSOR_FROZEN (R174): FRZ_CNT has reached FREEZE_TICKS; the grade becomes FAILED (R176). -/
def execSensorFrozen (i : Fin 6144) (s : State) : Host.Outcome State Fault Refusal :=
  .next (let t := s.freezeInst i
         t.gradeStep i (!(s.inst i).frozen && (t.inst i).frozen))

/-- GRADE_CHANGE (R176): a health count has reached its threshold. -/
def execGradeChange (i : Fin 6144) (s : State) : Host.Outcome State Fault Refusal := .next (s.gradeStep i false)

end Sys2Proof.Machine
end

