-- ==== Sys2Proof/Machine/Select.lean ====
section
/-!
DEFINITION. The selection engine of 08_selection_engine.md: mask, level, ranking, changes, swaps and
the choice of the pip cell, for one deblocked arm and one output window.
-/

namespace Sys2Proof.Machine

/-- A change, or a swap pair, handed to the edge planner (R194): 0 origin, 1 ramp, 2 swap; the nominal
instant in ns; each cell with its factor before and after. -/
structure Chg where
  kind : Nat
  tnom : Rat
  cells : List (Nat × Int × Int)
deriving DecidableEq, Repr

/-- What the selection of an arm hands to the edge planner (R194). -/
structure Sel where
  origin : Int
  len : Nat
  /-- Members before the window's changes, those that left the mask taken out. -/
  set : List (Nat × Bool)
  /-- Members once every change is made. -/
  goal : List (Nat × Bool)
  leave : List (Nat × Bool)
  chgs : List Chg
  pos : List Nat
  neg : List Nat
  sigma : Int
  duty : Rat
  pip : Option Nat
  /-- The window begins a carrier: at a boundary, or by a new choice outside one (R219, R223). -/
  boundary : Bool
  rechoice : Bool
deriving DecidableEq, Repr

/-- Sign of a member's factor. -/
def facOf (neg : Bool) : Int := if neg then -1 else 1

/-- trunc(u) limited to one less than the eligible cells of its sign (R193). -/
def levelOf (u : Rat) (p f : Nat) : Int :=
  if 0 ≤ u then min u.floor ((p - 1 : Nat) : Int) else max u.ceil (-((f - 1 : Nat) : Int))

/-- The instant at which u(t) crosses the integer level of a step from k to k2: (level − u_s) / (u_e − u_s) × L
in binary32, every operation rounded (R193, R205; DESIGN CHOICE, log entry 108). -/
def crossAt (us ue : Word) (len : Nat) (k k2 : Int) : Rat :=
  let level : Int := if k < k2 then (if 0 ≤ k then k2 else k) else (if 0 < k then k else k2)
  if Fp.eq us ue then 0
  else max 0 (min (len : Rat) (Fp.toRat (Fp.mul (Fp.div (Fp.sub (Fp.ofInt level) us) (Fp.sub ue us)) (Fp.ofNat len))))

/-- The walk of R197 from level k to k1: members, changes and whether the pip cell had to enter (R199
rule 3). -/
def walkLevel (pos neg : List Nat) (pip : Option Nat) (isFull : Nat → Bool) (us ue : Word) (len kind : Nat) :
    Nat → List (Nat × Bool) → Int → Int → List (Nat × Bool) × Int × List Chg × Bool
  | 0, m, k, _ => (m, k, [], false)
  | fuel + 1, m, k, k1 =>
    if k = k1 then (m, k, [], false)
    else
      let k2 := if k < k1 then k + 1 else k - 1
      let t : Rat := if kind = 1 then crossAt us ue len k k2 else 0
      let isMem := fun (c : Nat) => m.any fun x => x.1 = c
      if k.natAbs < k2.natAbs then
        let ng := decide (k2 < 0)
        let head := (if ng then neg else pos).find? fun c => !isMem c
        let spare := pip.filter fun c => !isMem c && (!ng || isFull c)
        match head.orElse fun _ => spare with
        | none => (m, k, [], false)
        | some c =>
          let r := walkLevel pos neg pip isFull us ue len kind fuel (m ++ [(c, ng)]) k2 k1
          (r.1, r.2.1, ⟨kind, t, [(c, 0, facOf ng)]⟩ :: r.2.2.1, head.isNone || r.2.2.2)
      else
        let ng := decide (k < 0)
        let mine := fun (c : Nat) => m.contains (c, ng)
        match (((if ng then neg else pos).reverse.find? mine).orElse fun _ => (m.find? fun x => x.2 = ng).map (·.1)) with
        | none => (m, k, [], false)
        | some c =>
          let r := walkLevel pos neg pip isFull us ue len kind fuel (m.filter fun x => x ≠ (c, ng)) k2 k1
          (r.1, r.2.1, ⟨kind, t, [(c, facOf ng, 0)]⟩ :: r.2.2.1, r.2.2.2)

/-- The walk at the origin to the level K_s: every member of the other sign leaves first, then the members of
its own sign come to |K_s| (R197). -/
def walkTo (pos neg : List Nat) (pip : Option Nat) (isFull : Nat → Bool) (us ue : Word) (len fuel : Nat) (m : List (Nat × Bool))
    (ks : Int) : List (Nat × Bool) × Int × List Chg × Bool :=
  let count := fun (l : List (Nat × Bool)) (ng : Bool) => ((l.filter fun x => x.2 = ng).length : Int)
  let r := walkLevel pos neg pip isFull us ue len 0 fuel m (if 0 ≤ ks then -count m true else count m false) 0
  let q := walkLevel pos neg pip isFull us ue len 0 fuel r.1 (if 0 ≤ ks then count r.1 false else -count r.1 true) ks
  (q.1, q.2.1, r.2.2.1 ++ q.2.2.1, r.2.2.2 || q.2.2.2)

/-- The swaps of R198: pairs (out, in), and whether one was refused by the budget. far says whether the
key of the second cell lies beyond that of the first by more than SWAP_BAND in the list's direction. -/
def swapPairs (list : List Nat) (ng : Bool) (far : Nat → Nat → Bool) (cl swMax : Nat) :
    Nat → List (Nat × Bool) → Nat → List (Nat × Bool) × List (Nat × Nat) × Bool
  | 0, m, _ => (m, [], false)
  | fuel + 1, m, made =>
    let b := list.find? fun c => !m.any fun x => x.1 = c
    let w := list.reverse.find? fun c => m.contains (c, ng)
    match b, w with
    | some b, some w =>
      if !far b w then (m, [], false)
      else if swMax < cl + 2 * (made + 1) then (m, [], true)
      else
        let r := swapPairs list ng far cl swMax fuel ((m.filter fun x => x.1 ≠ w) ++ [(b, ng)]) (made + 1)
        (r.1, (w, b) :: r.2.1, r.2.2)
    | _, _ => (m, [], false)

/-- The nominal duty D: the mean of u(t) − K(t) over the window, (u_s + u_e) × 0.5 − K_s less, for each step of
the level in order, its part of the window; in binary32, every operation rounded (R193, R205; DESIGN CHOICE, log
entry 108). -/
def dutyOf (us ue : Word) (len : Nat) (ks ke : Int) (p f : Nat) : Word :=
  if p = 0 ∧ f = 0 then Fp.zero false
  else (List.range (ke - ks).natAbs).foldl (fun (d : Word) (j : Nat) =>
    let k : Int := if ks < ke then ks + (j : Int) else ks - (j : Int)
    let k2 : Int := if ks < ke then k + 1 else k - 1
    let part := Fp.div (Fp.sub (Fp.ofNat len) (Fp.ofRat (crossAt us ue len k k2))) (Fp.ofNat len)
    if ks < ke then Fp.sub d part else Fp.add d part)
    (Fp.sub (Fp.mul (Fp.add us ue) Fp.half) (Fp.ofInt ks))

namespace State

-- Windows (R19, R38, R219)

/-- Output origin of the current tick's window, ns of unwrapped device time. -/
def windowOrigin (s : State) : Int := (s.tick.absT + s.periodNs + s.outputNs : Nat)

/-- Length of tick t's window in ns, t the current tick or a later one. -/
def windowLen (s : State) (t : Nat) : Nat :=
  match s.tick.landing with
  | none => s.periodNs
  | some l => if t = l.apply then 2 * (l.period + l.output) - s.outputNs else if l.apply < t then 2 * l.period else s.periodNs

/-- A carrier begins with tick t's window (R219). -/
def carrierBegins (s : State) (t : Nat) : Bool :=
  let div := match s.tick.landing with
    | some l => if l.apply < t then l.pip else s.get F.TICK_PIP.PIP_DIV
    | none => s.get F.TICK_PIP.PIP_DIV
  t % div = 0 || s.tick.landedAt = some t
    || (match s.tick.landing with | some l => decide (l.apply = t) || decide (l.apply + 1 = t) | none => false)

/-- Length of the carrier that begins with tick t's window: up to the next beginning (R219, R220). -/
def carrierLen (s : State) (t : Nat) : Nat :=
  let more := (List.range 8).takeWhile fun j => !s.carrierBegins (t + 1 + j)
  ((0 :: more.map (· + 1)).map fun j => s.windowLen (t + j)).sum

-- Mask and ranking (R189, R195, R201)

def awaits (s : State) (a i : Nat) : Bool := (s.arm a).pend.any fun x => x.1 = i

/-- Cells in the arm's mask, ascending (R189). -/
def mask (s : State) (a : Nat) : List Nat := (s.armCells a).filter fun i => s.svc i = 2 && !s.awaits a i

/-- The key of a cell: the upper 32 bits of V̂ (R195). -/
def key (s : State) (i : Nat) : Nat := (s.inst i).vhat / 2 ^ 16

/-- A list of R195: cells by key in the direction given, then WEAR, then (p − ROT) mod M. -/
def ranked (s : State) (a : Nat) (asc : Bool) (cells : List Nat) : List Nat :=
  let all := s.armCells a
  let m := all.length
  let rot := s.tickNo % max 1 m
  let turn := fun (i : Nat) => (all.idxOf i + m - rot) % max 1 m
  let le := fun (x y : Nat) =>
    let kx := s.key x
    let ky := s.key y
    if kx ≠ ky then (if asc then decide (kx < ky) else decide (ky < kx))
    else
      let wx := s.get F.CAT_ENTRY_W3.WEAR x
      let wy := s.get F.CAT_ENTRY_W3.WEAR y
      if wx ≠ wy then decide (wx < wy) else decide (turn x ≤ turn y)
  cells.mergeSort le

/-- A commutation event (R200). -/
def commutes (s : State) (a : Nat) : Bool :=
  let m := s.arm a
  m.prevI.isSome && m.curI.isSome && m.prevSign * m.curSign = -1

/-- A cell that has waited COMM_WAIT ticks enters the mask (R201). -/
def pendExpire (s : State) (a i : Nat) : State :=
  let m := s.arm a
  if m.pend.any fun x => x.1 = i && s.get F.SEL_ARM_CTRL2.COMM_WAIT a ≤ x.2 then
    (s.setArm a { m with pend := m.pend.filter fun x => x.1 ≠ i }).bump F.SEL_ARM_EVT_CNT2.WAIT_EXPIRED 1 a
  else s

/-- The pending cells of an arm in a tick: all enter at a commutation event, each after COMM_WAIT (R201). -/
def pendStep (s : State) (a : Nat) (comm : Bool) : State :=
  let m := s.arm a
  if comm then s.setArm a { m with pend := [] }
  else s.each m.pend fun s x => s.pendExpire a x.1

/-- i_dir in binary32 (R195). -/
def dirCurrent (s : State) (a : Nat) : Word :=
  let (i0, i1, _) := s.armCurrent a
  Fp.add i1 (Fp.div (Fp.mul (Fp.sub i1 i0) (Fp.ofNat (s.get F.SEL_ARM_CTRL2.DIR_LEAD a))) (Fp.ofNat 256))

/-- The tick lies within the dead band (R195). -/
def inDead (s : State) (a : Nat) : Bool :=
  let d := s.dirCurrent a
  !(s.armCurrent a).2.2 || Fp.isNaN d
    || !Fp.isInf d && 10 * Fp.mag d ≤ s.get F.SEL_ARM_DEAD.I_DEAD a * 2 ^ 149

-- The pip cell (R199)

/-- A cell may become pip cell: in the mask, no member of the set as the level walk and the swaps leave it,
not SUSPECT, and full-bridge for a negative pip. -/
def pipFits (s : State) (a : Nat) (members : List Nat) (ng : Bool) (i : Nat) : Bool :=
  (s.mask a).contains i && !members.contains i && (s.inst i).grade ≠ 2 && (!ng || s.fullBridge i)

/-- The new pip cell: the first that fits, in ascending arm position from PIP_PTR (R199 rule 2). -/
def choosePip (s : State) (a : Nat) (members : List Nat) (ng : Bool) : Option Nat × State :=
  let all := s.armCells a
  let m := max 1 all.length
  let ptr := s.get F.SEL_ARM_PIP.PIP_PTR a
  let rot := all.drop (ptr % m) ++ all.take (ptr % m)
  match rot.find? fun i => s.pipFits a members ng i with
  | some i => (some i, (s.set F.SEL_ARM_PIP.PIP_PTR ((all.idxOf i + 1) % m) a).set F.SEL_ARM_PIP.PIP_AGE 0 a)
  | none => (none, s)

/-- A carrier boundary raises PIP_AGE; at PIP_HOLD the pip moves to a new cell (R199 rule 1). -/
def pipAged (s : State) (a : Nat) (boundary : Bool) : State :=
  if boundary then s.bump F.SEL_ARM_PIP.PIP_AGE 1 a else s

def pipDue (s : State) (a : Nat) : Bool := s.get F.SEL_ARM_CTRL.PIP_HOLD a ≤ s.get F.SEL_ARM_PIP.PIP_AGE a

-- One arm's selection

/-- An arm planned as blocked: set, pip cell, PIP_AGE, stored lists and direction cleared, CARRY cleared,
the carrier ended; the edge history stays (R203, R204, R218). -/
def clearArm (s : State) (a : Nat) : State :=
  let m := s.arm a
  (s.setArm a { m with set := [], pip := none, dir := false, coast := none, carry := 0, carrier := none
                       fresh := true }).clearAll [F.SEL_ARM_PIP.PIP_AGE, F.SEL_ARM_PIP.PIP_INDEX] a

/-- v_s and g of the tick: the signals, or the last valid pair carried on by its slope (R204). -/
def armRef (s : State) (a : Nat) : Option (Word × Word) × State :=
  let r := s.get F.SEL_ARM_SIG.REF_SIG a
  let g := s.get F.SEL_ARM_SIG.SLOPE_SIG a
  let m := s.arm a
  if s.sigOk r && s.sigOk g then
    (some (s.sig r, s.sig g), s.setArm a { m with lastRef := some (s.sig r, s.sig g, s.windowOrigin) })
  else
    let s := s.bump F.SEL_ARM_EVT_CNT2.REF_INVALID 1 a
    match m.lastRef with
    | some (v, g, o) => (some (Fp.add v (Fp.mul g (Fp.ofRatio (s.windowOrigin - o) 1000)), g), s)
    | none => (none, s)

/-- A level of R192 as a number: clamped to −F … +P. A level that is no number is a value the spec does
not state (DESIGN CHOICE, log entry 25). -/
def clampLevel (s : State) (u : Word) (p f : Nat) : Word × Bool × State :=
  let lo := Fp.ofInt (-(f : Int))
  let hi := Fp.ofNat p
  let (u, s) := if Fp.isNaN u then
      let (w, s) := s.free
      (Fp.ofInt w.toInt, s)
    else (u, s)
  (if Fp.lt u lo then lo else if Fp.lt hi u then hi else u, Fp.lt u lo || Fp.lt hi u, s)

/-- u_s and u_e for a reference, slope, V_MEAN and window length, and whether either was clamped (R192). -/
def levels (s : State) (v g vm : Word) (len p f : Nat) : Word × Word × Bool × State :=
  let ve := Fp.add v (Fp.mul g (Fp.ofRatio len 1000))
  if p = 0 ∨ Fp.isZero vm then (Fp.zero false, Fp.zero false, !(Fp.isZero v && Fp.isZero ve), s)
  else
    let (us, c1, s) := s.clampLevel (Fp.div v vm) p f
    let (ue, c2, s) := s.clampLevel (Fp.div ve vm) p f
    (us, ue, c1 || c2, s)

/-- The members of the previous window that are still in the mask, replacements at the origin for those
that left (R191). -/
def replaceGone (pos neg : List Nat) (kept : List (Nat × Bool)) : List (Nat × Bool) → List (Nat × Bool) × List Chg
  | [] => (kept, [])
  | g :: rest =>
    match (if g.2 then neg else pos).find? fun c => !kept.any fun x => x.1 = c with
    | some c =>
      let r := replaceGone pos neg (kept ++ [(c, g.2)]) rest
      (r.1, ⟨0, 0, [(c, 0, facOf g.2)]⟩ :: r.2)
    | none => replaceGone pos neg kept rest

/-- The readout of a computed selection (R208). -/
def showSel (s : State) (a : Nat) (dead comm sat pipOn pipNeg : Bool) (ke : Int) (us ue duty vm : Word) : State :=
  let m := s.arm a
  let s := ((s.setB F.SEL_ARM_STATUS.ACTIVE true a).setB F.SEL_ARM_STATUS.DIR m.dir a).setB F.SEL_ARM_STATUS.IN_DEAD dead a
  let s := ((s.setB F.SEL_ARM_STATUS.COMM comm a).setB F.SEL_ARM_STATUS.SAT sat a).setB F.SEL_ARM_STATUS.PIP_VALID pipOn a
  let s := (s.setB F.SEL_ARM_STATUS.PIP_SIGN pipNeg a).set F.SEL_ARM_STATUS.LEVEL (ofSigned 11 ke) a
  let s := (s.set F.SEL_ARM_STATUS.N_MASK (min 1023 (s.mask a).length) a).set F.SEL_ARM_PIP.PIP_INDEX (m.pip.getD 0) a
  let s := s.setReg (F.SEL_ARM_DUTY.VALUE.addr a) duty
  let s := s.setReg (F.SEL_ARM_VMEAN.VALUE.addr a) vm
  let s := s.setReg (F.SEL_ARM_US.VALUE.addr a) us
  s.setReg (F.SEL_ARM_UE.VALUE.addr a) ue

def showPend (s : State) (a : Nat) : State :=
  let p := (s.arm a).pend
  (s.set F.SEL_ARM_PEND.PENDING (min 1023 p.length) a).set F.SEL_ARM_PEND.WAIT (min 65535 ((p.map (·.2)).foldl max 0)) a

/-- The readout of an arm without a selection in the tick (R203, R204, R207). -/
def showIdle (s : State) (a : Nat) (comm : Bool) : State :=
  let s := s.clearAll [F.SEL_ARM_STATUS.DIR, F.SEL_ARM_STATUS.IN_DEAD, F.SEL_ARM_STATUS.SAT, F.SEL_ARM_STATUS.PIP_VALID,
    F.SEL_ARM_STATUS.PIP_SIGN, F.SEL_ARM_STATUS.LEVEL] a
  let s := (s.setB F.SEL_ARM_STATUS.ACTIVE (s.arm a).deblocked a).setB F.SEL_ARM_STATUS.COMM comm a
  (s.set F.SEL_ARM_STATUS.N_MASK (min 1023 (s.mask a).length) a).showPend a

/-- The selection of one deblocked arm with a reference (R189 to R202). -/
def selectWith (s : State) (a : Nat) (v g : Word) (comm : Bool) : Sel × State :=
  let m := s.arm a
  let n := s.tickNo
  let len := s.windowLen n
  let mask := s.mask a
  let p := mask.length
  let f := (mask.filter s.fullBridge).length
  -- level (R192, R193)
  let vm := if p = 0 then Fp.zero false
    else Fp.div (sumWords (mask.map fun i => Fp.ofNat (s.key i) (-16))) (Fp.ofNat p)
  let (us, ue, sat, s) := s.levels v g vm len p f
  let ks := levelOf (Fp.toRat us) p f
  let ke := levelOf (Fp.toRat ue) p f
  -- direction and lists (R195, R196)
  let dead := s.inDead a
  let d := s.dirCurrent a
  let dir := if dead then m.dir else Fp.neg d
  let el := mask.filter fun i => m.pip ≠ some i
  let pos := s.ranked a (!dir) el
  let neg := s.ranked a dir (el.filter s.fullBridge)
  -- replacements and level changes (R191, R197)
  let set0 := if m.fresh then [] else m.set
  let kept := set0.filter fun x => mask.contains x.1
  let leave := set0.filter fun x => !mask.contains x.1
  let (m1, repl) := replaceGone pos neg kept leave
  let pipOk := m.pip.filter mask.contains
  let w0 := walkTo pos neg pipOk s.fullBridge us ue len (p + f + 2 + m1.length) m1 ks
  let w1 := walkLevel pos neg pipOk s.fullBridge us ue len 1 (p + f + 2) w0.1 w0.2.1 ke
  let cl := w0.2.2.1.length + w1.2.2.1.length
  -- swaps (R198, R203)
  let crosses := decide (Fp.toRat us * Fp.toRat ue < 0)
  let ng := decide (ke < 0)
  let asc := if ng then dir else !dir
  let band := s.get F.SEL_ARM_CTRL.SWAP_BAND a * 2 ^ 13
  let far := fun (b w : Nat) => if asc then decide (s.key b + band < s.key w) else decide (s.key w + band < s.key b)
  let sw := if dead || crosses || m.fresh then (w1.1, [], false)
    else swapPairs (if ng then neg else pos) ng far cl (s.get F.SEL_ARM_CTRL.SW_MAX a) 128 w1.1 0
  let s := if sw.2.2 then s.bump F.SEL_ARM_EVT_CNT.BUDGET_CUT 1 a else s
  let s := s.bump F.SEL_ARM_SWAP_CNT.COUNT sw.2.1.length a
  let count := sw.2.1.length
  let swaps := sw.2.1.zipIdx.map fun (x : (Nat × Nat) × Nat) =>
    (⟨2, (((len : Rat) * (x.2 + 1) / (count + 1) + 1 / 2).floor : Int), [(x.1.1, facOf ng, 0), (x.1.2, 0, facOf ng)]⟩ : Chg)
  -- the pip (R199)
  let dutyW := dutyOf us ue len ks ke p f
  let duty := Fp.toRat dutyW
  let pneg := decide (duty < 0)
  let members := sw.1.map (·.1)
  let begins := s.carrierBegins n || m.fresh
  let lost := match m.pip with
    | none => true
    | some i => !mask.contains i || (s.inst i).grade = 2 || (pneg && !s.fullBridge i) || (sw.1.any fun x => x.1 = i)
  let s := if lost then s else s.pipAged a begins
  let (pip, s) := if lost || s.pipDue a then s.choosePip a members pneg else (m.pip, s)
  let s := if pip.isNone then s.bump F.SEL_ARM_EVT_CNT.PIP_NONE 1 a else s
  let moved := pip ≠ m.pip
  let s := if sat then s.bump F.SEL_ARM_EVT_CNT.SAT_CNT 1 a else s
  let sigma : Int := if dead then 0 else if Fp.neg d then -1 else 1
  let posL := pos.filter fun i => pip ≠ some i
  let negL := neg.filter fun i => pip ≠ some i
  let base : CoastBase := ⟨v, g, vm, p, f, posL, negL, sigma, s.windowOrigin⟩
  let s := s.setArm a { s.arm a with dir := dir, pip := pip, coast := some base, coasted := false }
  let s := (s.showSel a dead comm sat (pip.isSome && decide (duty ≠ 0)) pneg ke us ue dutyW vm).showPend a
  (⟨s.windowOrigin, len, kept, sw.1, leave, repl ++ w0.2.2.1 ++ w1.2.2.1 ++ swaps, posL, negL, sigma, duty, pip,
    begins, moved && !begins⟩, s)

/-- CELL readout of the selection engine (R210). -/
def showCell (s : State) (i role : Nat) (neg changed : Bool) (rank : Nat) : State :=
  ((((s.set F.SEL_CELL.ROLE role i).setB F.SEL_CELL.SIGN neg i).setB F.SEL_CELL.CHANGED changed i)).set F.SEL_CELL.RANK (min 1023 rank) i

/-- SEL_CELL of an arm without a selection: its members of the last tick have left the set (R203, R210). -/
def showNone (s : State) (a : Nat) : State :=
  s.each (s.armCells a) fun s i =>
    (s.showCell i (if s.awaits a i then 3 else 0) false (s.get F.SEL_CELL.ROLE i = 1) 0).set F.SEL_CELL.END_STATE 3 i

/-- SEL_CELL as the selection leaves the arm, was being its set as dispatched before (R207, R210). -/
def showCells (s : State) (a : Nat) (sel : Sel) (was : List (Nat × Bool)) : State :=
  s.each (s.armCells a) fun s i =>
    let mem := sel.goal.find? fun x => x.1 = i
    let neg := mem.any (·.2)
    let list := if neg then sel.neg else sel.pos
    let role := if mem.isSome then 1 else if sel.pip = some i then 2 else if s.awaits a i then 3 else 0
    s.showCell i role neg (was.find? (fun x => x.1 = i) != mem) (if list.contains i then list.idxOf i else 0)

/-- The selection stage for one arm (R188, R200 to R204); none where the arm is planned as blocked. A commutation
event counts in a blocked arm too (R200). -/
def selectArm (s : State) (a : Nat) : Option Sel × State :=
  let comm := s.commutes a
  let s := if comm then (s.bump F.SEL_ARM_EVT_CNT2.COMM_CNT 1 a).noteTick 9 4 else s
  if !(s.arm a).deblocked then
    (none, ((s.clearArm a).setArm a { (s.clearArm a).arm a with pend := [], lastRef := none }).showIdle a comm |>.showNone a)
  else
    let s := s.pendStep a comm
    let (ref, s) := s.armRef a
    match ref with
    | none => (none, ((s.clearArm a).showIdle a comm).showNone a)
    | some (v, g) =>
      let was := if (s.arm a).fresh then [] else (s.arm a).set
      let (sel, s) := s.selectWith a v g comm
      (some sel, s.showCells a sel was)

/-- The coast plan's selection: the references extended to the present window, the ranking and V_MEAN of
the last computed selection, no swaps, the pip with its cell (R30, R228). -/
def coastSelect (s : State) (a : Nat) (b : CoastBase) : Sel × State :=
  let m := s.arm a
  let n := s.tickNo
  let len := s.windowLen n
  let v := Fp.add b.v (Fp.mul b.g (Fp.ofRatio (s.windowOrigin - b.origin) 1000))
  let (us, ue, _, s) := s.levels v b.g b.vm len b.p b.f
  let ks := levelOf (Fp.toRat us) b.p b.f
  let ke := levelOf (Fp.toRat ue) b.p b.f
  let mask := s.mask a
  let kept := m.set.filter fun x => mask.contains x.1
  let leave := m.set.filter fun x => !mask.contains x.1
  let pip := m.pip.filter mask.contains
  let inList := fun (i : Nat) => mask.contains i && decide (pip ≠ some i)
  let pos := b.pos.filter inList
  let neg := b.neg.filter inList
  let w0 := walkTo pos neg none s.fullBridge us ue len (b.p + b.f + 2 + kept.length) kept ks
  let w1 := walkLevel pos neg none s.fullBridge us ue len 1 (b.p + b.f + 2) w0.1 w0.2.1 ke
  let begins := s.carrierBegins n
  let s := if pip.isSome then s.pipAged a begins else s
  let s := s.setArm a { s.arm a with pip := pip, coasted := true }
  (⟨s.windowOrigin, len, kept, w1.1, leave, w0.2.2.1 ++ w1.2.2.1, pos, neg, b.sigma, Fp.toRat (dutyOf us ue len ks ke b.p b.f), pip,
    begins, m.pip ≠ pip && !begins⟩, s)

/-- The waits of R201 as the tick ends: every pending cell has waited one tick more. -/
def pendWait (s : State) (a : Nat) : State :=
  let m := s.arm a
  s.setArm a { m with pend := m.pend.map fun x => (x.1, x.2 + 1) }

def selCntClear (s : State) : State :=
  s.each (List.range 16) fun s a => s.clearAll [F.SEL_ARM_SWAP_CNT.COUNT, F.SEL_ARM_EVT_CNT.BUDGET_CUT,
    F.SEL_ARM_EVT_CNT.SAT_CNT, F.SEL_ARM_EVT_CNT.PIP_NONE, F.SEL_ARM_EVT_CNT2.COMM_CNT,
    F.SEL_ARM_EVT_CNT2.REF_INVALID, F.SEL_ARM_EVT_CNT2.WAIT_EXPIRED] a

end State

/-- WAIT_EXPIRED (R201): a pending cell has waited COMM_WAIT ticks and enters the mask. -/
def execWaitExpired (i : Fin 6144) (s : State) : Host.Outcome State Fault Refusal :=
  .next (s.pendExpire (s.cellArm i) i)

/-- PIP_MOVE (R199): PIP_AGE has reached PIP_HOLD, and the pip moves to a new cell, with which a carrier of its
own begins. After a coast plan the move falls to the next computed selection. -/
def execPipMove (a : Fin 16) (s : State) : Host.Outcome State Fault Refusal :=
  .next (if (s.arm a).deblocked && (s.arm a).pip.isSome && s.pipDue a && !(s.arm a).coasted then
      let (p, t) := s.choosePip a ((s.arm a).set.map (·.1)) (s.flag F.SEL_ARM_STATUS.PIP_SIGN a)
      (t.setArm a { t.arm a with pip := p, carrier := none }).set F.SEL_ARM_PIP.PIP_INDEX (p.getD 0) a
    else s)

end Sys2Proof.Machine
end

