-- ==== Sys2Proof/Machine/Edge.lean ====
section
/-!
DEFINITION. The edge planner of 09_edge_planner.md: placing of changes, the pip, entries and order
frames, WEAR, the coast plan and the debug halt.
-/

namespace Sys2Proof.Machine

/-- Placing of one arm's changes as it goes: placed changes (cell, edge, factor after), CARRY, counts,
edge history, and the first change of every cell treated so far. -/
structure EdgeAcc where
  placed : List (Nat × Int × Int) := []
  carry : Rat
  moves : Nat := 0
  drops : Nat := 0
  subs : Nat := 0
  swaps : Nat := 0
  last : AMap Nat
  seen : List (Nat × Int × Int) := []
deriving DecidableEq, Repr

/-- What one arm's placing needs: DT_COMP's σ (0 when off), DEAD_TIME and MIN_DWELL in ns. -/
structure EdgeCtx where
  comp : Bool
  dead : Nat
  dwell : Nat
  sel : Sel
deriving DecidableEq, Repr

/-- h of R213. -/
def EdgeCtx.shift (c : EdgeCtx) (sFrom sTo : Int) : Int :=
  if !c.comp then 0
  else
    let x := sFrom * c.sel.sigma
    let y := sTo * c.sel.sigma
    if y < x then c.dead else if x < y then 0 else (c.dead / 2 : Nat)

/-- A dropped change, or swap pair: its whole area goes to CARRY, counted once (R215, R218). -/
def EdgeAcc.drop (acc : EdgeAcc) (len : Nat) (c : Chg) : EdgeAcc :=
  { acc with drops := acc.drops + 1
             carry := acc.carry + (c.cells.map fun x => ((len : Rat) - c.tnom) * ((x.2.2 - x.2.1 : Int) : Rat)).sum
             seen := acc.seen ++ c.cells }

/-- A change or swap pair placed under R213 and R215, or dropped when its edge lies beyond the window. -/
def EdgeCtx.place (k : EdgeCtx) (acc : EdgeAcc) (c : Chg) : EdgeAcc :=
  let xs := c.cells.map fun x =>
    let h := k.shift x.2.1 x.2.2
    (x, h, max 0 (c.tnom - h + 1 / 2).floor)
  let delta := xs.foldl (fun (d : Int) x =>
    match acc.last.lookup x.1.1 with
    | some t => max d ((t : Int) + k.dwell - (k.sel.origin + x.2.2))
    | none => d) 0
  let acc := if 0 < delta then { acc with moves := acc.moves + 1 } else acc
  if xs.any fun x => (k.sel.len : Int) ≤ x.2.2 + delta then acc.drop k.sel.len c
  else
    { acc with
      placed := acc.placed ++ xs.map fun x => (x.1.1, x.2.2 + delta, x.1.2.2)
      carry := acc.carry + (xs.map fun x => (((x.2.2 + delta + x.2.1 : Int) : Rat) - c.tnom) * ((x.1.2.2 - x.1.2.1 : Int) : Rat)).sum
      swaps := acc.swaps + (if c.kind = 2 then 1 else 0)
      last := xs.foldl (fun l x => AMap.put (fun _ => 0) l x.1.1 (k.sel.origin + x.2.2 + delta).toNat) acc.last
      seen := acc.seen ++ c.cells }

/-- One change in the order of R214. A second change of a cell in the window is dropped (R212), but for
the entry of a cell that departs from the other sign, which another cell takes (R217). -/
def EdgeCtx.one (k : EdgeCtx) (acc : EdgeAcc) (c : Chg) : EdgeAcc :=
  let again := c.cells.any fun x => acc.seen.any fun y => y.1 = x.1
  if !again then k.place acc c
  else match c.cells with
    | [(x, 0, sTo)] =>
      if acc.seen.contains (x, -sTo, 0) then
        let busy := fun (i : Nat) => (k.sel.goal.any fun m => m.1 = i) || (acc.seen.any fun y => y.1 = i)
          || k.sel.chgs.any fun d => d.cells.any fun y => y.1 = i
        match (if sTo < 0 then k.sel.neg else k.sel.pos).find? fun i => !busy i with
        | some i => k.place { acc with subs := acc.subs + 1 } { c with cells := [(i, 0, sTo)] }
        | none => acc.drop k.sel.len c
      else acc.drop k.sel.len c
    | _ => acc.drop k.sel.len c

/-- The order of R214: nominal instant, then kind, then the selection engine's order. -/
def chgOrder (l : List Chg) : List Chg :=
  l.mergeSort fun x y => decide (x.tnom < y.tnom) || decide (x.tnom = y.tnom) && decide (x.kind ≤ y.kind)

-- The pip (R219 to R223)

/-- The pulse of a carrier of length lc that begins at origin, for A cell·ns; none where it is skipped
(R220, R221). -/
def EdgeCtx.pulse (k : EdgeCtx) (lc : Nat) (neg : Bool) (area : Rat) : Option (Pulse × Rat) :=
  let p := facOf neg
  let hOn := k.shift 0 p
  let hOff := k.shift p 0
  let w := max 0 (min ((lc : Rat) - 2 * k.dead) ((p : Rat) * area))
  let q := (w - hOff + hOn) / 8
  let width := Fp.roundDivEven q.num q.den
  if width < 1 ∨ 8 * width ≤ k.dead then none
  else
    let span := 8 * width + hOff - hOn
    let on := max 0 (((lc : Rat) / 2 - (span : Rat) / 2).floor - hOn)
    some (⟨neg, k.sel.origin + on, width.toNat, hOn, hOff, decide (8191 < width)⟩, area - p * span)

/-- Off-instant of a pulse. -/
def Pulse.off (p : Pulse) : Int := p.on + 8 * (p.width : Int)

/-- The part of a pulse's effective span at or after an instant (R223). -/
def Pulse.rest (p : Pulse) (t : Int) : Int := max 0 (p.off + p.hOff - max t (p.on + p.hOn))

/-- The pip cell's entry in the window [o, o + len) (R221, R222). -/
def pipEntry (pu : Option Pulse) (o : Int) (len : Nat) : Ent :=
  match pu with
  | none => { st := 0 }
  | some p =>
    let e := (p.on - o).toNat
    if o + len ≤ p.on then { st := 0 }
    else if o ≤ p.on then
      (if p.long then { st := if p.neg then 2 else 1, edge := e, pulse := true }
       else { st := if p.neg then 5 else 4, edge := e, width := p.width, pulse := true })
    else if p.long then
      (if o + len ≤ p.off then { st := 6 }
       else if o ≤ p.off then { st := 0, edge := (p.off - o).toNat }
       else { st := 0 })
    else if o ≤ p.off + p.hOff then { st := 6 } else { st := 0 }

/-- STATE the pip cell reports at a window's end (R210). -/
def pipEnd (pu : Option Pulse) (t : Int) : Nat :=
  match pu with
  | some p => if p.on ≤ t ∧ t < p.off then (if p.neg then 5 else 4) else 0
  | none => 0

namespace State

/-- The state R139 orders for a cell that is not in the mask: BYPASS, or BLOCK (R25, R26, R142). -/
def heldState (s : State) (i : Nat) : Nat :=
  let c := s.cell i
  let k := s.cellString i
  let silent := s.drivenEnds.all fun e => match e with | .a => c.silentA | .b => c.silentB
  let beyond := s.flag F.LINK_STR_STATUS.SCHED_LATE k && s.holds i 11 && !silent
    && ceilingOf s.periodNs (s.slowestGen k) ≤ s.cellPos i
  match s.svc i with
  | 1 => if c.adm = .short then 0 else 3
  | 2 => 0
  | 3 => if !s.flag F.CAT_ENTRY_W0.BYPASS i || s.holds i 12 || s.holds i 17 || s.holds i 18 || s.holds i 19 || beyond
      then 3 else 0
  | _ => 3

/-- The factor R213 uses for a held state: BLOCK follows the diodes (R169). -/
def heldFactor (s : State) (i : Nat) (sigma : Int) : Int :=
  if s.heldState i = 0 then 0 else if s.fullBridge i then sigma else max 0 sigma

/-- The arm's CARRY after its pip is planned, its carrier, and whether a pulse was skipped (R219 to R223).
A pulse of no area is none, and a half-bridge pip cell takes no negative one: CARRY keeps A (R199; log
entry 44). -/
def planPip (s : State) (a : Nat) (k : EdgeCtx) (carry : Rat) : Rat × Option Carrier × Bool :=
  let m := s.arm a
  let sel := k.sel
  let cut := fun (c : Rat) => match m.carrier with
    | some { pulse := some p, .. } => c + (facOf p.neg : Rat) * p.rest sel.origin
    | _ => c
  if sel.boundary ∨ sel.rechoice ∨ (m.carrier.isNone ∧ sel.pip.isSome) then
    let carry := cut carry
    match sel.pip with
    | none => (carry, none, false)
    | some i =>
      let lc := s.carrierLen s.tickNo
      let area := sel.duty * lc + carry
      let neg := decide (sel.duty < 0) || decide (sel.duty = 0) && decide (area < 0)
      if sel.duty = 0 ∧ area = 0 ∨ neg && !s.fullBridge i then (area, some ⟨sel.duty, i, none⟩, false)
      else match k.pulse lc neg area with
        | some (p, c) => (c, some ⟨sel.duty, i, some p⟩, false)
        | none => (area, some ⟨sel.duty, i, none⟩, true)
  else match m.carrier with
    | some c =>
      if sel.pip = some c.cell then (carry + (sel.duty - c.d1) * sel.len, some c, false)
      else (cut carry, none, false)
    | none => (carry, none, false)

/-- Status and carry of an arm at the end of the edge stage (R234, R235). -/
def showEdge (s : State) (a swaps changes : Nat) : State :=
  let c := (s.arm a).carry
  let s := (s.set F.EDGE_ARM_STATUS.SWAPS (min 255 swaps) a).set F.EDGE_ARM_STATUS.CHANGES (min 255 changes) a
  s.set F.EDGE_ARM_CARRY.CARRY (ofSigned 32 (Fp.roundDivEven c.num c.den)) a

/-- Every cell of an arm with one entry, and no change placed: BLOCK at EDGE 0 where the arm is planned as
blocked, HOLD where it is frozen (R203, R211). -/
def fillEntries (s : State) (a : Nat) (e : Ent) : State :=
  (s.each (s.armCells a) fun s i => s.setEnt i e).showEdge a 0 0

def blockEntries (s : State) (a : Nat) : State := s.fillEntries a {}

/-- The entry of one cell of a selected arm, by the rows of R211, and its readout. -/
def fillEntry (s : State) (a : Nat) (sel : Sel) (acc : EdgeAcc) (coast : Bool) (i : Nat) : State :=
  let m := s.arm a
  let mem := m.set.find? fun x => x.1 = i
  let stOf := fun (f : Int) => if f = 0 then 0 else if f < 0 then 2 else 1
  let pu := m.carrier.bind fun c => if c.cell = i then c.pulse else none
  let isPip := decide (m.pip = some i) && (s.mask a).contains i
  let e : Ent :=
    if !(s.mask a).contains i then { st := s.heldState i }
    else if isPip then pipEntry pu sel.origin sel.len
    else match acc.placed.find? fun x => x.1 = i with
      | some x => { st := stOf x.2.2, edge := x.2.1.toNat }
      | none => { st := match mem with | some x => (if x.2 then 2 else 1) | none => 0 }
  let s := s.setEnt i e
  if coast then s else s.set F.SEL_CELL.END_STATE (if isPip then pipEnd pu (sel.origin + sel.len) else e.st) i

/-- The edge stage for one selected arm (R211 to R223), or its coast plan, which leaves the readout of the
selection stage as it is (R207). -/
def edgeArm (s : State) (a : Nat) (sel : Sel) (coast : Bool) : State :=
  let m := s.arm a
  let k : EdgeCtx := ⟨s.flag F.EDGE_ARM_CTRL.DT_COMP a, s.deadNs a, s.get F.EDGE_CTRL.MIN_DWELL, sel⟩
  let acc := (chgOrder sel.chgs).foldl k.one { carry := m.carry, last := m.lastEdge }
  let gone : Rat := (sel.leave.map fun x =>
    let f := facOf x.2
    let g := s.heldFactor x.1 sel.sigma
    ((k.shift f g : Int) : Rat) * ((g - f : Int) : Rat)).sum
  let set := acc.placed.foldl (fun (l : List (Nat × Bool)) x =>
    let l := l.filter fun y => y.1 ≠ x.1
    if x.2.2 = 0 then l else l ++ [(x.1, decide (x.2.2 < 0))]) sel.set
  let (carry, carrier, skipped) := s.planPip a k (acc.carry + gone)
  let lim : Rat := s.get F.EDGE_ARM_CTRL.CARRY_MAX a
  let clipped := max (-lim) (min lim carry)
  let s := s.setArm a { m with set := set, pip := sel.pip, carry := clipped, carrier := carrier, lastEdge := acc.last, fresh := false }
  -- counters and status (R234, R235)
  let s := (s.bump F.EDGE_ARM_CNT.DWELL_MOVE acc.moves a).bump F.EDGE_ARM_CNT.DROP acc.drops a
  let s := (s.bump F.EDGE_ARM_CNT2.CROSS_SUB acc.subs a).bump F.EDGE_ARM_CNT2.PIP_SKIP (if skipped then 1 else 0) a
  let s := if carry ≠ clipped then s.bump F.EDGE_ARM_CNT2.CARRY_CLIP 1 a else s
  let s := s.showEdge a acc.swaps acc.placed.length
  let fresh := sel.boundary || sel.rechoice
  let s := match carrier.bind (·.pulse) with
    | some p => if fresh then (s.set F.EDGE_ARM_STATUS.WIDTH (min 8191 p.width) a).setB F.EDGE_ARM_STATUS.LONG_PIP p.long a else s
    | none => s
  (s.each (s.armCells a) fun s i => s.fillEntry a sel acc coast i).pendWait a

/-- A deblocked arm planned as blocked: its pending cells wait on (R201, R204, R228). -/
def idleArm (s : State) (a : Nat) : State :=
  let s := s.blockEntries a
  if (s.arm a).deblocked then s.pendWait a else s

/-- Selection and edge planning of one arm. -/
def planArm (s : State) (a : Nat) : State :=
  let (sel, s) := s.selectArm a
  match sel with
  | some x => s.edgeArm a x false
  | none => s.idleArm a

/-- The selection and edge stages (R188, R211). -/
def planStage (s : State) : State := s.each s.declaredArms fun s a => s.planArm a

/-- The coast plan of one arm; an arm without a computed selection since its deblock is planned as blocked
(R228). -/
def coastArm (s : State) (a : Nat) : State :=
  match (s.arm a).coast with
  | some b => if (s.arm a).deblocked then
      let (sel, s) := s.coastSelect a b
      s.edgeArm a sel true
    else s.idleArm a
  | none => s.idleArm a

def coastStage (s : State) : State := s.each s.declaredArms fun s a => s.coastArm a

/-- A word a stage changed as it was before, given as address, word before and word after: bits written since
the stage stay as written (R29, R234). -/
def takeBack (s : State) (w : Nat × Word × Word) : State :=
  let diff := w.2.1 ^^^ w.2.2
  if s.reg w.1 &&& diff = w.2.2 &&& diff then s.setReg w.1 ((s.reg w.1 &&& ~~~diff) ||| (w.2.1 &&& diff)) else s

-- Frames (R76, R77, R224)

/-- The 32-bit word of an entry. -/
def entWord (e : Ent) : Nat := e.st % 8 * 2 ^ 29 + e.edge % 2 ^ 16 * 2 ^ 13 + e.width % 2 ^ 13

/-- ROLE by twin mode: marked in PARTITIONED only (R76). -/
def frameRole (s : State) : Nat := if s.mode = 4 then (if s.junior then 2 else 1) else 0

/-- A string's order frame without its CHECK block (R76, R77). -/
def frameOf (s : State) (k : Nat) : List Block :=
  let es := (s.stringCells k).map fun i => entWord (s.ent i)
  mkBlock [(0x10, 56), (s.tickNo % 2 ^ 24, 32), (k, 26), (s.get F.LINK_STR_STATUS.STR_VER k, 24), (s.frameRole, 22), (es.length, 14)]
    :: (List.range ((es.length + 1) / 2)).map fun j => mkBlock [(es.getD (2 * j) 0, 32), (es.getD (2 * j + 1) 0, 0)]

/-- What the dispatched entry of a cell adds to WEAR (R225), with its last steady state. -/
def addWear (s : State) (i : Nat) : State :=
  let e := s.ent i
  let o := s.ord i
  if e.pulse then (s.setOrd i { o with last := 0 }).bump F.CAT_ENTRY_W3.WEAR 2 i
  else if e.st = 6 ∨ e.st = o.last ∨ 3 < e.st then s
  else (s.setOrd i { o with last := e.st }).bump F.CAT_ENTRY_W3.WEAR 1 i

/-- The plan becomes the tick's orders: frames, WEAR, and the switching the observer follows (R169, R224,
R225). Frames are formed unless the tick's are withheld (R29). -/
def handPlan (s : State) (withhold : Bool) : State :=
  let o := s.windowOrigin
  let s := s.each s.allCells fun s i => (s.addWear i).noteOrder i o (s.ent i)
  let frames := if withhold then [] else s.strings.map fun k => (k, s.frameOf k)
  { s with tick := { s.tick with frames := frames } }

/-- The frames leave at the dispatch slot (R224). -/
def dispatchFrames (s : State) : State :=
  let fs := s.tick.frames
  let s := s.each fs fun s f => s.sendMsg f.1 f.2
  { s with tick := { s.tick with frames := [], sent := true } }

-- Arms blocked and deblocked (R203)

/-- An arm becomes blocked; its freeze ends (R211, R235, R398). -/
def blockArm (s : State) (a : Nat) : State :=
  let s := if s.bit F.EDGE_HALT.FREEZE_ACTIVE a then
      (s.setBit F.EDGE_HALT.FREEZE_ACTIVE a false).setB F.EDGE_ARM_STATUS.FROZEN false a
    else s
  if (s.arm a).deblocked then
    let s := s.clearArm a
    (s.setArm a { s.arm a with deblocked := false, justDeblocked := false, pend := [], lastRef := none }).catArmBlocked a
  else s

/-- An arm becomes deblocked: selection starts from an empty set (R203), and the reports of the apply
tick resynchronise (R181). -/
def deblockArm (s : State) (a : Nat) : State :=
  if (s.arm a).deblocked then s
  else
    let s := s.clearArm a
    (s.setArm a { s.arm a with deblocked := true, justDeblocked := true, pend := [], lastRef := none }).catArmDeblocked a

-- Debug halt (R229 to R232)

def halted (s : State) : Bool := s.flag F.EDGE_HALT.HALTED

/-- A halt is requested: accepted only in ALONE and SOLO (R229). -/
def haltRequest (s : State) : State :=
  if s.mode = 0 ∨ s.mode = 3 then { s with tick := { s.tick with haltReq := true } }
  else s.setB F.EDGE_HALT.HALT_REFUSED true

def frozen (s : State) (a : Nat) : Bool := s.bit F.EDGE_HALT.FREEZE_ACTIVE a

/-- HUSK of the planner's own on an arm's strings; the arm becomes blocked (R230, R231). -/
def haltHusk (s : State) (a : Nat) : State :=
  let s := s.huskOn (s.strings.filter fun k => s.get F.CAT_STR_INFO.ARM k = a)
  (s.setB F.EDGE_ARM_STATUS.HALT_HUSK true a).blockArm a

/-- The entries of a halted device: HOLD for a frozen arm, the rows of R211 for a blocked one. -/
def haltEntries (s : State) : State :=
  s.each s.declaredArms fun s a =>
    if s.frozen a then s.fillEntries a { st := 6 } else s.blockEntries a

/-- The tick's plan is discarded before it is dispatched: the arms, their pip and their edge registers are as
before the selection stage, and it counts nothing (R232, R234). The loop stage stays committed. -/
def discardPlan (s : State) : State :=
  match s.tick.undo with
  | none => s
  | some u =>
    let mine := fun (a : Nat) => decide (0xB0000 ≤ a ∧ a < 0xC0000) || decide (0xA0000 ≤ a ∧ a < 0xA0400 ∧ a % 0x40 = 0x14)
    let s := s.each (u.words.filter fun w => mine w.1) fun s w => s.takeBack w
    { s with arms := u.arms, tick := { s.tick with undo := none } }

/-- The halt takes effect at a hand-over, before the tick's plan leaves: life-cycle state MAINTENANCE and LVTEST
freeze the arms with HALT_FREEZE, every other deblocked arm is blocked with HUSK (R229 to R231). -/
def haltStart (s : State) : State :=
  let ok := s.get F.LC_STATE.STATE = 4 && s.flag F.EDGE_HALT.LVTEST
  let s := { s with tick := { s.tick with haltReq := false } }
  let s := s.discardPlan.setB F.EDGE_HALT.HALTED true
  let s := s.each s.declaredArms fun s a =>
    if ok && s.bit F.EDGE_FREEZE.HALT_FREEZE a then
      (s.setBit F.EDGE_HALT.FREEZE_ACTIVE a true).setB F.EDGE_ARM_STATUS.FROZEN true a
    else if (s.arm a).deblocked then s.haltHusk a
    else s
  s.haltEntries

/-- LVTEST_IN as the Curator reports it; its end during a halt blocks the frozen arms (R231). -/
def lvtest (s : State) (high : Bool) : State :=
  let s := s.setB F.EDGE_HALT.LVTEST high
  if high || !s.halted then s
  else s.each (s.declaredArms.filter s.frozen) fun s a => s.haltHusk a

/-- RESUME ends the halt (R232). -/
def resume (s : State) : State :=
  if !s.halted then { s with tick := { s.tick with haltReq := false } }
  else
    let s := ((s.setB F.EDGE_HALT.HALTED false).set F.EDGE_HALT.FREEZE_ACTIVE 0)
    s.each (List.range 16) fun s a => (s.setB F.EDGE_ARM_STATUS.FROZEN false a).setB F.EDGE_ARM_STATUS.HALT_HUSK false a

def edgeCntClear (s : State) : State :=
  s.each (List.range 16) fun s a => s.clearAll [F.EDGE_ARM_CNT.DWELL_MOVE, F.EDGE_ARM_CNT.DROP, F.EDGE_ARM_CNT2.CARRY_CLIP,
    F.EDGE_ARM_CNT2.PIP_SKIP, F.EDGE_ARM_CNT2.CROSS_SUB] a

end State

/-- FRAME_DISPATCH (R224): the dispatch slot; every string's frame starts to leave. -/
def execFrameDispatch (s : State) : Host.Outcome State Fault Refusal := .next s.dispatchFrames

/-- LVTEST_CHANGE (R231, R404): LVTEST_IN as the Curator reports it. -/
def execLvtestChange (high : Bool) (s : State) : Host.Outcome State Fault Refusal := .next (s.lvtest high)

end Sys2Proof.Machine
end

