-- ==== Sys2Proof/Machine/Loop.lean ====
section
/-!
DEFINITION. The loop engine of 10_loop_engine.md: contexts, their runs in binary32, supervision and
faults, modes and promotion, injection, coefficient scrub and seal.
-/

namespace Sys2Proof.Machine

-- Row sums (R238)

/-- One group of columns as a fused multiply-add chain from +0.0. -/
def fmaChain (l : List (Word × Word)) : Word := l.foldl (fun a x => Fp.fma x.1 x.2 a) (Fp.zero false)

/-- Groups of 8 consecutive elements, the last possibly shorter. -/
def groups8 {α : Type} : Nat → List α → List (List α)
  | 0, _ => []
  | n + 1, l => if l.isEmpty then [] else l.take 8 :: groups8 n (l.drop 8)

/-- Neighbours added in pairs, one without a partner passed on. -/
def pairUp : List Word → List Word
  | a :: b :: t => Fp.add a b :: pairUp t
  | l => l

/-- The pairwise tree over group sums. -/
def treeSum : Nat → List Word → Word
  | 0, l => l.headD (Fp.zero false)
  | n + 1, l => match l with
    | [] => Fp.zero false
    | [x] => x
    | _ => treeSum n (pairUp l)

/-- One row sum. -/
def rowSum (coef vals : List Word) : Word :=
  let gs := (groups8 (coef.length / 8 + 1) (coef.zip vals)).map fmaChain
  treeSum gs.length gs

/-- Sizes of a context: n_x, n_y, n_u, n_w, tones (R240). -/
structure CtxDim where
  x : Nat
  y : Nat
  u : Nat
  w : Nat
  tones : Nat
deriving DecidableEq, Repr

namespace CtxDim

def m1 (d : CtxDim) : Nat := d.y * (d.x + d.u)
def m2 (d : CtxDim) : Nat := d.x * d.y
def m3 (d : CtxDim) : Nat := d.u * (d.x + d.w)
def m4 (d : CtxDim) : Nat := d.x * (d.x + d.u)

/-- cost_c of R248. -/
def cost (d : CtxDim) : Nat := 26 + (d.m1 + 511) / 512 + (d.m2 + 511) / 512 + (d.m3 + 511) / 512 + (d.m4 + 511) / 512

-- First words of the matrices in the block (R239)
def oC (_ : CtxDim) : Nat := 16
def oD (d : CtxDim) : Nat := 16 + d.y * d.x
def oL (d : CtxDim) : Nat := 16 + d.m1
def oK (d : CtxDim) : Nat := d.oL + d.m2
def oF (d : CtxDim) : Nat := d.oK + d.u * d.x
def oA (d : CtxDim) : Nat := d.oK + d.m3
def oB (d : CtxDim) : Nat := d.oA + d.x * d.x
def oX0 (d : CtxDim) : Nat := d.oA + d.m4
def oU0 (d : CtxDim) : Nat := d.oX0 + d.x
def oTone (d : CtxDim) : Nat := d.oU0 + d.u

/-- Sizes within the bounds of R237 and R240. -/
def clamp (d : CtxDim) : CtxDim := ⟨max 1 (min 32 d.x), min 16 d.y, max 1 (min 16 d.u), min 8 d.w, min 16 d.tones⟩

end CtxDim

/-- Bits of word o of a block that its header's fields use; the words after the header are used whole (R240). -/
def headerMask (o : Nat) : Word :=
  if o = 0 then 0xFFFFFFF0#32 else if o = 3 then 0x001FFFFF#32 else if 4 ≤ o ∧ o < 16 then 0#32 else 0xFFFFFFFF#32

-- The sine of the injection generators (R265)

/-- sin(2πi/4096) for i up to 1,024, in units of 2^-40: the Taylor series to the 13th power. -/
def sineQuarter (i : Nat) : Int :=
  let x : Int := (i : Int) * 6908435304716 / 4096
  let q : Int := x * x / 2 ^ 40
  let step := fun (acc d : Int) => 2 ^ 40 - q * acc / (d * 2 ^ 40)
  x * [156, 110, 72, 42, 20, 6].foldl step (2 ^ 40) / 2 ^ 40

/-- sin(2πi/4096) in units of 2^-40. -/
def sineExact (i : Nat) : Int :=
  let r := i % 2048
  let v := sineQuarter (if r ≤ 1024 then r else 2048 - r)
  if i % 4096 < 2048 then v else -v

/-- Entry i of the sine table: some datum within 1.5 × 10^−6 of the sine, which keeps the interpolated sine
within the error R265 bounds (DESIGN CHOICE, log entry 26). -/
def sinePoint (i : Nat) : Word :=
  let w := Config.sinePoint i
  let e := sineExact i
  if Fp.isFinite w ∧ (Fp.units w - e * 2 ^ 109).natAbs * 10 ^ 7 ≤ 15 * 2 ^ 149 then w else Fp.ofInt e (-40)

/-- The sine of a phase word in units of 2^-32 cycle: the table with linear interpolation (R265). -/
def sineOf (p : Nat) : Word :=
  let i := p / 2 ^ 20 % 4096
  let a := sinePoint i
  Fp.fma (Fp.sub (sinePoint ((i + 1) % 4096)) a) (Fp.ofNat (p % 2 ^ 20) (-20)) a

namespace State

def ctxDeclared (s : State) (c : Nat) : Bool := s.flag F.CTX_COEF.LENGTH c
def ctxs192 (s : State) : List Nat := (List.range 192).filter s.ctxDeclared
def ctxModeOf (s : State) (c : Nat) : Nat := s.get F.CTX_CTRL.MODE c
def ctxFaulted (s : State) (c : Nat) : Bool := s.flag F.CTX_STATUS.FAULTED c
def ctxSealed (s : State) (c : Nat) : Bool := s.flag F.CTX_STATUS.SEALED c

/-- Address of word o of a context's coefficient block (R239). -/
def coefAddr (s : State) (c o : Nat) : Nat := 0x100000 + 64 * s.get F.CTX_COEF.BASE c + 4 * o
def coef (s : State) (c o : Nat) : Word := s.reg (s.coefAddr c o)
def coefs (s : State) (c o n : Nat) : List Word := (List.range n).map fun j => s.coef c (o + j)

/-- The sizes as the header's fields state them (R240). -/
def header (s : State) (c : Nat) : CtxDim :=
  let h := (s.coef c 0).toNat
  ⟨bits h 23 18, bits h 17 13, bits h 12 8, bits h 7 4, bits (s.coef c 3).toNat 20 16⟩

/-- The sizes of a context: its header's, held to the bounds of R237, which a block written by management
may leave (DESIGN CHOICE, log entry 109). -/
def dim (s : State) (c : Nat) : CtxDim := (s.header c).clamp

/-- The reserved words and bits of a context's header hold 0 (R240). -/
def clearHeader (s : State) (c : Nat) : State :=
  s.each (List.range 16) fun s o => s.setReg (s.coefAddr c o) (s.coef c o &&& headerMask o)

/-- Element j of a list of table indices, two to a word (R271). -/
def idx (s : State) (even odd : Field) (c j : Nat) : Nat := if j % 2 = 0 then s.get even c (j / 2) else s.get odd c (j / 2)
def inIdx (s : State) (c j : Nat) : Nat := s.idx F.CTX_IN.INDEX_EVEN F.CTX_IN.INDEX_ODD c j
def outIdx (s : State) (c j : Nat) : Nat := s.idx F.CTX_OUT.INDEX_EVEN F.CTX_OUT.INDEX_ODD c j
def ffIdx (s : State) (c j : Nat) : Nat := s.idx F.CTX_FF.INDEX_EVEN F.CTX_FF.INDEX_ODD c j
def feIdx (s : State) (c j : Nat) : Nat := s.idx F.CTX_FE_SIG.INDEX_EVEN F.CTX_FE_SIG.INDEX_ODD c j
def outs (s : State) (c : Nat) : List Nat := (List.range (s.dim c).u).map (s.outIdx c)

/-- FE_TIME_j (R260). -/
def feTime (s : State) (c j : Nat) : Nat :=
  s.get (match j % 4 with
    | 0 => F.CTX_FE_TIME.FE_TIME_0
    | 1 => F.CTX_FE_TIME.FE_TIME_1
    | 2 => F.CTX_FE_TIME.FE_TIME_2
    | _ => F.CTX_FE_TIME.FE_TIME_3) c (j / 4)

/-- Kind of a signal-table entry (R242). -/
def sigKind (s : State) (i : Nat) : Nat := s.get F.SIG_PROD.KIND i

/-- What a context reads of an entry: an entry of kind NONE reads 0.0 (R242, R244). -/
def view (s : State) (i : Nat) : Word := if s.sigKind i = 0 then Fp.zero false else s.sig i

def setOutsOk (s : State) (c : Nat) (ok : Bool) : State := s.each (s.outs c) fun s i => s.setSigOk i ok

/-- The entries a context writes: of kind CONTEXT while it is LIVE, of kind SHADOW while it is SHADOW (R242, R253). -/
def writes (s : State) (c i : Nat) : Bool := decide (s.sigKind i = if s.ctxModeOf c = 2 then 5 else 4)

/-- The SHADOW entries of a context become valid or invalid (R242). -/
def setShadowOk (s : State) (c : Nat) (ok : Bool) : State :=
  s.each ((s.outs c).filter fun i => s.sigKind i = 5) fun s i => s.setSigOk i ok

/-- Some arm of ARM_MASK is deblocked (R252, R257). -/
def ctxArmed (s : State) (c : Nat) : Bool := (List.range 16).any fun a => s.bit F.CTX_ARMS.ARM_MASK a c && (s.arm a).deblocked

/-- The partner of a SHADOW context (R253). -/
def partner (s : State) (c : Nat) : Option Nat :=
  let p := s.get F.CTX_CTRL.CMP_CTX c
  if p < 192 ∧ s.ctxDeclared p then some p else none

-- Injection (R264 to R266)

/-- An injection that is armed or runs ends, with the reason END (R266). -/
def injEnd (s : State) (c reason : Nat) : State :=
  let st := s.get F.CTX_INJ_STATUS.STATE c
  if st = 1 ∨ st = 2 then (s.set F.CTX_INJ_STATUS.STATE 3 c).set F.CTX_INJ_STATUS.END reason c else s

/-- A start of the generator at its first run in or after tick at_: none where it is refused (R266). -/
def injStart (s : State) (c at_ : Nat) : Option State :=
  let lc := s.get F.LC_STATE.STATE
  let m := s.ctxModeOf c
  let st := s.get F.CTX_INJ_STATUS.STATE c
  if !s.ctxDeclared c || s.ctxFaulted c || st = 1 || st = 2
      || !(m = 1 && (lc = 2 || lc = 4) || m = 2 && (lc = 2 || lc = 3 || lc = 4)) then none
  else
    let s := ((s.set F.CTX_INJ_STATUS.STATE 1 c).set F.CTX_INJ_STATUS.END 0 c).set F.CTX_INJ_STATUS.POSITION 0 c
    some (s.setCtx c { s.ctx c with injAt := at_, injM := 0, injPhi := 0, injOmega := s.get F.CTX_INJ_F0.VALUE c
                                    prbs := 0x7FFF, prbsRuns := 0 })

/-- A stop: with no injection armed or running it sets ALREADY_DONE (R266). -/
def injStop (s : State) (c : Nat) : State :=
  let st := s.get F.CTX_INJ_STATUS.STATE c
  if st = 1 ∨ st = 2 then s.injEnd c 2 else s.setB F.CTX_INJ_STATUS.ALREADY_DONE true c

/-- g_m of the run (R265). -/
def injValue (s : State) (c : Nat) : Word :=
  let x := s.ctx c
  let d := s.dim c
  let amp := s.reg (F.CTX_INJ_AMP.VALUE.addr c)
  match s.get F.CTX_INJ_CTRL.TYPE c with
  | 1 => amp
  | 2 => if x.prbs / 2 ^ 14 % 2 = 1 then amp else Fp.negate amp
  | 3 => Fp.mul amp (sineOf x.injPhi)
  | 4 => ((List.range d.tones).map fun i =>
      let fw := (s.coef c (d.oTone + 3 * i)).toNat
      let ph := (s.coef c (d.oTone + 3 * i + 2)).toNat
      Fp.mul (s.coef c (d.oTone + 3 * i + 1)) (sineOf (ph + x.injM * fw))).foldl Fp.add (Fp.zero false)
  | _ => Fp.zero false

/-- The register of x^15 + x^14 + 1 advanced by one (R265). -/
def prbsNext (r : Nat) : Nat := (2 * r + (r / 2 ^ 14 + r / 2 ^ 13) % 2) % 2 ^ 15

/-- The generator after a committed run: m, φ, ω and the register move on; DURATION runs end it (R265, R266). -/
def injAdvance (s : State) (c : Nat) : State :=
  let x := s.ctx c
  let dur := s.get F.CTX_INJ_CTRL.DURATION c
  let f0 : Int := s.get F.CTX_INJ_F0.VALUE c
  let f1 : Int := s.get F.CTX_INJ_F1.VALUE c
  let held := x.prbsRuns + 1
  let turn := decide (s.get F.CTX_INJ_CTRL.PRBS_HOLD c ≤ held)
  let s := s.set F.CTX_INJ_STATUS.POSITION x.injM c
  let s := s.setCtx c { x with
    injM := x.injM + 1, injPhi := (x.injPhi + x.injOmega) % 2 ^ 32
    injOmega := ofSigned 32 ((x.injOmega : Int) + Fp.roundDivEven (f1 - f0) (max 1 dur))
    prbs := if turn then prbsNext x.prbs else x.prbs, prbsRuns := if turn then 0 else held }
  if dur ≤ x.injM + 1 then (s.set F.CTX_INJ_STATUS.STATE 3 c).set F.CTX_INJ_STATUS.END 1 c else s

-- Modes (R252, R255, R261, R262)

/-- The comparison window of a context restarts, as partner and as shadow (R254). -/
def cmpRestart (s : State) (c : Nat) : State :=
  s.each (s.ctxs192.filter fun b => b = c || s.partner b = some c) fun s b =>
    s.setCtx b { s.ctx b with cmpRuns := 0, cmpMax := 0, cmpSum := 0 }

/-- A mode change to OFF, LIVE or SHADOW; none where R252 or R269 refuses it. -/
def ctxMode (s : State) (c m : Nat) : Option State :=
  let old := s.ctxModeOf c
  if !s.ctxDeclared c || s.ctxFaulted c || 2 < m then none
  else if old = m then some s
  else if m ≠ 0 && !s.ctxSealed c then none
  else
    let fresh := fun (s : State) => s.setCtx c { s.ctx c with started := false }
    let go := fun (s : State) => ((s.injEnd c 3).cmpRestart c).set F.CTX_CTRL.MODE m c
    match old, m with
    | 0, 2 => some ((fresh (go s)).setShadowOk c true)
    | 2, 0 => some ((go s).setOutsOk c false)
    | 0, 1 => if s.ctxArmed c then none else some (fresh (go s))
    | 1, 0 => if s.ctxArmed c then none else some ((go s).setOutsOk c false)
    | _, _ => none

/-- Two contexts exchange their ORDER values and output lists, and the producer map follows (R255, R261). -/
def exchange (s : State) (a b : Nat) : State :=
  let oa := s.get F.CTX_CTRL.ORDER a
  let ob := s.get F.CTX_CTRL.ORDER b
  let wa := (List.range 8).map fun i => s.reg (F.CTX_OUT.INDEX_EVEN.addr a i)
  let wb := (List.range 8).map fun i => s.reg (F.CTX_OUT.INDEX_EVEN.addr b i)
  let ea := s.outs a
  let eb := s.outs b
  let s := (s.set F.CTX_CTRL.ORDER ob a).set F.CTX_CTRL.ORDER oa b
  let s := s.each (List.range 8) fun s i =>
    (s.setReg (F.CTX_OUT.INDEX_EVEN.addr a i) (wb.getD i 0)).setReg (F.CTX_OUT.INDEX_EVEN.addr b i) (wa.getD i 0)
  let s := s.each ea fun s i => s.set F.SIG_PROD.SOURCE b i
  s.each eb fun s i => s.set F.SIG_PROD.SOURCE a i

/-- A promotion of SHADOW context b (R255); none where it is refused. -/
def promote (s : State) (b : Nat) : Option State :=
  match s.partner b with
  | none => none
  | some a =>
    if s.ctxModeOf b ≠ 2 || s.ctxModeOf a ≠ 1 || s.ctxFaulted a || s.ctxFaulted b || !s.ctxSealed b then none
    else
      let s := ((s.injEnd a 3).injEnd b 3).cmpRestart a
      let s := (s.exchange a b).cmpRestart b
      some (((s.set F.CTX_CTRL.MODE 1 b).set F.CTX_CTRL.MODE 2 a).set F.CTX_CTRL.CMP_CTX b a)

/-- A write of MODE: of a SHADOW context to LIVE it is a promotion (R252, R255). -/
def modeWrite (s : State) (c m : Nat) : Option State :=
  if s.ctxModeOf c = 2 ∧ m = 1 then s.promote c else s.ctxMode c m

/-- A fault reset (R262); of a context that is not FAULTED it has no effect. -/
def ctxFaultReset (s : State) (c : Nat) : State :=
  if !s.ctxFaulted c then s
  else
    let s := s.clearAll [F.CTX_STATUS.FAULTED, F.CTX_STATUS.CAUSE, F.CTX_STATUS.FE_OUT, F.CTX_STATUS.LOST_CNT, F.CTX_INPUTS.FROZEN_IN] c
    let s := s.setCtx c { s.ctx c with started := false, frz := [], fe := [] }
    if s.ctxModeOf c = 2 then s.setShadowOk c true else s

/-- A change of a context that lands (R252); a refused one changes nothing. -/
def ctxApply (s : State) (c : Nat) : CtxOp → State
  | .mode m => (s.ctxMode c m).getD s
  | .promote => (s.promote c).getD s
  | .faultReset => s.ctxFaultReset c
  | .injStart => (s.injStart c s.tickNo).getD s
  | .injStop => s.injStop c

/-- Management changes whose apply tick has come, at the opening of the loop stage (R252). -/
def ctxDue (s : State) (c : Nat) : State :=
  let x := s.ctx c
  let n := s.tickNo
  let due := x.ops.filter fun o => o.1 ≤ n
  if due = [] then s
  else (s.setCtx c { x with ops := x.ops.filter fun o => n < o.1 }).each due fun s o => s.ctxApply c o.2

/-- A change a management write asks for in tick m, with apply tick m + 2 (R252). -/
def ctxAsk (s : State) (c : Nat) (o : CtxOp) : State :=
  let x := s.ctx c
  s.setCtx c { x with ops := x.ops ++ [(s.tickNo + 2, o)] }

-- Faults (R260, R261)

/-- A fault of a context: its run is withheld, and the state of its outputs follows its mode and
FAULT_ACTION. FALLBACK is settled at the end of the stage. -/
def ctxFault (s : State) (c cause feOut : Nat) : State :=
  let s := ((s.setB F.CTX_STATUS.FAULTED true c).set F.CTX_STATUS.CAUSE cause c).set F.CTX_STATUS.FE_OUT feOut c
  let s := ((s.bump F.CTX_EVT_CNT.FAULT_CNT 1 c).injEnd c 3).cmpRestart c
  let s := (s.setCtx c { s.ctx c with coefBad := false }).noteTick 9 5
  let s := if cause = 1 then s.localCause else s
  if s.ctxModeOf c = 2 then s.setShadowOk c false else s

/-- A target can take over: declared, sound, sealed and of the same n_u, divider and PHASE (R261). -/
def fallbackOk (s : State) (c t : Nat) : Bool :=
  t < 192 && s.ctxDeclared t && !s.ctxFaulted t && s.ctxSealed t && (s.dim c).u = (s.dim t).u
    && s.get F.CTX_SCHED.DIVIDER c = s.get F.CTX_SCHED.DIVIDER t && s.get F.CTX_SCHED.PHASE c = s.get F.CTX_SCHED.PHASE t
    && (s.ctxModeOf t = 0 || s.ctxModeOf t = 2)

/-- The FAULT_ACTION of LIVE contexts that faulted in the stage, and whether one asks for Safe Block (R261). -/
def faultActions (s : State) (cs : List Nat) : State × Bool :=
  cs.foldl (fun (a : State × Bool) c =>
    let s := a.1
    let t := s.get F.CTX_CTRL.FALLBACK c
    match s.get F.CTX_CTRL.FAULT_ACTION c with
    | 0 => (s, a.2)
    | 1 =>
      if s.fallbackOk c t then
        let off := decide (s.ctxModeOf t = 0)
        let s := ((s.exchange c t).cmpRestart t).injEnd t 3
        let s := if off then s.setCtx t { s.ctx t with started := false } else s
        let s := (s.set F.CTX_CTRL.MODE 1 t).set F.CTX_CTRL.MODE 0 c
        (s.setOutsOk c false, a.2)
      else (s.setOutsOk c false, true)
    | _ => (s.setOutsOk c false, true)) (s, false)

/-- The same outside a stage: Safe Block is requested at once. -/
def faultActionsNow (s : State) (cs : List Nat) : State :=
  let r := s.faultActions cs
  if r.2 then r.1.requestSbk 4 else r.1

/-- The Safe Block a committed stage asked for is requested (R251, R261, R263). -/
def loopSafe (s : State) : State :=
  if s.tick.loopSbk then ({ s with tick := { s.tick with loopSbk := false } }).requestSbk 4 else s

-- One run (R237, R257 to R260)

/-- What a run computes before supervision decides on it. -/
structure RunOut where
  y : List Word
  yhat : List Word
  used : List Bool
  w : List Word
  u : List Word
  ub : List Word
  xnext : List Word
  g : Word
deriving DecidableEq, Repr

/-- The injection is running or due in this run (R266). -/
def injLive (s : State) (c : Nat) : Bool :=
  let st := s.get F.CTX_INJ_STATUS.STATE c
  st = 2 || st = 1 && decide ((s.ctx c).injAt ≤ s.tickNo)

/-- X0 and U0 taken where the context starts (R257). -/
def ctxBegin (s : State) (c : Nat) : State :=
  let x := s.ctx c
  if x.started then s
  else
    let d := s.dim c
    s.setCtx c { x with started := true, xhat := s.coefs c d.oX0 d.x, uLast := s.coefs c d.oU0 d.u
                        uOwn := s.coefs c d.oU0 d.u, yPrev := [], yhatPrev := [] }

/-- The four steps of R237; old is the signal table as the stage opened. -/
def runOf (s old : State) (c : Nat) : RunOut :=
  let d := s.dim c
  let x := s.ctx c
  let inj := s.injLive c
  let g := if inj then s.injValue c else Fp.zero false
  let atIn := inj && !s.flag F.CTX_INJ_CTRL.INJ_POINT c
  let atOut := inj && s.flag F.CTX_INJ_CTRL.INJ_POINT c
  let j0 := s.get F.CTX_INJ_CTRL.INJ_INDEX c
  let y := (List.range d.y).map fun j =>
    let v := s.view (s.inIdx c j)
    if atIn && j = j0 then Fp.add v g else v
  let used := (List.range d.y).map fun j => s.sigOk (s.inIdx c j) && !s.bit F.CTX_INPUTS.FROZEN_IN j c
  let w := (List.range d.w).map fun j => if s.sigOk (s.ffIdx c j) then s.view (s.ffIdx c j) else x.wHold.getD j (Fp.zero false)
  let par := if s.ctxModeOf c = 2 then s.partner c else none
  let ua := match par with
    | some a => (s.outs a).map old.sig
    | none => x.uLast
  let yhat := (List.range d.y).map fun i =>
    rowSum (s.coefs c (d.oC + i * d.x) d.x ++ s.coefs c (d.oD + i * d.u) d.u) (x.xhat ++ ua)
  let r := (List.range d.y).map fun j =>
    if used.getD j false then Fp.sub (y.getD j 0) (yhat.getD j 0) else Fp.zero false
  let xc := if d.y = 0 then x.xhat
    else (List.range d.x).map fun i => Fp.add (x.xhat.getD i 0) (rowSum (s.coefs c (d.oL + i * d.y) d.y) r)
  let u := (List.range d.u).map fun i =>
    let v := rowSum (s.coefs c (d.oK + i * d.x) d.x ++ s.coefs c (d.oF + i * d.w) d.w) (xc ++ w)
    if atOut && i = j0 then Fp.add v g else v
  let ub := match par with
    | some a => (s.outs a).map s.sig
    | none => u
  let xnext := (List.range d.x).map fun i =>
    rowSum (s.coefs c (d.oA + i * d.x) d.x ++ s.coefs c (d.oB + i * d.u) d.u) (xc ++ ub)
  ⟨y, yhat, used, w, u, ub, xnext, g⟩

/-- The validity bits of the feedback inputs as a run reads them (R267). -/
def inputBits (s : State) (c n : Nat) : Nat := (((List.range n).filter fun j => s.sigOk (s.inIdx c j)).map (2 ^ ·)).sum

/-- LOST_CNT after a run (R258). -/
def lostStep (s : State) (c : Nat) (r : RunOut) : State :=
  let d := s.dim c
  let ff := (List.range d.w).any fun j => !s.sigOk (s.ffIdx c j)
  let s := s.set F.CTX_INPUTS.INVALID_IN (2 ^ d.y - 1 - s.inputBits c d.y) c
  if r.used.any (fun u => !u) || ff then s.bump F.CTX_STATUS.LOST_CNT 1 c else s.set F.CTX_STATUS.LOST_CNT 0 c

def lostDue (s : State) (c : Nat) : Bool := s.get F.CTX_LIMITS.LOST_MAX c < s.get F.CTX_STATUS.LOST_CNT c

/-- FRZ_j has reached FRZ_RUNS: input j becomes frozen at its value (R259). -/
def freezeInput (s : State) (c j : Nat) : State :=
  let x := s.ctx c
  let runs := s.get F.CTX_LIMITS.FRZ_RUNS c
  if runs ≠ 0 ∧ runs ≤ x.frz.getD j 0 ∧ s.bit F.CTX_INPUTS.FROZEN_IN j c = false then
    let yf := (List.range (max x.yFrz.length (j + 1))).map fun i => if i = j then x.yPrev.getD j 0 else x.yFrz.getD i 0
    (s.setBit F.CTX_INPUTS.FROZEN_IN j true c).setCtx c { x with yFrz := yf }
  else s

/-- Frozen inputs after a run (R259). -/
def frzStep (s : State) (c : Nat) (r : RunOut) : State :=
  let x := s.ctx c
  let d := s.dim c
  let lim := s.reg (F.CTX_FRZ_MIN.FRZ_MIN.addr c)
  let watched := fun (j : Nat) => let k := s.sigKind (s.inIdx c j); 2 ≤ k && k ≤ 5
  let frz := (List.range d.y).map fun j =>
    let old := x.frz.getD j 0
    match x.yPrev[j]?, x.yhatPrev[j]? with
    | some yp, some hp =>
      if !watched j then 0
      else if r.y.getD j 0 ≠ yp then 0
      else if Fp.le lim (Fp.abs (Fp.sub (r.yhat.getD j 0) hp)) then min 255 (old + 1) else old
    | _, _ => old
  -- release first: an input whose value differs from the frozen one
  let s := s.each (List.range d.y) fun s j =>
    if s.bit F.CTX_INPUTS.FROZEN_IN j c && r.y.getD j 0 ≠ x.yFrz.getD j 0 then s.setBit F.CTX_INPUTS.FROZEN_IN j false c else s
  let s := s.setCtx c { s.ctx c with frz := frz, yPrev := r.y, yhatPrev := r.yhat }
  s.each (List.range d.y) fun s j => s.freezeInput c j

/-- FE_CNT after a run (R260). -/
def feStep (s : State) (c : Nat) (r : RunOut) : State :=
  let x := s.ctx c
  let d := s.dim c
  let fe := (List.range d.u).map fun j =>
    let old := x.fe.getD j 0
    let t := s.feIdx c j
    if s.feTime c j = 0 then 0
    else if !s.sigOk t then old
    else
      let e := Fp.abs (Fp.sub (r.u.getD j 0) (s.view t))
      let lim := s.reg (F.CTX_FE_LIM.FE_LIM.addr c j)
      if Fp.lt lim e then min 255 (old + 1) else if Fp.le e lim then 0 else old
  s.setCtx c { x with fe := fe }

/-- The first output whose FE_CNT has reached FE_TIME. -/
def feDue (s : State) (c : Nat) : Option Nat :=
  (List.range (s.dim c).u).find? fun j => s.feTime c j ≠ 0 && s.feTime c j ≤ (s.ctx c).fe.getD j 0

/-- CMP_WIN runs are complete: CMP_MAX and CMP_RMS are published and a new window starts (R254). -/
def cmpPublish (s : State) (c : Nat) : State :=
  let x := s.ctx c
  let win := s.get F.CTX_LIMITS.CMP_WIN c
  if win = 0 ∨ x.cmpRuns < win then s
  else
    let rms := Fp.sqrt (Fp.div x.cmpSum (Fp.ofNat ((s.dim c).u * win)))
    let s := (s.setReg (F.CTX_CMP_MAX.VALUE.addr c) x.cmpMax).setReg (F.CTX_CMP_RMS.VALUE.addr c) rms
    s.setCtx c { x with cmpRuns := 0, cmpMax := 0, cmpSum := 0 }

/-- The shadow comparison of a run (R254). -/
def cmpStep (s : State) (c : Nat) (r : RunOut) : State :=
  match (if s.ctxModeOf c = 2 then s.partner c else none) with
  | none => s
  | some a =>
    let ds := (r.u.zip ((s.outs a).map s.sig)).map fun p => Fp.sub p.1 p.2
    let x := s.ctx c
    let mx := ds.foldl (fun m e => if Fp.lt m (Fp.abs e) then Fp.abs e else m) x.cmpMax
    let sum := ds.foldl (fun a e => Fp.add a (Fp.mul e e)) x.cmpSum
    (s.setCtx c { x with cmpRuns := x.cmpRuns + 1, cmpMax := mx, cmpSum := sum }).cmpPublish c

/-- A sample of the tuning record (R267). -/
def tuneSample (s : State) (c : Nat) (g : Word) (valid : Nat) (y u : List Word) : State :=
  let n := s.tickNo
  let row := [BitVec.ofNat 32 n, BitVec.ofNat 32 (n / 2 ^ 32), g, BitVec.ofNat 32 valid] ++ y ++ u
  { s with vit := { s.vit with tuneRows := s.vit.tuneRows ++ [(c, row)] } }

/-- The cause a run faults for, lowest code first (R261), with the output of cause FE. -/
def faultCause (s : State) (c : Nat) (r : RunOut) : Option (Nat × Nat) :=
  if (s.ctx c).coefBad then some (1, 0)
  else if (r.u ++ r.xnext).any fun v => !Fp.isFinite v then some (2, 0)
  else if s.lostDue c then some (3, 0)
  else (s.feDue c).map fun j => (4, j)

/-- A run committed: state, outputs, counters, injection and sample (R251, R264, R267). -/
def commitRun (s : State) (c : Nat) (r : RunOut) : State :=
  let x := s.ctx c
  let valid := s.inputBits c r.y.length
  let s := s.setCtx c { x with xhat := r.xnext, uLast := r.ub, uOwn := r.u, wHold := r.w }
  let s := s.each ((s.outs c |>.zip r.u).filter fun o => s.writes c o.1) fun s o => (s.setSig o.1 o.2).setSigOk o.1 true
  let s := ((s.bump F.CTX_RUN_CNT.COUNT 1 c).setB F.CTX_STATUS.RAN true c).cmpStep c r
  if s.injLive c then
    let s := s.set F.CTX_INJ_STATUS.STATE 2 c
    (s.tuneSample c r.g valid r.y r.u).injAdvance c
  else s

/-- One run of a context in the stage: supervised, then committed or withheld (R251, R258 to R261). -/
def runCtx (s old : State) (c : Nat) : State :=
  let s := s.ctxBegin c
  let r := s.runOf old c
  let s := ((s.lostStep c r).frzStep c r).feStep c r
  match s.faultCause c r with
  | some (cause, j) => s.ctxFault c cause j
  | none => s.commitRun c r

-- The stage (R247 to R257)

/-- The device skips SHADOW contexts: curtailment level 4 in ALONE and SOLO (R256, R463). -/
def shadowSkip (s : State) : Bool := s.pwr.governs = 4 && (s.mode = 0 || s.mode = 3)

/-- The context's slot falls in the tick (R247, R257, R269). -/
def ctxSlot (s : State) (c : Nat) : Bool :=
  let k := max 1 (s.get F.CTX_SCHED.DIVIDER c)
  (s.ctxModeOf c = 1 || s.ctxModeOf c = 2) && !s.ctxFaulted c && s.ctxSealed c
    && s.tickNo % k = s.get F.CTX_SCHED.PHASE c && (!s.flag F.CTX_CTRL.RUN_COND c || s.ctxArmed c)

/-- Contexts in the order they run (R247). -/
def ctxOrder (s : State) (cs : List Nat) : List Nat :=
  cs.mergeSort fun a b => decide (s.get F.CTX_CTRL.ORDER a ≤ s.get F.CTX_CTRL.ORDER b)

/-- What a tick opens with, whether its loop stage runs or commits: management's changes land with a stage
that opens (R252), RAN and SKIPPED await this tick (R271), and a context none of whose arms is deblocked
starts anew at its next run (R257). -/
def loopOpen (s : State) : State :=
  if !s.isReady then s
  else
    let s := { s with tick := { s.tick with loopSbk := false } }
    let s := if s.halted then s else s.each s.ctxs192 fun s c => s.ctxDue c
    s.each s.ctxs192 fun s c =>
      let s := s.clearAll [F.CTX_STATUS.RAN, F.CTX_STATUS.SKIPPED] c
      if s.flag F.CTX_CTRL.RUN_COND c && !s.ctxArmed c then s.setCtx c { s.ctx c with started := false } else s

/-- The loop stage of a tick. The Safe Block it asks for waits for its commit (R251, R263). -/
def loopStage (s : State) : State :=
  if !s.isReady then s
  else
    let all := s.ctxs192
    let slots := s.ctxOrder (all.filter s.ctxSlot)
    let skip := fun (c : Nat) => s.shadowSkip && s.ctxModeOf c = 2
    let old := s
    let s := s.each (slots.filter skip) fun s c =>
      ((s.setB F.CTX_STATUS.SKIPPED true c).bump F.CTX_EVT_CNT.SHADOW_SKIP 1 c).cmpRestart c
    let runs := slots.filter fun c => !skip c
    let s := s.each runs fun s c => s.runCtx old c
    let s := s.set F.LOOP_STATUS.USED (min 65535 ((runs.map fun c => (old.dim c).cost).sum))
    let r := s.faultActions (runs.filter fun c => s.ctxFaulted c && old.ctxModeOf c = 1)
    { r.1 with tick := { r.1.tick with loopSbk := r.2 } }

/-- A stage that missed its commit: every scheduled run counts, and a running injection samples its
previous values (R251, R267). -/
def loopMissed (s : State) : State :=
  if !s.isReady then s
  else s.each (s.ctxs192.filter fun c => s.ctxSlot c && !(s.shadowSkip && s.ctxModeOf c = 2)) fun s c =>
    let s := s.bump F.CTX_EVT_CNT.MISSED_RUN 1 c
    let x := s.ctx c
    if s.get F.CTX_INJ_STATUS.STATE c = 2 then s.tuneSample c (s.injValue c) (2 ^ 31) x.yPrev x.uOwn else s

/-- LOOP_STAGE of R249. -/
def loopStageLen (s : State) : Nat :=
  24 + ((List.range 64).map fun k =>
    let mine := s.ctxs192.filter fun c => s.get F.CTX_SCHED.DIVIDER c = k + 1
    ((List.range (k + 1)).map fun ph =>
      ((mine.filter fun c => s.get F.CTX_SCHED.PHASE c = ph).map fun c => (s.dim c).cost).sum).foldl max 0).sum

/-- PERIOD_MISMATCH of every context, at image load and when a staged group lands (R241). -/
def periodCheck (s : State) : State :=
  s.each s.ctxs192 fun s c =>
    let want := s.get F.CTX_SCHED.DIVIDER c * s.periodNs
    let disc := (s.coef c 1).toNat
    s.setB F.CTX_STATUS.PERIOD_MISMATCH (1000 * (max want disc - min want disc) > want) c

-- Coefficient integrity (R268, R269)

/-- CRC-32C over bytes 64 to the end of the block (R240). -/
def coefCrc (s : State) (c : Nat) : Nat :=
  Crc.crc32c ((s.coefs c 16 (16 * s.get F.CTX_COEF.LENGTH c - 16)).flatMap Crc.wordBytes)

/-- Errors corrected on reads of a context's block (R268). -/
def coefCorrected (s : State) (c n : Nat) : State := (s.bump F.CTX_EVT_CNT.ECC_CORR n c).bump F.LOOP_ECC_CNT.CORRECTED n

/-- The scrub reads a context's block: declared, and not passed over for want of a seal (R268, R269). -/
def scrubbed (s : State) (c : Nat) : Bool := s.ctxDeclared c && s.ctxSealed c

/-- The first context in ascending order from c on whose block the scrub reads, or the lowest of all (R268). -/
def scrubFrom (s : State) (c : Nat) : Option Nat :=
  let cs := (List.range 192).filter s.scrubbed
  (cs.filter fun d => decide (c ≤ d)).head?.or cs.head?

/-- The scrub goes on to the next block in ascending order; past the last one a pass is complete (R268, R272). -/
def scrubNext (s : State) (c : Nat) : State :=
  let n := (s.scrubFrom (c + 1)).getD c
  let s := if n ≤ c then s.bump F.LOOP_SCRUB.PASSES else s
  s.set F.LOOP_SCRUB.CTX n

/-- The scrub finishes a block: corrected errors, an uncorrectable one, or an upset the ECC passes; a
mismatch faults the context at its next run (R268). The scrub reads the blocks in ascending order, so that
it finishes no other block than the next. -/
def scrubBlock (s : State) (c corrected : Nat) (uncorr upset : Bool) : State :=
  if s.scrubFrom (s.get F.LOOP_SCRUB.CTX) ≠ some c then s
  else
    let s := (s.scrubNext c).coefCorrected c corrected
    let s := if uncorr then s.bump F.LOOP_ECC_CNT.UNCORRECTED else s
    let bad := upset || s.coefCrc c ≠ (s.coef c 2).toNat
    let s := if bad then s.bump F.LOOP_SCRUB.MISMATCH else s
    if bad || uncorr then (s.setCtx c { s.ctx c with coefBad := true }).localCause else s

/-- A write of SEAL: REF_CRC over the stored block, and SEALED (R269). -/
def sealBlock (s : State) (c : Nat) : State :=
  if !s.ctxDeclared c then s
  else
    let s := s.clearHeader c
    (s.setReg (s.coefAddr c 2) (BitVec.ofNat 32 (s.coefCrc c))).setB F.CTX_STATUS.SEALED true c

/-- A write to a block or to its sizes may be accepted: the context is OFF, SHADOW or FAULTED (R269). -/
def coefOpen (s : State) (c : Nat) : Bool := s.ctxModeOf c = 0 || s.ctxModeOf c = 2 || s.ctxFaulted c

/-- What an accepted write to a block or its sizes does beside storing (R254, R269). -/
def coefTouched (s : State) (c : Nat) : State := (s.setB F.CTX_STATUS.SEALED false c).cmpRestart c

/-- Contexts whose block holds an address. -/
def coefOwners (s : State) (a : Nat) : List Nat :=
  s.ctxs192.filter fun c => s.coefAddr c 0 ≤ a && a < s.coefAddr c 0 + 64 * s.get F.CTX_COEF.LENGTH c

def ctxCntClear (s : State) (c : Nat) : State :=
  s.clearAll [F.CTX_RUN_CNT.COUNT, F.CTX_EVT_CNT.FAULT_CNT, F.CTX_EVT_CNT.MISSED_RUN, F.CTX_EVT_CNT.SHADOW_SKIP, F.CTX_EVT_CNT.ECC_CORR] c

def loopCntClear (s : State) : State :=
  let s := s.clearAll [F.LOOP_ECC_CNT.CORRECTED, F.LOOP_ECC_CNT.UNCORRECTED, F.LOOP_SCRUB.MISMATCH, F.LOOP_SCRUB.PASSES]
  s.each (List.range 192) fun s c => s.ctxCntClear c

end State

/-- CONTEXT_LOST (R258): LOST_CNT has reached LOST_MAX + 1, and the context faults. -/
def execContextLost (c : Fin 192) (s : State) : Host.Outcome State Fault Refusal :=
  .next (if s.ctxDeclared c && !s.ctxFaulted c && s.ctxModeOf c ≠ 0 && s.lostDue c then
      let live := decide (s.ctxModeOf c = 1)
      let s := s.ctxFault c 3 0
      if live then s.faultActionsNow [c] else s
    else s)

/-- FOLLOWING_ERROR (R260): FE_CNT has reached FE_TIME, and the context faults. -/
def execFollowingError (c : Fin 192) (s : State) : Host.Outcome State Fault Refusal :=
  .next (match s.feDue c with
    | some j => if s.ctxDeclared c && !s.ctxFaulted c && s.ctxModeOf c ≠ 0 then
        let live := decide (s.ctxModeOf c = 1)
        let s := s.ctxFault c 4 j
        if live then s.faultActionsNow [c] else s
      else s
    | none => s)

/-- INPUT_FROZEN (R259): FRZ_j has reached FRZ_RUNS. -/
def execInputFrozen (c : Fin 192) (j : Fin 16) (s : State) : Host.Outcome State Fault Refusal := .next (s.freezeInput c j)

/-- CMP_WINDOW_END (R254): CMP_WIN runs of a shadow are complete. -/
def execCmpWindowEnd (c : Fin 192) (s : State) : Host.Outcome State Fault Refusal := .next (s.cmpPublish c)

/-- INJECTION_COMPLETE (R266): DURATION runs have been made. -/
def execInjectionComplete (c : Fin 192) (s : State) : Host.Outcome State Fault Refusal :=
  .next (if s.get F.CTX_INJ_STATUS.STATE c = 2 && s.get F.CTX_INJ_CTRL.DURATION c ≤ (s.ctx c).injM then s.injEnd c 1 else s)

/-- SCRUB_BLOCK_CHECK (R268): the scrub has read a block. -/
def execScrubBlockCheck (c : Fin 192) (corrected : Nat) (uncorr upset : Bool) (s : State) : Host.Outcome State Fault Refusal :=
  .next (s.scrubBlock c corrected uncorr upset)

end Sys2Proof.Machine
end

