-- ==== Sys2Proof/Machine/StnMsg.lean ====
section
/-!
DEFINITION. Station messages the device sends (12_station_orders_telemetry_and_management.md, R315,
R316): their layout, and the sessions' registers, credit, acceptance and change of home.
-/

namespace Sys2Proof.Machine

/-- Numbers below 256 as bytes of a message. -/
def toBytes (l : List Nat) : List Byte := l.map (BitVec.ofNat 8)

def fromBytes (l : List Byte) : List Nat := l.map BitVec.toNat

/-- A number from bytes sent most significant first. -/
def natOf (l : List Nat) : Nat := l.foldl (fun a b => a * 256 + b) 0

/-- Bytes lo to lo + n − 1 of a message as a number; bytes beyond its end count as 0. -/
def fieldAt (l : List Nat) (lo n : Nat) : Nat := natOf (((l.drop lo) ++ List.replicate n 0).take n)

/-- MAGIC to the end of the body (R315). -/
def stnHead (ver kind tag seq : Nat) (body : List Nat) : List Nat :=
  [0xA6, 0xF1, ver, kind] ++ Crc.bytesBE 2 tag ++ Crc.bytesBE 6 seq ++ Crc.bytesBE 2 body.length ++ [0, 0] ++ body

/-- A message with its CRC; auth is the TAG of the management kinds (R315). -/
def stnMsg (ver kind tag seq : Nat) (body auth : List Nat) : List Byte :=
  let m := stnHead ver kind tag seq body ++ auth
  toBytes (m ++ Crc.bytesBE 4 (Crc.crc32c m))

namespace State

/-- The IEEE 802.1Q tag of frames a port sends: PCP and VID (R313). -/
def vlan (s : State) (p : Nat) : Option (Nat × Nat) :=
  if s.flag F.STN_PORT_CTRL.TAG_EN p then some (s.get F.STN_PORT_CTRL.PCP p, s.get F.STN_PORT_CTRL.VID p) else none

def sess (s : State) (k : Nat) : Sess := AMap.read (fun _ => {}) s.stn.sess k
def setSess (s : State) (k : Nat) (x : Sess) : State :=
  { s with stn := { s.stn with sess := AMap.put (fun _ => {}) s.stn.sess k x } }

def sessTag (s : State) (k : Nat) : Nat := s.get F.STN_SESS_STATUS.TAG k
def sessVer (s : State) (k : Nat) : Nat := s.get F.STN_SESS_STATUS.VER k
def sessHome (s : State) (k : Nat) : Bool := s.flag F.STN_SESS_STATUS.HOME k
def expected (s : State) (k : Nat) : Nat := s.get64 F.STN_SESS_EXP_LO.VALUE F.STN_SESS_EXP_HI.VALUE k
def applied (s : State) (k : Nat) : Nat := s.get64 F.STN_SESS_APPL_LO.VALUE F.STN_SESS_APPL_HI.VALUE k
def setExpected (s : State) (k v : Nat) : State := s.set64 F.STN_SESS_EXP_LO.VALUE F.STN_SESS_EXP_HI.VALUE v k
def setApplied (s : State) (k v : Nat) : State := s.set64 F.STN_SESS_APPL_LO.VALUE F.STN_SESS_APPL_HI.VALUE v k

/-- The held slots, ascending. -/
def heldSlots (s : State) : List Nat := (List.range 4).filter fun k => s.sessTag k ≠ 0

/-- CREDIT: 4,096 less the entries of the session's journal (R323). -/
def credit (s : State) (k : Nat) : Nat :=
  4096 - (s.stn.journal.filter fun o => decide (o.slot = k ∧ o.tag = s.sessTag k)).length

def showCredit (s : State) (k : Nat) : State :=
  s.set F.STN_SESS_STATUS.CREDIT (if s.sessTag k = 0 then 0 else s.credit k) k

/-- A message to a session's last source address (R314). -/
def tellSess (s : State) (k kind seq : Nat) (body : List Nat) : State :=
  let x := s.sess k
  s.emit (.station x.port (s.vlan (x.port)) x.src (stnMsg (s.sessVer k) kind (s.sessTag k) seq body []))

/-- HOME of OPEN_ACK (R316): 0 senior, 1 junior, 2 ALONE. -/
def homeCode (s : State) (k : Nat) : Nat :=
  if s.mode = 0 then 2 else if s.sessHome k = s.junior then 1 else 0

/-- The body of OPEN_ACK (R316). -/
def openAckBody (s : State) (ver slot home reason exp app credit : Nat) : List Nat :=
  [ver, slot, home, reason] ++ Crc.bytesBE 6 exp ++ Crc.bytesBE 6 app ++ Crc.bytesBE 2 credit
    ++ Crc.bytesBE 8 s.tickNo ++ Crc.bytesBE 2 (s.get F.TICK_PERIOD.PERIOD)

/-- OPEN_ACK for a held session (R317, R318). -/
def openAck (s : State) (k reason : Nat) : State :=
  s.tellSess k 0x02 0 (s.openAckBody (s.sessVer k) k (s.homeCode k) reason (s.expected k) (s.applied k) (s.credit k))

/-- An item of the station unit waits for a place in the ready pool: the dispatcher withholds credit (R456). -/
def stnStalled (s : State) : Bool := s.sched.waiting.any fun (w : Waiting) => decide (w.source = 8)

/-- ACK: the highest accession number accepted, and CREDIT for versions 2 and 3, 0 while the dispatcher
withholds it (R316, R320, R456). -/
def sendAck (s : State) (k : Nat) : State :=
  let x := s.sess k
  let c := if s.sessVer k = 1 || s.stnStalled then 0 else s.credit k
  s.tellSess k 0x11 x.accepted (Crc.bytesBE 6 x.accepted ++ Crc.bytesBE 2 c)

/-- One ACK for every session in which acceptances completed in the tick (R320). -/
def sendAcks (s : State) : State :=
  s.each s.heldSlots fun s k =>
    if (s.sess k).ackDue then (s.setSess k { s.sess k with ackDue := false }).sendAck k else s

/-- An order's acceptance is complete (R320, R321): the session's ACK is due in this tick. -/
def acceptOrder (s : State) (o : JOrder) : State :=
  if s.sessTag o.slot ≠ o.tag then s
  else
    let x := s.sess o.slot
    s.setSess o.slot { x with accepted := max x.accepted o.seq, ackDue := true }

/-- The session as JOURNAL and a snapshot carry it. -/
def sessRec (s : State) (k : Nat) : SessRec :=
  let x := s.sess k
  ⟨k, s.sessTag k, s.sessVer k, s.sessHome k != s.junior, s.expected k, s.applied k, x.src, x.port⟩

/-- A session taken into its slot. -/
def putSess (s : State) (r : SessRec) : State :=
  let s := (s.set F.STN_SESS_STATUS.TAG r.tag r.slot).set F.STN_SESS_STATUS.VER r.ver r.slot
  let s := s.setB F.STN_SESS_STATUS.HOME (r.homeSenior != s.junior) r.slot
  let s := ((s.setExpected r.slot r.expected).setApplied r.slot r.applied)
  let s := s.setSess r.slot { src := r.src, port := r.port, accepted := r.expected - 1 }
  s.showCredit r.slot

/-- A slot freed (R317); accepted orders stay in the journal. -/
def dropSess (s : State) (k : Nat) : State :=
  let tele := s.stn.tele.filter fun t => decide (¬ (t.2.map (·.slot)) = some k)
  let s := { s with stn := { s.stn with tele := tele } }
  let s := (s.setSess k {}).clearAll [F.STN_SESS_STATUS.TAG, F.STN_SESS_STATUS.VER, F.STN_SESS_STATUS.HOME,
    F.STN_SESS_STATUS.CREDIT] k
  (s.setExpected k 0).setApplied k 0

/-- This twin becomes home of every session it was not home of: EXPECTED follows the journal, and
OPEN_ACK says HOME_MOVED (R318, R328). -/
def homeMoved (s : State) : State :=
  s.each s.heldSlots fun s k =>
    if s.sessHome k then s
    else
      let last := ((s.stn.journal.filter fun o => decide (o.slot = k ∧ o.tag = s.sessTag k)).map (·.seq)).foldl max (s.sess k).accepted
      let s := (s.setB F.STN_SESS_STATUS.HOME true k).setExpected k (last + 1)
      (s.setSess k { s.sess k with accepted := last }).openAck k 2

end State

end Sys2Proof.Machine
end

