-- ==== Sys2Proof/Machine/Twin.lean ====
section
/-!
DEFINITION. The twin unit of 11_twin_operation.md: modes, the exchange of each tick, the agreement of
reports and channels, proposals and journaling between twins, the state digest and divergence, and
pairing. Rejoin.lean holds what a joining twin logs and replays.
-/

namespace Sys2Proof.Machine

/-- A cross-link message with its CHECK block, bits [55:32] of which are 0 (R275). -/
def xlMsg (msg : List Block) : List Block := msg ++ [mkBlock [(0xF0, 56), (Crc.crc32c (blockBytes msg), 0)]]

/-- The blocks of a cross-link message of the type given, without CHECK, where its check passes (R275, R276). -/
def xlBody (typ : Nat) (bs : List Block) : Option (List Block) :=
  match bs.getLast? with
  | none => none
  | some c =>
    let msg := bs.dropLast
    if bType c = 0xF0 && Crc.crc32c (blockBytes msg) = Block.get c 31 0 && (msg.head?.map bType) = some typ then some msg else none

/-- Copies of AGREE meet their deadline (R278): blocks of one copy, lanes in use, XLAT in ns; times in
units of 0.01 ns. -/
def xlFits (blocks lanes xlat : Nat) : Bool :=
  1000 + 2 * ((blocks + lanes - 1) / lanes) * 256 + 100 * xlat ≤ 30000

/-- The presence bit of position p (R282). -/
def presenceBit (b0 b1 : Block) (p : Nat) : Bool :=
  if p < 64 then Block.get b0 (63 - p) (63 - p) = 1 else Block.get b1 (127 - p) (127 - p) = 1

/-- Relay sections of an AGREE, for its string blocks with RELAY = 1 in turn (R282). -/
def readRelays : List AgreeStr → List Block → List (Nat × List (Nat × Block))
  | [], _ => []
  | a :: t, bs =>
    if !a.relay then readRelays t bs
    else match bs with
      | b0 :: b1 :: rest =>
        let ps := (List.range 128).filter (presenceBit b0 b1)
        (a.str, ps.zip rest) :: readRelays t (rest.drop ps.length)
      | _ => []

/-- The string blocks and relays of an AGREE message (R282). -/
def readAgree (msg : List Block) : Option (Nat × Agree) :=
  match msg with
  | [] => none
  | h :: rest =>
    let n := Block.get h 55 48
    let strs := (rest.take n).map fun b =>
      (⟨Block.get b 63 58, Block.get b 57 57 = 1, Block.get b 56 56 = 1, Block.get b 55 48, Block.get b 31 0⟩ : AgreeStr)
    some (Block.get h 31 0, ⟨strs, readRelays strs (rest.drop n)⟩)

namespace State

-- The bond

/-- Bond lanes in use: WIDTH 1 half, 2 full (R312). -/
def bondLanes (s : State) : Nat := match s.get F.BOND_STATUS.WIDTH with
  | 1 => 2
  | 2 => 4
  | _ => 0

/-- The cross-link carries messages (R274, R275, R401, R402). -/
def bondOpen (s : State) : Bool := s.flag F.TWIN_CTRL.TWIN_EN && 0 < s.bondLanes && !s.flag F.SAFE_STATUS.SILENCED && !s.cur.oscFail

/-- A cross-link message sent in n copies (R275). -/
def sendX (s : State) (n : Nat) (msg : List Block) : State :=
  if s.bondOpen then s.each (List.range n) fun s _ => s.emit (.xlink (xlMsg msg)) else s

/-- A received cross-link message: a failed check is counted in XL_CRC (R276). -/
def rxX (s : State) (typ : Nat) (bs : List Block) (f : State → List Block → State) : State :=
  match xlBody typ bs with
  | some msg => f s msg
  | none => s.bump F.TWIN_XL_CNT.XL_CRC

-- The state of the servo (R338, R339)

def servoState (s : State) : Nat := s.get F.TIME_STATUS.STATE

/-- A servo state entered: a departure from LOCKED is counted and noted. -/
def setServo (s : State) (v : Nat) : State :=
  let s := if s.servoState = 2 && v ≠ 2 then (s.bump F.TIME_CNT.LOCK_LOSS).noteTick 9 6 else s
  let s := if v = 2 then s.setB F.TIME_STATUS.EXT_VALID true else s
  s.set F.TIME_STATUS.STATE v

/-- The servo follows the senior through SKEW (R338). -/
def followsSenior (s : State) : Bool := s.flag F.TWIN_CTRL.TWIN_EN && s.junior && (s.mode = 1 || s.mode = 2 || s.mode = 5)

/-- SOURCE written 0: the servo is FREE (R339). -/
def servoFree (s : State) : State :=
  if s.get F.TIME_SERVO.SOURCE = 0 && !s.followsSenior then
    { (s.setServo 0) with clk := { s.clk with last := none, good := 0, integ := 0 } }
  else s

-- Modes (R279)

/-- Every arm blocks (R279, R398). -/
def blockAll (s : State) : State := s.each s.declaredArms fun s a => s.blockArm a

/-- A change of the twin mode with its cause: LAST_CAUSE, the tick, the event of the vitrine, and what
entering the mode does. -/
def setMode (s : State) (m cause : Nat) : State :=
  let old := s.mode
  if old = m then s
  else
    let t := s.twin
    let s := (s.set F.TWIN_STATUS.MODE m).set F.TWIN_STATUS.LAST_CAUSE cause
    let s := (s.set64 F.TWIN_MODE_TICK_LO.TICK F.TWIN_MODE_TICK_HI.TICK s.tickNo).noteTick 9 2
    let s := { s with twin := { t with partTick := if m = 4 then s.tickNo else t.partTick, silent := 0, heard := false
                                       atTick := none, atDispatch := none, entry := none, adopt := none, serve := none
                                       missed := 0, mine := none, theirs := none, pairFailed := false, join := {} } }
    let s := if m = 5 && 2 ≤ old then s.bump F.TWIN_DIV_CNT.WITHDRAWN else s
    let s := if m = 2 && (old = 3 || old = 5) then s.bump F.TWIN_DIV_CNT.REJOINED else s
    let s := if m = 2 || m = 3 || m = 5 then s.clearAll [F.TWIN_REJOIN.PHASE, F.TWIN_REJOIN.LOG_TICKS] else s
    -- at entry from pairing both twins discover every string anew (R299)
    let s := if m = 2 && old = 1 then s.runAll else s
    -- the pairing step of start-up ends with PAIRING (R418)
    let s := if old = 1 && s.get F.BOOT_STATUS.STEP = 10 then s.set F.BOOT_STATUS.STEP 11 else s
    let s := if m = 3 && (old = 2 || old = 4) then s.homeMoved else s
    -- a junior that no longer follows the senior returns to SOURCE (R338)
    if m = 3 || m = 4 then s.servoFree else s

/-- A change that takes effect at the next boundary. -/
def modeAtTick (s : State) (m cause : Nat) : State := { s with twin := { s.twin with atTick := some (m, cause) } }

/-- A change that takes effect at the next dispatch. -/
def modeAtDispatch (s : State) (m cause : Nat) : State := { s with twin := { s.twin with atDispatch := some (m, cause) } }

/-- This twin withdraws from DUPLEX (R291, R292, R29, R312). -/
def withdraw (s : State) (cause : Nat) : State := if s.mode = 2 then s.modeAtDispatch 5 cause else s

-- Pairing messages (R298 to R302)

def imageTag (s : State) : BitVec 64 := BitVec.ofNat 64 (s.get64 F.IMAGE_TAG_LO.TAG F.IMAGE_TAG_HI.TAG)

def pairMsg (s : State) (ready : Bool) (entry snap : Option Nat) : PairMsg :=
  { junior := s.junior, rev := s.get F.DEVICE_ID.SILICON_REV, mode := s.mode, count := s.tickNo
    start := s.reg F.TICK_START.START.base
    group := (s.get F.TICK_PERIOD.PERIOD, s.get F.TICK_CUTOFF.CUTOFF, s.get F.TICK_OUTPUT.OUTPUT, s.get F.TICK_PIP.PIP_DIV)
    imageTag := s.imageTag, plantTag := s.img.plantTag, acceptTag := s.img.acceptTag
    ready := ready, entry := entry, snap := snap }

def sendPair (s : State) (ready : Bool := false) (entry snap : Option Nat := none) : State :=
  if s.bondOpen then s.sendEvt (.pair (s.pairMsg ready entry snap)) else s

/-- The two images are equal or a compatible pair (R301). -/
def imagesPair (s : State) (p : PairMsg) : Bool :=
  p.imageTag = s.imageTag
    || p.plantTag = s.img.plantTag && (p.acceptTag = s.imageTag || s.img.acceptTag = p.imageTag)

/-- The cause for which an attempt fails, 0 for none (R300). -/
def pairCheck (s : State) (p : PairMsg) : Nat :=
  if p.junior = s.junior then 1
  else if !s.imagesPair p then 2
  else if p.rev ≠ s.get F.DEVICE_ID.SILICON_REV then 3
  else if !xlFits (2 + s.strings.length) 2 (s.get F.TWIN_LINK.XLAT) then 4
  else 0

/-- What a PAIR names of the sender's tick, to be adopted (R299, R302). -/
def pairAdopt (p : PairMsg) : Nat × Word × Nat × Nat × Nat × Nat :=
  (p.count, p.start, p.group.1, p.group.2.1, p.group.2.2.1, p.group.2.2.2)

/-- A twin in SOLO answers a PAIR that starts a rejoin: it serves, and names the snapshot tick (R302, R303). -/
def serveRejoin (s : State) : State :=
  let j := s.tickNo + 2
  let s := { s with twin := { s.twin with serve := some j } }
  (s.set F.TWIN_REJOIN.PHASE 1).sendPair false none (some j)

/-- A valid PAIR, by the modes of the two twins (R279, R299, R302, R303, R305). A peer that withdraws from
DUPLEX sends it from its dispatch on, so that this twin enters SOLO in the same tick and serves (R279). -/
def takePair (s : State) (p : PairMsg) : State :=
  let fail := s.pairCheck p
  if fail ≠ 0 then
    if s.mode = 1 || s.mode = 3 || s.mode = 5 then
      let s := s.set F.TWIN_STATUS.FAIL_REASON fail
      -- READY refused, with its code (R300, R419, R425)
      let s := if s.mode = 1 && (s.junior || fail = 1) then s.set F.BOOT_STATUS.CODE 0x30 else s
      { s with twin := { s.twin with pairFailed := decide (fail ≠ 1) || s.twin.pairFailed } }
    else s
  else
    let s := s.setB F.TWIN_STATUS.MIXED (p.imageTag ≠ s.imageTag)
    let n := s.tickNo
    match s.mode, p.mode with
    | 1, 1 =>
      if s.junior then
        match p.entry with
        | some e => { s with twin := { s.twin with entry := some e, adopt := some (State.pairAdopt p) } }
        | none => s
      else if s.twin.entry.isSome then s
      else
        let s := { s with twin := { s.twin with entry := some (n + 2) } }
        s.sendPair false (some (n + 2))
    | 1, 3 =>
      let s := s.setMode 5 1
      let s := { s with twin := { s.twin with join := { adopt := some (State.pairAdopt p), snapTick := p.snap } } }
      s.set F.TWIN_REJOIN.PHASE 1
    | 3, 1 | 3, 5 =>
      if p.ready then
        let s := { s with twin := { s.twin with entry := some (n + 2) } }
        s.sendPair false (some (n + 2)) s.twin.serve
      else if s.twin.serve.isSome && p.mode = 5 then s
      else s.serveRejoin
    | 2, 5 => (s.setMode 3 12).serveRejoin
    | 5, 3 =>
      let j := s.twin.join
      if j.waiting then s
      else match p.entry, p.snap with
        | some e, _ => { s with twin := { s.twin with entry := some e } }
        | none, some t =>
          let s := { s with twin := { s.twin with join := { j with snapTick := some t, adopt := some (State.pairAdopt p) } } }
          s.set F.TWIN_REJOIN.PHASE 1
        | none, none => s
    | _, _ => s

/-- Attempts to rejoin that end without entry (R306). -/
def rejoinFail (s : State) (reason : Nat) : State :=
  if s.mode ≠ 5 || s.twin.join.waiting then s
  else
    let s := (s.set F.TWIN_STATUS.FAIL_REASON reason).set F.TWIN_STATUS.LAST_CAUSE 14
    let s := (s.bump F.TWIN_DIV_CNT.REJOIN_FAIL).clearAll [F.TWIN_REJOIN.PHASE, F.TWIN_REJOIN.LOG_TICKS]
    { s with twin := { s.twin with entry := none, join := { waiting := true } } }

/-- A failed rejoin is tried again (R306, R312). -/
def rejoinRetry (s : State) : State :=
  if s.mode = 5 && s.twin.join.waiting then ({ s with twin := { s.twin with join := {} } }).sendPair else s

-- Event messages (R276)

/-- A sequence number at or before another, modulo 2^16. -/
def seqLe (a b : Nat) : Bool := (b + 2 ^ 16 - a % 2 ^ 16) % 2 ^ 16 < 2 ^ 15

/-- An EVT_SEQ received: whether the message is new, and the unbroken order with it. -/
def takeSeq (s : State) (q : Nat) : Bool × State :=
  let t := s.twin
  if !t.based then (true, { s with twin := { t with based := true, ackSeq := q, ahead := [] } })
  else if State.seqLe q t.ackSeq || t.ahead.contains q then (false, s)
  else
    let ahead := q :: t.ahead
    let (top, rest) := ahead.foldl (fun (a : Nat × List Nat) _ =>
      if a.2.contains ((a.1 + 1) % 2 ^ 16) then ((a.1 + 1) % 2 ^ 16, a.2.filter (· ≠ (a.1 + 1) % 2 ^ 16)) else a) (t.ackSeq, ahead)
    (true, { s with twin := { t with ackSeq := top, ahead := rest } })

/-- The mode a peer names of itself. One newly found in PAIRING has been reset and numbers its event
messages anew (DESIGN CHOICE, log entry 111). -/
def notePeer (s : State) (pm : Nat) : State :=
  let t := s.twin
  { s with twin := { t with pairing := decide (pm = 1), based := t.based && (t.pairing || pm ≠ 1) } }

/-- An event message received: one that fails its check is counted in XL_CRC, one already held is discarded (R276). -/
def rxEvent (s : State) (seq : Option (BitVec 16)) (f : State → State) : State :=
  match seq with
  | none => s.bump F.TWIN_XL_CNT.XL_CRC
  | some q =>
    let r := s.takeSeq q.toNat
    if r.1 then f r.2 else r.2

/-- The peer's acknowledgement: orders whose JOURNAL it holds are accepted, sessions opened (R289, R318, R321). -/
def takeAck (s : State) (ack : Nat) : State :=
  let t := s.twin
  let done := t.unacked.filter fun u => State.seqLe u.1 ack
  let s := { s with twin := { t with unacked := t.unacked.filter fun u => !State.seqLe u.1 ack } }
  let seqs := done.map (·.1)
  let orders := done.filterMap fun u => match u.2.2 with
    | .journal (.order o) => some o
    | _ => none
  let kept := s.stn.journal.map fun (o : JOrder) => if o.evt.any seqs.contains then { o with evt := none } else o
  let s := { s with stn := { s.stn with journal := kept } }
  let s := s.each orders fun s o =>
    let s := if o.apply < s.tickNo + 2 then s.bump F.STN_SESS_CNT.LATE_ACCEPT 1 o.slot else s
    s.acceptOrder o
  let s := s.sendAcks
  s.each s.heldSlots fun s k =>
    if (s.sess k).openEvt.any seqs.contains then 
      (s.setSess k { s.sess k with openEvt := none }).openAck k (s.sess k).openReason
    else s

/-- A message unacknowledged two ticks after it was sent is repeated (R276). -/
def resendEvts (s : State) : State :=
  let due := s.twin.unacked.filter fun u => decide (u.2.1 + 2 ≤ s.tickNo)
  if !s.bondOpen then s
  else
    let s := s.each due fun s u => s.emit (.event u.1 u.2.2)
    { s with twin := { s.twin with unacked := s.twin.unacked.map fun u => if u.2.1 + 2 ≤ s.tickNo then (u.1, s.tickNo, u.2.2) else u } }

/-- What the peer journals (R289, R318). -/
def takeJournal (s : State) (j : Journaled) : State :=
  match j with
  | .order o =>
    let s := { s with stn := { s.stn with journal := s.stn.journal ++ [{ o with evt := none }] } }
    let s := if s.sessTag o.slot = o.tag then
        (s.setExpected o.slot (o.seq + 1)).setSess o.slot { s.sess o.slot with accepted := max (s.sess o.slot).accepted o.seq }
      else s
    s.showCredit o.slot
  | .session r => s.putSess r
  | .closed k => s.dropSess k

/-- A CHANGE proposal of the peer; one that arrives after the compute window of its landing tick has
opened is applied at once (R288). A joining twin keeps it for the replay (R304). -/
def takeChange (s : State) (c : CatChange) (land : Nat) : State :=
  if s.mode ≠ 5 && (land < s.tickNo || land = s.tickNo && s.tick.opened) then (s.applyChange c).bump F.TWIN_XL_CNT.LATE_CHG
  else s.addChange land c

-- HEART (R276, R277, R280, R293)

def heartMsg (s : State) : List Block :=
  let b := fun (x : Bool) => if x then 1 else 0
  [mkBlock [(0x01, 56), (s.mode, 53), (b s.junior, 52), (b s.tick.withheldPrev, 51), (b s.tick.localPrev, 50), (s.twin.ackSeq, 16)],
   mkBlock [(s.tickNo, 0)], stampBlock s.now]

/-- The HEART that opens a tick, in every mode but ALONE. -/
def sendHeart (s : State) : State := if s.mode = 0 then s else s.sendX 1 s.heartMsg

/-- Modes that a HEART of a peer in mode pm ends (R279). -/
def heartModes (s : State) (pm : Nat) : State :=
  if s.mode = 2 && pm = 5 then s.setMode 3 12
  else if s.mode = 4 then s.modeAtDispatch (if s.junior then 5 else 3) 10
  else s

/-- A HEART counts as the peer's of the present tick, unless it was missing at its deadline (R280, R293). -/
def heartSeen (s : State) (pm : Nat) : State :=
  let s := (s.set F.TWIN_STATUS.PEER_MODE pm).setB F.TWIN_STATUS.PEER_SEEN true
  if s.twin.hbDue = some s.tickNo then s else { s with twin := { s.twin with heart := some s.tickNo, missed := 0 } }

/-- Arrival less departure of a HEART, in 2^-16 ns modulo the wrap of TIME_NS (R277). -/
def heartDiff (at_ : Stamp) (d2 : Block) : Int := toSigned 48 (at_.units + 281474976710656 - blockStamp d2)

/-- A valid HEART: acknowledgement, stamps, and the modes it ends (R276 to R280). In DUPLEX it counts for
the tick it names. -/
def takeHeart (s : State) (at_ : Stamp) (msg : List Block) : State :=
  match msg with
  | [h, d1, d2] =>
    let s := s.takeAck (Block.get h 31 16)
    let s := ({ s with twin := { s.twin with rxDiff := some (heartDiff at_ d2) } }).notePeer (Block.get h 55 53)
    if s.mode = 2 && d1.toNat ≠ s.tickNo then s
    else (s.heartSeen (Block.get h 55 53)).heartModes (Block.get h 55 53)
  | _ => s

/-- The heartbeat is lost (R293, R294, R306). -/
def heartLost (s : State) : State :=
  if s.twin.missed < s.get F.TWIN_CTRL.HB_MISS then s
  else if s.mode = 2 then (s.bump F.TWIN_HB_CNT.HB_LOST).setMode 4 3
  else if s.mode = 5 && s.twin.join.snapTick.isSome then (s.bump F.TWIN_HB_CNT.HB_LOST).rejoinFail 9
  else if s.mode = 3 && s.twin.serve.isSome then
    ({ (s.bump F.TWIN_HB_CNT.HB_LOST) with twin := { s.twin with serve := none, entry := none } }).set F.TWIN_REJOIN.PHASE 0
  else s

/-- No HEART of the tick has arrived by T_n + 0.300 µs (R280, R293). -/
def heartMiss (s : State) : State :=
  if s.mode = 0 || s.twin.heart = some s.tickNo then s
  else
    let s := { s with twin := { s.twin with missed := s.twin.missed + 1, hbDue := some s.tickNo } }
    let s := if s.get F.TWIN_CTRL.HB_MISS ≤ s.twin.missed then s.setB F.TWIN_STATUS.PEER_SEEN false else s
    let s := if s.mode = 2 || s.mode = 5 || s.mode = 3 && s.twin.serve.isSome then s.bump F.TWIN_HB_CNT.HB_MISSED else s
    s.heartLost

/-- SKEW beyond the limit in 16 measurements in a row: the junior withdraws (R292). -/
def skewCheck (s : State) : State := if 16 ≤ s.twin.skewRun && s.junior then s.withdraw 6 else s

/-- XLAT and SKEW from the last stamps of each direction, in 2^-16 ns; the peer's difference reaches the
device beside its own (R277; the rounding to ns is DESIGN CHOICE, log entry 27). -/
def measureSkew (s : State) (peerDiff : Int) : State :=
  match s.twin.rxDiff with
  | none => s
  | some d =>
    let xl := (d + peerDiff + 2 ^ 16) / 2 ^ 17
    let sk := (d - peerDiff + 2 ^ 16) / 2 ^ 17
    let s := (s.set F.TWIN_LINK.XLAT (clampInt 0 65535 xl).toNat).set F.TWIN_LINK.SKEW (ofSigned 16 (clampInt (-32768) 32767 sk))
    let run := if sk.natAbs > s.get F.TWIN_CTRL.SKEW_LIM then min 16 (s.twin.skewRun + 1) else 0
    ({ s with twin := { s.twin with skewRun := run } }).skewCheck

-- Agreeing the cell reports (R281 to R286)

/-- A run from this end, as landed, reaches the position, whatever the twin mode (R281). -/
def reachedFrom (s : State) (k : Nat) (e : End) (p : Nat) : Bool :=
  match s.result k e with
  | some r => s.dist k e p < r.reach
  | none => false

def shared (s : State) (k p : Nat) : Bool := s.reachedFrom k .a p && s.reachedFrom k .b p

/-- One-sided positions of an end (R281). -/
def oneSided (s : State) (k : Nat) (e : End) (p : Nat) : Bool := s.reachedFrom k e p && !s.reachedFrom k e.other p

/-- The held reports of the positions given, in ascending position. -/
def heldAt (s : State) (k : Nat) (f : Nat → Bool) : List (Nat × Block) :=
  ((List.range (s.declared k)).filter f).filterMap fun p => ((s.input (s.base k + p)).own).map fun d => (p, d)

/-- DIGEST of a string (R281). -/
def strDigest (held : List (Nat × Block)) : Nat :=
  if held = [] then 0
  else Crc.crc32c (held.flatMap fun h => [0, h.1] ++ Crc.bytesBE 8 h.2.toNat)

/-- The own AGREE of the tick: string blocks, and relay sections while they fit (R281, R282). -/
def agreeOf (s : State) : Agree :=
  let e := s.ownEnd
  let lanes := s.bondLanes
  let n := s.strings.length
  let xl := s.get F.TWIN_LINK.XLAT
  (s.strings.foldl (fun (acc : Agree × Nat) k =>
    let h := s.heldAt k (s.shared k)
    let own := (List.range (s.declared k)).any (s.oneSided k e)
    let rel := s.heldAt k (s.oneSided k e)
    let len := acc.2 + 2 + rel.length
    let fits := own && 0 < lanes && xlFits len lanes xl
    let a : AgreeStr := ⟨k, fits, own && !fits, h.length, strDigest h⟩
    (⟨acc.1.strs ++ [a], if fits then acc.1.relays ++ [(k, rel)] else acc.1.relays⟩, if fits then len else acc.2))
    (⟨[], []⟩, 2 + n)).1

/-- An AGREE as a message (R282). -/
def agreeMsg (s : State) (a : Agree) : List Block :=
  let b := fun (x : Bool) => if x then 1 else 0
  let sect := fun (r : Nat × List (Nat × Block)) =>
    let bitsOf := fun (lo : Nat) => mkBlock ((r.2.filter fun h => decide (lo ≤ h.1 ∧ h.1 < lo + 64)).map fun h => (1, 63 - (h.1 - lo)))
    [bitsOf 0, bitsOf 64] ++ r.2.map (·.2)
  mkBlock [(0x03, 56), (a.strs.length, 48), (s.tickNo % 2 ^ 32, 0)]
    :: a.strs.map (fun x => mkBlock [(x.str, 58), (b x.relay, 57), (b x.cut, 56), (x.held, 48), (x.digest, 0)])
    ++ a.relays.flatMap sect

/-- PRESENCE (R286): one bit per catalogue index. -/
def presenceMsg (s : State) : List Block :=
  let n := s.allCells.foldl (fun m i => max m (i + 1)) 0
  mkBlock [(0x05, 56), (s.tickNo % 2 ^ 32, 0)] :: (List.range ((n + 63) / 64)).map fun j =>
    mkBlock (((List.range 64).filter fun b => (s.input (64 * j + b)).own.isSome).map fun b => (1, 63 - b))

/-- AGREE leaves in DUPLEX, and from a joining twin whose count is adopted (R282, R304); PRESENCE follows. -/
def sendAgree (s : State) : State :=
  let a := s.agreeOf
  let s := { s with twin := { s.twin with own := some (s.tickNo, a) } }
  if s.mode = 2 || s.mode = 5 && s.twin.join.snapTick.isSome then (s.sendX 2 (s.agreeMsg a)).sendX 1 s.presenceMsg else s

/-- The first copy of the peer's AGREE of the tick (R276, R283). -/
def takeAgree (s : State) (msg : List Block) : State :=
  match readAgree msg with
  | some (t, a) =>
    if t ≠ s.tickNo % 2 ^ 32 || s.twin.peer.any (fun p => p.1 = s.tickNo) then s
    else { s with twin := { s.twin with peer := some (s.tickNo, a) } }
  | none => s

/-- A position's input decided: the report agreed, or the cause where there is none (R168, R283). -/
def decideCell (s : State) (i : Nat) (d : Option Block) (cause : Nat) : State :=
  s.setInput i { s.input i with agreed := d, cause := if d.isSome then 0 else cause }

/-- A one-sided position's input: the owning end's report is agreed (R283), and in a disagreed string it is
not valid, with cause DISAGREED (R168). -/
def decideSided (s : State) (i : Nat) (d : Option Block) (dis : Bool) : State :=
  s.setInput i { s.input i with agreed := d, cause := if dis then 3 else if d.isSome then 0 else 1 }

/-- The own reception of a cell taken as agreed (R284, ALONE and SOLO of R168). -/
def takeOwnCell (s : State) (i : Nat) : State :=
  let x := s.input i
  s.decideCell i x.own (if x.late then 2 else 1)

/-- Readouts of a string's agreement (R283, R285, R312), and a run due in both twins at REDISC_AFTER. -/
def strDecided (s : State) (k : Nat) (dis cut : Bool) : State :=
  let run := if dis then min 63 (s.get F.TWIN_STR.RUN k + 1) else 0
  let s := ((s.setB F.TWIN_STR.DIS_LAST dis k).setB F.TWIN_STR.CUT_LAST cut k).set F.TWIN_STR.RUN run k
  let s := s.set F.TWIN_STR.ODD_CNT 0 k
  let s := if cut then s.bump F.TWIN_AGREE_CNT.RELAY_CUT else s
  if dis then
    let s := ((s.bump F.TWIN_STR.DIS_CNT 1 k).bump F.TWIN_AGREE_CNT.STR_DIS).noteTick 9 3
    { s with twin := { s.twin with odd := s.twin.odd ++ [k] } }
  else s

/-- A string disagreed in REDISC_AFTER ticks starts a discovery run; one in progress goes on (R285). -/
def rediscover (s : State) (k : Nat) : State :=
  if s.declared k ≠ 0 && s.get F.TWIN_STR.RUN k = s.get F.TWIN_CTRL.REDISC_AFTER && (s.link k).run.isNone
  then s.setLink k { s.link k with runDue := true } else s

/-- The decision of one string from both AGREEs (R283). -/
def decideString (s : State) (own peer : Agree) (k : Nat) : State :=
  let blk := fun (g : Agree) => (g.strs.find? fun x => x.str = k).getD ⟨k, false, false, 0, 0⟩
  let a := blk own
  let b := blk peer
  let dis := a.held ≠ b.held || a.digest ≠ b.digest
  let e := s.ownEnd
  let relayed := (peer.relays.lookup k).getD []
  let s := s.each (List.range (s.declared k)) fun s p =>
    let i := s.base k + p
    if s.shared k p then
      if dis then s.decideCell i none 3 else s.takeOwnCell i
    else if s.reachedFrom k e p then
      if a.cut then s.decideCell i none 3 else s.decideSided i (s.input i).own dis
    else if s.reachedFrom k e.other p then
      if b.cut then s.decideCell i none 3
      else (s.setInput i { s.input i with relayed := relayed.lookup p }).decideSided i (relayed.lookup p) dis
    else s.decideCell i none 1
  (s.strDecided k dis (a.cut || b.cut)).rediscover k

/-- A tick without an agreement: no string is disagreed in it, and the ticks in a row end (R285, R312). -/
def noAgreement (s : State) : State :=
  s.each s.strings fun s k =>
    ((s.setB F.TWIN_STR.DIS_LAST false k).setB F.TWIN_STR.CUT_LAST false k).clearAll [F.TWIN_STR.RUN, F.TWIN_STR.ODD_CNT] k

/-- ODD_CNT of the disagreed strings, once the agreement is decided and the peer's PRESENCE of the tick is
here (R286). -/
def countOdd (s : State) : State :=
  match s.twin.presence with
  | some (t, bs) =>
    if t ≠ s.tickNo || s.twin.decided ≠ some t then s
    else
      let has := fun (i : Nat) => Block.get (bs.getD (i / 64) 0) (63 - i % 64) (63 - i % 64) = 1
      s.each s.twin.odd fun s k =>
        s.set F.TWIN_STR.ODD_CNT (min 255 ((s.stringCells k).filter fun i => (s.input i).own.isSome != has i).length) k
  | none => s

/-- The agreement of the tick's reports (R283, R284): in DUPLEX from both AGREEs, or the own reception
where the peer's is missing; the own reception in every other mode. It is taken once a tick. -/
def agreeInputs (s : State) : State :=
  if s.twin.decided = some s.tickNo then s
  else
    let n := s.tickNo
    let s := { s with twin := { s.twin with decided := some n, odd := [] } }
    let own := match s.twin.own with
      | some (t, a) => if t = n then a else s.agreeOf
      | none => s.agreeOf
    match (if s.mode = 2 then some (s.twin.peer.filter fun p => p.1 = n) else none) with
    | some (some (_, peer)) => (s.each s.strings fun s k => s.decideString own peer k).countOdd
    | some none => (s.each s.allCells State.takeOwnCell).noAgreement.bump F.TWIN_AGREE_CNT.AGREE_MISS
    | none => (s.each s.allCells State.takeOwnCell).noAgreement

/-- The peer's PRESENCE of the tick (R286), numbered in its header as ADC, AGREE and STATE are (DEDUCED, log entry 112). -/
def takePresence (s : State) (msg : List Block) : State :=
  match msg with
  | h :: bs =>
    if Block.get h 31 0 ≠ s.tickNo % 2 ^ 32 then s
    else ({ s with twin := { s.twin with presence := some (s.tickNo, bs) } }).countOdd
  | [] => s

-- Agreeing the measurement channels (R287)

/-- The own ADC message (R280, R287). -/
def adcMsg (s : State) : List Block :=
  mkBlock [(0x02, 56), (s.tickNo % 2 ^ 32, 0)] :: (List.range 24).map fun n =>
    let c := s.chan n
    mkBlock [((s.reg (F.MCH_TICK_VALUE.VALUE.addr n)).toNat, 32), (if c.cause = 0 then 1 else 0, 31), (c.cause, 27),
             (s.get F.MCH_STATUS.BAD_1024 n, 16), (n, 0)]

/-- ADC leaves in DUPLEX, and while this twin serves a rejoin (R280, R304). -/
def sendAdc (s : State) : State := if s.mode = 2 || s.twin.serve.isSome then s.sendX 2 s.adcMsg else s

/-- The first copy of the peer's ADC of the tick, in order of channel number; in DUPLEX it comes by
CUTOFF_PHASE or is missing (R280). -/
def takeAdc (s : State) (msg : List Block) : State :=
  match msg with
  | [] => s
  | h :: ds =>
    if Block.get h 31 0 ≠ s.tickNo % 2 ^ 32 || s.twin.adc.any (fun p => p.1 = s.tickNo) || s.mode = 2 && !s.tick.reportsOpen then s
    else
      let row := fun (n : Nat) => match ds.find? fun d => Block.get d 4 0 = n with
        | some d => (BitVec.ofNat 32 (Block.get d 63 32), decide (Block.get d 31 31 = 1), Block.get d 30 27, Block.get d 26 16)
        | none => (0, false, 0, 0)
      { s with twin := { s.twin with adc := some (s.tickNo, (List.range 24).map row) } }

/-- The agreed value of a channel reaches the signal-table entry it names, of kind MEASURE (R147, R165,
R242); an invalid one keeps the last valid value (R154). A channel that is not in use touches an entry
only where the producer map names it. The agreed value's cause is kept beside the own one's (R287). -/
def putMeasure (s : State) (n : Nat) (v : Word) (cause : Nat) : State :=
  let i := s.get F.MCH_CTRL.SIG_INDEX n
  let ok := decide (cause = 0)
  let s := s.setChan n { s.chan n with agreed := cause }
  if s.sigKind i = 2 && (s.flag F.MCH_CTRL.ENABLE n || s.get F.SIG_PROD.SOURCE i = n)
  then (if ok then s.setSig i v else s).setSigOk i ok else s

/-- One channel agreed from the senior's and the junior's value (R287). -/
def agreeChannel (s : State) (peer : Option (List (Word × Bool × Nat × Nat))) (n : Nat) : State :=
  let c := s.chan n
  let mine : Word × Bool × Nat := (s.reg (F.MCH_TICK_VALUE.VALUE.addr n), decide (c.cause = 0), s.get F.MCH_STATUS.BAD_1024 n)
  if s.mode ≠ 2 then s.putMeasure n mine.1 c.cause
  else
    let p := (peer.map fun l => l.getD n (0, false, 0, 0)).getD (0, false, 0, 0)
    let theirs : Word × Bool × Nat := (p.1, p.2.1, p.2.2.2)
    let (a, b) := if s.junior then (theirs, mine) else (mine, theirs)
    let s := (s.setB F.TWIN_ADC_STAT.PEER_VALID theirs.2.1 n).set F.TWIN_ADC_STAT.PEER_BAD_1024 theirs.2.2 n
    let within := Fp.le (Fp.abs (Fp.sub a.1 b.1)) (s.reg (F.TWIN_ADC_TOL.AGREE_TOL.addr n))
    let dis := a.2.1 && b.2.1 && !within
    let s := s.setB F.TWIN_ADC_STAT.DISAGREE dis n
    let s := if dis then ((s.bump F.TWIN_ADC_STAT.DIS_CNT 1 n).bump F.TWIN_ADC_CNT.ADC_DIS).noteTick 9 7 else s
    if a.2.1 && b.2.1 then
      s.putMeasure n (if within then Fp.div (Fp.add a.1 b.1) 0x40000000#32 else if b.2.2 < a.2.2 then b.1 else a.1) 0
    else if a.2.1 then s.putMeasure n a.1 0
    else if b.2.1 then s.putMeasure n b.1 0
    -- the senior's CAUSE; DISABLED for a senior whose ADC is missing (DESIGN CHOICE, log entry 113)
    else s.putMeasure n a.1 (if s.junior then max 1 p.2.2.1 else c.cause)

/-- Every channel agreed at the opening of the compute window. -/
def agreeChannels (s : State) : State :=
  let peer := (s.twin.adc.filter fun p => p.1 = s.tickNo).map (·.2)
  let s := if s.mode = 2 && peer.isNone then s.bump F.TWIN_ADC_CNT.ADC_MISS else s
  s.each (List.range 24) fun s n => s.agreeChannel peer n

-- The state digest (R290, R291)

/-- The state digest of the tick (R290; the bytes of its parts are DEDUCED, log entry 28). -/
def stateDigest (s : State) : Word :=
  let sigs := ((List.range 4096).filter fun i => s.sigKind i = 4).flatMap fun i =>
    Crc.wordBytes (s.sig i) ++ [if s.sigOk i then 1 else 0]
  let sel := s.allCells.flatMap fun i => Crc.wordBytes (s.reg (F.SEL_CELL.END_STATE.addr i))
  let carry := s.declaredArms.flatMap fun a => Crc.wordBytes (s.reg (F.EDGE_ARM_CARRY.CARRY.addr a))
  let plan := s.allCells.flatMap fun i => Crc.bytesBE 4 (entWord (s.ent i))
  BitVec.ofNat 32 (Crc.crc32c (sigs ++ sel ++ carry ++ plan))

/-- Divergence of a tick (R291): the twin that alone reported LOCAL withdraws, else the junior; the
other enters SOLO in the same tick. -/
def diverge (s : State) (mineLocal theirLocal : Bool) : State :=
  let s := s.bump F.TWIN_DIV_CNT.DIVERGE
  let me := if mineLocal != theirLocal then mineLocal else s.junior
  if me then s.withdraw 4 else s.modeAtDispatch 3 12

/-- Both digests of a tick are held: they are compared once (R291). -/
def compareDigests (s : State) : State :=
  match s.twin.mine, s.twin.theirs with
  | some a, some b =>
    if s.mode ≠ 2 || a.tick % 2 ^ 32 ≠ b.tick || s.twin.compared = some a.tick then s
    else
      let s := { s with twin := { s.twin with compared := some a.tick } }
      let s := (s.setReg F.TWIN_DIGEST.DIGEST.base a.digest).setReg F.TWIN_PEER_DIGEST.DIGEST.base b.digest
      if a.digest = b.digest then s else s.diverge a.isLocal b.isLocal
  | _, _ => s

/-- STATE of the tick: it leaves in DUPLEX, and while this twin serves a rejoin (R290, R304). A late one may
leave after the next boundary. -/
def sendState (s : State) (withheld coast : Bool) : State :=
  let b := fun (x : Bool) => if x then 1 else 0
  let past := withheld && !s.tick.opened
  let d : TickDigest := ⟨if past then s.tickNo - 1 else s.tickNo, s.stateDigest, withheld,
    if past then s.tick.localPrev else s.tick.localNow, coast⟩
  if s.mode ≠ 2 && s.twin.serve.isNone then s
  else
    let s := { s with twin := { s.twin with mine := some d } }
    let s := s.sendX 2 [mkBlock [(0x04, 56), (b withheld, 55), (b d.isLocal, 54), (b coast, 53), (d.tick % 2 ^ 32, 0)],
                        mkBlock [(d.digest.toNat, 32)]]
    s.compareDigests

/-- The opening of a compute window without the peer's STATE of the tick before: divergence where the
peer's HEART of the present tick has arrived (R280, R291). -/
def stateMissing (s : State) : State :=
  match s.twin.mine with
  | some a =>
    if s.mode = 2 && a.tick + 1 = s.tickNo && s.twin.compared ≠ some a.tick && s.twin.heart = some s.tickNo then
      ({ s with twin := { s.twin with compared := some a.tick } }).diverge a.isLocal false
    else s
  | none => s

-- Partition (R294 to R297)

/-- A valid order frame of the other end's twin with its ROLE (R102, R295 to R297). -/
def otherFrame (s : State) (k role : Nat) : State :=
  let s := (s.setLink k { s.link k with otherSeen := some s.tickNo }).setB F.LINK_STR_STATUS.OTHER_END_SEEN true k
  if !s.flag F.TWIN_CTRL.TWIN_EN then s
  else if s.junior then
    if s.mode = 3 || s.mode = 4 && role = 1 then s.modeAtDispatch 5 7 else s
  else if s.mode = 4 && role = 2 then { s with twin := { s.twin with heard := true } }
  else s

/-- The tick that ends was silent or not for a partitioned senior (R296). -/
def countSilence (s : State) : State :=
  if s.mode = 4 && !s.junior then
    { s with twin := { s.twin with silent := if s.twin.heard then 0 else s.twin.silent + 1, heard := false } }
  else s

/-- PART_CONFIRM silent ticks in a row: the senior enters SOLO (R296). -/
def confirmSilence (s : State) : State :=
  if s.mode = 4 && !s.junior && s.get F.TWIN_CTRL.PART_CONFIRM ≤ s.twin.silent then s.setMode 3 9 else s

/-- A partitioned junior that has not heard the senior through p + ORDER_TIMEOUT enters SOLO (R279). -/
def juniorTimeout (s : State) : State :=
  if s.mode = 4 && s.junior && s.twin.atDispatch.isNone && s.twin.partTick + s.get F.LINK_CTRL.ORDER_TIMEOUT < s.tickNo
  then s.setMode 3 8 else s

/-- Changes of mode that wait for the boundary of a tick. -/
def modeBoundary (s : State) : State :=
  let s := match s.twin.atTick with
    | some (m, c) => s.setMode m c
    | none => s
  (s.countSilence.confirmSilence).juniorTimeout

/-- Changes of mode that wait for the dispatch of a tick. -/
def modeDispatch (s : State) : State :=
  match s.twin.atDispatch with
  | some (m, c) =>
    let s := s.setMode m c
    if m = 5 then s.sendPair else s
  | none => s

/-- PAIR_WAIT has passed without a valid PAIR or HEART (R279, R300). -/
def pairWait (s : State) : State :=
  if s.mode = 1 then
    if s.twin.entry.isSome || s.get F.TWIN_STATUS.FAIL_REASON = 1 || s.junior && s.twin.pairFailed then s else s.modeAtTick 3 2
  else if s.mode = 5 then s.blockAll.modeAtTick 3 2
  else s

def twinCntClear (s : State) : State :=
  let s := s.clearAll [F.TWIN_HB_CNT.HB_LOST, F.TWIN_HB_CNT.HB_MISSED, F.TWIN_AGREE_CNT.STR_DIS, F.TWIN_AGREE_CNT.AGREE_MISS,
    F.TWIN_AGREE_CNT.RELAY_CUT, F.TWIN_DIV_CNT.DIVERGE, F.TWIN_DIV_CNT.WITHDRAWN, F.TWIN_DIV_CNT.REJOINED,
    F.TWIN_DIV_CNT.REJOIN_FAIL, F.TWIN_ADC_CNT.ADC_DIS, F.TWIN_ADC_CNT.ADC_MISS, F.TWIN_XL_CNT.XL_CRC,
    F.TWIN_XL_CNT.LATE_CHG, F.TWIN_XL_CNT.LAG]
  let s := s.each (List.range 64) fun s k => s.set F.TWIN_STR.DIS_CNT 0 k
  s.each (List.range 24) fun s n => s.set F.TWIN_ADC_STAT.DIS_CNT 0 n

end State

/-- HEART_RX (R276, R277, R280): a HEART with its arrival stamp. -/
def execHeartRx (bs : List Block) (at_ : Stamp) (s : State) : Host.Outcome State Fault Refusal :=
  .next (s.rxX 0x01 bs fun s m => s.takeHeart at_ m)

/-- HEART_DEADLINE (R280, R293): T_n + 0.300 µs. -/
def execHeartDeadline (s : State) : Host.Outcome State Fault Refusal := .next s.heartMiss

/-- HEARTBEAT_LOST (R293, R294): HB_MISS HEARTs in a row are missing. -/
def execHeartbeatLost (s : State) : Host.Outcome State Fault Refusal := .next s.heartLost

/-- ADC_MSG_RX (R280, R287). -/
def execAdcMsgRx (bs : List Block) (s : State) : Host.Outcome State Fault Refusal := .next (s.rxX 0x02 bs State.takeAdc)

/-- AGREE_SEND (R281, R282): CUTOFF_PHASE + 0.010 µs. -/
def execAgreeSend (s : State) : Host.Outcome State Fault Refusal := .next s.sendAgree

/-- AGREE_RX (R276, R283). -/
def execAgreeRx (bs : List Block) (s : State) : Host.Outcome State Fault Refusal := .next (s.rxX 0x03 bs State.takeAgree)

/-- AGREE_DEADLINE (R283, R284): CUTOFF_PHASE + 0.300 µs. -/
def execAgreeDeadline (s : State) : Host.Outcome State Fault Refusal := .next s.agreeInputs

/-- PRESENCE_RX (R286). -/
def execPresenceRx (bs : List Block) (s : State) : Host.Outcome State Fault Refusal := .next (s.rxX 0x05 bs State.takePresence)

/-- JOURNAL_RX (R276, R289, R318): its EVT_SEQ, none where the check fails, and what it carries. -/
def execJournalRx (seq : Option (BitVec 16)) (j : Journaled) (s : State) : Host.Outcome State Fault Refusal :=
  .next (s.rxEvent seq fun s => s.takeJournal j)

/-- CHANGE_RX (R276, R288). -/
def execChangeRx (seq : Option (BitVec 16)) (c : CatChange) (land : Nat) (s : State) : Host.Outcome State Fault Refusal :=
  .next (s.rxEvent seq fun s => s.takeChange c land)

/-- PAIR_RX (R276, R298 to R305). -/
def execPairRx (seq : Option (BitVec 16)) (p : PairMsg) (s : State) : Host.Outcome State Fault Refusal :=
  .next ((if seq.isSome then s.notePeer p.mode else s).rxEvent seq fun s => s.takePair p)

/-- PAIR_SEND (R298): every 1,024 ticks in PAIRING. -/
def execPairSend (s : State) : Host.Outcome State Fault Refusal := .next (if s.mode = 1 then s.sendPair else s)

/-- EVT_RESEND (R276). -/
def execEvtResend (s : State) : Host.Outcome State Fault Refusal := .next s.resendEvts

/-- SKEW_LIMIT_EXCEEDED (R292). -/
def execSkewLimitExceeded (s : State) : Host.Outcome State Fault Refusal := .next s.skewCheck

/-- PAIR_WAIT_EXPIRY (R279, R300). -/
def execPairWaitExpiry (s : State) : Host.Outcome State Fault Refusal := .next s.pairWait

/-- JUNIOR_PARTITION_TIMEOUT (R279). -/
def execJuniorPartitionTimeout (s : State) : Host.Outcome State Fault Refusal := .next s.juniorTimeout

/-- SENIOR_SILENCE_CONFIRM (R296). -/
def execSeniorSilenceConfirm (s : State) : Host.Outcome State Fault Refusal := .next s.confirmSilence

/-- REJOIN_MAX_EXPIRY (R306). -/
def execRejoinMaxExpiry (s : State) : Host.Outcome State Fault Refusal := .next (s.rejoinFail 6)

/-- REJOIN_RETRY_EXPIRY (R306). -/
def execRejoinRetryExpiry (s : State) : Host.Outcome State Fault Refusal := .next s.rejoinRetry

/-- DISAGREE_REDISCOVER (R285). -/
def execDisagreeRediscover (k : Fin 64) (s : State) : Host.Outcome State Fault Refusal := .next (s.rediscover k)

/-- OTHER_END_FRAME_RX (R102, R295 to R297): an order frame at a CELL receive pin. -/
def execOtherEndFrameRx (k : Fin 64) (bs : List RxBlock) (s : State) : Host.Outcome State Fault Refusal :=
  .next (s.rxMsg k bs fun s msg => match msg.head? with
    | some h => if bType h = 0x10 && Block.get h 31 26 = k then s.otherFrame k (Block.get h 23 22) else s.stray k
    | none => s)

/-- ADC_VALUE_HANDOVER (R152, R280): T_n + 0.200 µs. -/
def execAdcValueHandover (s : State) : Host.Outcome State Fault Refusal := .next s.handValues.sendAdc

end Sys2Proof.Machine
end

