-- ==== Sys2Proof/Machine/Tick.lean ====
section
/-!
DEFINITION. Tick boundaries, the staged group and loads of the clock (01_ticks_and_budgets.md R12 to
R18 and R35 to R38; 13_time.md R331 to R334; R14 and R302 of 11_twin_operation.md).
-/

namespace Sys2Proof.Machine

/-- Switching, edge history and references moved with the device time, which a load moves by d (R334). -/
def Leg.shift (d : Int) (l : Leg) : Leg :=
  { l with onAt := l.onAt + d, offU := l.offU.map (· + d), offL := l.offL.map (· + d) }

def CellOrders.shift (d : Int) (o : CellOrders) : CellOrders :=
  { o with cmds := o.cmds.map fun c => (c.1 + d, c.2), legL := o.legL.shift d, legR := o.legR.shift d }

def Pulse.shift (d : Int) (p : Pulse) : Pulse := { p with on := p.on + d, hOn := p.hOn + d, hOff := p.hOff + d }

def ArmState.shift (d : Int) (m : ArmState) : ArmState :=
  { m with lastRef := m.lastRef.map fun r => (r.1, r.2.1, r.2.2 + d)
           coast := m.coast.map fun (b : CoastBase) => { b with origin := b.origin + d }
           carrier := m.carrier.map fun (c : Carrier) => { c with pulse := c.pulse.map (Pulse.shift d) }
           lastEdge := AMap.ofList (fun _ => 0) (m.lastEdge.map fun e => (e.1, ((e.2 : Int) + d).toNat)) }

/-- Instants the clock's control keeps in device time, moved by d ns. -/
def Clock.shift (d : Int) (c : Clock) : Clock :=
  let u := d * 2 ^ 16
  { c with last := c.last.map fun t => ((t : Int) + u).toNat
           lastPps := c.lastPps.map fun t => ((t : Int) + d).toNat
           delayReq := c.delayReq.map fun q => (q.1, ((q.2 : Int) + u).toNat)
           down := c.down.map (· + u)
           sync := c.sync.map fun q => (q.1, { q.2.1 with ns := q.2.1.ns + BitVec.ofInt 32 d }, q.2.2) }

namespace State

-- The clock (R331)

/-- The accumulator with the wraps of TIME_NS above it, in 2^-32 ns. -/
def accum (s : State) : Nat :=
  (s.absNs * 2 ^ 16 + s.get F.TIME_LO.TIME_FRAC) * 2 ^ 16 + s.clk.sub

def setAccum (s : State) (v : Nat) : State :=
  let s := (s.set F.TIME_HI.TIME_NS (v / 2 ^ 32 % 2 ^ 32)).set F.TIME_LO.TIME_FRAC (v / 2 ^ 16 % 2 ^ 16)
  { s with clk := { s.clk with sub := v % 2 ^ 16, wraps := v / 2 ^ 64 } }

/-- TIME_INC in force. -/
def timeInc (s : State) : Nat := s.get64 F.TIME_INC_LO.INC_LO F.TIME_INC_HI.INC_HI

/-- One TIME cycle of 2 ns (R331). -/
def timeCycle (s : State) : State := s.setAccum (s.accum + s.timeInc)

/-- TIME_EXT as a count of ns (R335). -/
def extNs (s : State) : Nat :=
  (s.get F.TIME_EXT_SEC_LO.SEC_LO + s.get F.TIME_EXT_SEC_HI.SEC_HI * 2 ^ 32) * 1000000000 + s.get F.TIME_EXT_NS.NS

def setExtNs (s : State) (v : Nat) : State :=
  let sec := v / 1000000000
  ((s.set F.TIME_EXT_SEC_LO.SEC_LO (sec % 2 ^ 32)).set F.TIME_EXT_SEC_HI.SEC_HI (sec / 2 ^ 32 % 2 ^ 16)).set F.TIME_EXT_NS.NS (v % 1000000000)

/-- The device time without wrap, in ns, at which TIME_NS reads v: the nearest to the present one, or a
later one where that would be negative. -/
def nearestAbs (s : State) (v : Nat) : Nat :=
  let d := (v + 2 ^ 32 - s.absNs % 2 ^ 32) % 2 ^ 32
  if d < 2 ^ 31 ∨ s.absNs + d < 2 ^ 32 then s.absNs + d else s.absNs + d - 2 ^ 32

-- The staged group (R35 to R38)

/-- A write of a staged member, 0 period to 3 pip: refused with STAGE_BUSY while a commit is pending. -/
def stageWrite (s : State) (m v : Nat) : Option State :=
  if s.flag F.TICK_STAGE.PENDING then none
  else
    let f := match m with
      | 0 => F.TICK_STG_PERIOD.VALUE
      | 1 => F.TICK_STG_CUTOFF.VALUE
      | 2 => F.TICK_STG_OUTPUT.VALUE
      | _ => F.TICK_STG_PIP.VALUE
    some ((s.set f v).setBit F.TICK_STAGE.STAGED m true)

/-- A write of DISCARD (R35). -/
def discard (s : State) : Option State :=
  if s.flag F.TICK_STAGE.PENDING then none else some (s.set F.TICK_STAGE.STAGED 0)

/-- A write of COMMIT with its apply tick; the code of the first cause found, 0 when accepted (R36, R37). -/
def commit (s : State) (byOrder : Bool) (a : Nat) : Nat × State :=
  let g := s.stagedGroup
  let run := s.runBudget g { ranges := true, transition := true, compute := true, dispatch := true, declaredGen := false }
  let early := if !byOrder && (s.mode = 2 || s.mode = 4) then 9
    else if s.flag F.TICK_STAGE.PENDING then 7
    else if s.get F.TICK_STAGE.STAGED ≠ 15 then 6 else 0
  let code := if early ≠ 0 then early else run.res.code
  let s := if early = 0 then s.storeMargins run else s
  let s := s.set F.TICK_STAGE.RESULT code
  let s := (s.set F.TICK_STAGE.RESULT_STRING (if early = 0 then run.res.string else 0)).set F.TICK_STAGE.RESULT_END
    (if early = 0 then run.res.e.num else 0)
  if code ≠ 0 then (code, s)
  else
    let s := s.setB F.TICK_STAGE.PENDING true
    let s := s.set64 F.TICK_LAND_LO.LAND F.TICK_LAND_HI.LAND (a + 1)
    (0, { s with tick := { s.tick with landing := some ⟨g.period, g.cutoff, g.output, g.pip, a⟩ } })

/-- The live group, and what follows from it. -/
def setGroup (s : State) (period cutoff output pip : Nat) : State :=
  let s := (s.set F.TICK_PERIOD.PERIOD period).set F.TICK_CUTOFF.CUTOFF cutoff
  let s := (s.set F.TICK_OUTPUT.OUTPUT output).set F.TICK_PIP.PIP_DIV pip
  s.storeWindow.periodCheck

/-- The accepted group governs from the tick after its apply tick (R38); the report schedules follow it,
and a cell it makes late is excluded (R92, R93). -/
def landGroup (s : State) (n : Nat) : State :=
  match s.tick.landing with
  | none => s
  | some l =>
    if n ≤ l.apply then s
    else
      let s := s.setGroup l.period l.cutoff l.output l.pip
      let s := (s.set F.TICK_STAGE.STAGED 0).setB F.TICK_STAGE.PENDING false
      let s := { s with tick := { s.tick with landing := none, landedAt := some (l.apply + 1) } }
      s.each s.strings fun s k => (s.storeSchedule k).checkLate k

-- Boundaries (R12 to R14)

/-- OTHER_END_SEEN lasts ORDER_TIMEOUT ticks (R102, R493). -/
def refreshOther (s : State) : State :=
  s.each s.strings fun s k =>
    s.setB F.LINK_STR_STATUS.OTHER_END_SEEN ((s.link k).otherSeen.any fun t => s.tickNo ≤ t + s.get F.LINK_CTRL.ORDER_TIMEOUT) k

/-- Tick n begins at device time t: its number and start, the accepted group where it lands, the inputs
emptied, changes of mode that waited for it, and HEART. -/
def beginTick (s : State) (n t : Nat) : State :=
  let k := s.tick
  let s := s.set64 F.TICK_CNT_LO.COUNT F.TICK_CNT_HI.COUNT n
  let s := s.set F.TICK_START.START (t % 2 ^ 32)
  let s := { s with tick := { k with begun := true, next := n + 1, absPrev := if k.begun then k.absT else t, absT := t, periodPrev := s.periodNs
                                     reportsOpen := true, opened := false, handed := false, stage := .idle, lateDue := k.lateDue, undo := none
                                     localNow := false, localPrev := k.localNow, sent := false, frames := [] }
                    inputs := [], vit := { s.vit with coastRow := false } }
  -- what READY opens begins here (R420)
  let s := if s.boot.readyWait then ({ s with boot := { s.boot with readyWait := false } }).refreshOk else s
  let s := s.landGroup n
  let s := s.each (List.range 16) fun s a => if (s.arm a).justDeblocked then s.setArm a { s.arm a with justDeblocked := false } else s
  (s.refreshOther.modeBoundary).sendHeart

/-- The device time is loaded with t: what is kept in device time moves with it, so that the interval since
T_(n−1) and every edge in it keep their length (R169, R334). -/
def loadTime (s : State) (t : Nat) : State :=
  let d : Int := (t : Int) - s.absNs
  let s := s.each s.orders fun s e => s.setOrd e.1 (e.2.shift d)
  let s := s.each s.arms fun s e => s.setArm e.1 (e.2.shift d)
  let s := { s with tick := { s.tick with absT := ((s.tick.absT : Int) + d).toNat, urgent := none } }
  let s := (s.setAccum (t * 2 ^ 32)).bump F.TIME_CNT.STEPS
  ({ s with clk := { s.clk.shift d with step := none } }).setB F.TIME_STATUS.STEP_PENDING false

/-- SYNC goes out in the 4 ticks from tick n on (R334). -/
def syncFrom (s : State) (n : Nat) : State := { s with clk := { s.clk with syncUntil := some (n + 3) } }

/-- The count, start and group of a serving or pairing twin, adopted: the tick that begins is the one
after the count named (R14, R299, R302), or the tick e of an entry. -/
def adoptTick (s : State) (a : Nat × Word × Nat × Nat × Nat × Nat) (n : Nat) : State :=
  let (count, start, per, cut, out, pip) := a
  let ns := (start.toNat + (n - count) * (2 * per)) % 2 ^ 32
  let t := s.nearestAbs ns
  (((s.setGroup per cut out pip).loadTime t).beginTick n t).syncFrom n

/-- A joining twin's boundary (R302, R334): it takes the serving twin's count and group, and loads the serving
twin's present TIME_NS, which the last HEART gives less XLAT, so that the tick in progress is the serving
twin's (DEDUCED, log entry 114). Before any HEART the start that PAIR names stands for it. -/
def adoptServing (s : State) (a : Nat × Word × Nat × Nat × Nat × Nat) : State :=
  match s.twin.rxDiff with
  | none => s.adoptTick a (a.1 + 1)
  | some d =>
    let (count, start, per, cut, out, pip) := a
    let ahead := (d - s.get F.TWIN_LINK.XLAT * 2 ^ 16 + 2 ^ 15) / 2 ^ 16
    let t := s.nearestAbs (((s.absNs : Int) - ahead) % 2 ^ 32).toNat
    let since := (t + 2 ^ 32 - start.toNat % 2 ^ 32) % 2 ^ 32
    let period := max 1 (2 * per)
    let n := count + since / period
    (((s.setGroup per cut out pip).loadTime t).beginTick n (t - since % period)).syncFrom n

/-- Energy of all blocks in µJ (R462). -/
def powerTotal (s : State) : Nat := ((List.range 16).map fun b => s.get64 F.PWR_BLK_LO.ENERGY F.PWR_BLK_HI.ENERGY b).sum

/-- A power window begins at device time t (R463). -/
def powerBegin (s : State) (t : Nat) : State := { s with pwr := { s.pwr with winAbs := t, winEnergy := s.powerTotal } }

/-- TIME_NS reaches the next boundary (R12): the device time stands at T_n where it had not passed it,
and a pending correction is applied (R333). The count begins with the first boundary after PLL lock
(R14). A joining twin adopts the serving twin's count here (R302). -/
def boundary (s : State) : State :=
  if !s.tick.running then s
  else match (if s.mode = 5 then s.twin.join.adopt else none) with
    | some a =>
      let s := { s with twin := { s.twin with join := { s.twin.join with adopt := none } } }
      s.adoptServing a
    | none =>
      let t := if s.tick.begun then s.tick.absT + s.periodNs else s.absNs
      let s := if s.absNs < t then s.setAccum (t * 2 ^ 32) else s
      let s := match s.clk.step with
        | some (v, byServo) =>
          let s := (s.setAccum ((s.accum : Int) + v * 2 ^ 32).toNat).bump F.TIME_CNT.STEPS
          let s := { s with clk := { s.clk.shift v with step := none } }
          let s := if byServo || !s.flag F.TIME_STATUS.EXT_VALID then s else s.setExtNs ((s.extNs : Int) - v).toNat
          s.setB F.TIME_STATUS.STEP_PENDING false
        | none => s
      -- the start-up calibration begins with the first boundary after PLL lock (R155)
      let s := if s.tick.begun then s else s.calBegin.powerBegin t
      s.beginTick s.tick.next t

/-- A load of TIME_NS (R334): the current tick ends, and the next one begins at the loaded value. A
correction pending is discarded. The frames of a tick that has been handed over still leave. -/
def timeLoad (s : State) (v : Nat) (byServo : Bool) : State :=
  let t := s.nearestAbs v
  let old := s.absNs
  let s := (if s.tick.sent then s else s.dispatchFrames).loadTime t
  let s := if byServo || !s.flag F.TIME_STATUS.EXT_VALID then s else s.setExtNs ((s.extNs : Int) + old - t).toNat
  (if s.tick.begun then s.beginTick s.tick.next t else s).syncFrom s.tick.next

/-- The cases in which a phase correction is refused (R333). -/
def stepRefused (s : State) (v : Int) : Bool :=
  s.anyDeblocked || s.mode = 2 || s.mode = 4 || s.mode = 5 || decide (v.natAbs + 2000 > s.periodNs)

/-- A phase correction asked for (R333). -/
def timeStep (s : State) (v : Int) (byServo : Bool) : State :=
  if s.stepRefused v then s.setB F.TIME_STATUS.STEP_REFUSED true
  else ({ s with clk := { s.clk with step := some (v, byServo) } }).setB F.TIME_STATUS.STEP_PENDING true

/-- A management load is allowed (R334). -/
def loadAllowed (s : State) : Bool := !s.anyDeblocked && (s.mode = 0 || s.mode = 3 || s.mode = 1)

/-- A management write of TIME_SET (R334). -/
def timeSet (s : State) (v : Nat) : State :=
  if s.loadAllowed then s.timeLoad v false else s.setB F.TIME_STATUS.STEP_REFUSED true

end State

/-- TICK_BOUNDARY (R12, R14). -/
def execTickBoundary (s : State) : Host.Outcome State Fault Refusal := .next s.boundary

/-- GROUP_LAND (R38): the accepted group governs from tick a + 1. -/
def execGroupLand (s : State) : Host.Outcome State Fault Refusal := .next (s.landGroup s.tickNo)

end Sys2Proof.Machine
end

