-- ==== Sys2Proof/Machine/Time.lean ====
section
/-!
DEFINITION. The clock's control, the servo, PPS and PTP (13_time.md R331 to R341, R347).
-/

namespace Sys2Proof.Machine

/-- Nearest whole number, halves up. -/
def roundRat (q : Rat) : Int := (q + 1 / 2).floor

namespace State

def incMin : Nat := 0x1FFBE76C9
def incMax : Nat := 0x200418937

/-- A value of TIME_INC breaks a limit of R332. -/
def incRefused (s : State) (v : Nat) : Bool :=
  let cur := s.timeInc
  v < incMin || incMax < v || s.anyDeblocked && decide (max v cur - min v cur > 859)

/-- TIME_INC committed within the limits of R332, else refused. -/
def commitInc (s : State) (v : Nat) : State :=
  if s.incRefused v then s.setB F.TIME_STATUS.INC_REFUSED true
  else s.set64 F.TIME_INC_LO.INC_LO F.TIME_INC_HI.INC_HI v

/-- TIME_INC written by the servo, limited by R332 (R339). -/
def servoInc (s : State) (f : Rat) : State :=
  let v := clampInt incMin incMax (roundRat (2 ^ 33 * (1 + f)))
  let cur : Int := s.timeInc
  let v := if s.anyDeblocked then clampInt (cur - 859) (cur + 859) v else v
  s.set64 F.TIME_INC_LO.INC_LO F.TIME_INC_HI.INC_HI v.toNat

/-- A stamp as device time without wrap, in 2^-16 ns. -/
def absUnits (s : State) (t : Stamp) : Nat := s.nearestAbs t.ns.toNat * 2 ^ 16 + t.frac.toNat

-- The servo (R338 to R340)

/-- LOCK_CNT samples in a row within LOCK_NS (R339). -/
def servoLock (s : State) : State :=
  if s.servoState = 1 && 0 < s.clk.good && s.get F.TIME_SERVO.LOCK_CNT ≤ s.clk.good then s.setServo 2 else s

/-- The frequency term of a sample of o ns, t ns after the one before it (R339). -/
def servoTerm (s : State) (o t : Rat) : State :=
  let integ := s.clk.integ + o / 2 ^ s.get F.TIME_SERVO.KI_SHIFT / t
  let integ := max (-(200 / 1000000)) (min (200 / 1000000) integ)
  let s := { s with clk := { s.clk with integ := integ } }
  s.servoInc (integ + o / 2 ^ s.get F.TIME_SERVO.KP_SHIFT / t)

/-- One offset sample o, in 2^-16 ns, at a device stamp (R339). -/
def servoSample (s : State) (o : Int) (at_ : Stamp) : State :=
  let on : Rat := mkRat o (2 ^ 16)
  let whole := roundRat on
  let s := s.set F.TIME_OFFSET.OFFSET (ofSigned 32 (clampInt (-2 ^ 31) (2 ^ 31 - 1) whole))
  let far := decide (on.num.natAbs > s.get F.TIME_SERVO2.STEP_THR * on.den)
  let first := s.clk.last.isNone
  let s := if s.servoState = 0 || s.servoState = 3 || s.servoState = 2 && far then s.setServo 1 else s
  let t0 : Nat := s.absUnits at_
  let span : Rat := match s.clk.last with
    | some t => mkRat ((t0 : Int) - t) (2 ^ 16)
    | none => 0
  let near := on.num.natAbs ≤ s.get F.TIME_SERVO.LOCK_NS * on.den
  let s := { s with clk := { s.clk with last := some t0, good := if near then s.clk.good + 1 else 0 } }
  let small := whole.natAbs + 2000 ≤ s.periodNs
  let stepOk := !s.anyDeblocked && s.mode ≠ 2 && s.mode ≠ 4 && s.mode ≠ 5
  let s := if s.servoState = 1 && far && small && stepOk then s.timeStep whole true
    else if s.servoState = 1 && far && !small && s.loadAllowed then
      let sum := ((s.extNs + s.absNs % 2 ^ 32 : Nat) : Int) + whole
      let v := ofSigned 32 ((s.absNs : Int) + whole)
      (s.timeLoad v true).setExtNs (sum - v).toNat
    else if first || span ≤ 0 then s
    else s.servoTerm on span
  s.servoLock

/-- A sample of the station source: station time, in 2^-16 ns, at a device stamp. Until EXT_VALID the
whole wraps of TIME_EXT are taken from the station time itself (R335, R339). -/
def stationSample (s : State) (station : Nat) (at_ : Stamp) : State :=
  let dev := at_.units
  if s.flag F.TIME_STATUS.EXT_VALID then s.servoSample ((station : Int) - (s.extNs * 2 ^ 16 + dev : Nat)) at_
  else
    let x : Int := (station : Int) - dev
    let wrap : Int := 2 ^ 48
    let ext := ((x + wrap / 2) / wrap * wrap).toNat
    (s.setExtNs (ext / 2 ^ 16)).servoSample (x - ext) at_

/-- No sample for HOLD_MS: TIME_INC holds the integral term (R339, R340). -/
def holdover (s : State) : State :=
  if s.servoState = 1 || s.servoState = 2 then
    let s := (s.setServo 3).servoInc s.clk.integ
    { s with clk := { s.clk with last := none, good := 0 } }
  else s

-- TIME_EXT (R335)

/-- TIME_EXT takes up the wraps of TIME_NS since its last update. -/
def extUpdate (s : State) : State :=
  if s.clk.wraps ≤ s.clk.extWraps then s
  else
    let s := s.setExtNs (s.extNs + (s.clk.wraps - s.clk.extWraps) * 2 ^ 32)
    { s with clk := { s.clk with extWraps := s.clk.wraps } }

-- PPS (R338, R341)

/-- A TDC stamp: 31.25 ps (R341). -/
def tdc (t : Stamp) : Stamp := { t with frac := t.frac &&& 0xF800#16 }

/-- A rising edge of PPS_IN. -/
def ppsEdge (s : State) (at_ : Stamp) : State :=
  let t := State.tdc at_
  let abs := s.nearestAbs t.ns.toNat
  if s.clk.lastPps.any fun p => abs < p + 500000000 then s.bump F.TIME_CNT.PPS_GLITCH
  else
    let s := { s with clk := { s.clk with lastPps := some abs } }
    let s := (s.setReg F.PPS_STAMP_LO.STAMP.base (BitVec.ofNat 32 (t.frac.toNat * 2 ^ 16))).setReg F.PPS_STAMP_HI.STAMP.base (BitVec.ofNat 32 t.ns.toNat)
    if s.get F.TIME_SERVO.SOURCE = 2 && !s.followsSenior then
      -- the seconds come from the last Announce where one was received (R338)
      let sec : Nat := 1000000000 * 2 ^ 16
      let dev := s.extNs * 2 ^ 16 + t.units
      let near := (dev + sec / 2) / sec * sec
      s.servoSample ((near : Int) - dev) t
    else s

-- PTP (R336, R337)

/-- A PTP message is for this port's role and domain. -/
def ptpFor (s : State) (p role domain : Nat) : Bool := s.get F.PTP_PORT.ROLE p = role && s.get F.PTP_PORT.DOMAIN p = domain

/-- What every PTP frame of a port says: its TRANSPORT, its DOMAIN and the message's sequence number (R336). -/
def ptpHead (s : State) (p seq : Nat) : List Nat := [s.get F.PTP_PORT.TRANSPORT p, s.get F.PTP_PORT.DOMAIN p, seq]

/-- Station time of a PTP timestamp, in 2^-16 ns. -/
def ptpUnits (sec ns : Nat) : Nat := (sec * 1000000000 + ns) * 2 ^ 16

/-- A complete Sync: the departure with its corrections, and the arrival stamp. -/
def takeSync (s : State) (departed : Int) (at_ : Stamp) : State :=
  let at_ := State.tdc at_
  let station := (departed + s.clk.meanPath).toNat
  let s := { s with clk := { s.clk with sync := none, down := some ((s.absUnits at_ : Int) - departed) } }
  if s.get F.TIME_SERVO.SOURCE = 1 && !s.followsSenior then s.stationSample station at_ else s

/-- The station time this device serves at a stamp, in 2^-16 ns (R335, R337). -/
def served (s : State) (at_ : Stamp) : Nat := s.extNs * 2 ^ 16 + at_.units

/-- Time is served only LOCKED or in HOLDOVER; clockClass 6 or 7 (R337). -/
def serving (s : State) : Bool := s.servoState = 2 || s.servoState = 3
def clockClass (s : State) : Nat := if s.servoState = 2 then 6 else 7

def timeCntClear (s : State) : State := s.clearAll [F.TIME_CNT.STEPS, F.TIME_CNT.LOCK_LOSS, F.TIME_CNT.PPS_GLITCH]

end State

/-- SKEW_MEASURE (R277, R339): the peer's arrival less departure of the last HEART sent to it, in 2^-16 ns;
a sample of the servo of a junior that follows the senior (R338). -/
def execSkewMeasure (peerDiff : Int) (s : State) : Host.Outcome State Fault Refusal :=
  .next (match s.twin.rxDiff with
    | some d =>
      let s := s.measureSkew peerDiff
      if s.followsSenior then s.servoSample ((peerDiff - d) / 2) s.now else s
    | none => s)

/-- TIME_WRAP (R335). -/
def execTimeWrap (s : State) : Host.Outcome State Fault Refusal := .next s.extUpdate

/-- PPS_IN_EDGE (R338, R341). -/
def execPpsInEdge (at_ : Stamp) (s : State) : Host.Outcome State Fault Refusal := .next (s.ppsEdge at_)

/-- SERVO_LOCKED (R339). -/
def execServoLocked (s : State) : Host.Outcome State Fault Refusal := .next s.servoLock

/-- HOLDOVER_ENTRY (R339, R340). -/
def execHoldoverEntry (s : State) : Host.Outcome State Fault Refusal := .next s.holdover

/-- PPS_OUT_PULSE (R341): a start of a second; the pin rises for PPS_WIDTH µs. -/
def execPpsOutPulse (s : State) : Host.Outcome State Fault Refusal :=
  .next (if s.flag F.TIME_STATUS.EXT_VALID && s.flag F.PPS_CTRL.PPS_OUT_EN then s.emit (.pin "PPS_OUT" [s.get F.PPS_CTRL.PPS_WIDTH]) else s)

/-- PTP_SYNC_RX (R336): originTimestamp, correction in 2^-16 ns, and the arrival stamp. -/
def execPtpSyncRx (p : Fin 4) (domain : BitVec 8) (seq : BitVec 16) (twoStep : Bool) (sec ns : Nat) (corr : Int) (at_ : Stamp)
    (s : State) : Host.Outcome State Fault Refusal :=
  .next (if !s.ptpFor p 1 domain.toNat then s
    else
      let s := s.bump F.PTP_PORT.RX_EVT 1 p
      if twoStep then { s with clk := { s.clk with sync := some (seq.toNat, at_, corr) } }
      else s.takeSync ((State.ptpUnits sec ns : Int) + corr) at_)

/-- PTP_FOLLOW_UP_RX (R336): preciseOriginTimestamp of a two-step Sync. -/
def execPtpFollowUpRx (p : Fin 4) (domain : BitVec 8) (seq : BitVec 16) (sec ns : Nat) (corr : Int) (s : State) :
    Host.Outcome State Fault Refusal :=
  .next (match s.clk.sync with
    | some (q, at_, c) =>
      if s.ptpFor p 1 domain.toNat && q = seq.toNat then s.takeSync ((State.ptpUnits sec ns : Int) + corr + c) at_ else s
    | none => s)

/-- PTP_DELAY_REQ_SEND (R336): the time-receiver port asks, with its departure stamp. -/
def execPtpDelayReqSend (p : Fin 4) (tx : Stamp) (s : State) : Host.Outcome State Fault Refusal :=
  .next (if s.get F.PTP_PORT.ROLE p ≠ 1 then s
    else
      let q := (s.clk.delaySeq + 1) % 2 ^ 16
      ({ s with clk := { s.clk with delaySeq := q, delayReq := some (q, s.absUnits (State.tdc tx)) } }).emit
        (.port p (s.vlan p) "PTP Delay_Req" (s.ptpHead p q)))

/-- PTP_DELAY_RESP_RX (R336): receiveTimestamp of the own Delay_Req; the mean path delay follows. -/
def execPtpDelayRespRx (p : Fin 4) (domain : BitVec 8) (seq : BitVec 16) (sec ns : Nat) (corr : Int) (s : State) :
    Host.Outcome State Fault Refusal :=
  .next (match s.clk.delayReq, s.clk.down with
    | some (q, t3), some down =>
      if s.ptpFor p 1 domain.toNat && q = seq.toNat then
        let up : Int := (State.ptpUnits sec ns : Int) - corr - t3
        { s with clk := { s.clk with delayReq := none, meanPath := (down + up) / 2 } }
      else s
    | _, _ => s)

/-- PTP_ANNOUNCE_RX (R336, R338): the grandmaster identity, and the seconds for SOURCE = 2. -/
def execPtpAnnounceRx (p : Fin 4) (domain : BitVec 8) (gm : BitVec 64) (sec : Nat) (s : State) : Host.Outcome State Fault Refusal :=
  .next (if !s.ptpFor p 1 domain.toNat then s
    else
      let s := { s with clk := { s.clk with gm := some gm, annSec := some sec } }
      if s.get F.TIME_SERVO.SOURCE = 2 && !s.followsSenior then
        -- TIME_EXT shifts by whole seconds, so that device time shows the second announced
        let here : Nat := (s.extNs + s.absNs % 2 ^ 32) / 1000000000
        s.setExtNs ((s.extNs : Int) + ((sec : Int) - here) * 1000000000).toNat
      else s)

/-- PTP_DELAY_REQ_RX (R337): a time-transmitter port answers with the arrival in station time. -/
def execPtpDelayReqRx (p : Fin 4) (domain : BitVec 8) (seq : BitVec 16) (port : BitVec 80) (at_ : Stamp) (s : State) :
    Host.Outcome State Fault Refusal :=
  .next (if !s.ptpFor p 2 domain.toNat then s
    else
      let s := s.bump F.PTP_PORT.RX_EVT 1 p
      if s.serving then
        let t := s.served (State.tdc at_)
        s.emit (.port p (s.vlan p) "PTP Delay_Resp" (s.ptpHead p seq.toNat ++ [port.toNat, t / 2 ^ 16 / 1000000000, t / 2 ^ 16 % 1000000000]))
      else s)

/-- PTP_SYNC_SEND (R337): one-step with its departure stamp, or two-step with Follow_Up. -/
def execPtpSyncSend (p : Fin 4) (tx : Stamp) (s : State) : Host.Outcome State Fault Refusal :=
  .next (if s.get F.PTP_PORT.ROLE p ≠ 2 || !s.serving then s
    else
      let q := (s.clk.syncSeq + 1) % 2 ^ 16
      let t := s.served (State.tdc tx)
      let origin := [t / 2 ^ 16 / 1000000000, t / 2 ^ 16 % 1000000000]
      let s := { s with clk := { s.clk with syncSeq := q } }
      let head := s.ptpHead p q ++ [s.get F.PTP_PORT.LOG_SYNC p, s.clockClass]
      if s.flag F.PTP_PORT.ONE_STEP p then s.emit (.port p (s.vlan p) "PTP Sync" (head ++ origin))
      else (s.emit (.port p (s.vlan p) "PTP Sync" head)).emit (.port p (s.vlan p) "PTP Follow_Up" (head ++ origin)))

end Sys2Proof.Machine
end

