-- ==== Sys2Proof/Machine/Record.lean ====
section
/-!
DEFINITION. The vitrine of 14_fault_recording.md: condition bits, trigger units, captures and their
records, the orders of R369, compression, START_CAT and TUNING records, and the offload window.
-/

namespace Sys2Proof.Machine

/-- What a trigger carries into records (R357): bits, the tick and the instant after T_n of the trigger
point in 31.25 ps units, the interval, stamps of the bits, and snapshot values. -/
structure Trigger where
  bits : Nat
  tick : Nat
  point : Nat
  interval : Nat
  ofs : List Nat
  snap : Option (List Word)
deriving DecidableEq, Repr

/-- Words of bits from bit 31 of the first one. -/
def packBits (bs : List Bool) : List Word :=
  (List.range ((bs.length + 31) / 32)).map fun w =>
    BitVec.ofNat 32 (((List.range 32).map fun b => if bs.getD (32 * w + b) false then 2 ^ (31 - b) else 0).sum)

/-- Bytes as words, most significant first. -/
def wordsOf (l : List Nat) : List Word :=
  (List.range ((l.length + 3) / 4)).map fun w => BitVec.ofNat 32 (fieldAt l (4 * w) 4)

/-- A list of words padded with zero to an even count. -/
def evenWords (l : List Word) : List Word := if l.length % 2 = 1 then l ++ [0] else l

/-- One 32-word group of a row against the row before it: a mask word and the nonzero words (R368). -/
def encGroup (a b : List Word) : List Word :=
  let x := (List.range a.length).map fun j => a.getD j 0 ^^^ b.getD j 0
  BitVec.ofNat 32 (((List.range x.length).map fun w => if x.getD w 0 ≠ 0 then 2 ^ (31 - w) else 0).sum) :: x.filter (· ≠ 0)

/-- The code of a row after the row before it (R368). -/
def encRow (row prev : List Word) : List Word :=
  (List.range ((row.length + 31) / 32)).flatMap fun g => encGroup ((row.drop (32 * g)).take 32) ((prev.drop (32 * g)).take 32)

/-- The compressed form of rows: each after a marker word; RAW where it is the first, or not shorter (R368).
In a session a segment header, whose last word counts the segment's rows, stands before each segment and
starts anew; left counts the rows of the present segment still to come. -/
def encRows (session : Bool) : Nat → Option (List Word) → List (List Word) → List Word
  | _, _, [] => []
  | left, prev, r :: rest =>
    if session && left = 0 then r ++ encRows session (r.getD 7 0).toNat none rest
    else
      let raw := BitVec.ofNat 32 (2 ^ 31 + r.length) :: r
      match prev with
      | none => raw ++ encRows session (left - 1) (some r) rest
      | some p =>
        let c := encRow r p
        (if c.length > r.length then raw else BitVec.ofNat 32 c.length :: c) ++ encRows session (left - 1) (some r) rest

/-- The header of a record (R366). -/
def Rec.header (r : Rec) : List Nat :=
  let be := Crc.bytesBE
  let h := be 4 0x56495452 ++ be 4 r.id ++ [r.kind, r.cap] ++ be 2 r.status ++ be 2 r.rowBytes ++ be 2 r.chans.length
    ++ be 2 r.nVal ++ be 2 r.srcCtx ++ be 4 r.intervalNs ++ be 4 r.pre ++ be 4 r.preAct ++ be 4 r.post ++ be 4 r.count
    ++ be 4 r.stop ++ be 2 r.trigBits ++ be 2 r.laterBits ++ [r.primary, r.twin, 0, 0] ++ be 8 r.trigTick
    ++ be 4 r.trigNs ++ be 2 r.trigFrac ++ be 6 r.stnSec ++ be 4 r.stnNs ++ be 8 r.firstTick ++ be 4 r.firstInt
    ++ (List.range 11).flatMap (fun b => be 4 (r.ofs.getD b 0xFFFFFFFF)) ++ be 4 r.period ++ be 8 r.tag
    ++ be 4 r.segments ++ be 4 r.missed ++ be 4 r.compLen ++ be 4 0
    ++ (List.range 24).flatMap (fun n => Crc.wordBytes (r.snap.getD n 0)) ++ List.replicate 124 0
  h ++ be 4 (Crc.crc32c h)

/-- A record as it lies in memory, in words (R366 to R368). -/
def Rec.words (r : Rec) : List Word :=
  let list := r.chans ++ List.replicate (padTo 64 (4 * r.chans.length) / 4 - r.chans.length) 0
  wordsOf r.header ++ list ++ (match r.packed with | some ws => ws | none => r.rows.flatten)

namespace State

-- Channels and rows (R348 to R351)

/-- Channels of a capture in ascending table index: KIND, INDEX and the table word. -/
def capChans (s : State) (c : Nat) : List (Nat × Nat × Word) :=
  (List.range 8192).filterMap fun i =>
    if s.get F.REC_CH.KIND i ≠ 0 && s.bit F.REC_CH.CAP c i
    then some (s.get F.REC_CH.KIND i, s.get F.REC_CH.INDEX i, s.reg (F.REC_CH.KIND.addr i)) else none

/-- The corrected code of a channel's last conversion: nearest whole code, held to 16 bits (DEDUCED, log entry 29). -/
def corrCode (s : State) (n : Nat) : Int :=
  clampInt (-32768) 32767 ((2 * s.corrected n (s.chan n).raw + 32768) / 65536)

/-- The words of one channel in a row (R348); cond holds the condition bits of the interval. -/
def chanWords (s : State) (cond : Nat) (kind idx : Nat) : List Word :=
  match kind with
  | 1 => [s.view idx]
  | 2 => [BitVec.ofNat 32 (ofSigned 16 (s.corrCode idx) * 2 ^ 16 + ofSigned 16 (s.chan idx).raw)]
  | 3 =>
    let x := s.inst idx
    [match (if (s.input idx).cause = 0 then (s.input idx).agreed else none) with
      | some d => BitVec.ofNat 32 (Block.get d 63 48 * 2 ^ 16 + Block.get d 37 35 * 2 ^ 13 + x.cause * 2 ^ 10 + Block.get d 28 19)
      | none => BitVec.ofNat 32 (x.cause * 2 ^ 10)]
  | 4 => [s.reg (F.OBS_CELL_W0.V_HAT.addr idx)]
  | 5 => packBits ((List.range 128).map fun p => decide (p < s.declared idx) && (s.input (s.base idx + p)).own.isSome)
  | 6 => [s.reg (F.MCH_TICK_VALUE.VALUE.addr idx)]
  | 7 => [BitVec.ofNat 32 (cond / 2 ^ 32), BitVec.ofNat 32 cond]
  | _ => []

/-- A row of a capture (R351). -/
def rowOf (s : State) (c tick interval cond : Nat) (isRepeat coast : Bool) : List Word :=
  let cs := s.capChans c
  let flags := (if isRepeat then 1 else 0) + (if coast then 2 else 0)
  let vals := cs.filterMap fun x => if x.1 = 1 then some (s.sigOk x.2.1) else if x.1 = 6 then some (decide ((s.chan x.2.1).cause = 0)) else none
  evenWords ([BitVec.ofNat 32 tick, BitVec.ofNat 32 (flags * 2 ^ 16 + interval)] ++ packBits vals
    ++ cs.flatMap fun x => s.chanWords cond x.1 x.2.1)

-- Slots and addresses (R359, R364)

def capState (s : State) (c : Nat) : Nat := s.get F.CAP_STATUS.STATE c
def setCapState (s : State) (c v : Nat) : State := s.set F.CAP_STATUS.STATE v c
def capFast (s : State) (c : Nat) : Bool := !s.flag F.CAP_CTRL.RATE c
def capSession (s : State) (c : Nat) : Bool := s.get F.CAP_CTRL.KIND c = 1

/-- Bytes before the rows. -/
def capHead (s : State) (c : Nat) : Nat := 384 + padTo 64 (4 * s.get F.CAP_ROW.N_CH c)

/-- Bytes of a slot (R359). -/
def slotBytes (s : State) (c : Nat) : Nat :=
  padTo 65536 (s.capHead c + (s.get F.CAP_PRE.ROWS c + s.get F.CAP_POST.ROWS c) * s.get F.CAP_ROW.ROW_BYTES c)

/-- Slots of a capture's region that a record of the directory holds. -/
def usedSlots (s : State) (c : Nat) : List Nat :=
  (List.range 64).filterMap fun d => match s.dirRec d with
    | some r => if s.dirState d ≠ 0 && r.cap = c && r.kind ≠ 2 then some r.slot else none
    | none => none

/-- The next free slot after the last one used, in ascending order and round again (R359). -/
def nextSlot (s : State) (c after : Nat) : Option Nat :=
  let n := if s.capSession c then 1 else s.get F.CAP_STATUS.SLOTS c
  ((List.range n).map fun j => (after + 1 + j) % n).find? fun k => !(s.usedSlots c).contains k

-- Opening and closing

/-- A new record with what its header takes from the device (R366). -/
def newRec (s : State) (kind cap rowBytes nVal : Nat) : Rec :=
  { id := s.vit.nextId, kind := kind, cap := cap, status := stOpen, rowBytes := rowBytes, nVal := nVal
    intervalNs := s.periodNs, pre := 0, preAct := 0, post := 0
    twin := s.mode + (if s.junior then 128 else 0), period := s.periodNs, tag := s.imageTag.toNat }

/-- A record enters its directory entry (R365). -/
def placeRec (s : State) (d : Nat) (r : Rec) (start : Nat) : State :=
  let s := { s with vit := { s.vit with nextId := (s.vit.nextId + 1) % 2 ^ 32 } }
  let s := (s.putRec d r r.status).setDirState d 1
  ((s.set F.DIR_W0.KIND r.kind d).set F.DIR_W0.CAPTURE r.cap d).set F.DIR_W2.VALUE start d

/-- The trigger's fields of a record. -/
def trigFields (s : State) (r : Rec) (t : Trigger) : Rec :=
  let ns := (s.tick.absT + t.point / 32) % 2 ^ 32
  let stn := s.extNs + ns
  let valid := s.flag F.TIME_STATUS.EXT_VALID
  { r with trigBits := t.bits, primary := lowestCode t.bits, trigTick := t.tick, trigNs := ns, trigFrac := t.point % 32 * 2048
           stnSec := if valid then stn / 1000000000 else 0, stnNs := if valid then stn % 1000000000 else 0
           ofs := t.ofs, snap := t.snap.getD [] }

/-- A capture armed into a free slot with an empty ring; FULL where no slot is free. A session takes its
directory entry here (R359 to R361); none where none is free. -/
def armCap (s : State) (c : Nat) : Option State :=
  let x := s.cap c
  match s.nextSlot c (if s.capState c = 0 ∨ s.capState c = 1 then s.get F.CAP_STATUS.SLOTS c - 1 else x.slot) with
  | none => some ((s.setCap c { x with ring := [], off := false }).setCapState c 5)
  | some k =>
    let x : Cap := { x with ring := [], slot := k, off := false, inSeg := false, missed := 0, left := 0 }
    if s.capSession c then
      match s.freeDir with
      | none => none
      | some d =>
        let cs := s.capChans c
        let r := { s.newRec 1 c (s.get F.CAP_ROW.ROW_BYTES c) (cs.filter fun y => y.1 = 1 ∨ y.1 = 6).length with
          chans := cs.map (·.2.2), pre := s.get F.CAP_PRE.ROWS c, post := s.get F.CAP_POST.ROWS c, slot := k
          intervalNs := if s.capFast c then 50 else s.periodNs }
        let s := s.placeRec d r (s.get F.CAP_REGION.BASE c * 16384)
        let s := (s.setCap c { x with dir := some d }).set F.CAP_STATUS.DIR d c
        some ((s.set F.CAP_STATUS.SEGMENTS 0 c).setCapState c 2)
    else some ((s.setCap c { x with dir := none }).setCapState c 2)

/-- After a record or session has closed: re-armed, or stopped by DISARM (R359, R360, R369). -/
def afterClose (s : State) (c : Nat) (again : Bool) : State :=
  let s := s.setCap c { s.cap c with ring := [], dir := none, left := 0, inSeg := false }
  if !again || (s.cap c).off then s.setCapState c 6 else (s.armCap c).getD (s.setCapState c 5)

/-- The present segment ends: the capture re-arms, or the session closes at 4,096 segments or where its
region cannot hold another (R361). -/
def endSegment (s : State) (c : Nat) : State :=
  match (s.cap c).dir.bind s.dirRec, (s.cap c).dir with
  | some r, some d =>
    let more := s.capHead c + 4 * (r.rows.map List.length).sum + 32
      + (s.get F.CAP_PRE.ROWS c + s.get F.CAP_POST.ROWS c) * s.get F.CAP_ROW.ROW_BYTES c
    let room := more ≤ s.get F.CAP_REGION.SIZE c * 2 ^ 20
    let s := (s.setCap c { s.cap c with ring := [], inSeg := false, left := 0 }).setCapState c 4
    if 4096 ≤ r.segments || !room || (s.cap c).off then
      (s.closeRec d (stComplete + (if room then 0 else stOverflow)) false true).afterClose c false
    else s
  | _, _ => s

/-- The open record has taken its POST rows (R359, R361). -/
def closeDone (s : State) (c : Nat) : State :=
  if s.capState c ≠ 3 || (s.cap c).left ≠ 0 then s
  else if s.capSession c then s.endSegment c
  else match (s.cap c).dir with
    | some d => (s.closeRec d stComplete false true).afterClose c true
    | none => s

/-- A row written to the open record. -/
def appendRow (s : State) (c : Nat) (ws : List Word) : State :=
  let x := s.cap c
  match x.dir.bind s.dirRec, x.dir with
  | some r, some d =>
    let r := { r with rows := r.rows ++ [ws], count := r.count + 1 }
    ((s.putRec d r (s.get F.DIR_W0.FLAGS d)).setCap c { x with left := x.left - 1 }).closeDone c
  | _, _ => s

/-- A row falls due: it goes to the open record, or to the ring of an armed capture, which keeps one row
more than PRE for a trigger that falls in its last row (R358, R359). -/
def pushRow (s : State) (c tick interval : Nat) (ws : List Word) : State :=
  if s.capState c = 3 then s.appendRow c ws
  else if s.capState c = 2 then
    let x := s.cap c
    let ring := x.ring ++ [(tick, interval, ws)]
    s.setCap c { x with ring := ring.drop (ring.length - (s.get F.CAP_PRE.ROWS c + 1)) }
  else s

/-- The rows before the trigger row that the ring holds, and the trigger row where it is already there. -/
def ringSplit (s : State) (c tick : Nat) : List (Nat × Nat × List Word) × List (Nat × Nat × List Word) :=
  let ring := (s.cap c).ring
  let (pre, post) := match ring.getLast? with
    | some r => if !s.capFast c && r.1 = tick then (ring.dropLast, [r]) else (ring, [])
    | none => ([], [])
  (pre.drop (pre.length - s.get F.CAP_PRE.ROWS c), post)

/-- A segment header (R367). -/
def segHeader (s : State) (t : Trigger) (no missed preAct post : Nat) : List Word :=
  let ns := (s.tick.absT + t.point / 32) % 2 ^ 32
  wordsOf (Crc.bytesBE 4 no ++ Crc.bytesBE 2 (min 65535 missed) ++ Crc.bytesBE 2 preAct ++ Crc.bytesBE 8 t.tick ++ Crc.bytesBE 4 ns
    ++ Crc.bytesBE 2 (t.point % 32 * 2048) ++ Crc.bytesBE 2 t.bits ++ [lowestCode t.bits, 0, 0, 0] ++ Crc.bytesBE 4 (preAct + post))

/-- A trigger opens a record of an armed CIRCULAR capture (R359, R360). -/
def openRecord (s : State) (c : Nat) (t : Trigger) : State :=
  match s.freeDir with
  | none => s.bump F.CAP_CNT.NO_SLOT 1 c
  | some d =>
    let x := s.cap c
    let (pre, post) := s.ringSplit c t.tick
    let cs := s.capChans c
    let want := s.get F.CAP_PRE.ROWS c
    let st := stOpen + (if pre.length < want then stShortPre else 0) + (if t.snap.isSome then stSnapValid else 0)
    let (ft, fi) := match pre.head? with
      | some r => (r.1, r.2.1)
      | none => (t.tick, if s.capFast c then t.interval else 0)
    let r := s.trigFields { s.newRec 0 c (s.get F.CAP_ROW.ROW_BYTES c) (cs.filter fun y => y.1 = 1 ∨ y.1 = 6).length with
      chans := cs.map (·.2.2), pre := want, preAct := pre.length, post := s.get F.CAP_POST.ROWS c, slot := x.slot, status := st
      intervalNs := if s.capFast c then 50 else s.periodNs, firstTick := ft, firstInt := fi
      rows := pre.map (·.2.2), count := pre.length } t
    let s := s.placeRec d r (s.get F.CAP_REGION.BASE c * 16384 + x.slot * (s.slotBytes c / 64))
    let s := (s.setCap c { x with ring := [], dir := some d, left := s.get F.CAP_POST.ROWS c }).set F.CAP_STATUS.DIR d c
    s.setCapState c 3 |>.each post fun s r => s.appendRow c r.2.2

/-- A trigger writes a segment of an armed session (R361). -/
def openSegment (s : State) (c : Nat) (t : Trigger) : State :=
  let x := s.cap c
  match x.dir.bind s.dirRec, x.dir with
  | some r, some d =>
    let (pre, post) := s.ringSplit c t.tick
    let n := s.get F.CAP_POST.ROWS c
    let h := s.segHeader t r.segments x.missed pre.length n
    let (ft, fi) := match pre.head? with
      | some r => (r.1, r.2.1)
      | none => (t.tick, if s.capFast c then t.interval else 0)
    let first := r.segments = 0
    let short := pre.length < s.get F.CAP_PRE.ROWS c
    let r' := if first then { s.trigFields r t with firstTick := ft, firstInt := fi, preAct := pre.length } else r
    let flags := s.get F.DIR_W0.FLAGS d ||| (if short then stShortPre else 0) ||| (if first && t.snap.isSome then stSnapValid else 0)
    let r' := { r' with rows := r.rows ++ [h] ++ pre.map (·.2.2), count := r.count + pre.length, segments := r.segments + 1
                        missed := r.missed + x.missed, status := flags }
    let s := s.putRec d r' flags
    let s := s.setCap c { x with ring := [], inSeg := true, segAt := r.rows.length, missed := 0, left := n }
    let s := (s.set F.CAP_STATUS.SEGMENTS (min 65535 r'.segments) c).setCapState c 3
    s.each post fun s r => s.appendRow c r.2.2
  | _, _ => s

/-- A trigger reaches a capture (R357, R360, R361). -/
def triggerCap (s : State) (c : Nat) (t : Trigger) : State :=
  match s.capState c with
  | 2 => if s.capSession c then s.openSegment c t else s.openRecord c t
  | 3 =>
    let s := s.bump F.CAP_CNT.TRIG_BUSY 1 c
    match (s.cap c).dir.bind s.dirRec, (s.cap c).dir with
    | some r, some d =>
      let fl := s.get F.DIR_W0.FLAGS d ||| stLateTrig
      s.putRec d { r with laterBits := r.laterBits ||| t.bits, status := fl } fl
    | _, _ => s
  | 4 => (s.bump F.CAP_CNT.MISSED 1 c).setCap c { s.cap c with missed := (s.cap c).missed + 1 }
  | 5 => s.bump F.CAP_CNT.NO_SLOT 1 c
  | _ => s

-- Condition bits (R352, R353)

/-- A level source is asserted now. -/
def levelNow (s : State) (cls idx : Nat) : Bool :=
  match cls with
  | 1 => idx < 8 && s.bit F.TRIP_STATUS.ACTIVE idx
  | 2 => idx < 8 && s.bit F.FB_STATUS.LEVEL idx
  | 3 => idx < 24 && (s.chan idx).fireHi
  | 4 => idx < 24 && (s.chan idx).fireLo
  | 7 => match idx with
    | 0 => s.flag F.SAFE_STATUS.HUSK_FORCED
    | 1 => s.flag F.SAFE_STATUS.SBK
    | 2 => s.flag F.SAFE_STATUS.SOP_OUT
    | 3 => !s.flag F.SAFE_STATUS.ILP_GRANTED
    | 4 => !s.flag F.SAFE_STATUS.SAFE_OK
    | _ => false
  | _ => false

/-- CLASS and INDEX of condition bit b. -/
def condSource (s : State) (b : Nat) : Nat × Nat :=
  let v := if b % 2 = 1 then s.get F.REC_COND_SEL.SEL_ODD (b / 2) else s.get F.REC_COND_SEL.SEL_EVEN (b / 2)
  (v / 4096, v % 4096)

/-- A condition bit of the interval with its stamp, offs being the first assertions after its start. -/
def condBit (s : State) (offs : List ((Nat × Nat) × Nat)) (b : Nat) : Bool × Nat :=
  let src := s.condSource b
  let at_ := (offs.lookup src).getD 0
  if src.1 = 0 then (false, 0)
  else if [1, 2, 3, 4, 7].contains src.1 then
    if s.vit.levels.contains src then (true, 0)
    else (s.vit.rose.contains src || s.levelNow src.1 src.2, at_)
  else if src.1 = 5 ∨ src.1 = 6 then (s.vit.events.contains src, at_)
  else (s.vit.events.contains src, 0)

-- Trigger units (R354 to R357)

/-- A unit's mask and value: patterns 0 to 7; states of the sequences 8 and 9. -/
def unitCare (s : State) (u st : Nat) : Nat × Nat :=
  let w := fun (f g : Field) (i j : Nat) => s.get f i j + s.get g i j * 2 ^ 32
  if u < 8 then (w F.PAT_MASK_LO.BITS F.PAT_MASK_HI.BITS u 0, w F.PAT_VALUE_LO.BITS F.PAT_VALUE_HI.BITS u 0)
  else (w F.SEQ_S_MASK_LO.BITS F.SEQ_S_MASK_HI.BITS (u - 8) st, w F.SEQ_S_VALUE_LO.BITS F.SEQ_S_VALUE_HI.BITS (u - 8) st)

/-- A field of a unit's control word. -/
def unitCtl (s : State) (u : Nat) (p q : Field) : Nat := if u < 8 then s.get p u else s.get q (u - 8)
def unitOn (s : State) (u : Nat) : Bool := s.unitCtl u F.PAT_CTRL.ENABLE F.SEQ_CTRL.ENABLE = 1

def condNum (cond : List (Bool × Nat)) : Nat := (cond.zipIdx.map fun b => if b.1.1 then 2 ^ b.2 else 0).sum

def careMatch (cond : List (Bool × Nat)) (care : Nat × Nat) : Bool := condNum cond &&& care.1 = care.2 &&& care.1

/-- The latest stamp among the care bits with VALUE 1 (R357). -/
def careStamp (cond : List (Bool × Nat)) (care : Nat × Nat) : Nat :=
  (cond.zipIdx.map fun b => if hasBit care.1 b.2 && hasBit care.2 b.2 then b.1.2 else 0).foldl max 0

/-- A unit armed (R355, R356). -/
def armUnit (s : State) (u : Nat) : State :=
  let s := s.setUnit u { s.unit u with armed := true, hold := false, held := 0, ended := false, timer := 0 }
  if u < 8 then s else s.clearAll [F.SEQ_STATUS.STATE, F.SEQ_STATUS.COUNT, F.SEQ_STATUS.IN_HOLDOFF] (u - 8)

/-- A unit whose hold-off has ended re-arms in the next interval (R356). -/
def unitRearm (s : State) (u : Nat) : State :=
  let x := s.unit u
  let off := s.unitCtl u F.PAT_CTRL.HOLDOFF F.SEQ_CTRL.HOLDOFF
  let byCount := s.unitCtl u F.PAT_CTRL.HOLD_MODE F.SEQ_CTRL.HOLD_MODE = 1
  if x.hold && (off = 0 || x.ended || byCount && decide (off ≤ x.held)) then s.armUnit u else s

/-- A unit would fire: it fires and enters hold-off, or the hold-off suppresses it (R356). -/
def unitFire (s : State) (u stamp : Nat) : Option Nat × State :=
  let x := s.unit u
  if x.hold then
    let s := s.setUnit u { x with held := x.held + 1 }
    (none, if u < 8 then s.bump F.PAT_CNT.SUPPRESSED 1 u else s.bump F.SEQ_CNT.SUPPRESSED 1 (u - 8))
  else if !x.armed then (none, s)
  else
    let s := s.setUnit u { x with armed := false, hold := true, held := 0, ended := false }
    (some stamp, if u < 8 then s.bump F.PAT_CNT.FIRED 1 u
      else (s.bump F.SEQ_CNT.FIRED 1 (u - 8)).setB F.SEQ_STATUS.IN_HOLDOFF true (u - 8))

/-- A pattern unit in one interval (R354). -/
def patStep (s : State) (cond : List (Bool × Nat)) (u : Nat) : Option Nat × State :=
  let care := s.unitCare u 0
  let m := careMatch cond care
  let prev := (s.unit u).prevMatch
  let s := s.setUnit u { s.unit u with prevMatch := m }
  if m && (!s.flag F.PAT_CTRL.EDGE u || !prev) then s.unitFire u (careStamp cond care) else (none, s)

/-- A pattern that is not in use: whether it matches still precedes the next interval (R354). -/
def patWatch (s : State) (cond : List (Bool × Nat)) (u : Nat) : State :=
  if u < 8 then s.setUnit u { s.unit u with prevMatch := careMatch cond (s.unitCare u 0) } else s

/-- A sequence state's COUNT is reached: it moves on, or fires from LAST_STATE (R355). -/
def seqCount (s : State) (q stamp : Nat) : Option Nat × State :=
  let st := s.get F.SEQ_STATUS.STATE q
  if s.get F.SEQ_S_COUNT.COUNT_MAX q st = 0 || s.get F.SEQ_STATUS.COUNT q < s.get F.SEQ_S_COUNT.COUNT_MAX q st then (none, s)
  else
    let s := s.set F.SEQ_STATUS.COUNT 0 q
    if st = s.get F.SEQ_CTRL.LAST_STATE q then (s.set F.SEQ_STATUS.STATE 0 q).unitFire (q + 8) stamp
    else (none, (s.set F.SEQ_STATUS.STATE (s.get F.SEQ_S_COUNT.NEXT q st) q).setUnit (q + 8) { s.unit (q + 8) with timer := 0 })

/-- A sequence state's TIMER has run: it moves to TIMEOUT_NEXT (R355). -/
def seqTimer (s : State) (q : Nat) : State :=
  let st := s.get F.SEQ_STATUS.STATE q
  let max_ := s.get F.SEQ_S_TIMER.TIMER q st
  let x := s.unit (q + 8)
  if 0 < max_ && max_ ≤ x.timer + 1 then
    ((s.set F.SEQ_STATUS.STATE (s.get F.SEQ_S_TIMER.TIMEOUT_NEXT q st) q).set F.SEQ_STATUS.COUNT 0 q).setUnit (q + 8) { x with timer := 0 }
  else s

/-- A sequence unit in one interval (R355). -/
def seqStep (s : State) (cond : List (Bool × Nat)) (q : Nat) : Option Nat × State :=
  let st := s.get F.SEQ_STATUS.STATE q
  let care := s.unitCare (q + 8) st
  let s := if careMatch cond care then s.set F.SEQ_STATUS.COUNT (min 65535 (s.get F.SEQ_STATUS.COUNT q + 1)) q
    else if s.flag F.SEQ_S_COUNT.CONSEC q st then s.set F.SEQ_STATUS.COUNT 0 q else s
  if s.get F.SEQ_STATUS.COUNT q = s.get F.SEQ_S_COUNT.COUNT_MAX q st && s.get F.SEQ_S_COUNT.COUNT_MAX q st ≠ 0 then
    s.seqCount q (careStamp cond care)
  else
    let max_ := s.get F.SEQ_S_TIMER.TIMER q st
    let x := s.unit (q + 8)
    (none, if 0 < max_ && x.timer + 1 = max_ then s.seqTimer q else s.setUnit (q + 8) { x with timer := x.timer + 1 })

/-- The urgent conversion of a firing with SNAPSHOT: in STREAM mode the latest stream sample (R160, R357). -/
def takeSnap (s : State) (off : Nat) (codes : List (BitVec 16)) (busy : Bool) : Option (List Word) × State :=
  if s.flag F.ADC_CTRL.ADC_MODE then (some s.lastValues, s)
  else
    let (ok, s) := s.urgentServe off codes busy
    (if ok then some s.lastValues else none, s)

/-- Numbers in ascending order. -/
def ascending (l : List Nat) : List Nat :=
  l.foldr (fun x m => (m.takeWhile fun y => y < x) ++ x :: m.dropWhile fun y => y < x) []

/-- The requests of one interval in their order, each of its own cycle; the record takes the first result. -/
def takeSnaps (s : State) (offs : List Nat) (codes : List (BitVec 16)) (busy : Bool) : Option (List Word) × State :=
  (ascending offs).foldl (fun (a : Option (List Word) × State) o =>
    let r := a.2.takeSnap o codes busy
    (a.1 <|> r.1, r.2)) (none, s)

/-- The FAST row of an interval for a capture (R350). -/
def fastRow (s : State) (c k cond : Nat) : State :=
  if !s.flag F.CAP_CTRL.ENABLE c || !s.capFast c then s
  else
    let streams := (s.capChans c).filter fun x => x.1 = 2
    let stale := streams ≠ [] && streams.all fun x => !(s.chan x.2.1).fresh
    s.pushRow c s.tickNo k (s.rowOf c s.tickNo k cond stale s.vit.coastRow)

/-- One interval: condition bits, units, triggers and FAST rows (R350 to R358). -/
def interval (s : State) (k : Nat) (offs : List ((Nat × Nat) × Nat)) (codes : List (BitVec 16)) (busy : Bool) : State :=
  if s.flag F.REC_STATUS.FREEZE_REQ then { s with vit := { s.vit with events := [], rose := [], manual := none } }
  else
    let cond := (List.range 64).map (s.condBit offs)
    let (fired, s) := (List.range 10).foldl (fun (a : List (Nat × Nat) × State) u =>
      if !a.2.unitOn u then (a.1, a.2.patWatch cond u)
      else
        let s := a.2.unitRearm u
        let (f, s) := if u < 8 then s.patStep cond u else s.seqStep cond (u - 8)
        (match f with | some st => a.1 ++ [(u, st)] | none => a.1, s)) ([], s)
    let man := s.vit.manual
    let bits := (fired.map fun f => 2 ^ f.1).sum + (if man.isSome then 2 ^ 10 else 0)
    let s := if bits = 0 then s
      else
        let asked := fired.filter fun f => s.unitCtl f.1 F.PAT_CTRL.SNAPSHOT F.SEQ_CTRL.SNAPSHOT = 1
        let (snap, s) := s.takeSnaps (asked.map fun f => 1600 * k + f.2) codes busy
        let mask := (fired.map fun f => s.unitCtl f.1 F.PAT_CTRL.TARGET F.SEQ_CTRL.TARGET).foldl (· ||| ·) ((man.map (·.1)).getD 0)
        let manAt := (man.map (·.2)).getD 0
        let ofs := (List.range 11).map fun b =>
          if b = 10 then (if man.isSome then manAt - 1600 * k else 0xFFFFFFFF) else (fired.lookup b).getD 0xFFFFFFFF
        let point := if lowestCode bits = 10 then manAt else 1600 * k + (fired.lookup (lowestCode bits)).getD 0
        let t : Trigger := ⟨bits, s.tickNo, point, k, ofs, snap⟩
        s.each ((List.range 8).filter fun c => hasBit mask c && s.flag F.CAP_CTRL.ENABLE c) fun s c => s.triggerCap c t
    let s := s.each (List.range 8) fun s c => s.fastRow c k (condNum cond)
    let levels := ((List.range 64).map s.condSource).filter fun src => s.levelNow src.1 src.2
    let s := { s with vit := { s.vit with events := [], rose := [], manual := none, levels := levels } }
    s.each (List.range 24) fun s n => if (s.chan n).fresh then s.setChan n { s.chan n with fresh := false } else s

-- The hand-over of a tick (R350, R352, R267)

/-- Threshold units and report flags of the tick as events (R352, classes 8 and 10). -/
def tickConditions (s : State) : State :=
  let s := s.each (List.range 16) fun s u =>
    let i := s.get F.REC_THR_CTRL.SIG_INDEX u
    let lev := s.reg (F.REC_THR_LEVEL.LEVEL.addr u)
    let out := if s.flag F.REC_THR_CTRL.BELOW u then Fp.lt (s.view i) lev else Fp.lt lev (s.view i)
    if s.flag F.REC_THR_CTRL.ENABLE u && s.sigOk i && out then s.noteTick 8 u else s
  let ds := s.allCells.filterMap fun i => (s.input i).agreed
  s.each ((List.range 10).filter fun n => ds.any fun d => Block.get d (19 + n) (19 + n) = 1) fun s n => s.noteTick 10 n

/-- Bytes of the system region up to the end of the last record it holds: START_CAT and the TUNING records, an
open one with room for its injection's runs (R364; the placing is DESIGN CHOICE, log entry 116). -/
def sysUsed (s : State) : Nat :=
  ((List.range 64).filterMap fun d => match s.dirRec d with
    | some r =>
      if s.dirState d = 0 ∨ r.cap < 8 then none
      else some (64 * s.get F.DIR_W2.VALUE d + padTo 64 (if s.dirState d = 1 then max r.length (384 + r.post * r.rowBytes) else r.length))
    | none => none).foldl max 0

/-- The system region can take n bytes, and a directory entry is free (R364). -/
def sysRoom (s : State) (n : Nat) : Option Nat :=
  if s.flag F.REC_STATUS.MEM_PRESENT && s.flag F.REC_STATUS.WIPE_DONE && !s.flag F.REC_STATUS.FREEZE_REQ && s.sysUsed + n ≤ 64 * 2 ^ 20
  then s.freeDir else none

def tuningDir (s : State) (c : Nat) : Option Nat := AMap.read (fun _ => none) s.vit.tuning c
def setTuning (s : State) (c : Nat) (d : Option Nat) : State :=
  { s with vit := { s.vit with tuning := AMap.put (fun _ => none) s.vit.tuning c d } }

/-- A sample of a running injection goes to its TUNING record, which opens with the first (R267, R364). -/
def tuneRow (s : State) (c : Nat) (row : List Word) : State :=
  let ws := evenWords row
  let s := if (s.tuningDir c).isSome then s
    else
      let runs := s.get F.CTX_INJ_CTRL.DURATION c
      match s.sysRoom (384 + runs * (4 * ws.length)) with
      | none => s
      | some d =>
        let r := { s.newRec 2 0xFF (4 * ws.length) 0 with srcCtx := c, post := runs, intervalNs := s.get F.CTX_SCHED.DIVIDER c * s.periodNs
                                                          firstTick := s.tickNo, trigTick := s.tickNo }
        (s.placeRec d r (s.sysUsed / 64)).setTuning c (some d)
  match s.tuningDir c, (s.tuningDir c).bind s.dirRec with
  | some d, some r =>
    if s.dirState d ≠ 1 then s
    else s.putRec d { r with rows := r.rows ++ [ws], count := r.count + 1 } (s.get F.DIR_W0.FLAGS d)
  | _, _ => s

/-- Injections that have ended close their TUNING records (R266, R365). -/
def tuneClose (s : State) : State :=
  s.each s.vit.tuning fun s t => match t.2 with
    | some d =>
      if s.get F.CTX_INJ_STATUS.STATE t.1 = 2 then s
      else
        (if s.dirState d = 1 then s.closeRec d stComplete false true else s).setTuning t.1 none
    | none => s

/-- What the hand-over of a tick does in the vitrine: events of the tick, TICK rows, TUNING samples. -/
def recordTick (s : State) (coast : Bool) : State :=
  let s := s.tickConditions
  let s := { s with vit := { s.vit with events := s.vit.events ++ s.vit.tickEvents, tickEvents := [], coastRow := coast } }
  let rows := s.vit.tuneRows
  let s := { s with vit := { s.vit with tuneRows := [] } }
  if s.flag F.REC_STATUS.FREEZE_REQ then s
  else
    let s := s.each ((List.range 8).filter fun c => s.flag F.CAP_CTRL.ENABLE c && !s.capFast c) fun s c =>
      s.pushRow c s.tickNo 0 (s.rowOf c s.tickNo 0 0 false coast)
    (s.each rows fun s r => s.tuneRow r.1 r.2).tuneClose

-- Orders (R369 to R371)

/-- A manual trigger of the captures named, at an instant after T_n (R357, R369). -/
def recTrigger (s : State) (mask point : Nat) : State :=
  let m := match s.vit.manual with
    | some (x, p) => (x ||| mask, p)
    | none => (mask, point)
  { s with vit := { s.vit with manual := some m } }

/-- ARM: refused for a disabled capture, while the wipe runs, and for a session without a free entry. -/
def recArm (s : State) (c : Nat) : Option State :=
  if 8 ≤ c || !s.flag F.CAP_CTRL.ENABLE c || !s.flag F.REC_STATUS.WIPE_DONE then none
  else if s.capState c = 2 || s.capState c = 3 || s.capState c = 4 then some (s.setCap c { s.cap c with off := false })
  else s.armCap c

/-- DISARM: an open record completes, a session closes, and nothing re-arms. -/
def recDisarm (s : State) (c : Nat) : State :=
  let st := s.capState c
  let s := s.setCap c { s.cap c with off := true }
  if s.capSession c && (st = 2 || st = 3 || st = 4) then
    match (s.cap c).dir with
    | some d => (s.closeRec d stComplete false true).afterClose c false
    | none => s
  else if st = 2 || st = 5 then (s.setCap c { s.cap c with ring := [] }).setCapState c 6
  else s

/-- OFFLOAD: the window stands at offset 0 of the record. A record being compressed stays raw. -/
def recOffload (s : State) (d : Nat) : Option State :=
  if 64 ≤ d || s.dirState d = 0 || s.dirState d = 1 then none
  else some (((s.setDirState d 4).set F.REC_WIN_POS.DIR d).set F.REC_WIN_POS.OFFSET 0)

/-- RELEASE: the entry and its slot are free; a capture that waits in FULL re-arms (R360, R369). -/
def recRelease (s : State) (d : Nat) : Option State :=
  if 64 ≤ d || s.dirState d = 1 then none
  else
    let c := (s.dirRec d).map (·.cap)
    let s := s.setDirRec d none
    let s := (s.clearAll [F.DIR_W0.KIND, F.DIR_W0.CAPTURE, F.DIR_W0.FLAGS, F.DIR_W1.VALUE, F.DIR_W2.VALUE, F.DIR_W3.VALUE] d).setDirState d 0
    some (match c with
      | some k => if k < 8 && s.capState k = 5 then (s.armCap k).getD s else s
      | none => s)

/-- ABORT: the open record of a capture closes at its current row, a session with its segment in progress cut
there (R371). -/
def recAbort (s : State) (c : Nat) : State :=
  let st := s.capState c
  match (if st = 3 ∨ s.capSession c ∧ (st = 2 ∨ st = 4) then (s.cap c).dir else none) with
  | none => s.setB F.CAP_STATUS.ALREADY_DONE true c
  | some d =>
    let x := s.cap c
    let s := match s.dirRec d with
      | some r => if s.capSession c && st = 3 then
          -- ROWS of the segment cut is the count of its rows written (R367)
          let n := r.rows.length - x.segAt - 1
          let h := (r.rows.getD x.segAt []).dropLast ++ [BitVec.ofNat 32 n]
          s.setDirRec d (some { r with rows := r.rows.set x.segAt h })
        else s
      | none => s
    (s.closeRec d stAborted true true).afterClose c (!s.capSession c)

/-- THAW: headers of frozen records are completed and captures with AUTO_ARM re-arm (R363). -/
def recThaw (s : State) : Option State :=
  if s.flag F.REC_STATUS.FREEZE_REQ then none
  else
    let s := s.setB F.REC_STATUS.FROZEN false
    let s := s.each (List.range 64) fun s d => match s.dirRec d with
      | some r => if hasBit r.status 8 && s.dirState d ≠ 1 then s.setDirRec d (some { r with status := s.get F.DIR_W0.FLAGS d }) else s
      | none => s
    some (s.each ((List.range 8).filter fun c => s.flag F.REC_STATUS.WIPE_DONE && s.flag F.CAP_CTRL.ENABLE c
        && s.flag F.CAP_CTRL.AUTO_ARM c && s.capState c = 6)
      fun s c => (s.armCap c).getD s)

/-- The operations of R369 by number: none where refused. -/
def recOp (s : State) (op unit arg point : Nat) : Option State :=
  match op with
  | 0 => some (s.recTrigger (arg % 256) point)
  | 1 => s.recArm unit
  | 2 => if unit < 8 then some (s.recDisarm unit) else none
  | 3 => s.recOffload arg
  | 4 => s.recRelease arg
  | 5 => if unit < 8 then some (s.recAbort unit) else none
  | 6 => s.recThaw
  | _ => none

/-- A management write of a capture's ENABLE (R377): a capture taken out of use closes an open record as ABORT
does; one put in use waits for the wipe, then to be armed (DESIGN CHOICE, log entry 117). -/
def capEnable (s : State) (c : Nat) : State :=
  if s.flag F.CAP_CTRL.ENABLE c then s.setCapState c (if s.flag F.REC_STATUS.WIPE_DONE then 6 else 1)
  else
    let s := match (s.cap c).dir with
      | some d => s.closeRec d stAborted true true
      | none => s
    (s.setCap c { s.cap c with ring := [], dir := none, left := 0, inSeg := false }).setCapState c 0

-- Overflow, compression, wipe (R362, R364, R368)

/-- A row falls due while the capture's buffer is full (R362). -/
def bufferOverflow (s : State) (c : Nat) : State :=
  if s.capState c = 3 then
    let s := s.bump F.CAP_CNT2.OVF 1 c
    match (s.cap c).dir with
    | some d => (s.closeRec d stOverflow true true).afterClose c false
    | none => s
  else if s.capState c = 2 then (s.bump F.CAP_CNT2.OVF 1 c).setCap c { s.cap c with ring := [] }
  else s

/-- Compression of a closed record starts while the power ledger permits (R368, R463). -/
def compressStart (s : State) (d : Nat) : State :=
  match s.dirRec d with
  | some r =>
    if s.dirState d = 2 && r.packed.isNone && r.cap < 8 && s.flag F.CAP_CTRL.COMPRESS r.cap && s.pwr.governs = 0
        && !s.flag F.REC_STATUS.FREEZE_REQ then s.setDirState d 3 else s
  | none => s

/-- A pause of compression leaves the entry CLOSED (R463). -/
def compressPause (s : State) : State :=
  s.each (List.range 64) fun s d => if s.dirState d = 3 then s.setDirState d 2 else s

/-- A new curtailment level governs from the opening of the loop stage: compression pauses at level 1 and
deeper (R463). -/
def govern (s : State) : State :=
  let l := s.get F.PWR_STATUS.CURTAIL
  let s := if l = 0 then s else s.compressPause
  { s with pwr := { s.pwr with governs := l } }

def compressDone (s : State) (d : Nat) : State :=
  match s.dirRec d with
  | some r =>
    if s.dirState d ≠ 3 then s
    else
      let ws := encRows (r.kind = 1) 0 none r.rows
      let fl := s.get F.DIR_W0.FLAGS d ||| stCompressed
      (s.putRec d { r with packed := some ws, compLen := 4 * ws.length, status := r.status ||| stCompressed } fl).setDirState d 2
  | none => s

/-- The record-memory wipe completes: START_CAT moves to the system region and captures with AUTO_ARM arm
(R364, R428). -/
def wipeDone (s : State) : State :=
  if s.flag F.REC_STATUS.WIPE_DONE || !s.flag F.REC_STATUS.MEM_PRESENT then s
  else
    let s := s.setB F.REC_STATUS.WIPE_DONE true
    let segs := s.vit.startCat
    let s := match (if segs = [] then none else s.freeDir) with
      | some d =>
        let r := { s.newRec 1 0xFE 0 0 with rows := segs, segments := segs.length, count := 0 }
        let s := (s.placeRec d r 0).closeRec d stComplete false true
        { s with vit := { s.vit with startCat := [], startMoved := true } }
      | none => s
    let s := if s.vit.startCat = [] then s.set F.REC_STATUS.STAGING_KIB 0 else s
    s.each ((List.range 8).filter fun c => s.flag F.CAP_CTRL.ENABLE c) fun s c =>
      if s.flag F.CAP_CTRL.AUTO_ARM c && !s.flag F.REC_STATUS.FROZEN then (s.armCap c).getD (s.setCapState c 6) else s.setCapState c 6

/-- A word of the offload window (R370). -/
def windowWord (s : State) (w : Nat) : Word :=
  match s.dirRec (s.get F.REC_WIN_POS.DIR) with
  | some r => if s.dirState (s.get F.REC_WIN_POS.DIR) = 0 then 0 else r.words.getD (s.get F.REC_WIN_POS.OFFSET * 4096 + w) 0
  | none => 0

def windowSelect (s : State) (d ofs : Nat) : State := (s.set F.REC_WIN_POS.DIR d).set F.REC_WIN_POS.OFFSET ofs

def recCntClear (s : State) : State :=
  let s := s.clearAll [F.REC_ECC.UNCORR, F.REC_ECC.CORR]
  let s := s.each (List.range 8) fun s u => s.clearAll [F.PAT_CNT.FIRED, F.PAT_CNT.SUPPRESSED] u
  let s := s.each (List.range 2) fun s u => s.clearAll [F.SEQ_CNT.FIRED, F.SEQ_CNT.SUPPRESSED] u
  s.each (List.range 8) fun s c => s.clearAll [F.CAP_CNT.MISSED, F.CAP_CNT.TRIG_BUSY, F.CAP_CNT.NO_SLOT, F.CAP_CNT2.RECORDS, F.CAP_CNT2.OVF] c

end State

/-- REC_INTERVAL (R350 to R358): interval k of the tick ends; offs are the first assertions of sources
after its start, codes and busy the conversion a snapshot would make. -/
def execRecInterval (k : Nat) (offs : List ((Nat × Nat) × Nat)) (codes : List (BitVec 16)) (busy : Bool) (s : State) :
    Host.Outcome State Fault Refusal := .next (s.interval k offs codes busy)

/-- SEQ_COUNT_COMPLETE (R355): a state has reached COUNT. -/
def execSeqCountComplete (q : Fin 2) (s : State) : Host.Outcome State Fault Refusal := .next (s.seqCount q 0).2

/-- SEQ_TIMER_EXPIRY (R355): a state's TIMER has run. -/
def execSeqTimerExpiry (q : Fin 2) (s : State) : Host.Outcome State Fault Refusal := .next (s.seqTimer q)

/-- HOLDOFF_END (R356): HOLDOFF µs have passed since the trigger point of a unit with HOLD_MODE = 0. -/
def execHoldoffEnd (u : Fin 10) (s : State) : Host.Outcome State Fault Refusal :=
  .next (if (s.unit u).hold && s.unitCtl u F.PAT_CTRL.HOLD_MODE F.SEQ_CTRL.HOLD_MODE = 0 then s.setUnit u { s.unit u with ended := true } else s)

/-- RECORD_CLOSE (R359, R361): the open record has its POST rows. -/
def execRecordClose (c : Fin 8) (s : State) : Host.Outcome State Fault Refusal := .next (s.closeDone c)

/-- SEGMENT_REARM (R361). -/
def execSegmentRearm (c : Fin 8) (s : State) : Host.Outcome State Fault Refusal :=
  .next (if s.capState c = 4 then (s.setCap c { s.cap c with ring := [] }).setCapState c 2 else s)

/-- BUFFER_OVERFLOW (R362). -/
def execBufferOverflow (c : Fin 8) (s : State) : Host.Outcome State Fault Refusal := .next (s.bufferOverflow c)

/-- COMPRESSION_START (R368). -/
def execCompressionStart (d : Fin 64) (s : State) : Host.Outcome State Fault Refusal := .next (s.compressStart d)

/-- COMPRESSION_COMPLETE (R368). -/
def execCompressionComplete (d : Fin 64) (s : State) : Host.Outcome State Fault Refusal := .next (s.compressDone d)

/-- RECORD_WIPE_COMPLETE (R364, R428). -/
def execRecordWipeComplete (s : State) : Host.Outcome State Fault Refusal := .next s.wipeDone

end Sys2Proof.Machine
end

