-- ==== Sys2Proof/Machine/Fields.lean ====
section
/-!
DEFINITION. The register tables as writes are checked against them (R6 to R10, R465): which register
an address names, which fields a write counts as written, their locks and ranges, and what a stored
field does besides.
-/

namespace Sys2Proof.Machine

/-- The register table of an address's window (R465). -/
def regTableAt (a : Nat) : List RegDesc :=
  if a < 0x10000 then regTable_global
  else if a < 0x20000 then regTable_sched
  else if a < 0x40000 then regTable_lane
  else if a < 0x60000 then regTable_link
  else if a < 0x80000 then regTable_catalogue
  else if a < 0xA0000 then regTable_observer
  else if a < 0xB0000 then regTable_select
  else if a < 0xB0100 then regTable_tick
  else if a < 0xC0000 then regTable_edge
  else if a < 0x510000 then regTable_loop
  else if a < 0x520000 then regTable_measure
  else if a < 0x530000 then regTable_twin
  else if a < 0x540000 then regTable_station
  else if a < 0x550000 then regTable_time
  else if a < 0x560000 then regTable_record
  else if a < 0x570000 then regTable_curator
  else if a < 0x580000 then regTable_boot
  else if a < 0x590000 then regTable_check
  else regTable_sched

/-- The element of a register array an address names. -/
def RegDesc.elem (d : RegDesc) (a : Nat) : Option (Nat × Nat) :=
  if a < d.base then none
  else
    let o := a - d.base
    let i := if d.s1 = 0 then 0 else o / d.s1
    let r := o - i * d.s1
    let j := if d.s2 = 0 then 0 else r / d.s2
    if r = j * d.s2 && i < d.n1 && j < d.n2 then some (i, j) else none

/-- The register at an address. -/
def regAt (a : Nat) : Option (RegDesc × Nat × Nat) :=
  (regTableAt a).findSome? fun d => (d.elem a).map fun ij => (d, ij)

/-- The address lies in some window of R465. -/
def mapped (a : Nat) : Bool := decide (a < 0x5A0000)

/-- The address lies in the coefficient memory (R239, R465). -/
def isCoef (a : Nat) : Bool := decide (0x100000 ≤ a ∧ a < 0x500000)

/-- A field's bits of a word. -/
def FieldDesc.val (f : FieldDesc) (w : Word) : Nat := bits w.toNat f.hi f.lo

/-- A value lies in the field's stated range (R10). -/
def FieldDesc.inRange (f : FieldDesc) (v : Nat) : Bool :=
  f.range.isEmpty || f.range.any fun r => decide (r.1 ≤ v ∧ v ≤ r.2)

/-- A word with some bits of a field set to a value's. -/
def FieldDesc.put (f : FieldDesc) (w : Word) (v : Nat) : Word := BitVec.ofNat 32 (withBits w.toNat f.hi f.lo v)

/-- A write counts the field as written (R10): a stored value it changes, a bit it clears or sets, an
act it causes. A command bit acts on 1; a command field of several bits acts on every write. -/
def FieldDesc.written (f : FieldDesc) (old new : Word) : Bool :=
  match f.access with
  | .ro | .roh => false
  | .rw => f.val old != f.val new
  | .w1c | .w1s => f.val new != 0
  | .wo => f.hi != f.lo || f.val new != 0

/-- The states in which a lock code admits a write (R9): 0 BLANK to 5 DECOMMISSIONED. -/
def Lock.admits (l : Lock) (st : Nat) (byOrder : Bool) : Bool :=
  st != 5 && match l with
    | .any => true
    | .cfg => st != 3
    | .live => byOrder || st != 3
    | .com => st == 2
    | .none => false

/-- Bits of LANE_CTRL that lane i's family does not use, and which read 0 (R67): STN_TRAIN, STN_FEC and
STN_RATE but on STN lanes; TAP_MODE and GEN_MAX but on CELL lanes. -/
def laneUnused (i : Nat) : Word :=
  if i < 64 then 0x1E0000#32 else if i < 68 then 0x1E0046#32 else 0x46#32

/-- The word as element i of a register keeps it: bits the element does not use stay as they were, 0 from
reset on. -/
def RegDesc.kept (d : RegDesc) (i : Nat) (old w : Word) : Word :=
  if d.base = 0x20000 then (w &&& ~~~(laneUnused i)) ||| (old &&& laneUnused i) else w

namespace State

/-- INDEX of a record channel within what its KIND names (R348). -/
def chanRange (kind idx : Nat) : Bool :=
  match kind with
  | 0 => true
  | 1 => decide (idx < 4096)
  | 2 | 6 => decide (idx < 24)
  | 3 | 4 => decide (idx < 6144)
  | 5 => decide (idx < 64)
  | 7 => idx = 0
  | _ => false

/-- CLASS and INDEX of a condition bit's source within the table of R352. -/
def condRange (sel : Nat) : Bool :=
  let idx := sel % 4096
  match sel / 4096 with
  | 0 => true
  | 1 | 2 => decide (idx ≤ 7)
  | 3 | 4 => decide (idx ≤ 23)
  | 5 => decide (idx ≤ 64)
  | 6 => decide (idx ≤ 255)
  | 7 => decide (idx ≤ 4)
  | 8 => decide (idx ≤ 15)
  | 9 => decide (idx ≤ 8)
  | 10 => decide (idx ≤ 9)
  | _ => false

/-- Limits of a field that depend on another one: MIN_CELLS to the arm's declared count (R145), PHASE
below DIVIDER (R247), RS-FEC on 25GBASE-R alone (R67), INDEX within KIND and CLASS (R348, R352). -/
def rangeRest (s : State) (d : RegDesc) (i : Nat) (w : Word) : Bool :=
  if d.base = 0x78440 then
    let m := F.CAT_ARM.MIN_CELLS.ofWord w
    decide (1 ≤ m ∧ m ≤ (s.armCells i).length)
  else if d.base = 0x20000 then
    decide (i < 68) || !(F.LANE_CTRL.STN_FEC.ofWord w = 2 && F.LANE_CTRL.STN_RATE.ofWord w = 0)
  else if d.base = 0x550100 then condRange (F.REC_COND_SEL.SEL_ODD.ofWord w) && condRange (F.REC_COND_SEL.SEL_EVEN.ofWord w)
  else if d.base = 0x554000 then chanRange (F.REC_CH.KIND.ofWord w) (F.REC_CH.INDEX.ofWord w)
  else if d.base = 0xC0004 then decide (F.CTX_SCHED.PHASE.ofWord w < F.CTX_SCHED.DIVIDER.ofWord w)
  else true

/-- What storing a register does besides, old being its word before: members of the safety set are
checked again (R407), and units, contexts, channels and the servo take the change up. -/
def stored (s : State) (d : RegDesc) (i : Nat) (a : Nat) (old : Word) : State :=
  let new := s.reg a
  let s := if d.base = 0x98400 then s.missLowered (F.OBS_CTRL.MISS_MAX.ofWord old)
    else if d.base = 0x510000 then
      (if F.MCH_CTRL.RANGE.ofWord old = F.MCH_CTRL.RANGE.ofWord new then s else s.rangeWritten i).rearm i
    else if d.base = 0xC0008 then s.coefTouched i
    else if d.base = 0x550400 ∨ d.base = 0x550600 then
      let u := if d.base = 0x550400 then i else 8 + i
      let was := old.toNat / 2 ^ 31 = 1
      let now := new.toNat / 2 ^ 31 = 1
      if now ∧ ¬was then s.armUnit u
      else if was ∧ ¬now then s.setUnit u { s.unit u with armed := false, hold := false, ended := false }
      else s
    else if d.base = 0x550800 then
      (if F.CAP_CTRL.ENABLE.ofWord old = F.CAP_CTRL.ENABLE.ofWord new then s else s.capEnable i)
    else if d.base = 0x540024 then (if new.toNat / 2 ^ 30 = 0 ∧ old.toNat / 2 ^ 30 ≠ 0 then s.servoFree else s)
    else s
  if inSafetySet a then (s.recheck.checkIlp).refreshOk else s

end State

end Sys2Proof.Machine
end

