-- ==== Sys2Proof/Machine/Orders.lean ====
section
/-!
DEFINITION. Station orders at their apply tick (R322, R324): the effect of every item, the outcome of
an order, and the order in which due orders apply.
-/

namespace Sys2Proof.Machine

/-- Why an item is invalid: RESULT, DETAIL where it is not the item's index, and bits 22 to 8 of
TICK_STAGE as a refused commit leaves them (R36, R322). -/
structure Bad where
  result : Nat
  detail : Option Nat := none
  stage : Option Nat := none
deriving DecidableEq, Repr

namespace State

/-- In DECOMMISSIONED registers are read-only: an order with a target of its own finds it LOCKED (R9, R322). -/
def decommissioned (s : State) : Bool := s.get F.LC_STATE.STATE = 5

/-- SETPOINT (R242, R324). -/
def itemSetpoint (s : State) (idx : Nat) (v : Word) : State ⊕ Bad :=
  if s.decommissioned then .inr { result := 1 }
  else if 4096 ≤ idx then .inr { result := 2 }
  else if s.sigKind idx ≠ 6 then .inr { result := 4 }
  else .inl ((s.setSig idx v).setSigOk idx true)

/-- The declared arms of a mask. -/
def maskArms (s : State) (mask : Nat) : List Nat := s.declaredArms.filter fun a => mask / 2 ^ a % 2 = 1

/-- DEBLOCK (R146, R324, R398, R400, R431): Safe Block, then the states and requests that refuse it, then
an arm below MIN_CELLS. An arm already deblocked is unaffected. -/
def itemDeblock (s : State) (mask : Nat) : State ⊕ Bad :=
  let lc := s.get F.LC_STATE.STATE
  if s.flag F.SAFE_STATUS.SBK then .inr { result := 5, detail := some 0 }
  else if lc = 0 || lc = 1 || lc = 5 || s.boot.armed.isSome || s.cur.ilpReq || s.flag F.SAFE_STATUS.ILP_GRANTED then
    .inr { result := 3 }
  else if (s.maskArms mask).any fun a => !(s.arm a).deblocked && decide (s.get F.CAT_ARM.AVAIL a < s.get F.CAT_ARM.MIN_CELLS a) then
    .inr { result := 3 }
  else .inl ((s.each (s.maskArms mask) fun s a => s.deblockArm a).checkIlp)

/-- BLOCK: never refused (R324). -/
def itemBlock (s : State) (mask : Nat) : State ⊕ Bad := .inl (s.each (s.maskArms mask) fun s a => s.blockArm a)

/-- A context operation that its own rule may refuse. -/
def ctxItem (r : Option State) : State ⊕ Bad :=
  match r with
  | some s => .inl s
  | none => .inr { result := 3 }

/-- INJ_STOP by order. One that lands with the run of completion still to come in the tick changes nothing:
the injection completes with that run (R266). -/
def orderInjStop (s : State) (c : Nat) : State :=
  let last := s.tick.stage = .idle && s.ctxSlot c && !(s.shadowSkip && s.ctxModeOf c = 2) && s.injLive c
    && decide (s.get F.CTX_INJ_CTRL.DURATION c ≤ (s.ctx c).injM + 1)
  if last then s.setB F.CTX_INJ_STATUS.ALREADY_DONE true c else s.injStop c

/-- CONTEXT by OP (R252, R255, R262, R266). -/
def itemContext (s : State) (c op : Nat) : State ⊕ Bad :=
  if s.decommissioned then .inr { result := 1 }
  else if 192 ≤ c then .inr { result := 2 }
  else match op with
    | 0 => ctxItem (s.ctxMode c 0)
    | 1 => ctxItem (s.ctxMode c 1)
    | 2 => ctxItem (s.ctxMode c 2)
    | 3 => ctxItem (s.promote c)
    | 4 => .inl (s.ctxFaultReset c)
    | 5 => ctxItem (s.injStart c s.tickNo)
    | 6 => .inl (s.orderInjStop c)
    | _ => .inr { result := 2 }

/-- An index the catalogue has an entry for. -/
def inCatalogue (s : State) (i : Nat) : Bool := decide (i < (s.strings.map s.declared).sum)

/-- CELL by OP (R138, R139, R141, R176). -/
def itemCell (s : State) (i op v : Nat) : State ⊕ Bad :=
  if s.decommissioned then .inr { result := 1 }
  else if !s.inCatalogue i then .inr { result := 2 }
  else match op with
    | 0 => .inl (s.catArise i 16)
    | 1 => .inl ((s.catClear i 15).catClear i 16)
    | 2 => .inl (s.setSvc i 4)
    | 3 => .inl (s.gradeReset i)
    | 4 => if (s.arm (s.cellArm i)).deblocked then .inr { result := 3 } else .inl (s.set F.CAT_ENTRY_W3.WEAR v i)
    | _ => .inr { result := 2 }

/-- COMMIT and DISCARD by order (R35 to R37): the apply tick is the present one. -/
def orderCommit (s : State) (com dis : Bool) : State ⊕ Bad :=
  if com && dis then .inr { result := 3 }
  else if dis then
    match s.discard with
    | some s => .inl s
    | none => .inr { result := 8, detail := some 8 }
  else if com then
    let (code, t) := s.commit true s.tickNo
    if code = 0 then .inl t
    else .inr { result := 8, detail := some code, stage := some (bits (t.reg 0xB0024).toNat 22 8) }
  else .inl s

/-- CTX_CMD by order: INJ_START, INJ_STOP and FAULT_RESET. -/
def orderCtxCmd (s : State) (c w : Nat) : State ⊕ Bad :=
  let s := if bits w 1 1 = 1 then s.ctxFaultReset c else s
  let s := if bits w 3 3 = 1 then s.orderInjStop c else s
  if bits w 4 4 = 1 then ctxItem (s.injStart c s.tickNo) else .inl s

/-- PARAM: a read-modify-write of LIVE fields, each field the mask covers checked on its own (R324); bits
that belong to no field are ignored (R7). -/
def itemParam (s : State) (a v mask : Nat) : State ⊕ Bad :=
  match regAt a with
  | none => .inr { result := 4 }
  | some (d, i, _) =>
    let old := s.reg a
    let new : Word := (old &&& ~~~BitVec.ofNat 32 mask) ||| (BitVec.ofNat 32 v &&& BitVec.ofNat 32 mask)
    let fs := d.fields.filter fun f => bits mask f.hi f.lo != 0
    if fs.any fun f => f.lock != .live then .inr { result := 4 }
    else if s.decommissioned then .inr { result := 1 }
    else if fs.any fun f => !f.inRange (f.val new) then .inr { result := 2 }
    else if fs.isEmpty then .inl s
    else if 0xB0010 ≤ a ∧ a < 0xB0020 then
      match s.stageWrite ((a - 0xB0010) / 4) (bits new.toNat 14 0) with
      | some s => .inl s
      | none => .inr { result := 8, detail := some 8 }
    else if a = 0xB0020 then
      let w := Nat.land v mask
      s.orderCommit (bits w 0 0 = 1) (bits w 1 1 = 1)
    else if d.base = 0xC0030 then s.orderCtxCmd i (Nat.land v mask)
    else if d.base = 0xC0000 then ctxItem (s.modeWrite i (F.CTX_CTRL.MODE.ofWord new))
    else .inl ((s.setReg a (fs.foldl (fun w f => f.put w (f.val new)) old)).stored d i a old)

/-- RECORD (R369). A trigger's instant is the opening of the compute window. -/
def itemRecord (s : State) (op unit arg : Nat) : State ⊕ Bad :=
  let openAt := (s.cutoffNs + 350) * 32
  if s.decommissioned then .inr { result := 1 }
  else if 6 < op ∨ (op = 1 ∨ op = 2 ∨ op = 5) ∧ 8 ≤ unit ∨ (op = 3 ∨ op = 4) ∧ 64 ≤ arg then .inr { result := 2 }
  else ctxItem (s.recOp op unit arg openAt)

/-- Bytes of an item, by CODE. -/
def itemSize (code : Nat) : Nat :=
  match code with
  | 1 | 5 | 7 => 8
  | 6 => 12
  | _ => 4

/-- One item by its CODE and bytes (R324). -/
def item (s : State) (code : Nat) (b : List Nat) : State ⊕ Bad :=
  match code with
  | 1 => s.itemSetpoint (fieldAt b 0 2) (BitVec.ofNat 32 (fieldAt b 4 4))
  | 2 => s.itemDeblock (fieldAt b 0 2)
  | 3 => s.itemBlock (fieldAt b 0 2)
  | 4 => s.itemContext (fieldAt b 0 1) (fieldAt b 1 1)
  | 5 => s.itemCell (fieldAt b 0 2) (fieldAt b 2 1) (fieldAt b 4 4)
  | 6 => s.itemParam (fieldAt b 0 4) (fieldAt b 4 4) (fieldAt b 8 4)
  | 7 => s.itemRecord (fieldAt b 0 1) (fieldAt b 1 1) (fieldAt b 4 4)
  | _ => .inr { result := 7, detail := some 0 }

/-- Items n to n + k − 1 of an order, each judged from the state the items before it leave; the index
and cause of the first invalid one. -/
def items (s : State) (code : Nat) (b : List Nat) (n : Nat) : Nat → State ⊕ (Nat × Bad)
  | 0 => .inl s
  | k + 1 =>
    match s.item code (b.drop (n * itemSize code)) with
    | .inl s => items s code b (n + 1) k
    | .inr e => .inr (n, e)

/-- An order's outcome: RESULT, DETAIL and the state. With any invalid item none applies; a refused
commit leaves its code in TICK_STAGE (R36, R322). -/
def runOrder (s : State) (o : JOrder) : Nat × Nat × State :=
  let b := fromBytes o.items
  if o.tooFar then (6, 0, s)
  else if o.code = 0 ∨ 7 < o.code then (7, 0, s)
  else if o.count = 0 ∨ 16 < o.count ∨ b.length < o.count * itemSize o.code then (2, 0, s)
  else match s.items o.code b 0 o.count with
    | .inl t => (0, 0, t)
    | .inr (n, e) =>
      let s := match e.stage with
        | some v => s.setReg 0xB0024 (BitVec.ofNat 32 (withBits (s.reg 0xB0024).toNat 22 8 v))
        | none => s
      (e.result, e.detail.getD n, s)

/-- An order applies: its entry is freed, APPLIED follows, and DONE leaves after the hand-over (R322,
R323). -/
def applyOrder (s : State) (o : JOrder) : State :=
  let (res, det, s) := s.runOrder o
  let s := { s with stn := { s.stn with journal := s.stn.journal.erase o } }
  if s.sessTag o.slot ≠ o.tag then s
  else
    let s := (s.setApplied o.slot (max (s.applied o.slot) o.seq)).showCredit o.slot
    if 2 ≤ s.sessVer o.slot && s.sessHome o.slot then { s with stn := { s.stn with dones := s.stn.dones ++ [(o, res, det)] } }
    else s

/-- Orders due by tick n, by apply tick, SLOT and accession number (R322). -/
def dueOrders (s : State) (n : Nat) : List JOrder :=
  (s.stn.journal.filter fun o => decide (o.apply ≤ n)).mergeSort fun a b =>
    decide (a.apply < b.apply ∨ a.apply = b.apply ∧ (a.slot < b.slot ∨ a.slot = b.slot ∧ a.seq ≤ b.seq))

/-- Every due order applies, at the opening of the compute window (R322). -/
def applyDue (s : State) : State := s.each (s.dueOrders s.tickNo) fun s o => s.applyOrder o

/-- DONE of the orders applied in the tick (R316, R322). -/
def sendDones (s : State) : State :=
  let s := s.each s.stn.dones fun s d =>
    let o := d.1
    if s.sessTag o.slot = o.tag then
      s.tellSess o.slot 0x13 o.seq (Crc.bytesBE 8 o.apply ++ [d.2.1, 0] ++ Crc.bytesBE 2 d.2.2 ++ Crc.bytesBE 2 (s.credit o.slot))
    else s
  { s with stn := { s.stn with dones := [] } }

/-- The state an item leaves, or the present one where it is invalid. -/
def itemOr (s : State) (r : State ⊕ Bad) : State :=
  match r with
  | .inl t => t
  | .inr e => match e.stage with
    | some v => s.setReg 0xB0024 (BitVec.ofNat 32 (withBits (s.reg 0xB0024).toNat 22 8 v))
    | none => s

end State

/-- ORDER_SETPOINT (R324). -/
def execOrderSetpoint (idx : Fin 4096) (v : Word) (s : State) : Host.Outcome State Fault Refusal :=
  .next (s.itemOr (s.itemSetpoint idx v))

/-- ORDER_DEBLOCK (R324). -/
def execOrderDeblock (mask : BitVec 16) (s : State) : Host.Outcome State Fault Refusal :=
  .next (s.itemOr (s.itemDeblock mask.toNat))

/-- ORDER_BLOCK (R324). -/
def execOrderBlock (mask : BitVec 16) (s : State) : Host.Outcome State Fault Refusal :=
  .next (s.itemOr (s.itemBlock mask.toNat))

/-- ORDER_CTX_OFF (R252). -/
def execOrderCtxOff (c : Fin 192) (s : State) : Host.Outcome State Fault Refusal := .next (s.itemOr (s.itemContext c 0))

/-- ORDER_CTX_LIVE (R252). -/
def execOrderCtxLive (c : Fin 192) (s : State) : Host.Outcome State Fault Refusal := .next (s.itemOr (s.itemContext c 1))

/-- ORDER_CTX_SHADOW (R252). -/
def execOrderCtxShadow (c : Fin 192) (s : State) : Host.Outcome State Fault Refusal := .next (s.itemOr (s.itemContext c 2))

/-- ORDER_CTX_PROMOTE (R255). -/
def execOrderCtxPromote (c : Fin 192) (s : State) : Host.Outcome State Fault Refusal := .next (s.itemOr (s.itemContext c 3))

/-- ORDER_CTX_FAULT_RESET (R262). -/
def execOrderCtxFaultReset (c : Fin 192) (s : State) : Host.Outcome State Fault Refusal :=
  .next (s.itemOr (s.itemContext c 4))

/-- ORDER_INJ_START (R266). -/
def execOrderInjStart (c : Fin 192) (s : State) : Host.Outcome State Fault Refusal := .next (s.itemOr (s.itemContext c 5))

/-- ORDER_INJ_STOP (R266). -/
def execOrderInjStop (c : Fin 192) (s : State) : Host.Outcome State Fault Refusal := .next (s.itemOr (s.itemContext c 6))

/-- ORDER_CELL_EXCLUDE (R138). -/
def execOrderCellExclude (i : Fin 6144) (s : State) : Host.Outcome State Fault Refusal := .next (s.itemOr (s.itemCell i 0 0))

/-- ORDER_CELL_RELEASE (R138). -/
def execOrderCellRelease (i : Fin 6144) (s : State) : Host.Outcome State Fault Refusal := .next (s.itemOr (s.itemCell i 1 0))

/-- ORDER_CELL_RETIRE (R139). -/
def execOrderCellRetire (i : Fin 6144) (s : State) : Host.Outcome State Fault Refusal := .next (s.itemOr (s.itemCell i 2 0))

/-- ORDER_GRADE_RESET (R176). -/
def execOrderGradeReset (i : Fin 6144) (s : State) : Host.Outcome State Fault Refusal := .next (s.itemOr (s.itemCell i 3 0))

/-- ORDER_WEAR_SET (R141). -/
def execOrderWearSet (i : Fin 6144) (v : Word) (s : State) : Host.Outcome State Fault Refusal :=
  .next (s.itemOr (s.itemCell i 4 v.toNat))

/-- ORDER_PARAM (R324). -/
def execOrderParam (addr value mask : Word) (s : State) : Host.Outcome State Fault Refusal :=
  .next (s.itemOr (s.itemParam addr.toNat value.toNat mask.toNat))

/-- RECORD_TRIGGER (R369). -/
def execRecordTrigger (caps : BitVec 8) (s : State) : Host.Outcome State Fault Refusal :=
  .next (s.itemOr (s.itemRecord 0 0 caps.toNat))

/-- RECORD_ARM (R369). -/
def execRecordArm (c : Fin 8) (s : State) : Host.Outcome State Fault Refusal := .next (s.itemOr (s.itemRecord 1 c 0))

/-- RECORD_DISARM (R369). -/
def execRecordDisarm (c : Fin 8) (s : State) : Host.Outcome State Fault Refusal := .next (s.itemOr (s.itemRecord 2 c 0))

/-- RECORD_OFFLOAD (R369). -/
def execRecordOffload (d : Fin 64) (s : State) : Host.Outcome State Fault Refusal := .next (s.itemOr (s.itemRecord 3 0 d))

/-- RECORD_RELEASE (R369). -/
def execRecordRelease (d : Fin 64) (s : State) : Host.Outcome State Fault Refusal := .next (s.itemOr (s.itemRecord 4 0 d))

/-- RECORD_ABORT (R371). -/
def execRecordAbort (c : Fin 8) (s : State) : Host.Outcome State Fault Refusal := .next (s.itemOr (s.itemRecord 5 c 0))

/-- RECORD_THAW (R363). -/
def execRecordThaw (s : State) : Host.Outcome State Fault Refusal := .next (s.itemOr (s.itemRecord 6 0 0))

end Sys2Proof.Machine
end

