-- ==== Sys2Proof/Machine/ImageCheck.lean ====
section
/-!
DEFINITION. Loading the image and the image check of R425: the words of an image taken into the
registers, and the checks in their order, each with its code.
-/

namespace Sys2Proof.Machine

/-- Every register table. -/
def allTables : List RegDesc :=
  regTable_global ++ regTable_sched ++ regTable_lane ++ regTable_link ++ regTable_catalogue ++ regTable_observer
    ++ regTable_select ++ regTable_tick ++ regTable_edge ++ regTable_loop ++ regTable_measure ++ regTable_twin
    ++ regTable_station ++ regTable_time ++ regTable_record ++ regTable_curator ++ regTable_boot ++ regTable_check

/-- Mask of a register's bits that the image loads (R8). -/
def RegDesc.imgMask (d : RegDesc) : Nat :=
  (d.fields.filter (·.img)).foldl (fun m f => m + (2 ^ (f.hi + 1 - f.lo) - 1) * 2 ^ f.lo) 0

namespace State

-- Loading

/-- One word of the image: its img fields take the image's values; coefficient words are stored whole (R8, R239). -/
def loadWord (s : State) (w : Nat × Word) : State :=
  if isCoef w.1 then s.setReg w.1 w.2
  else match regAt w.1 with
    | some (d, i, _) =>
      let m := BitVec.ofNat 32 d.imgMask
      s.setReg w.1 (d.kept i (s.reg w.1) ((s.reg w.1 &&& ~~~m) ||| (w.2 &&& m)))
    | none => s

/-- A catalogue entry as the image declares it (R128, R137): string, position, arm, KIND and bypass fitting. -/
def loadCell (s : State) (r : ImageRead) (k p : Nat) : State :=
  let i := s.base k + p
  let c := r.cells.getD i (false, false)
  let s := ((s.set F.CAT_ENTRY_W0.STRING k i).set F.CAT_ENTRY_W0.POSITION p i).set F.CAT_ENTRY_W0.ARM (s.get F.CAT_STR_INFO.ARM k) i
  (s.setB F.CAT_ENTRY_W0.KIND c.1 i).setB F.CAT_ENTRY_W0.BYPASS c.2 i

/-- Codes that hold from the start for a string that is not in use: UNUSED (R145). -/
def loadStrings (s : State) : State :=
  s.each (List.range 64) fun s k =>
    if s.declared k = 0 then s.set F.CAT_STR_REACH.CODE 8 k else s

/-- The signal table at load: CONST and STATION entries are valid, and the entries of SHADOW contexts
are while the context is SHADOW (R242). -/
def loadSignals (s : State) : State :=
  let s := s.each (List.range 4096) fun s i => if s.sigKind i = 1 || s.sigKind i = 6 then s.setSigOk i true else s
  s.each s.ctxs192 fun s c => if s.ctxModeOf c = 2 then s.setShadowOk c true else s

/-- The stage lengths in LOOP cycles: observer, ledger, loop, selection, and edge with coast (R183, R206, R233, R249). -/
def stageCycles (s : State) : Nat × Nat × Nat × Nat × Nat :=
  let n := s.allCells.length
  let a := s.declaredArms.length
  let m := (s.declaredArms.map fun x => (s.armCells x).length).foldl max 0
  (40 + (n + 31) / 32, 24 + (n + 63) / 64, s.loopStageLen, 40 + 2 * ((m + 7) / 8) + 4 * a,
    24 + (n + 127) / 128 + 2 * a + (16 + 2 * a + (n + 255) / 256))

/-- The schedule registers hold what their rules give for the image loaded (R250; DEDUCED, log entry 110). -/
def storeSchedules (s : State) : State :=
  let (o, l, p, e, g) := s.stageCycles
  let s := (s.set F.LOOP_STATUS.STAGE p).set F.SEL_SCHEDULE.CYCLES e
  (s.set F.EDGE_SCHEDULE.CYCLES g).set F.COMPUTE_SCHEDULE.CYCLES (min 65535 (o + l + p + e + g))

/-- The image taken into the device (R8, R126 to R128, R239, R269, R327, R423): every declared block is
sealed, and PERIOD_MISMATCH and SAFE_CHECK follow (R241, R407). Without a twin TWIN_ROLE is ignored (R274). -/
def loadImage (s : State) (r : ImageRead) : State :=
  let s := (s.each r.regs loadWord).each r.coefs loadWord
  let s := { s with img := { models := r.models, plantTag := r.plantTag, acceptTag := r.acceptTag, stream0 := r.stream0,
                             memGiB := r.memGiB, keyDigest := r.keyDigest,
                             ratings := r.ratings.foldl (fun m (x : Nat × Nat × Nat) => AMap.put (fun _ => (0, 0)) m x.1 x.2) [],
                             gates := r.gates.foldl (fun m (x : Nat × List (Nat × Nat)) => AMap.put (fun _ => []) m x.1 x.2) [],
                             keys := r.keys.foldl (fun m (x : Nat × List Byte) => AMap.put (fun _ => []) m x.1 x.2) [] } }
  let s := s.each s.strings fun s k => s.each (List.range (s.declared k)) fun s p => s.loadCell r k p
  let s := s.loadStrings.loadSignals
  let s := s.each s.ctxs192 fun s c => (s.clearHeader c).setB F.CTX_STATUS.SEALED true c
  let s := (s.set F.IMAGE_TAG_LO.TAG (r.imageTag.toNat % 2 ^ 32)).set F.IMAGE_TAG_HI.TAG (r.imageTag.toNat / 2 ^ 32)
  let s := if s.flag F.TWIN_CTRL.TWIN_EN then s else s.setB F.TWIN_STATUS.ROLE false
  s.storeSchedules.storeWindow.periodCheck.recheck

-- LIMITS (R4, R127, R128)

def limitsOk (s : State) (r : ImageRead) : Bool :=
  let ks := s.strings
  let total := (ks.map s.declared).sum
  decide (1 ≤ total ∧ total ≤ 6144) && decide (r.cells.length = total)
    && ks.all (fun k => decide (s.declared k ≤ 128) && decide (1 ≤ s.get F.CAT_STR_INFO.GEN_DECL k)
        && decide (s.base k = ((ks.filter fun j => decide (j < k)).map s.declared).sum))
    && (List.range 16).all (fun a => decide (((ks.filter fun k => s.get F.CAT_STR_INFO.ARM k = a).map s.declared).sum ≤ 768))
    && decide (r.memGiB ≤ 16)

-- PARAM_RANGE

/-- Every img field of one element lies in its range. The arms the image declares no cells for have no
MIN_CELLS to hold (R145), lanes other than CELL lanes no GEN_MAX (R67), undeclared contexts nothing (R271). -/
def elemOk (s : State) (d : RegDesc) (i j : Nat) : Bool :=
  let a := d.base + d.s1 * i + d.s2 * j
  d.base = 0x78440 && !s.declaredArms.contains i || decide (0xC0000 ≤ d.base ∧ d.base < 0xD8000) && !s.ctxDeclared i
    || (d.fields.all fun f => !f.img || d.base = 0x20000 && f.lo = 1 && decide (64 ≤ i) || f.inRange (f.val (s.reg a)))
      && (d.base = 0xC0004 || s.rangeRest d i (s.reg a))

/-- ILP_OUT names an enabled output whose ROLE is PERMIT (R400). -/
def ilpOutOk (s : State) : Bool :=
  s.outEnabled (s.get F.ILP_CFG.ILP_OUT) && s.outPermit (s.get F.ILP_CFG.ILP_OUT)

def rangesHold (s : State) : Bool :=
  (allTables.filter fun d => decide (d.imgMask ≠ 0)).all (fun d =>
      (List.range d.n1).all fun i => (List.range d.n2).all fun j => s.elemOk d i j)
    && s.ilpOutOk

-- PRODUCER (R148, R179, R188, R243)

/-- Channels in use. -/
def usedChans (s : State) : List Nat := (List.range 24).filter fun n => s.flag F.MCH_CTRL.ENABLE n

/-- R148: no two channels share an entry, each entry is a channel's alone, and what a channel names of a stream is there. -/
def chansOk (s : State) : Bool :=
  let ns := s.usedChans
  let ix := ns.map fun n => s.get F.MCH_CTRL.SIG_INDEX n
  decide ix.Nodup && ix.all (fun i => decide (s.sigKind i = 2))
    && ns.all fun n =>
      let k := s.get F.MCH_CTRL.SV_STREAM n
      !s.flag F.MCH_CTRL.SOURCE n || s.flag F.SV_CTRL.ENABLE k && decide (s.get F.MCH_CTRL.SV_VALUE n ≤ s.get F.SV_CTRL.NVALUES k)

/-- R179: the ledger's range lies in the table and is the ledger's alone. -/
def ledgerOk (s : State) : Bool :=
  let b := s.get F.OBS_CTRL3.LEDGER_BASE
  decide (b ≤ 4011) && (List.range 85).all fun j => decide (s.sigKind (b + j) = 3)

/-- R188: REF_SIG and SLOPE_SIG of every declared arm are of kind CONTEXT and the output of a declared context. -/
def refsOk (s : State) : Bool :=
  s.declaredArms.all fun a => [s.get F.SEL_ARM_SIG.REF_SIG a, s.get F.SEL_ARM_SIG.SLOPE_SIG a].all fun i =>
    decide (s.sigKind i = 4) && s.ctxs192.any fun c => (s.outs c).contains i

/-- The fallback target of a context, where it names one (R261). -/
def fallbackOf (s : State) (c : Nat) : Option Nat :=
  let t := s.get F.CTX_CTRL.FALLBACK c
  if t < 192 then some t else none

/-- The fallback chain of a context, itself first; n bounds its length. -/
def chain (s : State) : Nat → Nat → List Nat
  | 0, c => [c]
  | n + 1, c => c :: (match s.fallbackOf c with | some t => s.chain n t | none => [])

/-- Two contexts count as one producer: one stands in the other's fallback chain, or they are partners (R243). -/
def sameProducer (s : State) (c d : Nat) : Bool :=
  (s.chain 4 c).contains d || (s.chain 4 d).contains c || s.partner c = some d || s.partner d = some c

/-- Every entry has one producer: a context's entries are of kind CONTEXT, of a SHADOW context of kind
SHADOW, and no two contexts share one unless they count as one producer (R242, R243, R253). -/
def outsOk (s : State) : Bool :=
  s.ctxs192.all fun c =>
    (s.outs c).all (fun i =>
        decide (s.sigKind i = 4 ∨ s.sigKind i = 5) && (s.ctxModeOf c ≠ 2 || s.sigKind i = 5) && (s.ctxModeOf c ≠ 1 || s.sigKind i = 4))
      && s.ctxs192.all fun d => c = d || s.sameProducer c d || (s.outs c).all fun i => !(s.outs d).contains i

/-- Entries a context reads. -/
def reads (s : State) (c : Nat) : List Nat :=
  let d := s.dim c
  (List.range d.y).map (s.inIdx c) ++ (List.range d.w).map (s.ffIdx c) ++ (List.range d.u).map (s.feIdx c)

/-- What contexts read, and their fallback chains (R243): no entry of kind NONE, none of kind SHADOW for
a LIVE context and its chain, no cycle and at most four contexts. -/
def readsOk (s : State) : Bool :=
  s.ctxs192.all fun c =>
    (s.reads c).all (fun i => decide (s.sigKind i ≠ 0))
      && (let ch := s.chain 4 c
          decide (ch.length ≤ 4) && decide ch.Nodup
            && (s.ctxModeOf c ≠ 1 || ch.all fun d => !s.ctxDeclared d || (s.reads d).all fun i => decide (s.sigKind i ≠ 5)))

-- LOOP_CONFIG (R239, R247, R253, R261)

/-- First and last byte offset of a context's block. -/
def blockSpan (s : State) (c : Nat) : Nat × Nat :=
  (64 * s.get F.CTX_COEF.BASE c, 64 * (s.get F.CTX_COEF.BASE c + s.get F.CTX_COEF.LENGTH c))

/-- Block length before alignment (R239). -/
def blockNeed (d : CtxDim) : Nat := 64 + 4 * (d.m1 + d.m2 + d.m3 + d.m4 + d.x + d.u) + 12 * d.tones

/-- R239: the block lies in coefficient memory apart from every other, and its header states the declared sizes. -/
def blockOk (s : State) (r : ImageRead) (c : Nat) : Bool :=
  let sp := s.blockSpan c
  let d := s.header c
  decide (sp.2 ≤ 4 * 2 ^ 20)
    && s.ctxs192.all (fun e => c = e || decide (sp.2 ≤ (s.blockSpan e).1 ∨ (s.blockSpan e).2 ≤ sp.1))
    && decide (bits (s.coef c 0).toNat 31 24 = c) && decide (bits (s.coef c 3).toNat 15 0 = s.get F.CTX_COEF.LENGTH c)
    && decide (State.blockNeed d ≤ 64 * s.get F.CTX_COEF.LENGTH c)
    && decide (r.dims.lookup c = some [d.x, d.y, d.u, d.w, d.tones])
    && decide (d = d.clamp)

/-- Two contexts agree in n_u, divider and PHASE. -/
def alike (s : State) (c d : Nat) : Bool :=
  (s.dim c).u = (s.dim d).u && s.get F.CTX_SCHED.DIVIDER c = s.get F.CTX_SCHED.DIVIDER d
    && s.get F.CTX_SCHED.PHASE c = s.get F.CTX_SCHED.PHASE d

def loopOk (s : State) (r : ImageRead) : Bool :=
  let cs := s.ctxs192
  cs.all (s.blockOk r)
    && decide (cs.map fun c => s.get F.CTX_CTRL.ORDER c).Nodup && cs.all (fun c => decide (s.get F.CTX_CTRL.ORDER c ≤ 191))
    && cs.all (fun c => decide (s.get F.CTX_SCHED.PHASE c < s.get F.CTX_SCHED.DIVIDER c))
    && cs.all (fun c => s.ctxModeOf c ≠ 2 || s.get F.CTX_CTRL.CMP_CTX c = 255 || match s.partner c with
        | some p => s.ctxModeOf p = 1 && decide (s.get F.CTX_CTRL.ORDER p < s.get F.CTX_CTRL.ORDER c) && s.alike c p
        | none => false)
    && cs.all fun c => match s.fallbackOf c with
        | some t => s.ctxDeclared t && s.alike c t
        | none => true

-- REC_CONFIG (R349, R355, R364)

def usedCaps (s : State) : List Nat := (List.range 8).filter fun c => s.flag F.CAP_CTRL.ENABLE c

/-- R349: the channels of a capture have its rate, and no STREAM channel is in use without a stream. -/
def capChansOk (s : State) (c : Nat) : Bool :=
  (s.capChans c).all fun x =>
    let fast := x.1 = 2 || x.1 = 7
    (fast == s.capFast c) && (x.1 ≠ 2 || s.flag F.ADC_CTRL.ADC_MODE)

/-- A capture's region in MiB. -/
def region (s : State) (c : Nat) : Nat × Nat :=
  (s.get F.CAP_REGION.BASE c, s.get F.CAP_REGION.BASE c + s.get F.CAP_REGION.SIZE c)

/-- R349, R359, R364: a region above the system region, inside the record memory, apart from every other,
and with a slot where the capture is CIRCULAR. -/
def regionOk (s : State) (c : Nat) : Bool :=
  let g := s.region c
  decide (64 ≤ g.1 ∧ g.2 ≤ 1024 * s.img.memGiB)
    && s.usedCaps.all (fun e => c = e || decide (g.2 ≤ (s.region e).1 ∨ (s.region e).2 ≤ g.1))
    && (s.capSession c || decide (s.slotBytes c ≤ (g.2 - g.1) * 2 ^ 20) && s.flag F.CAP_STATUS.SLOTS c)

/-- Bytes per second of a capture; a tick is taken as 4.000 µs (R349). -/
def capRate (s : State) (c : Nat) : Nat :=
  s.get F.CAP_ROW.ROW_BYTES c * (if s.capFast c then 20000000 else 250000)

/-- R355: no state of a sequence unit leads beyond LAST_STATE. -/
def seqOk (s : State) (q : Nat) : Bool :=
  let last := bits (s.reg (F.SEQ_CTRL.LAST_STATE.addr q)).toNat 30 28
  (List.range 8).all fun x =>
    decide (s.get F.SEQ_S_COUNT.NEXT q x ≤ last ∧ s.get F.SEQ_S_TIMER.TIMEOUT_NEXT q x ≤ last)

def recOk (s : State) : Bool :=
  s.usedCaps.all (fun c => s.capChansOk c && s.regionOk c)
    && (List.range 8192).all (fun i => s.get F.REC_CH.KIND i ≠ 2 || !s.flag F.MCH_CTRL.SOURCE (s.get F.REC_CH.INDEX i))
    && decide ((s.usedCaps.map s.capRate).sum ≤ 16000000000)
    && s.seqOk 0 && s.seqOk 1

-- The check as a whole

/-- The budget checks of R20 at the image check, with the bound of R250 among them. -/
def imageBudget (s : State) : BudgetRun :=
  let r := s.runBudget s.liveGroup { ranges := true, transition := false, compute := true, dispatch := false, declaredGen := true }
  if 1200 < s.get F.COMPUTE_SCHEDULE.CYCLES && (r.res.code = 0 || r.res.code = 3) then
    { res := { code := 1, string := s.strings.headD 0, e := s.ownEnd }, mC := some 0 } else r

/-- The value of the last safety slot with a marker (R408, R432). -/
def lastSlot (s : State) : Option Word := ((s.fuse.slots.filter (·.2)).getLast?).map (·.1)

/-- The code of the first check that the loaded image fails, 0 where it passes (R425). -/
def imageCode (s : State) (r : ImageRead) : Nat :=
  if r.plantDigest ≠ r.plantTag then 0x32
  else if !s.limitsOk r then 0x27
  else if !s.rangesHold then 0x2B
  else if !(s.chansOk && s.ledgerOk && s.refsOk && s.outsOk && s.readsOk) then 0x28
  else if !s.loopOk r then 0x29
  else if !s.recOk then 0x2A
  else if s.imageBudget.res.code ≠ 0 then s.imageBudget.res.code
  else if s.get F.LC_STATE.STATE = 3 && s.lastSlot ≠ some (s.reg F.SAFE_CHECK.CHECK.base) then 0x26
  else 0

/-- The authentication of R421 and R424: the code it fails with, or 0. -/
def authCode (s : State) (r : ImageRead) : Nat :=
  if r.blockFail then 0x21
  else if !r.fwSigOk then 0x23
  else if !r.imgSigOk then 0x24
  else if r.keyDigest ≠ r.installDigest || s.get F.LC_STATE.STATE ≠ 0 && s.fuse.digest ≠ some r.installDigest then 0x25
  else 0

end State

end Sys2Proof.Machine
end

