-- ==== Sys2Proof/Machine/Compute.lean ====
section
/-!
DEFINITION. The compute of a tick: cutoff, the opening of the compute window with the stages it runs,
overruns and coast plans, and the hand-over (R16, R18, R28 to R31 of 01_ticks_and_budgets.md; the order
of the stages as their chapters give it), with the telemetry, kick and journal head that follow it.
-/

namespace Sys2Proof.Machine

namespace State

-- Errors met on the compute path (R438, R440, R441)

/-- A local cause of R438 or R440, counted. -/
def localCounted (s : State) : State := s.localCause.bump F.INTEG_EVT.LOCAL_CNT

/-- An uncorrectable read of word w of memory m, counted and recorded. -/
def eccLost (s : State) (m w : Nat) (byScrub : Bool) : State :=
  let s := (s.bump F.INTEG_MEM_CNT.UNCORRECTED 1 m).set F.INTEG_ECC_LAST.MEM m
  (s.setB F.INTEG_ECC_LAST.BY_SCRUB byScrub).set F.INTEG_ECC_LAST.WORD w

/-- A COEF fault of the contexts whose block holds a word of coefficient memory (R261, R438). -/
def coefLost (s : State) (w : Nat) : State :=
  s.each (s.coefOwners (0x100000 + 4 * w)) fun s c =>
    ((s.setCtx c { s.ctx c with coefBad := true }).bump F.LOOP_ECC_CNT.UNCORRECTED).localCause

/-- A single-bit error of word w of memory m: corrected and counted; one of a context's block counts with
the context too (R268, R438). -/
def eccFixed (s : State) (m w : Nat) : State :=
  let s := s.bump F.INTEG_MEM_CNT.CORRECTED 1 m
  if m = 6 then s.each (s.coefOwners (0x100000 + 4 * w)) fun s c => s.coefCorrected c 1 else s

/-- One error of the tick, by what its memory's row lays down. -/
def eccEvent (s : State) : EccEvent → State
  | .corrected m w => s.eccFixed m w
  | .uncorrected m w =>
    let s := s.eccLost m w false
    if m ≤ 4 then s.localCounted else if m = 6 then s.coefLost w else s
  | .sigParity i => ((s.bump F.INTEG_EVT.SIG_PAR).setSigOk i false).localCounted
  | .journalCopy => s.bump F.INTEG_EVT.JRNL_DUAL
  | .journalLost w => (s.eccLost 5 w false).localCounted

end State

/-- An error that makes the tick count as an overrun (R438, R441). -/
def EccEvent.overruns : EccEvent → Bool
  | .uncorrected m _ => decide (m ≤ 4)
  | .journalLost _ => true
  | _ => false

namespace State

-- What an abandoned stage gives back (R29)

/-- Register words that differ between two states, within the windows the loop, selection and edge stages
write: address, word before, word after. -/
def wordsChanged (old new : State) : List (Nat × Word × Word) :=
  let inStage := fun (a : Nat) => decide (0xA0000 ≤ a ∧ a < 0x510000)
  (new.regs.filterMap fun e => if inStage e.1 && old.reg e.1 != e.2 then some (e.1, old.reg e.1, e.2) else none)
    ++ old.regs.filterMap fun e =>
      if inStage e.1 && new.reg e.1 = resetWord e.1 && e.2 != resetWord e.1 then some (e.1, e.2, new.reg e.1) else none

/-- What the stages changed, kept until the hand-over. -/
def keepUndo (s old : State) : State :=
  let u : Undo := ⟨old.wordsChanged s, old.arms, old.ctxs, old.plan, old.vit.tickEvents⟩
  { s with tick := { s.tick with undo := some u } }

/-- The loop, selection and edge stages abandoned: every bit they changed is as before. -/
def abandon (s : State) : State :=
  match s.tick.undo with
  | none => s
  | some u =>
    let s := s.each u.words fun s w => s.takeBack w
    { s with arms := u.arms, ctxs := u.ctxs, plan := u.plan, tick := { s.tick with undo := none, loopSbk := false }
             vit := { s.vit with tickEvents := u.events, tuneRows := [] } }

-- Overruns (R28 to R31)

/-- Three consecutive overruns: the device leaves DUPLEX, or asks for Safe Block (R29). -/
def consecOverrun (s : State) : State :=
  if s.get F.OVERRUN_STATUS.CONSEC ≠ 3 then s
  else if s.mode = 2 then (if s.twin.atDispatch.isNone then s.withdraw 5 else s)
  else if (s.mode = 0 || s.mode = 3 || s.mode = 4) && !s.bit F.SAFE_STATUS.SBK_CAUSE 3 then s.requestSbk 3
  else s

/-- The coast plan takes the plan's place (R29, R30); a halt at the hand-over may still discard it. -/
def toCoast (s : State) : State :=
  let s := (s.set F.OVERRUN_STATUS.LAST_ACTION 0).abandon
  let s := if s.halted then s.haltEntries
    else
      let s := s.loopMissed
      s.coastStage.keepUndo s
  ({ s with tick := { s.tick with stage := .coast } }).noteTick 9 1

/-- The compute has not completed at its deadline (R29, R31). -/
def overrun (s : State) : State :=
  if s.tick.stage ≠ .computed || s.tick.handed then s
  else
    let s := s.bump F.OVERRUN_CNT.COUNT
    let s := s.set F.OVERRUN_STATUS.CONSEC (min 3 (s.get F.OVERRUN_STATUS.CONSEC + 1))
    let s := (s.localCause).noteTick 9 0
    let s := if s.mode = 2 then
        ({ s with tick := { s.tick with stage := .withheld, lateDue := true } }).set F.OVERRUN_STATUS.LAST_ACTION 1
      else s.toCoast
    s.consecOverrun

/-- A withheld compute completes, so many LOOP cycles past the deadline (R29, R31): its digest leaves late. -/
def lateCompletion (s : State) (cycles : Nat) : State :=
  if !s.tick.lateDue then s
  else
    let s := s.set F.OVERRUN_STATUS.LATE_MAX (max (s.get F.OVERRUN_STATUS.LATE_MAX) (min 0x7FFF cycles))
    (({ s with tick := { s.tick with lateDue := false } }).loopSafe).sendState true false

/-- The next compute window opens before a withheld compute has completed (R29, R291). No STATE left, so
that this twin has reported no LOCAL. -/
def lateDiverge (s : State) : State :=
  if !s.tick.lateDue then s
  else
    let s := { s with tick := { s.tick with lateDue := false } }
    if s.mode ≠ 2 then s
    else
      let theirs := match s.twin.theirs with
        | some b => decide (b.tick = (s.tickNo - 1) % 2 ^ 32) && b.isLocal
        | none => false
      s.diverge false theirs

-- The stages

/-- Arms named by a received HUSK or by a landed exclusion block at the opening of the compute window
(R383, R386). -/
def blockNamed (s : State) : State :=
  let arms := s.cur.huskArms ++ s.cur.landed.map fun k => s.get F.CAT_STR_INFO.ARM k
  let s := { s with cur := { s.cur with huskArms := [], landed := [] } }
  s.each arms fun s a => s.blockArm a

/-- Safe Block recorded since the last opening blocks every arm (R398). -/
def blockSafe (s : State) : State :=
  if s.cur.blockDue then ({ s with cur := { s.cur with blockDue := false } }).blockAll else s

/-- The loop, selection and edge stages; a halted device runs none of them and fills its entries (R229). -/
def planTick (s : State) : State :=
  if !s.isReady then s
  else if s.halted then s.haltEntries
  else s.loopStage.planStage

/-- Register windows a snapshot carries (R303): catalogue, observer, selection, edge, contexts, the staged
group, and the signal table. -/
def inSnap (a : Nat) : Bool :=
  decide (0x60000 ≤ a ∧ a < 0xB0000 ∨ 0xB0010 ≤ a ∧ a < 0xB0030 ∨ 0xB0108 ≤ a ∧ a < 0x100000 ∨ 0x500000 ≤ a ∧ a < 0x510000)

/-- A word that holds a sum of the ledger: its entries of the signal table, and ENERGY (R179, R185). -/
def ledgerWord (s : State) (a : Nat) : Bool :=
  let first := F.SIG_VALUE.VALUE.addr (s.get F.OBS_CTRL3.LEDGER_BASE)
  decide (first ≤ a ∧ a < first + 4 * 85) || decide (0x80000 ≤ a ∧ a < 0x98000 ∧ a % 16 = 12)

/-- The words of the snapshot; ledger sums are not carried (R182, R303). -/
def snapWords (s : State) : List (Nat × Word) := s.regs.filter fun e => inSnap e.1 && !s.ledgerWord e.1

/-- The snapshot of the tick (R303). -/
def snapshot (s : State) : Snap :=
  { tick := s.tickNo, abs := s.absNs, words := s.snapWords
    cells := s.allCells.map fun i => (i, s.cell i)
    disc := s.strings.map fun k => (k, (s.link k).resA, (s.link k).resB)
    obs := s.obs, orders := s.orders, arms := s.arms, ctxs := s.ctxs
    sessions := s.heldSlots.map s.sessRec, journal := s.stn.journal
    changes := s.twin.changes, landing := s.tick.landing }

/-- The serving twin captures and sends the snapshot at the end of the edge stage of its tick (R303). -/
def serveSnapshot (s : State) : State :=
  if s.mode = 3 && s.twin.serve = some s.tickNo && s.bondOpen then s.emit (.snapshot s.snapshot) else s

/-- What the opening of the compute window applies, and the stages it runs; the errors met on the way are
taken before the loop stage (R16, R288, R322). -/
def computeTick (s : State) (ecc : List EccEvent) : State :=
  let s := ((s.landChanges s.tickNo).blockNamed).applyDue
  let s := s.each ecc State.eccEvent |>.obsStage.ledgerStage.govern.loopOpen
  let old := s
  let s := (s.planTick).keepUndo old
  let s := if s.isReady && s.mode ≠ 1 then { s with tick := { s.tick with stage := .computed } } else s
  let s := s.serveSnapshot
  if ecc.any EccEvent.overruns then s.overrun else s

/-- A joining twin logs the serving twin's inputs of a tick after the snapshot's: its own reception and
the channels of the serving twin's ADC, its own where none came (R304). -/
def logTick (s : State) : State :=
  match s.twin.join.snapTick with
  | none => s
  | some j =>
    if s.tickNo ≤ j then s
    else
      let peer := (s.twin.adc.filter fun p => p.1 = s.tickNo).map (·.2)
      let row := fun (n : Nat) => match peer with
        | some l => let p := l.getD n (0, false, 2, 0); (p.1, if p.2.1 then 0 else max 1 p.2.2.1)
        | none => (s.reg (F.MCH_TICK_VALUE.VALUE.addr n), (s.chan n).cause)
      let t : LogTick :=
        { tick := s.tickNo, abs := s.tick.absT, absPrev := s.tick.absPrev, start := s.reg F.TICK_START.START.base
          reports := s.allCells.foldl (fun m i => AMap.put (fun _ => none) m i (s.input i).own) [], chans := (List.range 24).map row }
      let log := s.twin.join.log ++ [t]
      let s := { s with twin := { s.twin with join := { s.twin.join with log := log } } }
      let cap := 4194304 / (8 * s.allCells.length + 512)
      let s := (s.set F.TWIN_REJOIN.LOG_TICKS (min 16383 log.length)).set F.TWIN_REJOIN.LOG_MAX (min 16383 cap)
      if cap < log.length then s.rejoinFail 5 else s

/-- The compute window opens (R16, R18): the agreement is complete, and the stages of the tick run once. -/
def openCompute (s : State) (ecc : List EccEvent) : State :=
  if !s.tick.running || !s.tick.begun || s.tick.opened then s
  else
    let s := { s with tick := { s.tick with reportsOpen := false, opened := true } }
    let s := ((s.agreeInputs.agreeChannels).stateMissing).lateDiverge.blockSafe
    if s.mode = 5 then s.logTick else s.computeTick ecc

/-- CUTOFF_PHASE of the tick (R18): the report window closes. The report check of a cell under admission
starts anew where its report is missing (R126), and a string that missed its schedule counts (R136). -/
def reportCutoff (s : State) : State :=
  if !s.tick.running || !s.tick.reportsOpen then s
  else
    let s := { s with tick := { s.tick with reportsOpen := false } }
    let s := s.each s.allCells fun s i =>
      if (s.cell i).adm ≠ .none && (s.input i).own.isNone then s.setCell i { s.cell i with repRun := 0 } else s
    s.each s.strings fun s k =>
      let l := s.link k
      s.setLink k { l with devRun := if l.devNow then l.devRun + 1 else 0, devNow := false }

-- The hand-over

/-- The kick to the Curator (R380, R401): from READY onward, at every hand-over. -/
def kick (s : State) : State :=
  if !s.isReady then s
  else
    let e := s.eTotal
    let n := (s.cur.kickCount + 1) % 2 ^ 32
    ({ s with cur := { s.cur with kickCount := n, kick := some { count := n, energy := e.1, valid := e.2, mode := s.mode } } }).checkIlp

/-- The 60 bytes of a journal head before its CRC (R310). -/
def headBytes (s : State) (last : Nat) : List Nat :=
  let slots := List.range 4
  Crc.bytesBE 8 last ++ slots.flatMap (fun k => Crc.bytesBE 6 (s.applied k)) ++ slots.flatMap (fun k => Crc.bytesBE 2 (s.sessTag k))
    ++ slots.flatMap (fun k => Crc.bytesBE 4 ((s.sess k).accepted % 2 ^ 32)) ++ Crc.bytesBE 4 s.kept.commits

end State

/-- The bytes of a journal head (R310). -/
def headList (h : BitVec 512) : List Nat := Crc.bytesBE 64 h.toNat

/-- TICK_LAST of a journal head. -/
def headLast (h : BitVec 512) : Nat := natOf ((headList h).take 8)

namespace State

/-- The journal head composed after the tick's orders and committed (R310); sent says that the tick's
frames are dispatched. -/
def commitHead (s : State) (sent : Bool) : State :=
  let s := { s with kept := { s.kept with commits := (s.kept.commits + 1) % 2 ^ 32 } }
  let b := s.headBytes (if sent then s.tickNo else headLast s.kept.head)
  { s with kept := { s.kept with head := BitVec.ofNat 512 (natOf (b ++ Crc.bytesBE 4 (Crc.crc32c b))) } }

/-- One TELEMETRY frame of a stream (R325). -/
def telemetry (s : State) (n : Nat) (t : Tele) (doubled : Bool) : State :=
  let ok := fun (i : Nat) => i < 4096 && s.sigOk i
  let vals := t.items.flatMap fun i => Crc.wordBytes (if i < 4096 then s.view i else 0)
  let words := (List.range ((t.items.length + 31) / 32)).flatMap fun w =>
    Crc.bytesBE 4 (((List.range 32).map fun b => if t.items[32 * w + b]?.any ok then 2 ^ b else 0).sum)
  let body := [n, t.items.length % 256, 0, if doubled then 1 else 0] ++ Crc.bytesBE 8 s.tickNo
    ++ Crc.bytesBE 4 (s.get F.TICK_START.START) ++ words ++ vals
  let s := s.emit (.station t.port (s.vlan (t.port)) t.src (stnMsg (s.sessVer t.slot) 0x21 (s.sessTag t.slot) t.count body []))
  { s with stn := { s.stn with tele := AMap.put (fun _ => none) s.stn.tele n (some { t with count := t.count + 1 }) } }

/-- The streams due in the tick; only the home twin sends, and none in PAIRING, REJOINING or before READY
(R325, R328). -/
def sendTelemetry (s : State) : State :=
  if !s.isReady || s.mode = 1 || s.mode = 5 then s
  else
    let cut := decide (3 ≤ s.pwr.governs)
    s.each s.stn.tele fun s e => match e.2 with
      | none => s
      | some t =>
        let doubled := t.optional && cut
        let d := if doubled then 2 * t.decim else t.decim
        if s.sessHome t.slot && d ≠ 0 && s.tickNo % d = 0 then s.telemetry e.1 t doubled else s

/-- CATCHUP of the tick from a serving twin (R304): held reports of every string whose HELD or DIGEST the
joiner's AGREE does not match, the proposals and journaled orders not yet landed, and the flags. -/
def sendCatchup (s : State) (coast withheld : Bool) : State :=
  match s.twin.serve with
  | none => s
  | some j =>
    if s.tickNo ≤ j || s.mode ≠ 3 || !s.bondOpen then s
    else
      let own := (match s.twin.own with | some (t, a) => if t = s.tickNo then a else s.agreeOf | none => s.agreeOf).strs
      let peer := match s.twin.peer with | some (t, a) => if t = s.tickNo then a.strs else [] | none => []
      let differs := fun (k : Nat) => match own.find? (fun x => x.str = k), peer.find? (fun x => x.str = k) with
        | some a, some b => a.held ≠ b.held || a.digest ≠ b.digest
        | _, _ => true
      s.emit (.catchup { tick := s.tickNo, strings := (s.strings.filter differs).map fun k => (k, s.heldAt k fun _ => true)
                         changes := s.twin.changes.map fun c => (c.2, c.1), orders := s.stn.journal.map .order
                         coast := coast, withheld := withheld })

/-- What the hand-over forms: changes of mode that wait for the dispatch, a halt, and the frames unless
they are withheld. A twin in PAIRING or REJOINING dispatches nothing: its plan is no order (R169, R225, R279). -/
def handPlanned (s : State) : State :=
  let s := s.modeDispatch
  let s := if s.tick.haltReq then s.haltStart else s
  let held := decide (s.tick.stage = .withheld)
  let s := if s.mode = 1 || s.mode = 5 then { s with tick := { s.tick with frames := [] } } else s.handPlan held
  let s := if held then s.bump F.TWIN_XL_CNT.LAG else s
  { s with tick := { s.tick with withheldPrev := held } }

/-- What leaves with the hand-over or after it: the kick, the record's rows, STATE, the journal head, the
station's ACKs, DONEs and TELEMETRY, and CATCHUP. -/
def handAfter (s : State) (coast held : Bool) : State :=
  let s := s.kick.recordTick coast
  let s := if s.tick.stage = .computed || coast then s.sendState false coast else s
  let s := ((s.commitHead !(held || s.mode = 1 || s.mode = 5)).sendAcks).sendDones
  (s.sendTelemetry).sendCatchup coast held

/-- CONSEC returns to 0 with a tick that completes on time (R31). -/
def consecEnd (s : State) : State :=
  if s.tick.stage = .computed then s.set F.OVERRUN_STATUS.CONSEC 0 else s

/-- A stage computed on time has committed, and what it asked of the Curator is requested (R251, R261). -/
def handFrames (s : State) : State :=
  let s := if s.tick.stage = .computed then s.loopSafe else s
  let s := s.handPlanned
  (s.handAfter (decide (s.tick.stage = .coast)) (decide (s.tick.stage = .withheld))).consecEnd

/-- The hand-over of a tick, once (R16). Before READY no frames are formed. -/
def handOver (s : State) : State :=
  if !s.tick.running || !s.tick.begun || s.tick.handed then s
  else
    let s := { s with tick := { s.tick with handed := true } }
    if s.isReady then s.handFrames else s.recordTick false

end State

/-- REPORT_CUTOFF (R18). -/
def execReportCutoff (s : State) : Host.Outcome State Fault Refusal := .next s.reportCutoff

/-- COMPUTE_WINDOW_OPEN (R16): with the memory errors that the tick's compute path meets. -/
def execComputeWindowOpen (ecc : List EccEvent) (s : State) : Host.Outcome State Fault Refusal := .next (s.openCompute ecc)

/-- OVERRUN (R28, R29): the compute has not completed at the end of the compute window. -/
def execOverrun (s : State) : Host.Outcome State Fault Refusal := .next s.overrun

/-- CONSEC_OVERRUN (R29): the third overrun in a row. -/
def execConsecOverrun (s : State) : Host.Outcome State Fault Refusal := .next s.consecOverrun

/-- LATE_COMPLETION (R29): a withheld compute completes so many LOOP cycles past its deadline. -/
def execLateCompletion (cycles : BitVec 16) (s : State) : Host.Outcome State Fault Refusal :=
  .next (s.lateCompletion cycles.toNat)

/-- HAND_OVER (R16, R224). -/
def execHandOver (s : State) : Host.Outcome State Fault Refusal := .next s.handOver

end Sys2Proof.Machine
end

