-- ==== Sys2Proof/Machine/Rejoin.lean ====
section
/-!
DEFINITION. What a joining twin receives, logs, installs and replays, the state digests received, and the
entry to DUPLEX (R290, R291, R299, R302 to R306 of 11_twin_operation.md).
-/

namespace Sys2Proof.Machine

namespace State

-- The log (R304)

/-- The logged tick changed where the log holds it. -/
def mapLog (s : State) (hit : Nat → Bool) (f : LogTick → LogTick) : State :=
  let j := s.twin.join
  { s with twin := { s.twin with join := { j with log := j.log.map fun (t : LogTick) => if hit t.tick then f t else t } } }

/-- The first copy of the peer's STATE of a tick (R276, R290): compared in DUPLEX, kept with the logged tick
in REJOINING. -/
def takeState (s : State) (msg : List Block) : State :=
  match msg with
  | [h, d] =>
    let t := Block.get h 31 0
    let n := s.tickNo
    if s.twin.theirs.any (fun x => x.tick = t) || t ≠ n % 2 ^ 32 && t ≠ (n + 2 ^ 32 - 1) % 2 ^ 32 then s
    else
      let f := fun (b : Nat) => decide (Block.get h b b = 1)
      let dg := BitVec.ofNat 32 (Block.get d 63 32)
      let s := { s with twin := { s.twin with theirs := some ⟨t, dg, f 55, f 54, f 53⟩ } }
      let s := s.mapLog (fun k => decide (k % 2 ^ 32 = t)) fun (x : LogTick) => { x with digest := some dg }
      s.compareDigests
  | _ => s

/-- A CATCHUP (R304): reports of the strings it names, the proposals and orders, and the flags. -/
def takeCatchup (s : State) (m : Catchup) : State :=
  if s.mode ≠ 5 then s
  else
    let cells := m.strings.flatMap fun e => (List.range (s.declared e.1)).map fun p => (s.base e.1 + p, e.2.lookup p)
    let s := s.mapLog (fun k => decide (k = m.tick)) fun (x : LogTick) =>
      { x with reports := cells.foldl (fun r c => AMap.put (fun _ => none) r c.1 c.2) x.reports
               coast := m.coast, withheld := m.withheld }
    let s := s.each m.changes fun s c => s.addChange c.2 c.1
    s.each m.orders fun s j => match j with
      | .order o =>
        if s.stn.journal.any (fun x => decide (x.slot = o.slot ∧ x.tag = o.tag ∧ x.seq = o.seq)) then s else s.takeJournal j
      | _ => s.takeJournal j

-- The snapshot (R303, R305)

/-- SNAP_BYTES (R303). -/
def snapBytes (s : State) (j : Nat) : Nat := 327680 + 256 * s.allCells.length + 512 * s.ctxs192.length + 32 * j

/-- The shared part of a cell as the serving twin holds it: the two twins' ends are exchanged. -/
def installCell (s : State) (i : Nat) (c : CellLink) : State :=
  s.setCell i { s.cell i with reasons := c.reasons, latA := c.latA, latB := c.latB, upA := c.upA, upB := c.upB, adm := c.adm
                              admitted := c.admitted, lastCode := c.lastCode, ownPass := c.peerPass, peerPass := c.ownPass }

/-- Sessions and journals of the snapshot; orders journaled since stay (R303). -/
def installSessions (s : State) (p : Snap) : State :=
  let s := s.each s.heldSlots fun s k => s.dropSess k
  let s := s.each p.sessions fun s r => s.putSess r
  let mine := p.journal.map fun (o : JOrder) => { o with evt := none }
  let later := s.stn.journal.filter fun o =>
    decide (p.tick < o.apply) && !mine.any (fun x => decide (x.slot = o.slot ∧ x.tag = o.tag ∧ x.seq = o.seq))
  let s := { s with stn := { s.stn with journal := mine ++ later } }
  s.each (List.range 4) fun s k => s.showCredit k

/-- The snapshot installed (R305). -/
def install (s : State) (p : Snap) : State :=
  let s := { s with regs := s.regs.filter fun e => !inSnap e.1 || s.ledgerWord e.1 }
  let s := s.each p.words fun s w => if inSnap w.1 && !s.ledgerWord w.1 then s.setReg w.1 w.2 else s
  -- both device times agree modulo 2^32 ns
  let d : Int := ((s.absNs : Int) - p.abs + 2 ^ 31) / 2 ^ 32 * 2 ^ 32
  let s := s.each p.cells fun s c => s.installCell c.1 c.2
  let s := s.each p.disc fun s d => s.setLink d.1 { s.link d.1 with resA := d.2.1, resB := d.2.2 }
  let s := { s with obs := AMap.ofList (fun _ => {}) p.obs, orders := AMap.ofList (fun _ => {}) (p.orders.map fun (o : Nat × CellOrders) => (o.1, o.2.shift d))
                    arms := AMap.ofList (fun _ => {}) (p.arms.map fun (a : Nat × ArmState) => (a.1, a.2.shift d)), ctxs := AMap.ofList (fun _ => {}) p.ctxs
                    tick := { s.tick with landing := p.landing } }
  -- what landed by the tick of the snapshot is in it
  let s := { s with twin := { s.twin with changes := s.twin.changes.filter fun c => p.tick < c.1 } }
  let s := s.each p.changes fun s c => s.addChange c.1 c.2
  let s := s.installSessions p
  let s := (s.set F.TWIN_SNAP_BYTES.BYTES (s.snapBytes p.journal.length)).set F.TWIN_REJOIN.PHASE 2
  { s with twin := { s.twin with join := { s.twin.join with installed := true } } }

/-- A SNAPSHOT chunk: one that fails its check ends the attempt; the last one brings the snapshot (R303, R306). -/
def takeSnapshot (s : State) (ok : Bool) (whole : Option Snap) : State :=
  if s.mode ≠ 5 || s.twin.join.waiting || s.twin.join.installed then s
  else if !ok then (s.bump F.TWIN_XL_CNT.XL_CRC).rejoinFail 8
  else match whole with
    | some p => if s.twin.join.snapTick = some p.tick then s.install p else s
    | none => s

-- The replay (R305)

/-- The inputs of a logged tick in place of the present ones. -/
def replayInputs (s : State) (l : LogTick) : State :=
  let s := (s.set64 F.TICK_CNT_LO.COUNT F.TICK_CNT_HI.COUNT l.tick).setReg F.TICK_START.START.base l.start
  let s := ({ s with inputs := [], tick := { s.tick with absT := l.abs, absPrev := l.absPrev, periodPrev := s.periodNs } }).landGroup l.tick
  let s := s.each s.allCells fun s i => s.decideCell i (AMap.read (fun _ => none) l.reports i) 1
  s.each (l.chans.zip (List.range 24)) fun s c => s.putMeasure c.2 c.1.1 c.1.2

/-- One logged tick replayed, and whether its digest matches the serving twin's STATE. -/
def replayTick (s : State) (l : LogTick) : Bool × State :=
  let s := (((s.replayInputs l).landChanges l.tick).blockNamed.applyDue).obsStage.ledgerStage.loopOpen
  let old := s
  let s := (s.planTick).keepUndo old
  let s := if l.coast then (s.abandon).loopMissed.coastStage else s.loopSafe
  let s := s.handPlan true
  (l.digest.all (fun d => d = s.stateDigest), { s with tick := { s.tick with undo := none }, stn := { s.stn with dones := [] } })

/-- Ticks replayed in order up to the first whose digest differs. -/
def replayAll (s : State) : List LogTick → Bool × State
  | [] => (true, s)
  | l :: t =>
    let r := s.replayTick l
    if r.1 then r.2.replayAll t else r

/-- Every logged tick before the present one replayed: the present tick stands again afterwards. A digest
that differs ends the attempt (R305, R306). -/
def replayLog (s : State) : Bool × State :=
  let n := s.tickNo
  let start := s.reg F.TICK_START.START.base
  let k := s.tick
  let inp := s.inputs
  let due := s.twin.join.log.filter fun (l : LogTick) => decide (l.tick < n)
  let r := s.replayAll due
  let s := (r.2.set64 F.TICK_CNT_LO.COUNT F.TICK_CNT_HI.COUNT n).setReg F.TICK_START.START.base start
  let rest := s.twin.join.log.filter fun (l : LogTick) => decide (n ≤ l.tick)
  let s := { s with inputs := inp
                    tick := { s.tick with absT := k.absT, absPrev := k.absPrev, frames := k.frames, undo := k.undo }
                    twin := { s.twin with join := { s.twin.join with log := rest } } }
  let s := s.set F.TWIN_REJOIN.LOG_TICKS (min 16383 rest.length)
  if r.1 then (true, s) else (false, s.rejoinFail 7)

/-- The replay reaches the current tick: PAIR with READY (R305). -/
def replayDone (s : State) : State :=
  if s.mode ≠ 5 || !s.twin.join.installed || s.get F.TWIN_REJOIN.PHASE ≠ 2 then s
  else
    let r := s.replayLog
    if r.1 then (r.2.set F.TWIN_REJOIN.PHASE 3).sendPair true else r.2

-- Entry (R299, R302, R305)

/-- The entry tick named has come: both twins enter DUPLEX. A pairing junior adopts the senior's count with
it, and a joiner replays what its log still holds. -/
def duplexEntry (s : State) : State :=
  match s.twin.entry with
  | none => s
  | some e =>
    match (if s.mode = 1 && s.junior then s.twin.adopt else none) with
    | some a => (s.adoptTick a e).setMode 2 1
    | none =>
      if s.tickNo < e then s
      else if s.mode = 5 then
        let r := s.replayLog
        if r.1 then r.2.setMode 2 11 else r.2
      else s.setMode 2 (if s.mode = 1 then 1 else 11)

end State

/-- STATE_RX (R276, R290, R291). -/
def execStateRx (bs : List Block) (s : State) : Host.Outcome State Fault Refusal := .next (s.rxX 0x04 bs State.takeState)

/-- CATCHUP_RX (R276, R304): what it carries, none where the check fails. -/
def execCatchupRx (m : Option Catchup) (s : State) : Host.Outcome State Fault Refusal :=
  .next (match m with
    | some m => s.takeCatchup m
    | none => s.bump F.TWIN_XL_CNT.XL_CRC)

/-- SNAPSHOT_RX (R303, R305, R306): a chunk, whether its check passes, and with the last one the snapshot. -/
def execSnapshotRx (ok : Bool) (whole : Option Snap) (s : State) : Host.Outcome State Fault Refusal :=
  .next (s.takeSnapshot ok whole)

/-- REPLAY_COMPLETE (R305). -/
def execReplayComplete (s : State) : Host.Outcome State Fault Refusal := .next s.replayDone

/-- DUPLEX_ENTRY (R299, R305): after the boundary of the entry tick. -/
def execDuplexEntry (s : State) : Host.Outcome State Fault Refusal := .next s.duplexEntry

end Sys2Proof.Machine
end

