-- ==== Sys2Proof/Machine/Boot.lean ====
section
/-!
DEFINITION. Reset, the start-up sequence and the life cycle of 16_start_up_and_life_cycle.md. Flash
commands and debug access stand in Debug.lean.
-/

namespace Sys2Proof.Machine

namespace State

-- Resets (R415 to R417)

/-- The fuses as a reset leaves them: a burn that it cuts short leaves its row, and its safety slot,
without a marker (R432). -/
def cutBurn (s : State) : Fuses :=
  match s.boot.burning with
  | none => s.fuse
  | some (t, slot) =>
    let f := match slot with
      | some v => { s.fuse with slots := s.fuse.slots ++ [(v, false)] }
      | none => s.fuse
    if t = 5 then { f with row63 := some (f.row63 = some true) }
    else { f with rows := f.rows ++ [⟨t, f.rows.length, false⟩] }

/-- Curator faults hold until a cold reset (R402, R409): what a warm reset finds of them, with the Safe
Block, the released outputs and the held force line they bring (DEDUCED, log entry 33). -/
def faultsHold (s old : State) : State :=
  let f := old.cur.faults
  let s := { s with cur := { faults := f, oscFail := old.cur.oscFail } }
  if f = 0 then s
  else
    let s := s.set F.SAFE_STATUS.CURATOR_FAULT (old.get F.SAFE_STATUS.CURATOR_FAULT)
    let s := s.set F.TRIP_STATUS.PAIR_FAULT (old.get F.TRIP_STATUS.PAIR_FAULT)
    let s := s.set F.TRIP_STATUS.ACTIVE (old.get F.TRIP_STATUS.PAIR_FAULT)
    let s := if f = 2 ^ cfInputPair then s else (s.setB F.SAFE_STATUS.SBK true).setBit F.SAFE_STATUS.SBK_CAUSE 8 true
    let s := if f / 2 ^ cfReadback % 2 = 1 || old.cur.oscFail then s.release [0, 1, 2, 3] else s
    let s := if f / 2 ^ cfForceRail % 2 = 1 || old.cur.oscFail then s.setB F.SAFE_STATUS.HUSK_FORCED true else s
    if old.cur.oscFail then s.freeze else s

/-- A reset is asserted (R415): everything on chip takes its reset value but the fuses and, in a warm
reset, the retention registers. Transmitters go to electrical idle (R65). The JTAG instruction
register follows TRST_N alone but at power-on (R490). -/
def resetTo (s : State) (warm : Bool) (cause : Nat) : State :=
  let kept : Retained := if warm then { s.kept with warm := min 255 (s.kept.warm + 1) } else {}
  let t : State := { fuse := s.cutBurn, kept := kept, wire := s.wire ++ [.pin "TX_IDLE" []], taken := s.wire.length
                     freeCount := s.freeCount, pending := s.pending
                     dbg := if cause = 0 then {} else { ir := s.dbg.ir, scan := s.dbg.scan } }
  let t := (t.set F.RESET_CAUSE.CAUSE cause).set F.RESET_CAUSE.WARM_CNT kept.warm
  if warm then t.faultsHold s else t

/-- RESET_CAUSE of the reset that is asserted is a warm one. -/
def warmAsserted (s : State) : Bool := s.boot.asserted && s.get F.RESET_CAUSE.CAUSE = 2

/-- A warm reset asserted while another one is: beside a cold one it stays the cold one (R416). The mask
says which bits of the journal head the reset has upset in the retention registers. -/
def warmReset (s : State) (mask : BitVec 512) : State :=
  if s.boot.asserted && !s.warmAsserted then s
  else
    let t := if s.warmAsserted then s else s.resetTo true 2
    { t with kept := { t.kept with head := t.kept.head ^^^ mask } }

/-- The cause code of a cold reset's source (R435). -/
def coldCode : ColdCause → Nat
  | .pin => 1
  | .supply => 4

-- Steps 1 and 2

/-- Life-cycle state by the fuses: row 63, else the last valid row, else BLANK (R429). -/
def fusedState (s : State) : Nat :=
  if s.fuse.row63 = some true then 5
  else ((s.fuse.rows.filter (·.valid)).getLast?.map (·.code)).getD 0

/-- LC_STATE as the fuses read (R429, R432). -/
def showFuses (s : State) : State :=
  let lost := (s.fuse.rows.filter fun r => !r.valid).length + (if s.fuse.row63 = some false then 1 else 0)
  let s := (s.set F.LC_STATE.STATE s.fusedState).set F.LC_STATE.ROWS s.fuse.rows.length
  let s := (s.set F.LC_STATE.BURN_LOST (min 255 lost)).setB F.LC_STATE.KEY_SET s.fuse.digest.isSome
  s.set F.LC_STATE.SAFETY_SLOTS (s.fuse.slots.filter (·.2)).length

/-- Debug level without unlock (R433). -/
def baseLevel (s : State) : Nat := if s.get F.LC_STATE.STATE = 0 then 2 else 0

/-- Sessions re-opened from a valid head (R310, R328): version 1 until the OPEN that names them. -/
def restoreSessions (s : State) (h : List Nat) : State :=
  s.each (List.range 4) fun s k =>
    let tag := fieldAt h (32 + 2 * k) 2
    let app := fieldAt h (8 + 6 * k) 6
    if tag = 0 then s else s.putSess ⟨k, tag, 1, !s.junior, app + 1, app, ⟨0, 0, 0⟩, 0⟩

/-- Step 2 tests the journal head after a warm reset (R14, R417). -/
def testHead (s : State) : State :=
  if s.get F.RESET_CAUSE.CAUSE ≠ 2 || s.kept.head = 0 then s
  else
    let h := headList s.kept.head
    if Crc.crc32c (h.take 60) = fieldAt h 60 4 then
      let s := s.set F.RESET_CAUSE.HEAD 1
      ({ s with tick := { s.tick with next := fieldAt h 0 8 + 1 } }).restoreSessions h
    else (s.set F.RESET_CAUSE.HEAD 2).setB F.TWIN_STATUS.HEAD_LOST true

/-- Start-up stops until the next reset (R426). -/
def stopBoot (s : State) (code : Nat) : State :=
  (s.set F.BOOT_STATUS.CODE code).setB F.BOOT_STATUS.STOPPED true

/-- READY is refused at the present step (R419). -/
def refuseReady (s : State) (code : Nat) : State :=
  ({ s with boot := { s.boot with refused := true } }).set F.BOOT_STATUS.CODE code

/-- Start-up stands at a step and goes on. -/
def atStep (s : State) (n : Nat) : Bool :=
  s.get F.BOOT_STATUS.STEP = n && !s.boot.asserted && !s.flag F.BOOT_STATUS.STOPPED && !s.flag F.BOOT_STATUS.READY

def toStep (s : State) (n : Nat) : State := s.set F.BOOT_STATUS.STEP n

/-- Step 3 begins when step 2 has ended and the on-chip wipe is complete; with both boot straps high no
image is read (R418, R422). -/
def tryStep3 (s : State) : State :=
  if s.atStep 2 && s.boot.fusesRead && s.boot.wiped && s.get F.BOOT_STATUS.STRAP ≠ 3 then s.toStep 3 else s

/-- The release of a reset: straps, steps 1 and 2 (R415, R418). A failure of R402 holds step 1. -/
def releaseReset (s : State) (junior : Bool) (strap : Nat) (fuseOk : Bool) : State :=
  if !s.boot.asserted then s
  else
    let s := { s with boot := { s.boot with asserted := false } }
    let s := (s.set F.BOOT_STATUS.STRAP strap).setB F.TWIN_STATUS.ROLE junior
    if s.cur.oscFail then s
    else
      let s := s.toStep 2
      if !fuseOk then s.stopBoot 0x2E
      else
        let s := s.showFuses
        let s := (s.set F.DBG_STATUS.LEVEL s.baseLevel).testHead
        ({ s with boot := { s.boot with fusesRead := true } }).tryStep3

-- Step 3

/-- Block 0 of a slot makes it a candidate, whatever its revision (R422). -/
def headOk (h : ImageHead) : Bool :=
  h.crcOk && h.magic = 0x5052_4F4E#32 && h.format = 3#16 && decide (2 ≤ h.length.toNat ∧ h.length.toNat ≤ 4096)

def revOk (s : State) (h : ImageHead) : Bool := h.siliconRev.toNat = s.get F.DEVICE_ID.SILICON_REV

/-- The slots in the order of the straps (R422). -/
def slotOrder (s : State) (h0 h1 : ImageHead) : List Nat :=
  match s.get F.BOOT_STATUS.STRAP with
  | 0 =>
    let c := fun (h : ImageHead) => State.headOk h && s.revOk h
    if c h1 && (!c h0 || decide (h0.seq.toNat < h1.seq.toNat)) then [1, 0] else [0, 1]
  | 1 => [0]
  | 2 => [1]
  | _ => []

/-- The next slot to read, with the code of a slot passed over for its revision (R422). -/
def nextSlotOf (s : State) (h0 h1 : ImageHead) : Option Nat × Nat :=
  let left := (s.slotOrder h0 h1).filter fun k => !s.boot.tried.contains k
  left.foldl (fun (a : Option Nat × Nat) k =>
    let h := if k = 0 then h0 else h1
    if a.1.isSome || !State.headOk h then a
    else if s.revOk h then (some k, a.2)
    else (none, 0x22)) (none, 0)

/-- A slot refused with a code; without another candidate start-up stops (R422, R425). -/
def refuseSlot (s : State) (h0 h1 : ImageHead) (k code : Nat) : State :=
  let s := (s.set F.BOOT_STATUS.CODE code).setB F.BOOT_STATUS.FALLBACK true
  let s := { s with boot := { s.boot with tried := s.boot.tried ++ [k] } }
  match s.nextSlotOf h0 h1 with
  | (some _, _) => s
  | (none, c) => s.stopBoot (if c = 0 then code else c)

/-- The loaded image accepted: step 4 follows, and the supervisor cores may start work (R452). -/
def acceptImage (s : State) (k : Nat) (h : ImageHead) : State :=
  let s := (s.set F.BOOT_STATUS.SLOT k).set F.BOOT_IMAGE.SEQ h.seq.toNat
  let s := s.set F.SCHED_STATUS.CORE_UP 0xFF
  ({ s with boot := { s.boot with loaded := true } }).toStep 4

/-- The image read of step 3 ends: authentication and the image check (R421 to R425). The
outcome of the budget checks stands in BUDGET_STATUS whichever way they go (R27). -/
def imageRead (s : State) (h0 h1 : ImageHead) (r : ImageRead) : State :=
  if !s.atStep 3 then s
  else match s.nextSlotOf h0 h1 with
    | (none, c) => s.stopBoot (if c = 0 then 0x20 else c)
    | (some k, _) =>
      let s := s.bump F.BOOT_STATUS.REREAD r.rereads
      let a := s.authCode r
      if a ≠ 0 then s.refuseSlot h0 h1 k a
      else
        let t := s.loadImage r
        let c := t.imageCode r
        if c = 0 then ((t.storeBudget t.imageBudget).acceptImage k (if k = 0 then h0 else h1))
        else
          let s := if 1 ≤ c && c ≤ 5 then s.storeBudget t.imageBudget else s
          s.refuseSlot h0 h1 k c

-- Steps 4 to 6

/-- Step 4: every bank wiped, every word not loaded reading zero (R418). -/
def wipeCheck (s : State) (ok : Bool) : State :=
  if !s.atStep 4 then s else if ok then s.toStep 5 else s.stopBoot 0x2C

/-- Lanes that train: with a failed HUSK loopback a lane stays DISABLED (R409); TWIN lanes train only in a
twin installation (R274); DECOMMISSIONED trains STN lanes alone (R418). -/
def bootLanes (s : State) (loopBad : BitVec 64) : List Nat :=
  (List.range 72).filter fun l =>
    isStn l || s.get F.LC_STATE.STATE ≠ 5 && (isCell l && !loopBad.getLsbD l || isTwin l && s.flag F.TWIN_CTRL.TWIN_EN)

/-- Step 5 ends: the tick count and lane training start (R14, R418); loopBad marks the CELL lanes whose
HUSK loopback failed. -/
def pllLock (s : State) (ok : Bool) (loopBad : BitVec 64) : State :=
  if !s.atStep 5 then s
  else if !ok then s.stopBoot 0x2D
  else
    let s := ({ s with tick := { s.tick with running := true } }).toStep 6
    let s := s.set F.CLK_STATUS.LOCK 0x7F
    let s := s.startTraining (s.bootLanes loopBad)
    if (List.range 64).any (fun l => loopBad.getLsbD l && s.flag F.LANE_CTRL.ENABLE l) then s.refuseReady 0x2F else s

/-- Every enabled lane that trains is UP. -/
def lanesUp (s : State) : Bool := (s.bootLanes 0).all fun l => !s.flag F.LANE_CTRL.ENABLE l || s.laneSt l = lsUp

/-- Step 6 ends (R418): MEM_PRESENT shows the trained record memory; a string whose hop is not UP takes
NO_HOP (R419); discovery begins on every string in use. -/
def trained (s : State) (mem : Bool) : State :=
  if !s.atStep 6 then s
  else
    let s := (s.setB F.REC_STATUS.MEM_PRESENT (mem && decide (s.img.memGiB ≠ 0))).countDir
    let s := if s.flag F.REC_STATUS.MEM_PRESENT then
        s.each ((List.range 8).filter fun c => s.flag F.CAP_CTRL.ENABLE c) fun s c => s.setCapState c 1
      else s
    if s.boot.refused then s
    else if s.get F.LC_STATE.STATE = 5 then s.setB F.BOOT_STATUS.STOPPED true
    else
      let s := s.each s.strings fun s k => if s.laneSt k = lsUp then s else s.set F.CAT_STR_REACH.CODE 7 k
      (s.toStep 7).runAll

-- Steps 7 to 11

/-- Step 7 ends with the discovery-time budget checks (R20, R418). -/
def discovered (s : State) : State :=
  if !s.atStep 7 || s.boot.refused then s
  else
    let r := s.runBudget s.liveGroup { ranges := false, transition := false, compute := false, dispatch := true, declaredGen := false, found := true }
    let s := s.storeBudget r
    if r.res.code = 0 then s.toStep 8 else s.refuseReady r.res.code

/-- A START_CAT segment for a string and TEST code: RUN_TNUM and the bitmaps over 128 positions (R143;
the order of its words is DESIGN CHOICE, log entry 34). -/
def testSegment (s : State) (k : Nat) (b : Nat × Nat) : State :=
  let at_ := fun (f : CellLink → Bool) => packBits ((List.range 128).map fun p => decide (p < s.declared k) && f (s.cell (s.base k + p)))
  let ws := [BitVec.ofNat 32 (2 ^ 16 + k * 4 + b.1), BitVec.ofNat 32 (b.2 % 2 ^ 24)]
    ++ at_ (fun c => hasBit c.tests b.1 || hasBit c.failed b.1) ++ at_ (fun c => hasBit c.failed b.1)
  if s.vit.startCat.length < 384 then
    let s := { s with vit := { s.vit with startCat := s.vit.startCat ++ [ws] } }
    s.set F.REC_STATUS.STAGING_KIB (min 8191 ((4 * (s.vit.startCat.map List.length).sum + 1023) / 1024))
  else s

/-- Step 10: without a twin it takes no time; with one the device enters PAIRING (R279, R418). -/
def beginPairing (s : State) : State :=
  let s := s.toStep 10
  if s.flag F.TWIN_CTRL.TWIN_EN then s.setMode 1 1 else s.toStep 11

/-- Step 9 ends when the calibration begun in step 5 is complete (R155, R418). -/
def tryStep10 (s : State) : State :=
  if s.atStep 9 && !s.boot.refused && decide (2 ≤ s.get F.ADC_STATUS.CAL_STATE) then s.beginPairing else s

/-- Step 8 ends: the broadcast TESTs have run (R418). -/
def selfTested (s : State) : State :=
  if !s.atStep 8 || s.boot.refused then s
  else
    let s := s.each s.strings fun s k => (s.link k).bcasts.foldl (fun s b => s.testSegment k b) s
    (s.toStep 9).tryStep10

/-- READY (R419, R420), us counting the µs since the release: refused where the Curator has recorded
SET_CRC or PARITY. What READY opens begins at the next boundary. -/
def becomeReady (s : State) (us : Nat) : State :=
  if !s.atStep 11 || s.boot.refused then s
  else if s.cur.faults / 2 ^ cfSetCrc % 2 = 1 || s.cur.faults / 2 ^ cfParity % 2 = 1 then
    { s with boot := { s.boot with refused := true } }
  else
    let s := { s with boot := { s.boot with readyWait := true } }
    (s.setB F.BOOT_STATUS.READY true).set F.BOOT_READY_TIME.TIME (us % 2 ^ 32)

-- The life cycle (R429 to R432)

/-- A commit is refused (R431). -/
def lcRefuse (s : State) (result : Nat) : State :=
  let s := { s with boot := { s.boot with armed := none, armExpired := false } }
  let s := (s.setB F.LC_CMD.ARMED false).set F.LC_CMD.LC_RESULT result
  (s.setB F.LC_CMD.LC_REFUSED true).set F.BOOT_STATUS.CODE 0x31

/-- ARM with a TARGET (R431). -/
def lcArm (s : State) (target : Nat) : State :=
  if s.boot.burning.isSome then s
  else
    let s := { s with boot := { s.boot with armed := some target, armBlocked := !s.anyDeblocked, armExpired := false } }
    s.setB F.LC_CMD.ARMED true

/-- A transition of R430 that the table allows. -/
def lcAllowed (s : State) (target : Nat) : Bool :=
  match s.get F.LC_STATE.STATE, target with
  | 0, 1 => s.boot.loaded
  | 1, 2 | 2, 3 | 4, 3 | 3, 4 | 4, 2 => true
  | st, 5 => st ≠ 5
  | _, _ => false

/-- The safety slot a commit to a target burns: none but for IN_SERVICE, and there only a value that
differs from the last burnt one (R408, R430). -/
def lcSlot (s : State) (target : Nat) : Option Word :=
  let v := s.reg F.SAFE_CHECK.CHECK.base
  if target = 3 && s.lastSlot ≠ some v then some v else none

/-- COMMIT with a TARGET (R430, R431): the code it is refused with, 0 where the burn starts. -/
def lcCode (s : State) (target : Nat) : Nat :=
  if s.boot.armExpired then 6
  else if s.boot.armed ≠ some target || !s.lcAllowed target then 5
  else if !s.boot.armBlocked || s.anyDeblocked then 1
  else if target = 3 && !s.flag F.SAFE_STATUS.CONFIRMED then 2
  else if (s.lcSlot target).isSome && 8 ≤ s.fuse.slots.length then 3
  else if target ≠ 5 && 63 ≤ s.fuse.rows.length then 4
  else 0

def lcCommit (s : State) (target : Nat) : State :=
  if s.boot.burning.isSome then s
  else
    let c := s.lcCode target
    if c ≠ 0 then s.lcRefuse c
    else
      let s := { s with boot := { s.boot with armed := none, burning := some (target, s.lcSlot target) } }
      s.setB F.LC_CMD.ARMED false

/-- The fuses after the burn (R429, R430). -/
def burnt (s : State) (target : Nat) (slot : Option Word) : Fuses :=
  let f := match slot with
    | some v => { s.fuse with slots := s.fuse.slots ++ [(v, true)] }
    | none => s.fuse
  let f := if target = 1 then { f with digest := some s.img.keyDigest } else f
  if target = 5 then { f with row63 := some true } else { f with rows := f.rows ++ [⟨target, f.rows.length, true⟩] }

/-- The burn completes, and the life-cycle reset follows (R415, R431). -/
def burnDone (s : State) : State :=
  match s.boot.burning with
  | none => s
  | some (t, slot) => ({ s with fuse := s.burnt t slot, boot := { s.boot with burning := none } }).resetTo false 5

/-- No COMMIT within 1 s of ARM (R431): the ARM is cleared, and a COMMIT that comes later is refused with ARM_EXPIRED. -/
def lcExpired (s : State) : State :=
  if s.boot.armed.isNone then s
  else ({ s with boot := { s.boot with armed := none, armExpired := true } }).setB F.LC_CMD.ARMED false

/-- The safety parameter set checked again (R407, R409): SET_CRC where a burnt slot differs in IN_SERVICE. -/
def checkSet (s : State) : State :=
  let s := s.recheck
  if s.boot.loaded && s.get F.LC_STATE.STATE = 3 && s.lastSlot ≠ some (s.reg F.SAFE_CHECK.CHECK.base)
      && s.cur.faults / 2 ^ cfSetCrc % 2 = 0
  then s.curatorFault cfSetCrc else s

end State

/-- POWER_ON (R415). -/
def execPowerOn (s : State) : Host.Outcome State Fault Refusal := .next (s.resetTo false 0)

/-- COLD_RESET (R415, R416): by COLD_RST_N, or by VDD_SAFE below 1.62 V. A main rail's reset is RAIL_FAULT. -/
def execColdReset (c : ColdCause) (s : State) : Host.Outcome State Fault Refusal := .next (s.resetTo false (State.coldCode c))

/-- WARM_RESET (R415, R416): by WARM_RST_N, with the bits of the journal head that the retention
registers lose across it. -/
def execWarmReset (upset : BitVec 512) (s : State) : Host.Outcome State Fault Refusal := .next (s.warmReset upset)

/-- RAIL_FAULT (R415, R479): a rail has been outside its monitor window for 1 µs. -/
def execRailFault (s : State) : Host.Outcome State Fault Refusal := .next (s.resetTo false 3)

/-- RESET_RELEASE (R415, R418): the straps, and whether the fuses read. -/
def execResetRelease (junior : Bool) (strap : Fin 4) (fuseOk : Bool) (s : State) : Host.Outcome State Fault Refusal :=
  .next (s.releaseReset junior strap fuseOk)

/-- ON_CHIP_WIPE_COMPLETE (R415, R418). -/
def execOnChipWipeComplete (s : State) : Host.Outcome State Fault Refusal :=
  .next (({ s with boot := { s.boot with wiped := true } }).tryStep3)

/-- IMAGE_READ_COMPLETE (R421 to R425): block 0 of both slots, and the read of the slot whose turn it is. -/
def execImageReadComplete (h0 h1 : ImageHead) (r : ImageRead) (s : State) : Host.Outcome State Fault Refusal :=
  .next (s.imageRead h0 h1 r)

/-- WIPE_CHECK_COMPLETE (R418). -/
def execWipeCheckComplete (ok : Bool) (s : State) : Host.Outcome State Fault Refusal := .next (s.wipeCheck ok)

/-- PLL_LOCK (R14, R409, R418). -/
def execPllLock (ok : Bool) (loopBad : BitVec 64) (s : State) : Host.Outcome State Fault Refusal := .next (s.pllLock ok loopBad)

/-- TRAINING_COMPLETE (R418): every enabled lane is UP; mem says whether the record memory is trained. -/
def execTrainingComplete (mem : Bool) (s : State) : Host.Outcome State Fault Refusal :=
  .next (if s.lanesUp then s.trained mem else s)

/-- TRAIN_WAIT_EXPIRY (R418). -/
def execTrainWaitExpiry (mem : Bool) (s : State) : Host.Outcome State Fault Refusal := .next (s.trained mem)

/-- STARTUP_DISCOVERY_COMPLETE (R20, R418). -/
def execStartupDiscoveryComplete (s : State) : Host.Outcome State Fault Refusal := .next s.discovered

/-- STARTUP_SELFTEST_COMPLETE (R143, R418). -/
def execStartupSelftestComplete (s : State) : Host.Outcome State Fault Refusal := .next s.selfTested

/-- CAL_COMPLETE (R156): for each channel the sums of the 256,000 codes of the three phases, and the die
temperature, 1 °C per LSB with offset −40 °C. Step 9 of start-up waits for it. -/
def execCalComplete (sums : List (Int × Int × Int)) (temp : BitVec 8) (s : State) : Host.Outcome State Fault Refusal :=
  .next ((s.calFinish sums temp.toNat).tryStep10)

/-- READY (R420), with the µs since the release of the reset. -/
def execReady (us : Nat) (s : State) : Host.Outcome State Fault Refusal := .next (s.becomeReady us)

/-- LC_ARM_EXPIRED (R431). -/
def execLcArmExpired (s : State) : Host.Outcome State Fault Refusal := .next s.lcExpired

/-- FUSE_BURN_COMPLETE (R431). -/
def execFuseBurnComplete (s : State) : Host.Outcome State Fault Refusal := .next s.burnDone

/-- SAFE_CHECK_RECOMPUTE (R407, R409): every 10 ms. -/
def execSafeCheckRecompute (s : State) : Host.Outcome State Fault Refusal := .next s.checkSet

end Sys2Proof.Machine
end

