-- ==== Sys2Proof/Machine/Debug.lean ====
section
/-!
DEFINITION. Flash commands, the debug unlock and the test access port (R427, R433, R434, R490), as far
as they need no access to the management space; those that do stand in Mgmt.lean.
-/

namespace Sys2Proof.Machine

namespace State

-- Flash (R427)

/-- The buffer's last four bytes are the CRC-32C of the other 4,092. -/
def nvmBufOk (s : State) : Bool :=
  let ws := (List.range 1023).map fun w => s.reg (F.NVM_BUF.DATA.addr w)
  Crc.crc32c (ws.flatMap Crc.wordBytes) = (s.reg (F.NVM_BUF.DATA.addr 1023)).toNat

/-- The block, or the sector that holds it, lies in the slot that was loaded. -/
def nvmLoaded (s : State) (block : Nat) : Bool :=
  s.boot.loaded && block / 4096 = s.get F.BOOT_STATUS.SLOT

/-- A program (1) or erase (2) command for a flash block: none where R427 refuses it. While one runs a
further command has no effect (DESIGN CHOICE, log entry 35). -/
def nvmCommand (s : State) (op block : Nat) : Option State :=
  if s.boot.flash.isSome || op = 0 then some s
  else if s.nvmLoaded block || !s.nvmBufOk || s.get F.LC_STATE.STATE = 5 then none
  else
    let data := if op = 1 then (List.range 1024).map fun w => (s.reg (F.NVM_BUF.DATA.addr w)).toNat else []
    let s := ({ s with boot := { s.boot with flash := some (op, block) } }).setB F.NVM_STATUS.BUSY true
    some (s.emit (.pin (if op = 1 then "NVM_PROGRAM" else "NVM_ERASE") (block :: data)))

def nvmDone (s : State) : State :=
  ({ s with boot := { s.boot with flash := none } }).setB F.NVM_STATUS.BUSY false

-- Debug access (R433, R434)

/-- The present debug level. -/
def level (s : State) : Nat := s.get F.DBG_STATUS.LEVEL

/-- The highest level an unlock reaches in the life-cycle state (R433). -/
def topLevel (s : State) : Nat :=
  let st := s.get F.LC_STATE.STATE
  if st = 3 || st = 5 then 1 else 2

/-- A read of DBG_CHAL_0: a fresh challenge of four words that the spec leaves open (DESIGN CHOICE, log entry 12); it
voids the previous one and a verification of it. -/
def drawChallenge (s : State) : State :=
  let s := (List.range 4).foldl (fun (s : State) i => let (w, s) := s.free; s.setReg (F.DBG_CHAL.CHAL.addr i) w) s
  ({ s with dbg := { s.dbg with chal := true, verify := none } }).setB F.DBG_STATUS.BUSY false

/-- VERIFY with a level: ignored after 8 failures, without a challenge, or while one runs. -/
def dbgVerify (s : State) (lvl : Nat) : State :=
  if 8 ≤ s.get F.DBG_STATUS.DBG_FAIL || !s.dbg.chal || s.dbg.verify.isSome then s
  else ({ s with dbg := { s.dbg with verify := some lvl } }).setB F.DBG_STATUS.BUSY true

/-- The verification ends: ok says that the signature verifies against INSTALL_KEY of the loaded image. -/
def dbgVerified (s : State) (ok : Bool) : State :=
  match s.dbg.verify with
  | none => s
  | some lvl =>
    let t := ({ s with dbg := { s.dbg with verify := none } }).setB F.DBG_STATUS.BUSY false
    if ok && s.boot.loaded && lvl ≤ s.topLevel then t.set F.DBG_STATUS.LEVEL lvl else t.bump F.DBG_STATUS.DBG_FAIL

def dbgRelock (s : State) : State := s.set F.DBG_STATUS.LEVEL s.baseLevel

-- The test access port (R433, R490)

def setIr (s : State) (i : Nat) : State := { s with dbg := { s.dbg with ir := i } }

/-- EXTEST is allowed: debug level 2, BLANK or MAINTENANCE, every arm blocked. -/
def extestOk (s : State) : Bool :=
  let st := s.get F.LC_STATE.STATE
  s.level = 2 && (st = 0 || st = 4) && !s.anyDeblocked

end State

/-- NVM_COMMAND_COMPLETE (R427). -/
def execNvmCommandComplete (s : State) : Host.Outcome State Fault Refusal := .next s.nvmDone

/-- DBG_VERIFY_COMPLETE (R434): whether the signature verifies. -/
def execDbgVerifyComplete (ok : Bool) (s : State) : Host.Outcome State Fault Refusal := .next (s.dbgVerified ok)

/-- JTAG_IDCODE (R490). -/
def execJtagIdcode (s : State) : Host.Outcome State Fault Refusal :=
  .next ((s.setIr 0x01).emit (.pin "TDO" [0x2614414F]))

/-- JTAG_SAMPLE_PRELOAD (R490): the boundary-scan cells as shifted in. -/
def execJtagSamplePreload (cells : List Bool) (s : State) : Host.Outcome State Fault Refusal :=
  .next (let s := s.setIr 0x02
         { s with dbg := { s.dbg with scan := cells } })

/-- JTAG_EXTEST (R433, R490): the preloaded cells drive the pins; where it is not allowed nothing changes. -/
def execJtagExtest (s : State) : Host.Outcome State Fault Refusal :=
  .next (if s.extestOk then (s.setIr 0x03).emit (.pin "EXTEST" (s.dbg.scan.map fun b => if b then 1 else 0)) else s)

/-- JTAG_BYPASS (R490). -/
def execJtagBypass (s : State) : Host.Outcome State Fault Refusal := .next (s.setIr 0xFF)

/-- JTAG_TRST (R490): the port resets; IDCODE is its instruction then (IEEE 1149.1; PRESUMED, log entry 36). -/
def execJtagTrst (s : State) : Host.Outcome State Fault Refusal := .next (s.setIr 0x01)

end Sys2Proof.Machine
end

