-- ==== Sys2Proof/Machine/Station.lean ====
section
/-!
DEFINITION. What the station ports receive and send beside management access: the check of a message,
sessions, orders and their acceptance, credit and PAUSE, subscriptions, BEACON (R313 to R328 of
12_station_orders_telemetry_and_management.md).
-/

namespace Sys2Proof.Machine

/-- A station message whose MAGIC, VER, LENGTH and CRC are right (R315): auth is its TAG, signed every byte
before that. -/
structure StnIn where
  ver : Nat
  kind : Nat
  tag : Nat
  seq : Nat
  body : List Nat
  auth : List Nat
  signed : List Nat
deriving DecidableEq, Repr

/-- The management kinds, which carry a TAG (R315, R316). -/
def isMgmtKind (k : Nat) : Bool := k = 0x30 || k = 0x31 || k = 0x32

/-- The message of a UDP payload, none where it is discarded (R315). -/
def readStn (raw : List Byte) : Option StnIn :=
  let l := fromBytes raw
  let len := fieldAt l 12 2
  let kind := fieldAt l 3 1
  let ver := fieldAt l 2 1
  let head := 16 + len
  let total := head + (if isMgmtKind kind then 16 else 0)
  if l.length ≠ total + 4 || 1472 < l.length || fieldAt l 0 2 ≠ 0xA6F1 || ver = 0 || 3 < ver
      || Crc.crc32c (l.take total) ≠ fieldAt l total 4 then none
  else some ⟨ver, kind, fieldAt l 4 2, fieldAt l 6 6, (l.drop 16).take len, (l.take total).drop head, l.take head⟩

namespace State

-- Receiving

/-- A message that is discarded (R315). -/
def msgBad (s : State) (p : Nat) : State := s.bump F.STN_PORT_CNT.MSG_BAD 1 p

/-- A frame that is discarded (R313). -/
def rxDrop (s : State) (p : Nat) : State := s.bump F.STN_PORT_CNT.RX_DROP 1 p

/-- A UDP payload received on a port, as a message of the kind given. -/
def rxStn (s : State) (p : Nat) (kind : Nat) (raw : List Byte) (f : State → StnIn → State) : State :=
  if !s.flag F.STN_PORT_CTRL.SESS_EN p then s.rxDrop p
  else match readStn raw with
    | some m => if m.kind = kind then f s m else s.msgBad p
    | none => s.msgBad p

/-- The held session of a tag. -/
def slotOf (s : State) (tag : Nat) : Option Nat := s.heldSlots.find? fun k => s.sessTag k = tag

/-- A message of a held session, with VER up to its version: it names the session's last source address
(R314, R315). A message of no held session is discarded (DEDUCED, log entry 31). -/
def forSess (s : State) (p : Nat) (src : NetAddr) (m : StnIn) (f : State → Nat → State) : State :=
  match s.slotOf m.tag with
  | none => s.msgBad p
  | some k =>
    if s.sessVer k < m.ver then s.msgBad p
    else f (s.setSess k { s.sess k with src := src, port := p }) k

/-- A NAK to where the message came from (R314, R316): EXPECTED and CODE. -/
def nak (s : State) (p : Nat) (src : NetAddr) (m : StnIn) (exp code : Nat) : State :=
  s.emit (.station p (s.vlan p) src (stnMsg m.ver 0x12 m.tag m.seq (Crc.bytesBE 6 exp ++ [code]) []))

-- Sessions (R317, R318, R328)

/-- The version of an OPEN's session: the highest within VER_MIN to VER_MAX and 1 to 3 (R317). -/
def openVer (lo hi : Nat) : Option Nat := if max lo 1 ≤ min hi 3 then some (min hi 3) else none

/-- OPEN_ACK of an OPEN that opens nothing. -/
def openRefuse (s : State) (p : Nat) (src : NetAddr) (m : StnIn) (reason : Nat) : State :=
  let home := if s.mode = 0 then 2 else if s.junior then 1 else 0
  s.emit (.station p (s.vlan p) src (stnMsg m.ver 0x02 m.tag 0 (s.openAckBody m.ver 0 home reason 0 0 0) []))

/-- A session opened or re-opened: answered at once, in DUPLEX when the peer has acknowledged it; a version 1
session takes stream 0 as the image defines it (R318, R325). -/
def openDone (s : State) (k reason : Nat) : State :=
  let x := s.sess k
  let t := AMap.read (fun _ => none) s.stn.tele 0
  let s := if s.sessVer k = 1 && t.isNone && s.img.stream0.2 ≠ 0 then
      { s with stn := { s.stn with tele := AMap.put (fun _ => none) s.stn.tele 0
                                     (some ⟨k, s.img.stream0.1, s.img.stream0.2, false, x.src, x.port, 0⟩) } }
    else s
  if s.mode = 2 then
    let s := s.setSess k { x with openEvt := some s.twin.evtSeq, openReason := reason }
    s.sendEvt (.journal (.session (s.sessRec k)))
  else s.openAck k reason

/-- A nonzero SESSION_TAG that no held session has (R317). -/
def newTag (s : State) : Nat :=
  (((List.range 5).map fun d => (s.stn.nextTag + d) % 65535 + 1).find? fun t => (s.slotOf t).isNone).getD 1

/-- A new session (R317): HOME is this twin, EXPECTED is FIRST, APPLIED the number before it. -/
def openNew (s : State) (p : Nat) (src : NetAddr) (m : StnIn) (ver reason : Nat) : State :=
  match (List.range 4).find? fun k => s.sessTag k = 0 with
  | none => s.openRefuse p src m 3
  | some k =>
    let first := fieldAt m.body 2 6
    let tag := s.newTag
    let s := { s with stn := { s.stn with nextTag := tag } }
    (s.putSess ⟨k, tag, ver, !s.junior, first, first - 1, src, p⟩).openDone k reason

/-- An OPEN (R317, R318, R328). -/
def openMsg (s : State) (p : Nat) (src : NetAddr) (m : StnIn) : State :=
  if m.body.length ≠ 8 then s.msgBad p
  else if s.mode = 1 || s.mode = 5 then s.nak p src m 0 3
  else if !s.isReady then s.openRefuse p src m 6
  else match openVer (fieldAt m.body 0 1) (fieldAt m.body 1 1) with
    | none => s.openRefuse p src m 4
    | some v =>
      match (if m.tag = 0 then none else s.slotOf m.tag) with
      | some k =>
        if s.mode = 2 && !s.sessHome k then s.nak p src m (s.expected k) 2
        else
          let s := (s.set F.STN_SESS_STATUS.VER v k).setSess k { s.sess k with src := src, port := p }
          s.openDone k 1
      | none =>
        if s.mode = 4 then s
        else s.openNew p src m v (if m.tag ≠ 0 && s.flag F.TWIN_STATUS.HEAD_LOST then 5 else 0)

/-- A session ends: by CLOSE, or SESS_TIMEOUT without a message (R317). In DUPLEX its home tells the peer. -/
def closeSess (s : State) (k : Nat) : State :=
  if s.sessTag k = 0 || s.mode = 2 && !s.sessHome k then s
  else
    let s := s.dropSess k
    if s.mode = 2 then s.sendEvt (.journal (.closed k)) else s

-- PAUSE (R323, R456)

/-- A PAUSE frame on a port. -/
def sendPause (s : State) (p quanta : Nat) : State :=
  (s.emit (.port p none "PAUSE" [quanta])).bump F.STN_PORT_CNT.PAUSE_TX 1 p

/-- PAUSE comes into force on a port. -/
def pauseOn (s : State) (p : Nat) : State :=
  let on := if s.stn.pause.contains p then s.stn.pause else s.stn.pause ++ [p]
  ({ s with stn := { s.stn with pause := on } }).sendPause p (s.get F.STN_CTRL2.PAUSE_QUANTA)

/-- Orders unanswered for want of credit keep PAUSE in force while their cause holds. -/
def stillStarved (s : State) (e : Nat × Nat) : Bool := s.credit e.2 = 0 || s.mode = 4

/-- Half the pause time has passed on a port (R323); full says that its receive buffer stands above three
quarters. -/
def pauseRepeat (s : State) (p : Nat) (full : Bool) : State :=
  let kept := s.stn.starved.filter s.stillStarved
  let s := { s with stn := { s.stn with starved := kept } }
  if full || s.stnStalled || kept.any (fun e => e.1 = p) then s.pauseOn p
  else if s.stn.pause.contains p then
    ({ s with stn := { s.stn with pause := s.stn.pause.filter (· ≠ p) } }).sendPause p 0
  else s

-- Orders (R320, R321)

/-- An in-sequence order journaled with its apply tick: accepted at once in ALONE and SOLO, in DUPLEX when
the peer has acknowledged it. -/
def journalOrder (s : State) (k p : Nat) (m : StnIn) (req : Nat) (rest : List Nat) : State :=
  let n := s.tickNo
  let dup := s.mode = 2
  let earliest := if dup then n + 3 else n + 2
  let far := n + 65536 < req
  let o : JOrder :=
    { slot := k, tag := m.tag, seq := m.seq, apply := if far then earliest else max req earliest, tooFar := far
      code := fieldAt rest 0 1, count := fieldAt rest 1 1, items := toBytes (rest.drop 4), port := p
      evt := if dup then some s.twin.evtSeq else none }
  let s := { s with stn := { s.stn with journal := s.stn.journal ++ [o] } }
  let s := (s.setExpected k (m.seq + 1)).showCredit k
  if dup then s.sendEvt (.journal (.order { o with evt := none })) else s.acceptOrder o

/-- One ORDER of a session (R320). -/
def orderIn (s : State) (k p : Nat) (src : NetAddr) (m : StnIn) : State :=
  let e := s.expected k
  let ofs := if s.sessVer k = 1 then 0 else 8
  if m.body.length < ofs + 4 then s.msgBad p
  else if s.mode = 1 || s.mode = 5 then s.nak p src m e 3
  else if !s.isReady then s.nak p src m e 4
  else if s.mode = 2 && !s.sessHome k then s.nak p src m e 2
  else if m.seq < e then (s.bump F.STN_SESS_CNT.DUP_CNT 1 k).sendAck k
  else if e < m.seq then
    let s := s.bump F.STN_SESS_CNT.GAP_CNT 1 k
    if (s.sess k).nakTick = some s.tickNo then s
    else (s.setSess k { s.sess k with nakTick := some s.tickNo }).nak p src m e 1
  else if s.credit k = 0 || s.mode = 4 then
    let s := s.bump F.STN_SESS_CNT.OVER_CNT 1 k
    ({ s with stn := { s.stn with starved := if s.stn.starved.contains (p, k) then s.stn.starved else s.stn.starved ++ [(p, k)] } }).pauseOn p
  else if e = 2 ^ 48 - 1 then s.nak p src m e 5
  else s.journalOrder k p m (if ofs = 0 then 0 else fieldAt m.body 0 8) (m.body.drop ofs)

/-- An ORDER (R320, R328): one of no held session is answered only where the device serves none. -/
def orderMsg (s : State) (p : Nat) (src : NetAddr) (m : StnIn) : State :=
  if (s.slotOf m.tag).isNone && (s.mode = 1 || s.mode = 5) then s.nak p src m 0 3
  else if (s.slotOf m.tag).isNone && !s.isReady then s.nak p src m 0 4
  else s.forSess p src m fun s k => s.orderIn k p src m

-- Telemetry subscriptions (R325)

/-- SUBSCRIBE: set, changed or cancelled; what the session may not have is discarded. -/
def subscribe (s : State) (k p : Nat) (src : NetAddr) (m : StnIn) : State :=
  let n := fieldAt m.body 0 1
  let cnt := if fieldAt m.body 1 1 = 0 then 256 else fieldAt m.body 1 1
  let dec := fieldAt m.body 2 2
  let items := (List.range cnt).map fun j => fieldAt m.body (4 + 2 * j) 2
  let held := s.stn.tele.filter fun e => e.2.any fun t => t.slot = k
  let old := AMap.read (fun _ => none) s.stn.tele n
  if s.sessVer k < 2 || 16 ≤ n || m.body.length ≠ 4 + 2 * cnt || dec % 2 ^ 15 = 0 then s.msgBad p
  else if !s.sessHome k then s
  else if old.any (fun t => t.slot ≠ k) || old.isNone && 4 ≤ held.length then s.msgBad p
  else
    let t : Option Tele :=
      if items.any (fun i => decide (i < 4096)) then some ⟨k, items, dec % 2 ^ 15, decide (2 ^ 15 ≤ dec), src, p, 0⟩ else none
    { s with stn := { s.stn with tele := AMap.put (fun _ => none) s.stn.tele n t } }

-- BEACON (R326)

/-- The body of BEACON. -/
def beaconBody (s : State) : List Nat :=
  let safe := (if s.flag F.SAFE_STATUS.SAFE_OK then 1 else 0) + (if s.flag F.SAFE_STATUS.SBK then 2 else 0)
  [if s.junior then 1 else 0, s.mode, s.get F.TWIN_STATUS.PEER_MODE, s.get F.LC_STATE.STATE, s.get F.BOOT_STATUS.STEP, safe]
    ++ Crc.bytesBE 8 s.tickNo
    ++ (List.range 4).flatMap fun k => Crc.bytesBE 2 (s.sessTag k) ++ Crc.bytesBE 6 (s.expected k)

/-- BEACON to the last source address of every held session and to broadcast, from station-lane bring-up on. -/
def beacon (s : State) : State :=
  if !s.trainingBegun then s
  else
    let msg := fun (ver : Nat) => stnMsg ver 0x22 0 s.stn.beacons s.beaconBody []
    let t := s.each (s.heldSlots.filter fun k => decide ((s.sess k).src ≠ ⟨0, 0, 0⟩)) fun t k => t.emit (.station (s.sess k).port (t.vlan (s.sess k).port) (s.sess k).src (msg (max 1 (s.sessVer k))))
    let all : NetAddr := ⟨0xFFFFFFFFFFFF#48, 0xFFFFFFFF#32, BitVec.ofNat 16 (s.get F.STN_CTRL.ORDER_PORT)⟩
    let t := t.each ((List.range 4).filter fun p => s.flag F.STN_PORT_CTRL.BCAST p) fun t p => t.emit (.station p (t.vlan p) all (msg 1))
    { t with stn := { t.stn with beacons := (t.stn.beacons + 1) % 2 ^ 48 } }

-- Address resolution and echo (R313)

/-- The MAC address of a port. -/
def portMac (s : State) (p : Nat) : Nat := s.get F.STN_PORT_MAC_HI.MAC_47_32 p * 2 ^ 32 + s.get F.STN_PORT_MAC_LO.MAC_31_0 p

def stnCntClear (s : State) : State :=
  let s := s.each (List.range 4) fun s p => s.clearAll [F.STN_PORT_CNT.RX_DROP, F.STN_PORT_CNT.MSG_BAD, F.STN_PORT_CNT.PAUSE_TX] p
  let s := s.each (List.range 4) fun s k => s.clearAll [F.STN_SESS_CNT.GAP_CNT, F.STN_SESS_CNT.DUP_CNT, F.STN_SESS_CNT.OVER_CNT,
    F.STN_SESS_CNT.LATE_ACCEPT] k
  s.clearAll [F.STN_CTRL2.REPLAY, F.STN_AUTH_CNT.AUTH_FAIL]

end State

/-- ARP_REQUEST (R313): for an IPv4 address, from a sender. -/
def execArpRequest (p : Fin 4) (ip : Word) (src : NetAddr) (s : State) : Host.Outcome State Fault Refusal :=
  .next (if ip = s.reg (F.STN_PORT_IP.IPV4.addr p) then
      s.emit (.port p (s.vlan p) "ARP_REPLY" [s.portMac p, ip.toNat, src.mac.toNat, src.ip.toNat])
    else s.rxDrop p)

/-- ICMP_ECHO (R313): an echo request to an address, with its data. -/
def execIcmpEcho (p : Fin 4) (ip : Word) (src : NetAddr) (data : List Byte) (s : State) : Host.Outcome State Fault Refusal :=
  .next (if ip = s.reg (F.STN_PORT_IP.IPV4.addr p) then
      s.emit (.port p (s.vlan p) "ICMP_ECHO_REPLY" ([s.portMac p, ip.toNat, src.mac.toNat, src.ip.toNat] ++ fromBytes data))
    else s.rxDrop p)

/-- STN_FRAME_DISCARD (R313, R315): a frame, or a station message, that is discarded. -/
def execStnFrameDiscard (p : Fin 4) (isMsg : Bool) (s : State) : Host.Outcome State Fault Refusal :=
  .next (if isMsg then s.msgBad p else s.rxDrop p)

/-- OPEN (R317). -/
def execOpen (p : Fin 4) (src : NetAddr) (raw : List Byte) (s : State) : Host.Outcome State Fault Refusal :=
  .next (s.rxStn p 0x01 raw fun s m => s.openMsg p src m)

/-- CLOSE (R317). -/
def execClose (p : Fin 4) (src : NetAddr) (raw : List Byte) (s : State) : Host.Outcome State Fault Refusal :=
  .next (s.rxStn p 0x03 raw fun s m => s.forSess p src m fun s k => s.closeSess k)

/-- ORDER (R320). -/
def execOrder (p : Fin 4) (src : NetAddr) (raw : List Byte) (s : State) : Host.Outcome State Fault Refusal :=
  .next (s.rxStn p 0x10 raw fun s m => s.orderMsg p src m)

/-- SUBSCRIBE (R325). -/
def execSubscribe (p : Fin 4) (src : NetAddr) (raw : List Byte) (s : State) : Host.Outcome State Fault Refusal :=
  .next (s.rxStn p 0x20 raw fun s m => s.forSess p src m fun s k => s.subscribe k p src m)

/-- BEACON_SEND (R326). -/
def execBeaconSend (s : State) : Host.Outcome State Fault Refusal := .next s.beacon

/-- SESSION_TIMEOUT (R317). -/
def execSessionTimeout (k : Fin 4) (s : State) : Host.Outcome State Fault Refusal := .next (s.closeSess k)

/-- PAUSE_REPEAT (R323). -/
def execPauseRepeat (p : Fin 4) (full : Bool) (s : State) : Host.Outcome State Fault Refusal := .next (s.pauseRepeat p full)

end Sys2Proof.Machine
end

