-- ==== Sys2Proof/Machine/Sched.lean ====
section
/-!
DEFINITION. The dispatcher, the droop response and the power ledger of
18_supervisors_scheduling_and_power.md.
-/

namespace Sys2Proof.Machine

/-- Time a lies before time b in the comparison of R331 and R455. -/
def wrapBefore (a b : Word) : Bool := decide (2 ^ 31 ≤ (a - b).toNat)

/-- Item a is earlier than item b (R455). -/
def Item.earlier (a b : Item) : Bool :=
  if a.overdue != b.overdue then a.overdue
  else if a.deadline ≠ b.deadline then wrapBefore a.deadline b.deadline
  else if a.cls ≠ b.cls then decide (a.cls < b.cls)
  else decide (a.ready < b.ready)

namespace State

-- The ready pool (R454 to R457)

/-- REL_DEADLINE of a class in ns; classes 10 and 11 hold it divided by 16 (R469). -/
def relDeadline (s : State) (c : Nat) : Nat :=
  s.get F.SCHED_CLASS.REL_DEADLINE c * 1000 * (if c = 10 || c = 11 then 16 else 1)

/-- Lowest place of the pool that holds no item. -/
def freeHandle (s : State) : Nat :=
  ((List.range 512).find? fun h => !s.sched.pool.any fun (i : Item) => decide (i.handle = h)).getD 0

/-- POOL_USED, POOL_PEAK and HW_STALL as they follow from the pool. -/
def showPool (s : State) : State :=
  let n := s.sched.pool.length
  let s := (s.set F.SCHED_STATUS.POOL_USED n).set F.SCHED_STATUS.POOL_PEAK (max n (s.get F.SCHED_STATUS.POOL_PEAK))
  s.setB F.SCHED_STATUS.HW_STALL (!s.sched.waiting.isEmpty)

/-- An item takes its place in the pool: it is made ready now (R453, R454). -/
def makeReady (s : State) (w : Waiting) : State :=
  let d := match w.deadline with
    | some d => d
    | none => s.now.ns + BitVec.ofNat 32 (s.relDeadline w.cls)
  let it : Item := ⟨d, w.cls, w.source, false, s.freeHandle, w.arg0, w.arg1, s.sched.nextReady⟩
  { s with sched := { s.sched with pool := s.sched.pool ++ [it], nextReady := s.sched.nextReady + 1 } }

/-- Items that wait at hardware sources enter the pool while it holds fewer than 496, in the order they
came (R456). -/
def refill (s : State) : State :=
  let n := 496 - s.sched.pool.length
  let ws := s.sched.waiting.take n
  let s := { s with sched := { s.sched with waiting := s.sched.waiting.drop n } }
  (s.each ws makeReady).showPool

/-- A core in service without an item. -/
def coreFree (s : State) (c : Nat) : Bool :=
  s.bit F.SCHED_STATUS.CORE_UP c && (s.core c).run.isNone && !(s.core c).resetting

/-- The earliest item to the lowest-numbered free core (R455, R458). -/
def dispatchOne (s : State) : State :=
  match (List.range 8).find? s.coreFree, s.sched.pool with
  | some c, i :: rest =>
    let it := rest.foldl (fun (a : Item) b => if b.earlier a then b else a) i
    let s := { s with sched := { s.sched with pool := s.sched.pool.filter fun (x : Item) => decide (x.handle ≠ it.handle) } }
    let s := if it.overdue then s.bump F.SCHED_CLASS_CNT.LATE_START 1 it.cls else s
    let s := s.setCore c { s.core c with run := some (it, s.absNs) }
    (s.set F.SCHED_CORE.STATE 1 c).set F.SCHED_CORE.CLASS it.cls c
  | _, _ => s

/-- Every free core takes its item; waiting items follow into the pool. -/
def dispatchAll (s : State) : State := ((List.range 8).foldl (fun s _ => s.dispatchOne) s).refill

/-- How many items a source holds back before a further one is dropped: stamps 16, lane, measurement and
catalogue events 16, an interrupt and a timer one (R456). Other sources stall, and theirs wait. -/
def holdLimit : Nat → Option Nat
  | 11 => some 16
  | 12 => some 1
  | 14 => some 16
  | 15 => some 1
  | _ => none

/-- A work item of a hardware source that finds the pool at its limit (R456). -/
def holdBack (s : State) (w : Waiting) : State :=
  let n := (s.sched.waiting.filter fun (x : Waiting) => decide (x.source = w.source && x.sub = w.sub)).length
  let n := if w.source = 11 then (s.sched.waiting.filter fun (x : Waiting) => decide (x.source = 11)).length else n
  if (State.holdLimit w.source).all (fun k => decide (n < k)) then
    let s := { s with sched := { s.sched with waiting := s.sched.waiting ++ [w] } }
    let s := s.showPool
    if w.source = 8 then s.pauseOn (w.sub % 4) else s
  else s

/-- A work item submitted (R455, R456); one cancelled in the same cycle is never dispatched (R457). -/
def submit (s : State) (w : Waiting) (cancel : Bool) : State :=
  let room := if w.source < 8 then decide (s.sched.pool.length < 512)
    else s.sched.waiting.isEmpty && decide (s.sched.pool.length < 496)
  if room then
    if cancel then s.bump F.SCHED_CNT.CANCEL_RACE else ((s.makeReady w).showPool).dispatchAll
  else if w.source < 8 then s.bump F.SCHED_CNT.FULL_REFUSED
  else s.holdBack w

/-- A waiting item cancelled; a handle that holds none is answered ALREADY_DONE (R457). -/
def cancelItem (s : State) (h : Nat) : State :=
  if s.sched.pool.any (fun (i : Item) => decide (i.handle = h)) then
    ({ s with sched := { s.sched with pool := s.sched.pool.filter fun (i : Item) => decide (i.handle ≠ h) } }).refill
  else s.emit (.pin "ALREADY_DONE" [h])

/-- Waiting items whose deadline is at or before TIME_NS are OVERDUE from now on (R455). -/
def sweep (s : State) : State :=
  let mark := fun (i : Item) => if wrapBefore s.now.ns i.deadline then i else { i with overdue := true }
  { s with sched := { s.sched with pool := s.sched.pool.map mark } }

-- Cores (R458)

/-- A core's item has ended: its busy interval of the last millisecond is kept (R469). -/
def coreEnds (s : State) (c : Nat) (start : Nat) : State :=
  let busy := ((start, s.absNs) :: (s.core c).busy).filter fun b => decide (s.absNs < b.2 + 1000000)
  (s.setCore c { s.core c with run := none, busy := busy }).clearAll [F.SCHED_CORE.STATE, F.SCHED_CORE.CLASS] c

/-- A core completes its item. lost names the word of supervisor memory whose uncorrectable error made
the core abandon it (R438). -/
def itemDone (s : State) (c : Nat) (lost : Option Nat) : State :=
  match (s.core c).run with
  | none => s
  | some (it, start) =>
    let s := match lost with
      | some w => s.eccLost 8 w false
      | none => s
    let late := it.overdue || wrapBefore it.deadline s.now.ns
    let s := if lost.isSome || late then s.bump F.SCHED_CLASS_CNT.MISS 1 it.cls else s
    (s.coreEnds c start).dispatchAll

/-- An item has run longer than ITEM_LIMIT: it is abandoned and its core reset. -/
def itemLimit (s : State) (c : Nat) : State :=
  match (s.core c).run with
  | none => s
  | some (it, start) =>
    let s := (s.bump F.SCHED_CLASS_CNT.MISS 1 it.cls).bump F.SCHED_CNT.CORE_RESET
    let s := s.coreEnds c start
    let s := s.setCore c { s.core c with resetting := true }
    (s.set F.SCHED_CORE.STATE 2 c).setBit F.SCHED_STATUS.CORE_UP c false

/-- A core's reset completes, and it returns to service. -/
def coreBack (s : State) (c : Nat) : State :=
  if !(s.core c).resetting then s
  else
    let s := s.setCore c { s.core c with resetting := false }
    ((s.set F.SCHED_CORE.STATE 0 c).setBit F.SCHED_STATUS.CORE_UP c true).dispatchAll

/-- LOAD of a core: its busy time over the last millisecond, in 1/1,000 (R469). -/
def coreLoad (s : State) (c : Nat) : Nat :=
  let now := s.absNs
  let run := match (s.core c).run with
    | some (_, start) => [(start, now)]
    | none => []
  min 1000 (((run ++ (s.core c).busy).map fun b => min b.2 now - max b.1 (now - 1000000)).sum / 1000)

def schedCntClear (s : State) : State :=
  let s := s.clearAll [F.SCHED_CNT.FULL_REFUSED, F.SCHED_CNT.CANCEL_RACE, F.SCHED_CNT.CORE_RESET]
  s.each (List.range 16) fun s k => s.clearAll [F.SCHED_CLASS_CNT.MISS, F.SCHED_CLASS_CNT.LATE_START] k

-- Droop (R461)

/-- The level a rail's sag in mV demands, for its threshold. -/
def sagLevel (thr sag : Nat) : Nat := if sag < thr then 0 else min 4 ((sag - thr) / 10 + 1)

/-- The demand of both rails as they stand. -/
def senseSag (s : State) (sagCore sagLoop : Nat) : State :=
  let tc := s.get F.DROOP_CTRL.THR_CORE
  let tl := s.get F.DROOP_CTRL.THR_LOOP
  let s := (s.setB F.DROOP_STATUS.CORE_SAG (decide (tc ≤ sagCore))).setB F.DROOP_STATUS.LOOP_SAG (decide (tl ≤ sagLoop))
  { s with pwr := { s.pwr with demand := max (State.sagLevel tc sagCore) (State.sagLevel tl sagLoop) } }

/-- A deeper level takes effect; a shallower demand waits for its steps. -/
def droopRise (s : State) (sagCore sagLoop : Nat) : State :=
  let s := s.senseSag sagCore sagLoop
  let d := s.pwr.demand
  let l := s.get F.DROOP_STATUS.LEVEL
  if d ≤ l then s
  else
    let s := if l = 0 then s.bump F.DROOP_STATUS.EVENTS else s
    (s.set F.DROOP_STATUS.LEVEL d).set F.DROOP_STATUS.MIN_LEVEL (max d (s.get F.DROOP_STATUS.MIN_LEVEL))

/-- 250 ns later: one level back towards the demand, or up to it where it has risen meanwhile. -/
def droopStep (s : State) (sagCore sagLoop : Nat) : State :=
  let s := s.droopRise sagCore sagLoop
  let l := s.get F.DROOP_STATUS.LEVEL
  if s.pwr.demand < l then s.set F.DROOP_STATUS.LEVEL (l - 1) else s

-- The power ledger (R462 to R464)

/-- Every µs each block's counter takes its estimate in µJ; DROOP_TIME counts the µs at level 1 or
deeper. -/
def powerAdd (s : State) (est : List Nat) : State :=
  let s := s.each (List.range 16) fun s b =>
    let v := s.get64 F.PWR_BLK_LO.ENERGY F.PWR_BLK_HI.ENERGY b + est.getD b 0
    s.set64 F.PWR_BLK_LO.ENERGY F.PWR_BLK_HI.ENERGY (v % 2 ^ 64) b
  if s.flag F.DROOP_STATUS.LEVEL then s.bump F.DROOP_TIME.TIME else s

/-- A window of POWER_WIN ticks ends: P_AVG against the cap as it stands now, in units of 0.1 W; the
register shows it rounded to the nearest unit (DESIGN CHOICE, log entry 37). -/
def powerWindow (s : State) : State :=
  let e := s.powerTotal - s.pwr.winEnergy
  let d := s.tick.absT - s.pwr.winAbs
  let cap := s.get F.PWR_CTRL.POWER_CAP
  let l := s.get F.PWR_STATUS.CURTAIL
  let high := decide (cap * d < e * 10000)
  let low := decide (e * 10000 + s.get F.PWR_CTRL.HYST * d < cap * d)
  let avg := if d = 0 then 0 else min 1023 ((2 * e * 10000 + d) / (2 * d))
  let s := (s.set F.PWR_STATUS.P_AVG avg).setB F.PWR_STATUS.OVER_CAP (high && l = 4)
  let s := if high && l = 4 then s.bump F.PWR_CNT.OVER_CAP_CNT
    else if high then (s.set F.PWR_STATUS.CURTAIL (l + 1)).bump F.PWR_CNT.RAISES
    else if low then s.set F.PWR_STATUS.CURTAIL (l - 1)
    else s
  s.powerBegin s.tick.absT

/-- CLK_CMD.CNT_CLR (R467): the energy counters are cleared by reset alone (R462). -/
def clkCntClear (s : State) : State :=
  s.clearAll [F.DROOP_STATUS.EVENTS, F.DROOP_STATUS.MIN_LEVEL, F.DROOP_TIME.TIME, F.PWR_CNT.OVER_CAP_CNT, F.PWR_CNT.RAISES]

end State

/-- ITEM_READY (R455 to R457): from a source, with the string, port, unit or timer it stands for. -/
def execItemReady (src : Fin 16) (sub : Fin 64) (cls : Fin 12) (deadline : Option Word) (a0 a1 : Word) (cancel : Bool)
    (s : State) : Host.Outcome State Fault Refusal :=
  .next (s.submit ⟨src, sub, cls, deadline, a0, a1⟩ cancel)

/-- ITEM_COMPLETE (R438, R458). -/
def execItemComplete (c : Fin 8) (lost : Option (Fin 524288)) (s : State) : Host.Outcome State Fault Refusal :=
  .next (s.itemDone c (lost.map (·.val)))

/-- ITEM_CANCEL (R457). -/
def execItemCancel (h : Fin 512) (s : State) : Host.Outcome State Fault Refusal := .next (s.cancelItem h)

/-- OVERDUE_SWEEP (R455). -/
def execOverdueSweep (s : State) : Host.Outcome State Fault Refusal := .next s.sweep

/-- ITEM_LIMIT_EXPIRY (R458). -/
def execItemLimitExpiry (c : Fin 8) (s : State) : Host.Outcome State Fault Refusal := .next (s.itemLimit c)

/-- CORE_RESET_COMPLETE (R458). -/
def execCoreResetComplete (c : Fin 8) (s : State) : Host.Outcome State Fault Refusal := .next (s.coreBack c)

/-- DROOP_LEVEL_RISE (R461): the sags of VDD_CORE and VDD_LOOP in mV. -/
def execDroopLevelRise (sagCore sagLoop : Nat) (s : State) : Host.Outcome State Fault Refusal :=
  .next (s.droopRise sagCore sagLoop)

/-- DROOP_RECOVERY_STEP (R461): every 250 ns, with the sags as they stand. -/
def execDroopRecoveryStep (sagCore sagLoop : Nat) (s : State) : Host.Outcome State Fault Refusal :=
  .next (s.droopStep sagCore sagLoop)

/-- POWER_COUNTER_UPDATE (R462): the estimates of blocks 0 to 15. -/
def execPowerCounterUpdate (est : List Nat) (s : State) : Host.Outcome State Fault Refusal := .next (s.powerAdd est)

/-- POWER_WINDOW_END (R463, R464). -/
def execPowerWindowEnd (s : State) : Host.Outcome State Fault Refusal := .next s.powerWindow

end Sys2Proof.Machine
end

