-- ==== Sys2Proof/Machine/Integ.lean ====
section
/-!
DEFINITION. Scrub and patrol passes, and the check units, of 17_integrity_and_check_units.md. A block
computation reads the management space and so stands in Mgmt.lean.
-/

namespace Sys2Proof.Machine

/-- The initial remainder of a POLY (R443). -/
def chkInitial : Nat → Nat
  | 0 => 0xFFFF
  | 1 => 0xB704CE
  | _ => 0xFFFFFFFF

/-- One byte fed (R443). The reflected forms of polynomials 2 and 3 shift right. -/
def chkByte (poly acc b : Nat) : Nat :=
  match poly with
  | 0 => Crc.stepMsb 16 0x1021 acc b
  | 1 => Crc.stepMsb 24 0x864CFB acc b
  | 2 => Crc.stepLsb 0xEDB88320 acc b
  | _ => Crc.stepLsb 0x82F63B78 acc b

/-- The final value of a remainder (R443). -/
def chkFinal (poly acc : Nat) : Nat :=
  if poly < 2 then acc else Nat.xor acc 0xFFFFFFFF

namespace State

-- Scrubs (R439, R373)

/-- A pass of the scrubber with the errors it found: corrected and counted, or counted and recorded
without any other consequence. -/
def scrubPass (s : State) (ecc : List EccEvent) : State :=
  let s := s.each ecc fun s e => match e with
    | .corrected m _ => s.bump F.INTEG_MEM_CNT.CORRECTED 1 m
    | .uncorrected m w => s.eccLost m w true
    | .sigParity _ | .journalCopy => s
    | .journalLost w => s.eccLost 5 w true
  s.bump F.INTEG_PASS.SRAM_PASSES

/-- A pass of the record memory's patrol, once the background wipe is complete: corrected errors, and the
addresses of uncorrectable ones in 64-byte units (R373, R439). -/
def patrolPass (s : State) (corr : Nat) (lost : List Nat) : State :=
  if !s.flag F.REC_STATUS.WIPE_DONE then s
  else
    let s := s.bump F.REC_ECC.CORR corr
    let s := s.each lost fun s a => (s.bump F.REC_ECC.UNCORR).set F.REC_ECC_ADDR.ADDR a
    s.bump F.INTEG_PASS.REC_PASSES

def integCntClear (s : State) : State :=
  let s := s.each (List.range 10) fun s m => s.clearAll [F.INTEG_MEM_CNT.CORRECTED, F.INTEG_MEM_CNT.UNCORRECTED] m
  s.clearAll [F.INTEG_PASS.SRAM_PASSES, F.INTEG_PASS.REC_PASSES, F.INTEG_EVT.SIG_PAR, F.INTEG_EVT.LOCAL_CNT, F.INTEG_EVT.JRNL_DUAL]

-- Check units (R443 to R446)

def chkPoly (s : State) (n : Nat) : Nat := s.get F.CHK_CTRL.POLY n
def chkBusy (s : State) (n : Nat) : Bool := s.flag F.CHK_STATUS.BUSY n

/-- The remainder and with it RESULT. -/
def chkSet (s : State) (n acc : Nat) : State :=
  (s.setChk n { acc := acc }).set F.CHK_RESULT.RESULT (chkFinal (s.chkPoly n) acc) n

/-- INIT: the initial value, and the flags of the last computation cleared. -/
def chkInit (s : State) (n : Nat) : State :=
  (s.chkSet n (chkInitial (s.chkPoly n))).clearAll [F.CHK_STATUS.DONE, F.CHK_STATUS.MISMATCH, F.CHK_STATUS.ABORTED] n

/-- Bytes fed. -/
def chkFeed (s : State) (n : Nat) (bs : List Nat) : State :=
  s.chkSet n (bs.foldl (chkByte (s.chkPoly n)) (s.chk n).acc)

/-- The bytes a write of CHK_DATA feeds (R444). -/
def chkBytes (s : State) (n : Nat) (v : Word) : List Nat :=
  (Crc.wordBytes v).take (match s.get F.CHK_CTRL.WIDTH n with | 0 => 1 | 1 => 2 | _ => 4)

/-- A completion: DONE, and in fall-back mode the comparison, whose mismatch interrupts (R444, R445). -/
def chkDone (s : State) (n : Nat) : State :=
  let s := s.setB F.CHK_STATUS.DONE true n
  if !s.flag F.CHK_CTRL.MODE n then s
  else if s.reg (F.CHK_RESULT.RESULT.addr n) = s.reg (F.CHK_EXPECTED.VALUE.addr n) then s.bump F.CHK_CNT.MATCH 1 n
  else
    let s := (s.bump F.CHK_CNT.MISMATCH_CNT 1 n).setB F.CHK_STATUS.MISMATCH true n
    s.submit ⟨12, n, 7, none, BitVec.ofNat 32 n, 0⟩ false

/-- A write of CHK_DATA; none where it is refused (R446). -/
def chkData (s : State) (n : Nat) (v : Word) : Option State :=
  if s.chkBusy n then none else if s.flag F.CHK_CTRL.SRC n then some s else some (s.chkFeed n (s.chkBytes n v))

/-- FINISH; none where it is refused. -/
def chkFinish (s : State) (n : Nat) : Option State :=
  if s.chkBusy n then none else if s.flag F.CHK_CTRL.SRC n then some s else some (s.chkDone n)

/-- START of a block computation; none where it is refused. -/
def chkStart (s : State) (n : Nat) : Option State :=
  if s.chkBusy n then none else if !s.flag F.CHK_CTRL.SRC n then some s else some (s.setB F.CHK_STATUS.BUSY true n)

/-- ABORT: a block computation stops, and RESULT holds no defined value (DESIGN CHOICE, log entry 12); else it changes
nothing and sets ALREADY_DONE (R446). -/
def chkAbort (s : State) (n : Nat) : State :=
  if s.chkBusy n then
    let (w, s) := s.free
    let s := (s.setChk n { acc := w.toNat }).setReg (F.CHK_RESULT.RESULT.addr n) w
    (s.setB F.CHK_STATUS.BUSY false n).setB F.CHK_STATUS.ABORTED true n
  else s.setB F.CHK_STATUS.ALREADY_DONE true n

def chkRefuse (s : State) (n : Nat) : State := s.setB F.CHK_STATUS.REFUSED true n

def chkCntClear (s : State) (n : Nat) : State := s.clearAll [F.CHK_CNT.MATCH, F.CHK_CNT.MISMATCH_CNT] n

end State

/-- SRAM_SCRUB_PASS (R439): with the errors it found. -/
def execSramScrubPass (ecc : List EccEvent) (s : State) : Host.Outcome State Fault Refusal := .next (s.scrubPass ecc)

/-- REC_PATROL_PASS (R373, R439). -/
def execRecPatrolPass (corr : Nat) (lost : List Nat) (s : State) : Host.Outcome State Fault Refusal :=
  .next (s.patrolPass corr lost)

end Sys2Proof.Machine
end

