-- ==== Sys2Proof/Machine/Mgmt.lean ====
section
/-!
DEFINITION. Management access: what a read of the management space returns, and a management write
with its checks, its refusals and what it causes (R6 to R10, R35, R327, R433, R447, R448, R466).
Access paths are numbered 0 to 7 for the supervisor cores, 8 to 11 for the station session slots, 12
for JTAG and 13 for the maintenance SPI.
-/

namespace Sys2Proof.Machine

/-- STATUS of R327 and R489. -/
def stOk : Nat := 0
def stLocked : Nat := 1
def stTwin : Nat := 2
def stNoRegister : Nat := 3
def stRefused : Nat := 4
def stAlign : Nat := 5
def stLevel : Nat := 6

/-- LO registers by base, step and count (R447). -/
def loRegs : List (Nat × Nat × Nat) :=
  [(0x10200, 8, 16), (0xB0028, 0, 1), (0xB0030, 0, 1), (0x520014, 0, 1), (0x530404, 32, 4), (0x53040C, 32, 4),
   (0x540000, 0, 1), (0x540008, 0, 1), (0x540018, 0, 1), (0x54003C, 0, 1), (0x550404, 32, 8), (0x55040C, 32, 8),
   (0x550620, 24, 8), (0x550628, 24, 8), (0x550720, 24, 8), (0x550728, 24, 8), (0x570010, 0, 1), (0x570028, 0, 1)]

/-- The address is an element of a register array. -/
def inArray (x : Nat × Nat × Nat) (a : Nat) : Bool :=
  a = x.1 || decide (x.1 < a ∧ x.2.1 ≠ 0 ∧ (a - x.1) % x.2.1 = 0 ∧ (a - x.1) / x.2.1 < x.2.2)

/-- The address names the LO register of a pair. -/
def isLo (a : Nat) : Bool := loRegs.any fun x => inArray x a

/-- The addresses a read of a LO register snapshots: HI, and TIME_EXT_NS with TIME_EXT_SEC_LO (R347). -/
def loPartners (a : Nat) : List Nat := if a = 0x540018 then [a + 4, a + 8] else [a + 4]

/-- LO registers of writable pairs (R448): TIME_INC and the masks and values of the trigger units. -/
def isLoRw (a : Nat) : Bool := a = 0x540008 || isLo a && decide (0x550404 ≤ a ∧ a < 0x551000)

namespace State

-- Reads

/-- What a register reads, without any side effect of reading it: the stored word, or what other parts
of the state show there. -/
def shown (s : State) (a : Nat) : Word :=
  if a = F.CAT_LAT_DATA_A.LAT.base then BitVec.ofNat 32 (s.latData .a)
  else if a = F.CAT_LAT_DATA_B.LAT.base then BitVec.ofNat 32 (s.latData .b)
  else if a = F.OBS_PROBE_DATA.GOOD_RUN.base then
    let i := s.get F.OBS_PROBE.INDEX
    let x := if i < 6144 then s.inst i else {}
    F.OBS_PROBE_DATA.GOOD_RUN.inWord (F.OBS_PROBE_DATA.FROZEN_VCAP.inWord 0 x.frozenVcap) x.goodRun
  else if 0xC0000 ≤ a ∧ a < 0xD8000 then
    let c := (a - 0xC0000) / 512
    if !s.ctxDeclared c then 0
    else if a % 512 = 4 then F.CTX_SCHED.COST.inWord (s.reg a) (s.dim c).cost
    else s.reg a
  else if 0x500000 ≤ a ∧ a < 0x504000 then s.view ((a - 0x500000) / 4)
  else if 0x55C000 ≤ a ∧ a < 0x560000 then s.windowWord ((a - 0x55C000) / 4)
  else if 0x590040 ≤ a ∧ a < 0x590060 then F.SCHED_CORE.LOAD.inWord (s.reg a) (s.coreLoad ((a - 0x590040) / 4))
  else if 0x570080 ≤ a ∧ a < 0x5700E0 then 0
  else s.reg a

/-- The debug level lets a path read an address (R433). The registers of the unlock itself are open at
every level (DEDUCED, log entry 38). -/
def mayRead (s : State) (p a : Nat) : Bool :=
  p < 12 || 1 ≤ s.level || a = 0x0 || a = F.BOOT_STATUS.STEP.base || a = F.LC_STATE.STATE.base
    || a = F.SAFE_STATUS.SAFE_OK.base || decide (0x570030 ≤ a ∧ a < 0x5700E0)

/-- A read by a path: STATUS, the word, and the state with the read's side effect (R447, R466). -/
def mgmtRead (s : State) (p a : Nat) : Nat × Word × State :=
  if a % 4 ≠ 0 then (stAlign, 0, s)
  else if !s.mayRead p a then (stLevel, 0, s)
  else if !mapped a then (stNoRegister, 0, s)
  else if isLo a then
    (stOk, s.shown a, s.setPath p { s.path p with snap := some (a, (loPartners a).map fun b => (b, s.shown b)) })
  else if a = F.DBG_CHAL.CHAL.base then
    let s := s.drawChallenge
    (stOk, s.shown a, s)
  else
    let held := match (s.path p).snap with
      | some (_, ws) => AMap.read (fun _ => none) (ws.map fun (x : Nat × Word) => (x.1, some x.2)) a
      | none => none
    (stOk, held.getD (s.shown a), s)

-- Writes: what a word would change, and who may change it

/-- A register of the tick's staged group: every write that reaches it counts as a write (R10). -/
def isStaged (d : RegDesc) : Bool := decide (0xB0010 ≤ d.base ∧ d.base < 0xB0020)

/-- The fields a write counts as written (R10). -/
def writtenFields (d : RegDesc) (old new : Word) : List FieldDesc :=
  d.fields.filter fun f => State.isStaged d || f.written old new

/-- The word a write stores: RW fields as written, W1C bits cleared, W1S bits set; command fields read 0. -/
def storedWord (d : RegDesc) (old new : Word) : Word :=
  d.fields.foldl (fun w f =>
    let n := f.val new
    let o := f.val old
    match f.access with
    | .rw => f.put w n
    | .w1c => f.put w (o - Nat.land o n)
    | .w1s => f.put w (Nat.lor o n)
    | .ro | .roh | .wo => w) old

/-- The twin mode keeps management from writing fields locked CFG, LIVE or COM (R327). -/
def twinShut (s : State) : Bool := s.mode = 2 || s.mode = 4 || s.mode = 5

/-- A loop control register, every field of which the twin mode keeps from management (R246, R271, R272). -/
def isLoopReg (d : RegDesc) : Bool := decide (0xC0000 ≤ d.base ∧ d.base < 0xD8014)

/-- The checks of a word's written fields (R9, R10, R327): locks, the twin mode, ranges; 0 where all
pass. SAFE_CONFIRM is excepted from the twin mode, WEAR and the loop control registers are not (R246). -/
def fieldStatus (s : State) (d : RegDesc) (fs : List FieldDesc) (new : Word) : Nat :=
  let st := s.get F.LC_STATE.STATE
  if fs.any fun f => !f.lock.admits st false then stLocked
  else if s.twinShut && d.base ≠ F.SAFE_CONFIRM.CONFIRM.base
      && (d.base = F.CAT_ENTRY_W3.WEAR.base || State.isLoopReg d || fs.any fun f => f.lock != .any) then stTwin
  else if fs.any fun f => !f.inRange (f.val new) then stRefused
  else stOk

-- Refusals by a field's own rule

/-- A word of LANE_CTRL asks for another power state (R62). -/
def lanePower (s : State) (l : Nat) (new : Word) : Bool :=
  F.LANE_CTRL.TX_PWR_REQ.ofWord new != s.get F.LANE_CTRL.TX_PWR_REQ l || F.LANE_CTRL.RX_PWR_REQ.ofWord new != s.get F.LANE_CTRL.RX_PWR_REQ l

/-- A word of LANE_CTRL asks for what would stop the lane (R63). -/
def laneStops (s : State) (l : Nat) (new : Word) : Bool :=
  let moved := fun (f : Field) => f.ofWord new != s.get f l
  moved F.LANE_CTRL.TX_PWR_REQ && F.LANE_CTRL.TX_PWR_REQ.ofWord new != 0
    || moved F.LANE_CTRL.RX_PWR_REQ && F.LANE_CTRL.RX_PWR_REQ.ofWord new != 0
    || F.LANE_CTRL.RETRAIN.ofWord new = 1
    || moved F.LANE_CTRL.ENABLE && F.LANE_CTRL.ENABLE.ofWord new = 0

/-- The tick group's own rules (R35, R36). -/
def refuseTick (s : State) (d : RegDesc) (new : Word) : Option (Nat × State) :=
  if State.isStaged d then (if s.flag F.TICK_STAGE.PENDING then some (stRefused, s) else none)
  else
    let com := F.TICK_COMMIT.COMMIT.ofWord new = 1
    let dis := F.TICK_COMMIT.DISCARD.ofWord new = 1
    if com && dis || dis && s.flag F.TICK_STAGE.PENDING then some (stRefused, s)
    else if com then
      let r := s.commit false (s.tickNo + 2)
      if r.1 = 0 then none else some (stRefused, r.2)
    else none

/-- The loop control registers' own rules (R252, R266, R269). -/
def refuseCtx (s : State) (d : RegDesc) (c : Nat) (new : Word) : Option (Nat × State) :=
  if d.base = 0xC0000 then
    let m := F.CTX_CTRL.MODE.ofWord new
    if m ≠ s.ctxModeOf c && (s.modeWrite c m).isNone then some (stRefused, s) else none
  else if d.base = 0xC0008 then (if s.coefOpen c then none else some (stRefused, s))
  else if F.CTX_CMD.INJ_START.ofWord new = 1 && (s.injStart c 0).isNone then some (stRefused, s)
  else none

/-- The time registers' own rules (R333, R334). -/
def refuseTime (s : State) (d : RegDesc) (new : Word) : Option (Nat × State) :=
  if d.base = F.TIME_STEP.VALUE.base then
    (if s.stepRefused (toSigned 32 new.toNat) then some (stRefused, s.timeStep (toSigned 32 new.toNat) false) else none)
  else if s.loadAllowed then none else some (stRefused, s.timeSet new.toNat)

/-- A REC_CMD word's own rule (R369). -/
def refuseRec (s : State) (new : Word) : Option (Nat × State) :=
  let op := F.REC_CMD.OP.ofWord new
  let unit := F.REC_CMD.UNIT.ofWord new
  let arg := F.REC_CMD.ARG.ofWord new
  if 6 < op ∨ (op = 1 ∨ op = 2 ∨ op = 5) ∧ 8 ≤ unit ∨ (op = 3 ∨ op = 4) ∧ 64 ≤ arg then some (stRefused, s)
  else if (s.recOp op unit arg 0).isNone then some (stRefused, s) else none

/-- The Curator registers' own rules (R391, R395, R396, R399). -/
def refuseSafe (s : State) (d : RegDesc) (new : Word) : Option (Nat × State) :=
  if d.base = F.SAFE_CMD.SBK_REQ.base then
    if F.SAFE_CMD.SBK_CLR.ofWord new = 1 && s.sbkHolds then some (stRefused, s.sbkClear)
    else if (List.range 4).any (fun o => bits (F.SAFE_CMD.SOP_CLR.ofWord new) o o = 1 && s.releaseHolds o) then some (stRefused, s)
    else none
  else if d.base = F.TRIP_STATUS.LATCH.base then
    let bad := (List.range 8).filter fun n => bits (F.TRIP_STATUS.LATCH.ofWord new) n n = 1 && s.bit F.TRIP_STATUS.ACTIVE n
    if bad.isEmpty then none else some (stRefused, s.each bad fun s n => s.setBit F.TRIP_STATUS.CLR_REFUSED n true)
  else if (List.range 8).any (fun n => bits (F.FB_STATUS.DISCREP.ofWord new) n n = 1 && s.fbDiffers n) then some (stRefused, s)
  else none

/-- Life-cycle and flash commands' own rules (R427, R431). -/
def refuseBoot (s : State) (d : RegDesc) (new : Word) : Option (Nat × State) :=
  if d.base = F.LC_CMD.ARM.base then
    let t := F.LC_CMD.TARGET.ofWord new
    let s' := if F.LC_CMD.ARM.ofWord new = 1 then s.lcArm t else s
    if F.LC_CMD.COMMIT.ofWord new = 1 && s.boot.burning.isNone && s'.lcCode t ≠ 0 then some (stRefused, s'.lcCommit t) else none
  else if (s.nvmCommand (F.NVM_CMD.OP.ofWord new) (F.NVM_CMD.BLOCK.ofWord new)).isNone then
    some (stRefused, s.setB F.NVM_STATUS.NVM_REFUSED true)
  else none

/-- The check units' own rules (R444, R446). -/
def refuseChk (s : State) (d : RegDesc) (n : Nat) (new : Word) : Option (Nat × State) :=
  if d.base = F.CHK_ADDR.VALUE.base then (if new.toNat % 4 = 0 then none else some (stRefused, s))
  else if !s.chkBusy n then none
  else if d.base = F.CHK_DATA.VALUE.base then some (stRefused, s.chkRefuse n)
  else
    let moved := fun (f : Field) => f.ofWord new != s.get f n
    if moved F.CHK_CTRL.POLY || moved F.CHK_CTRL.MODE || moved F.CHK_CTRL.SRC || F.CHK_CTRL.FINISH.ofWord new = 1
        || F.CHK_CTRL.START.ofWord new = 1 || F.CHK_CTRL.INIT.ofWord new = 1 then some (stRefused, s.chkRefuse n)
    else none

/-- A word that passed the checks of its fields is refused by a rule of its own: STATUS and what the
refusal records; none where it is not refused. -/
def ownRefusal (s : State) (d : RegDesc) (i : Nat) (old new : Word) : Option (Nat × State) :=
  if State.storedWord d old new ≠ old && !s.rangeRest d i (State.storedWord d old new) then some (stRefused, s)
  else if d.base = 0x20000 then
    (if s.laneStops i new && s.laneBusy i || s.lanePower i new && s.huskNow i then some (stRefused, s.refuseLane i) else none)
  else if d.base = F.CAT_ENTRY_W3.WEAR.base then
    (if s.mode ≠ 0 ∧ s.mode ≠ 3 then some (stTwin, s) else if (s.arm (s.cellArm i)).deblocked then some (stRefused, s) else none)
  else if d.base = F.ADC_CTRL.CAL_START.base then
    (if F.ADC_CTRL.CAL_START.ofWord new = 1 && !s.calRunning && s.anyDeblocked then some (stRefused, s.calStart) else none)
  else if State.isStaged d || d.base = F.TICK_COMMIT.COMMIT.base then s.refuseTick d new
  else if d.base = F.EDGE_HALT.HALT_REQ.base then
    (if F.EDGE_HALT.HALT_REQ.ofWord new = 1 && s.mode ≠ 0 && s.mode ≠ 3 then some (stRefused, s.haltRequest) else none)
  else if d.base = 0xC0000 ∨ d.base = 0xC0008 ∨ d.base = 0xC0030 then s.refuseCtx d i new
  else if d.base = F.SIG_VALUE.VALUE.base then
    (if s.sigKind i ≠ 1 then some (stRefused, s) else if s.mode ≠ 0 ∧ s.mode ≠ 3 then some (stTwin, s) else none)
  else if d.base = F.TIME_STEP.VALUE.base ∨ d.base = F.TIME_SET.VALUE.base then s.refuseTime d new
  else if d.base = F.REC_CMD.OP.base then s.refuseRec new
  else if d.base = F.SAFE_CMD.SBK_REQ.base ∨ d.base = F.TRIP_STATUS.LATCH.base ∨ d.base = F.FB_STATUS.DISCREP.base then s.refuseSafe d new
  else if d.base = F.LC_CMD.ARM.base ∨ d.base = F.NVM_CMD.OP.base then s.refuseBoot d new
  else if d.base = F.CHK_CTRL.POLY.base ∨ d.base = F.CHK_DATA.VALUE.base ∨ d.base = F.CHK_ADDR.VALUE.base then s.refuseChk d i new
  else none

/-- What a refusal by lock or twin mode records besides: REFUSED_SEEN of a lane that R63 would not let stop,
RESULT 9 of a COMMIT in DUPLEX and PARTITIONED (R37), HALT_REFUSED (R229), NVM_REFUSED in DECOMMISSIONED
(R427). -/
def refusalMark (s : State) (d : RegDesc) (i status : Nat) (new : Word) : State :=
  if d.base = 0x20000 then (if s.laneStops i new && s.laneBusy i then s.refuseLane i else s)
  else if status = stTwin && d.base = F.TICK_COMMIT.COMMIT.base && F.TICK_COMMIT.COMMIT.ofWord new = 1
      && F.TICK_COMMIT.DISCARD.ofWord new = 0 && s.mode ≠ 5 then (s.commit false (s.tickNo + 2)).2
  else if status = stTwin && d.base = F.EDGE_HALT.HALT_REQ.base && F.EDGE_HALT.HALT_REQ.ofWord new = 1 then s.haltRequest
  else if status = stLocked && d.base = F.NVM_CMD.OP.base && F.NVM_CMD.OP.ofWord new ≠ 0 then s.setB F.NVM_STATUS.NVM_REFUSED true
  else s

-- What accepted commands do

/-- A state changed where a command bit of the word is 1. -/
def ifBit (s : State) (f : Field) (new : Word) (g : State → State) : State := if f.ofWord new = 1 then g s else s

/-- An urgent request, with the codes converted where they are known; a request that comes in a word of
another command takes them as free values (DESIGN CHOICE, log entry 12). -/
def urgentWith (s : State) (adc : Option (List (BitVec 16) × Bool)) : State :=
  match adc with
  | some (codes, busy) => s.urgent codes busy
  | none =>
    let r := (List.range 24).foldl (fun (x : List (BitVec 16) × State) _ =>
      let (w, t) := x.2.free
      (x.1 ++ [w.setWidth 16], t)) ([], s)
    r.2.urgent r.1 false

/-- A word of LANE_CTRL names another preset, or gives a CELL lane back to its preset (R56). -/
def presetWrite (s : State) (i : Nat) (old new : Word) : State :=
  if isCell i && F.LANE_CTRL.TAP_MODE.ofWord new = 0
    && (F.LANE_CTRL.PRESET.ofWord new ≠ F.LANE_CTRL.PRESET.ofWord old || F.LANE_CTRL.TAP_MODE.ofWord old = 1)
  then s.presetLane i else s

/-- Commands of the lanes, the tick, the measurement inputs and the tick's stages. -/
def actTick (s : State) (d : RegDesc) (i : Nat) (old new : Word) (adc : Option (List (BitVec 16) × Bool)) : State :=
  let clr := fun (f : Field) (g : State → State) => s.ifBit f new g
  if d.base = 0x20000 then
    let s := if F.LANE_CTRL.ENABLE.ofWord new = F.LANE_CTRL.ENABLE.ofWord old then s
      else s.enableWrite i (F.LANE_CTRL.ENABLE.ofWord new = 1)
    ((s.presetWrite i old new).ifBit F.LANE_CTRL.RETRAIN new fun s => s.retrain i).ifBit F.LANE_CTRL.BIT_SLIP new fun s => s.bitSlip i
  else if d.base = F.LANE_CNT_CLR.CNT_CLR.base then clr F.LANE_CNT_CLR.CNT_CLR fun s => s.laneCntClear i
  else if d.base = F.LINK_CNT_CLR.CNT_CLR.base then clr F.LINK_CNT_CLR.CNT_CLR fun s => s.linkCntClear i
  else if d.base = F.CAT_CTRL.CNT_CLR.base then (clr F.CAT_CTRL.CNT_CLR catCntClear).ifBit F.CAT_CTRL.REDISCOVER new runAll
  else if d.base = F.OBS_CMD.CNT_CLR.base then clr F.OBS_CMD.CNT_CLR obsCntClear
  else if d.base = F.SEL_CMD.CNT_CLR.base then clr F.SEL_CMD.CNT_CLR selCntClear
  else if d.base = F.EDGE_CMD.CNT_CLR.base then clr F.EDGE_CMD.CNT_CLR edgeCntClear
  else if State.isStaged d then (s.stageWrite ((d.base - 0xB0010) / 4) (bits new.toNat 14 0)).getD s
  else if d.base = F.TICK_COMMIT.COMMIT.base then
    (clr F.TICK_COMMIT.COMMIT fun s => (s.commit false (s.tickNo + 2)).2).ifBit F.TICK_COMMIT.DISCARD new fun s => s.discard.getD s
  else if d.base = F.OVERRUN_STATUS.OVERRUN_CLR.base then
    clr F.OVERRUN_STATUS.OVERRUN_CLR fun s => s.clearAll [F.OVERRUN_CNT.COUNT, F.OVERRUN_STATUS.LATE_MAX]
  else if d.base = F.EDGE_HALT.HALT_REQ.base then
    (clr F.EDGE_HALT.HALT_REQ haltRequest).ifBit F.EDGE_HALT.RESUME new resume
  else
    let s := clr F.ADC_CTRL.CNT_CLR adcCntClear
    let s := s.ifBit F.ADC_CTRL.CAL_START new calStart
    s.ifBit F.ADC_CTRL.URGENT new fun s => s.urgentWith adc

/-- Commands of the loop engine, the twin, the station unit, time and the vitrine. -/
def actLoop (s : State) (d : RegDesc) (i : Nat) (old new : Word) : State :=
  let clr := fun (f : Field) (g : State → State) => s.ifBit f new g
  if d.base = 0xC0000 then
    let m := F.CTX_CTRL.MODE.ofWord new
    if m = F.CTX_CTRL.MODE.ofWord old then s
    else
      let was := F.CTX_CTRL.MODE.ofWord old
      (s.set F.CTX_CTRL.MODE was i).ctxAsk i (if was = 2 ∧ m = 1 then .promote else .mode m)
  else if d.base = 0xC0030 then
    let s := clr F.CTX_CMD.CNT_CLR fun s => s.ctxCntClear i
    let s := s.ifBit F.CTX_CMD.FAULT_RESET new fun s => s.ctxAsk i .faultReset
    let s := s.ifBit F.CTX_CMD.SEAL new fun s => s.sealBlock i
    let s := s.ifBit F.CTX_CMD.INJ_STOP new fun s => s.injStop i
    s.ifBit F.CTX_CMD.INJ_START new fun s => (s.injStart i (s.tickNo + 2)).getD s
  else if d.base = F.LOOP_CMD.CNT_CLR.base then clr F.LOOP_CMD.CNT_CLR loopCntClear
  else if d.base = F.TWIN_CMD.CNT_CLR.base then
    let s := clr F.TWIN_CMD.CNT_CLR twinCntClear
    (s.ifBit F.TWIN_CMD.WITHDRAW new fun s => s.withdraw 13).ifBit F.TWIN_CMD.REJOIN_NOW new rejoinRetry
  else if d.base = F.STN_CTRL2.CNT_CLR.base then clr F.STN_CTRL2.CNT_CLR stnCntClear
  else if d.base = F.TIME_STATUS.CNT_CLR.base then clr F.TIME_STATUS.CNT_CLR timeCntClear
  else if d.base = F.TIME_STEP.VALUE.base then s.timeStep (toSigned 32 new.toNat) false
  else if d.base = F.TIME_SET.VALUE.base then s.timeSet new.toNat
  else if d.base = F.REC_CTRL.CNT_CLR.base then clr F.REC_CTRL.CNT_CLR recCntClear
  else if d.base = F.REC_WIN_SEL.DIR.base then s.windowSelect (F.REC_WIN_SEL.DIR.ofWord new) (F.REC_WIN_SEL.OFFSET.ofWord new)
  else
    let point := s.sinceT
    (s.recOp (F.REC_CMD.OP.ofWord new) (F.REC_CMD.UNIT.ofWord new) (F.REC_CMD.ARG.ofWord new) point).getD s

/-- Commands of the Curator, start-up and the life cycle, debug access, the check units and the
supervisors. -/
def actSafe (s : State) (d : RegDesc) (i : Nat) (new : Word) : State :=
  let clr := fun (f : Field) (g : State → State) => s.ifBit f new g
  if d.base = F.SAFE_CMD.SBK_REQ.base then
    let s := clr F.SAFE_CMD.SBK_CLR sbkClear
    let s := s.ifBit F.SAFE_CMD.SBK_REQ new fun s => s.requestSbk 5
    let s := s.ifBit F.SAFE_CMD.ILP_REQ new ilpRequest
    let s := s.ifBit F.SAFE_CMD.ILP_DROP new dropIlp
    let s := s.each (List.range 4) fun s o => if bits (F.SAFE_CMD.SOP_CLR.ofWord new) o o = 1 then s.sopClear o else s
    s.ifBit F.SAFE_CMD.CNT_CLR new safeCntClear
  else if d.base = F.SAFE_CONFIRM.CONFIRM.base then
    s.setB F.SAFE_STATUS.CONFIRMED (s.reg F.SAFE_CHECK.CHECK.base = s.reg F.SAFE_CONFIRM.CONFIRM.base)
  else if d.base = F.LC_CMD.ARM.base then
    let t := F.LC_CMD.TARGET.ofWord new
    (clr F.LC_CMD.ARM fun s => s.lcArm t).ifBit F.LC_CMD.COMMIT new fun s => s.lcCommit t
  else if d.base = F.DBG_CMD.VERIFY.base then
    (clr F.DBG_CMD.RELOCK dbgRelock).ifBit F.DBG_CMD.VERIFY new fun s => s.dbgVerify (F.DBG_CMD.REQ_LEVEL.ofWord new)
  else if d.base = F.DBG_RESP.RESP.base then s.setReg (F.DBG_RESP.RESP.addr i) new
  else if d.base = F.NVM_CMD.OP.base then (s.nvmCommand (F.NVM_CMD.OP.ofWord new) (F.NVM_CMD.BLOCK.ofWord new)).getD s
  else if d.base = F.INTEG_CMD.CNT_CLR.base then clr F.INTEG_CMD.CNT_CLR integCntClear
  else if d.base = F.CHK_CTRL.POLY.base then
    let s := clr F.CHK_CTRL.INIT fun s => s.chkInit i
    let s := s.ifBit F.CHK_CTRL.START new fun s => (s.chkStart i).getD (s.chkRefuse i)
    let s := s.ifBit F.CHK_CTRL.FINISH new fun s => (s.chkFinish i).getD (s.chkRefuse i)
    s.ifBit F.CHK_CTRL.ABORT new fun s => s.chkAbort i
  else if d.base = F.CHK_DATA.VALUE.base then (s.chkData i new).getD s
  else if d.base = F.CHK_CMD.CNT_CLR.base then clr F.CHK_CMD.CNT_CLR fun s => s.chkCntClear i
  else if d.base = F.SCHED_CMD.CNT_CLR.base then (clr F.SCHED_CMD.CNT_CLR schedCntClear).ifBit F.SCHED_CMD.PEAK_CLR new fun s =>
    s.set F.SCHED_STATUS.POOL_PEAK (s.get F.SCHED_STATUS.POOL_USED)
  else clr F.CLK_CMD.CNT_CLR clkCntClear

/-- Registers whose words command. -/
def tickCmds : List Nat :=
  [0x20000, F.LANE_CNT_CLR.CNT_CLR.base, F.LINK_CNT_CLR.CNT_CLR.base, F.CAT_CTRL.CNT_CLR.base, F.OBS_CMD.CNT_CLR.base,
   F.SEL_CMD.CNT_CLR.base, F.EDGE_CMD.CNT_CLR.base, 0xB0010, 0xB0014, 0xB0018, 0xB001C, F.TICK_COMMIT.COMMIT.base,
   F.OVERRUN_STATUS.OVERRUN_CLR.base, F.EDGE_HALT.HALT_REQ.base, F.ADC_CTRL.CNT_CLR.base]
def loopCmds : List Nat :=
  [0xC0000, 0xC0030, F.LOOP_CMD.CNT_CLR.base, F.TWIN_CMD.CNT_CLR.base, F.STN_CTRL2.CNT_CLR.base, F.TIME_STATUS.CNT_CLR.base,
   F.TIME_STEP.VALUE.base, F.TIME_SET.VALUE.base, F.REC_CTRL.CNT_CLR.base, F.REC_WIN_SEL.DIR.base, F.REC_CMD.OP.base]
def safeCmds : List Nat :=
  [F.SAFE_CMD.SBK_REQ.base, F.SAFE_CONFIRM.CONFIRM.base, F.LC_CMD.ARM.base, F.DBG_CMD.VERIFY.base, F.DBG_RESP.RESP.base,
   F.NVM_CMD.OP.base, F.INTEG_CMD.CNT_CLR.base, F.CHK_CTRL.POLY.base, F.CHK_DATA.VALUE.base, F.CHK_CMD.CNT_CLR.base,
   F.SCHED_CMD.CNT_CLR.base, F.CLK_CMD.CNT_CLR.base]

/-- What an accepted word causes beside what it stores. -/
def act (s : State) (d : RegDesc) (i : Nat) (old new : Word) (adc : Option (List (BitVec 16) × Bool)) : State :=
  if tickCmds.contains d.base then s.actTick d i old new adc
  else if loopCmds.contains d.base then s.actLoop d i old new
  else if safeCmds.contains d.base then s.actSafe d i new
  else s

-- The write of a word

/-- The unlock's own registers, which the spec gives no lock state: they act at every debug level and in
every life-cycle state (R433, R434; DEDUCED, log entry 38). -/
def isUnlock (d : RegDesc) : Bool := d.base = F.DBG_CMD.VERIFY.base || d.base = F.DBG_RESP.RESP.base

/-- A write of a register word: whole or not at all (R10). -/
def writeWord (s : State) (d : RegDesc) (i a : Nat) (new : Word) (adc : Option (List (BitVec 16) × Bool)) : Nat × State :=
  let old := s.reg a
  let fs := State.writtenFields d old new
  if fs.isEmpty then (stOk, s)
  else
    let st := if State.isUnlock d then stOk else s.fieldStatus d fs new
    if st ≠ stOk then (st, s.refusalMark d i st new)
    else match s.ownRefusal d i old new with
      | some r => r
      | none =>
        let t := s.setReg a (d.kept i old (State.storedWord d old new))
        (stOk, (t.act d i old new adc).stored d i a old)

/-- Bits of a word of the coefficient memory that are not reserved in a header (R240). -/
def coefMask (s : State) (a : Nat) : Word :=
  (s.coefOwners a).foldl (fun m c => m &&& headerMask ((a - s.coefAddr c 0) / 4)) 0xFFFFFFFF#32

/-- A write of a word of the coefficient memory (R246, R269): locked as the sizes and SEAL are (log entry
39), refused while the context that holds it may not be changed. -/
def writeCoef (s : State) (a : Nat) (new : Word) : Nat × State :=
  let cs := s.coefOwners a
  let new := new &&& s.coefMask a
  if s.reg a = new then (stOk, s)
  else if !Lock.cfg.admits (s.get F.LC_STATE.STATE) false then (stLocked, s)
  else if s.twinShut then (stTwin, s)
  else if cs.any fun c => !s.coefOpen c then (stRefused, s)
  else (stOk, (s.setReg a new).each cs fun s c => s.coefTouched c)

/-- TIME_INC is the servo's while SOURCE is not 0 (R347; DEDUCED, log entry 40). -/
def incShut (s : State) (a : Nat) : Bool := (a = 0x540008 || a = 0x54000C) && s.get F.TIME_SERVO.SOURCE ≠ 0

/-- A write of the LO half of a writable pair is held and changes nothing (R448). -/
def writeLo (s : State) (p : Nat) (d : RegDesc) (a : Nat) (new : Word) : Nat × State :=
  let fs := State.writtenFields d (s.reg a) new
  let st := s.fieldStatus d fs new
  if st ≠ stOk then (st, s)
  else if s.incShut a && !fs.isEmpty then (stRefused, s)
  else (stOk, s.setPath p { s.path p with held := some (a, new) })

/-- A write of the HI half commits it with the held low half, or with the low half as it stands (R448). -/
def writeHi (s : State) (p : Nat) (d dLo : RegDesc) (a : Nat) (new : Word) : Nat × State :=
  let lo := match (s.path p).held with
    | some (b, w) => if b + 4 = a then w else s.reg (a - 4)
    | none => s.reg (a - 4)
  let fs := State.writtenFields d (s.reg a) new ++ State.writtenFields dLo (s.reg (a - 4)) lo
  let st := s.fieldStatus d fs new
  let done := fun (s : State) => s.setPath p { s.path p with held := none }
  if fs.isEmpty then (stOk, done s)
  else if st ≠ stOk then (st, s)
  else if s.incShut a then (stRefused, s)
  else if a = 0x54000C then
    let v := new.toNat % 256 * 2 ^ 32 + lo.toNat
    if s.incRefused v then (stRefused, s.commitInc v) else (stOk, done (s.commitInc v))
  else (stOk, done ((s.setReg (a - 4) lo).setReg a (State.storedWord d (s.reg a) new)))

/-- A management write of TIME_EXT while SOURCE is 2 (R338): SEC_LO is held, SEC_HI commits the pair,
the ns part is stored (DEDUCED, log entry 40). -/
def writeExt (s : State) (p a : Nat) (new : Word) : Nat × State :=
  if s.get F.LC_STATE.STATE = 5 then (stLocked, s)
  else if a = 0x540018 then (stOk, s.setPath p { s.path p with held := some (a, new) })
  else if a = 0x54001C then
    let lo := match (s.path p).held with
      | some (b, w) => if b = 0x540018 then w else s.reg 0x540018
      | none => s.reg 0x540018
    (stOk, ((s.setReg 0x540018 lo).set F.TIME_EXT_SEC_HI.SEC_HI (new.toNat % 2 ^ 16)).setPath p { s.path p with held := none })
  else if 1000000000 ≤ new.toNat then (stRefused, s)
  else (stOk, s.setReg 0x540020 new)

/-- A write of an aligned address inside a window. An address there that holds no register reads as 0 and
ignores what is written (DEDUCED, log entry 41). -/
def writeAt (s : State) (p a : Nat) (new : Word) (adc : Option (List (BitVec 16) × Bool)) : Nat × State :=
  if isCoef a then s.writeCoef a new
  else if (a = 0x540018 ∨ a = 0x54001C ∨ a = 0x540020) ∧ s.get F.TIME_SERVO.SOURCE = 2 then s.writeExt p a new
  else match regAt a with
    | none => (stOk, s)
    | some (d, i, _) =>
      if isLoRw a then s.writeLo p d a new
      else if isLoRw (a - 4) then
        match regAt (a - 4) with
        | some (dLo, _, _) => s.writeHi p d dLo a new
        | none => (stOk, s)
      else s.writeWord d i a new adc

/-- The debug level lets a path write (R433); the unlock's own registers at every level. -/
def mayWrite (s : State) (p a : Nat) : Bool :=
  p < 12 || s.level = 2 || a = F.DBG_CMD.VERIFY.base || decide (0x570080 ≤ a ∧ a < 0x5700E0)

/-- A management write by a path: STATUS and the state it leaves. -/
def mgmtWrite (s : State) (p a : Nat) (new : Word) (adc : Option (List (BitVec 16) × Bool) := none) : Nat × State :=
  let r := if a % 4 ≠ 0 then (stAlign, s)
    else if !s.mayWrite p a then (stLevel, s)
    else if !mapped a then (stNoRegister, s)
    else s.writeAt p a new adc
  (r.1, r.2.setPath p { r.2.path p with last := r.1 })

/-- The state a management write leaves. -/
def wrote (s : State) (p a : Nat) (new : Word) : State := (s.mgmtWrite p a new).2

/-- A write of one field by a path, the register's other RW fields restated: command and W1C fields of
the word are written as 0. -/
def wroteField (s : State) (p : Nat) (f : Field) (v : Nat) (i : Nat := 0) (adc : Option (List (BitVec 16) × Bool) := none) : State :=
  let a := f.addr i
  let keep : Word := match regAt a with
    | some (d, _, _) => d.fields.foldl (fun w x => if x.access = .rw then x.put w (x.val (s.reg a)) else w) 0
    | none => 0
  (s.mgmtWrite p a (f.inWord keep v) adc).2

end State

end Sys2Proof.Machine
end

