-- ==== Sys2Proof/Machine/Ports.lean ====
section
/-!
DEFINITION. The ways into the management space from outside the device: station management messages
(R327), the maintenance SPI (R489) and JTAG (R490); and what a check unit reads of it (R444).
-/

namespace Sys2Proof.Machine

namespace State

/-- Words read by a path from consecutive addresses, in ascending order: STATUS and value of each. -/
def readWords (s : State) (p a : Nat) : Nat → List (Nat × Word) × State
  | 0 => ([], s)
  | n + 1 =>
    let (st, w, s) := s.mgmtRead p a
    let (rest, s) := readWords s p ((a + 4) % 2 ^ 32) n
    ((st, w) :: rest, s)

/-- Words written by a path, each on its own, in the order listed: STATUS of each. -/
def writeWords (s : State) (p : Nat) : List (Nat × Word) → List Nat × State
  | [] => ([], s)
  | (a, w) :: l =>
    let (st, s) := s.mgmtWrite p a w
    let (rest, s) := writeWords s p l
    (st :: rest, s)

-- Station management access (R327)

/-- TAG of a management message: the first 16 bytes of HMAC-SHA-256 with the key KEY_ID names; none where
the image holds no such key. -/
def mgmtTag (s : State) (keyId : Nat) (m : List Nat) : Option (List Nat) :=
  let key := AMap.read (fun _ => []) s.img.keys keyId
  if key.isEmpty then none else some ((Sha.hmac (fromBytes key) m).take 16)

/-- MGMT_RESP: COUNT, a STATUS per item padded to 4 bytes, the read data, with its own TAG. -/
def mgmtResp (s : State) (p : Nat) (src : NetAddr) (m : StnIn) (keyId : Nat) (sts : List Nat) (data : List Word) : State :=
  let pad := List.replicate ((4 - sts.length % 4) % 4) 0
  let body := Crc.bytesBE 2 sts.length ++ [0, 0] ++ sts ++ pad ++ data.flatMap Crc.wordBytes
  let tag := (s.mgmtTag keyId (stnHead m.ver 0x32 m.tag m.seq body)).getD []
  s.emit (.station p (s.vlan p) src (stnMsg m.ver 0x32 m.tag m.seq body tag))

/-- A management message of a held session (R318, R327): the peer of its home answers NOT_HOME in DUPLEX;
the session's version, TAG and MGMT_SEQ are checked, then COUNT and LENGTH. -/
def mgmtIn (s : State) (p : Nat) (src : NetAddr) (m : StnIn) (most : Nat) (len : Nat → Nat) (f : State → Nat → Nat → State) : State :=
  match s.slotOf m.tag with
  | none => s.msgBad p
  | some k =>
    let keyId := fieldAt m.body 0 1
    let n := fieldAt m.body 2 2
    if s.sessVer k < m.ver ∨ s.sessVer k ≠ 3 then s.msgBad p
    else if s.mode = 2 && !s.sessHome k then s.nak p src m (s.expected k) 2
    else if s.mgmtTag keyId m.signed ≠ some m.auth then s.bump F.STN_AUTH_CNT.AUTH_FAIL
    else if m.seq ≤ (s.sess k).mgmtSeq then s.bump F.STN_CTRL2.REPLAY
    else if n = 0 ∨ most < n ∨ m.body.length ≠ len n then s.msgBad p
    else f (s.setSess k { s.sess k with src := src, port := p, mgmtSeq := m.seq }) k n

/-- MGMT_READ: COUNT consecutive words from ADDR through the session slot's access path. -/
def mgmtReadMsg (s : State) (p : Nat) (src : NetAddr) (m : StnIn) : State :=
  s.mgmtIn p src m 256 (fun _ => 8) fun s k n =>
    let r := s.readWords (8 + k) (fieldAt m.body 4 4) n
    r.2.mgmtResp p src m (fieldAt m.body 0 1) (r.1.map (·.1)) (r.1.map (·.2))

/-- MGMT_WRITE: COUNT pairs of address and value, applied in order. -/
def mgmtWriteMsg (s : State) (p : Nat) (src : NetAddr) (m : StnIn) : State :=
  s.mgmtIn p src m 64 (fun n => 4 + 8 * n) fun s k n =>
    let ws := (List.range n).map fun i => (fieldAt m.body (4 + 8 * i) 4, BitVec.ofNat 32 (fieldAt m.body (8 + 8 * i) 4))
    let r := s.writeWords (8 + k) ws
    r.2.mgmtResp p src m (fieldAt m.body 0 1) r.1 []

-- The maintenance SPI and JTAG (R489, R490)

/-- STATUS of a path's last access. -/
def setLast (s : State) (p v : Nat) : State := s.setPath p { s.path p with last := v }

/-- A read frame of the maintenance SPI: n words, shifted out. -/
def spiRead (s : State) (a n : Nat) : State :=
  let r := s.readWords 13 a n
  let s := match r.1.getLast? with
    | some x => r.2.setLast 13 x.1
    | none => r.2
  s.emit (.pin "MNT_SDO" (r.1.map fun x => x.2.toNat))

/-- A write frame of the maintenance SPI: word i goes to ADDR + 4i. -/
def spiWrite (s : State) (a : Nat) (ws : List Word) : State :=
  (s.writeWords 13 (ws.zipIdx.map fun x => ((a + 4 * x.2) % 2 ^ 32, x.1))).2

/-- Update-DR of DEBUG_ACCESS: one read or write, whose STATUS and data the next Capture-DR loads. -/
def debugAccess (s : State) (dr : BitVec 64) : State :=
  let a := 4 * Block.get dr 61 32
  let d := BitVec.ofNat 32 (Block.get dr 31 0)
  let s := s.setIr 0x10
  if Block.get dr 63 63 = 1 then
    let (st, s) := s.mgmtWrite 12 a d
    { s with dbg := { s.dbg with capture := (st, 0) } }
  else
    let (st, w, s) := s.mgmtRead 12 a
    { s.setLast 12 st with dbg := { s.dbg with capture := (st, w) } }

-- Block computations (R444)

/-- The bytes a block computation reads: CHK_LEN bytes from CHK_ADDR upwards, each word most significant
byte first, without any side effect. -/
def chkBlock (s : State) (n : Nat) : List Nat :=
  let len := s.get F.CHK_LEN.BYTES n
  let a := s.get F.CHK_ADDR.VALUE n
  let word := fun (i : Nat) => if mapped ((a + 4 * i) % 2 ^ 32) then s.shown ((a + 4 * i) % 2 ^ 32) else 0
  ((List.range ((len + 3) / 4)).flatMap fun i => Crc.wordBytes (word i)).take len

/-- The last byte of a block computation is fed; the words are taken as they stand then (DESIGN CHOICE, log entry 42). -/
def chkComplete (s : State) (n : Nat) : State :=
  if !s.chkBusy n then s else ((s.chkFeed n (s.chkBlock n)).setB F.CHK_STATUS.BUSY false n).chkDone n

end State

/-- MGMT_READ (R327). -/
def execMgmtRead (p : Fin 4) (src : NetAddr) (raw : List Byte) (s : State) : Host.Outcome State Fault Refusal :=
  .next (s.rxStn p 0x30 raw fun s m => s.mgmtReadMsg p src m)

/-- MGMT_WRITE (R327). -/
def execMgmtWrite (p : Fin 4) (src : NetAddr) (raw : List Byte) (s : State) : Host.Outcome State Fault Refusal :=
  .next (s.rxStn p 0x31 raw fun s m => s.mgmtWriteMsg p src m)

/-- MNT_WRITE (R489): the complete words of a frame, with the level of MNT_EN. -/
def execMntWrite (en : Bool) (addr : Word) (words : List Word) (s : State) : Host.Outcome State Fault Refusal :=
  .next (if en then s.spiWrite addr.toNat words else s)

/-- MNT_READ (R489): n words read, with the level of MNT_EN. -/
def execMntRead (en : Bool) (addr : Word) (n : Nat) (s : State) : Host.Outcome State Fault Refusal :=
  .next (if en then s.spiRead addr.toNat n else s)

/-- MNT_STATUS (R489). -/
def execMntStatus (en : Bool) (s : State) : Host.Outcome State Fault Refusal :=
  .next (if en then s.emit (.pin "MNT_SDO" [(s.path 13).last]) else s)

/-- JTAG_DEBUG_ACCESS (R490): the data register at Update-DR. -/
def execJtagDebugAccess (dr : BitVec 64) (s : State) : Host.Outcome State Fault Refusal := .next (s.debugAccess dr)

/-- CHK_COMPLETE (R444, R445): a block computation ends. -/
def execChkComplete (n : Fin 4) (s : State) : Host.Outcome State Fault Refusal := .next (s.chkComplete n)

/-- DBG_CHAL_READ (R434): a read of DBG_CHAL_0 by a path. -/
def execDbgChalRead (p : Fin 14) (s : State) : Host.Outcome State Fault Refusal :=
  .next (s.mgmtRead p F.DBG_CHAL.CHAL.base).2.2

/-- LO_READ (R447): a read of a LO register by a path. -/
def execLoRead (p : Fin 14) (addr : Word) (s : State) : Host.Outcome State Fault Refusal :=
  .next (if isLo addr.toNat then (s.mgmtRead p addr.toNat).2.2 else s)

/-- DEBUG_PORT_HALT (R229, R433): the debug port may halt at level 2. -/
def execDebugPortHalt (s : State) : Host.Outcome State Fault Refusal :=
  .next (if s.level = 2 then s.haltRequest else s)

end Sys2Proof.Machine
end

