-- ==== Sys2Proof/Machine/Writes.lean ====
section
/-!
DEFINITION. The commands that are management writes: each writes one word by an access path p, and
Mgmt.lean says what the word does and when it is refused.
-/

namespace Sys2Proof.Machine

/-- A word of REC_CMD (R369). -/
def State.recWord (op unit arg : Nat) : Word := BitVec.ofNat 32 (op * 2 ^ 28 + unit * 2 ^ 16 + arg)

/-- REGISTER_WRITE (R10): a management write of a word by a path. -/
def execRegisterWrite (p : Fin 14) (addr : Word) (value : Word) (s : State) : Host.Outcome State Fault Refusal :=
  .next (s.wrote p addr.toNat value)

/-- LO_WRITE (R448): a write of the LO half of a writable pair. -/
def execLoWrite (p : Fin 14) (addr : Word) (value : Word) (s : State) : Host.Outcome State Fault Refusal :=
  .next (if isLoRw addr.toNat then s.wrote p addr.toNat value else s)

/-- HI_WRITE (R448): a write of the HI half of a writable pair. -/
def execHiWrite (p : Fin 14) (addr : Word) (value : Word) (s : State) : Host.Outcome State Fault Refusal :=
  .next (if isLoRw (addr.toNat - 4) then s.wrote p addr.toNat value else s)

/-- STAGED_WRITE (R35): members 0 period, 1 cutoff, 2 output, 3 pip. -/
def execStagedWrite (p : Fin 14) (m : Fin 4) (value : Word) (s : State) : Host.Outcome State Fault Refusal :=
  .next (s.wrote p (0xB0010 + 4 * m) value)

/-- COMMIT (R36, R37). -/
def execCommit (p : Fin 14) (s : State) : Host.Outcome State Fault Refusal :=
  .next (s.wroteField p F.TICK_COMMIT.COMMIT 1)

/-- DISCARD (R35). -/
def execDiscard (p : Fin 14) (s : State) : Host.Outcome State Fault Refusal :=
  .next (s.wroteField p F.TICK_COMMIT.DISCARD 1)

/-- OVERRUN_CLR (R31). -/
def execOverrunClr (p : Fin 14) (s : State) : Host.Outcome State Fault Refusal :=
  .next (s.wroteField p F.OVERRUN_STATUS.OVERRUN_CLR 1)

/-- LINK_CNT_CLR (R101). -/
def execLinkCntClr (p : Fin 14) (k : Fin 64) (s : State) : Host.Outcome State Fault Refusal :=
  .next (s.wroteField p F.LINK_CNT_CLR.CNT_CLR 1 k)

/-- CAT_REDISCOVER (R145). -/
def execCatRediscover (p : Fin 14) (s : State) : Host.Outcome State Fault Refusal :=
  .next (s.wroteField p F.CAT_CTRL.REDISCOVER 1)

/-- CAT_CNT_CLR (R145). -/
def execCatCntClr (p : Fin 14) (s : State) : Host.Outcome State Fault Refusal :=
  .next (s.wroteField p F.CAT_CTRL.CNT_CLR 1)

/-- WEAR_WRITE (R141). -/
def execWearWrite (p : Fin 14) (i : Fin 6144) (value : Word) (s : State) : Host.Outcome State Fault Refusal :=
  .next (s.wroteField p F.CAT_ENTRY_W3.WEAR value.toNat i)

/-- RETRAIN (R63). -/
def execRetrain (p : Fin 14) (l : Fin 72) (s : State) : Host.Outcome State Fault Refusal :=
  .next (s.wroteField p F.LANE_CTRL.RETRAIN 1 l)

/-- BIT_SLIP (R46). -/
def execBitSlip (p : Fin 14) (l : Fin 72) (s : State) : Host.Outcome State Fault Refusal :=
  .next (s.wroteField p F.LANE_CTRL.BIT_SLIP 1 l)

/-- TX_PWR_REQ (R62, R63). -/
def execTxPwrReq (p : Fin 14) (l : Fin 72) (v : Fin 4) (s : State) : Host.Outcome State Fault Refusal :=
  .next (s.wroteField p F.LANE_CTRL.TX_PWR_REQ v l)

/-- RX_PWR_REQ (R62, R63). -/
def execRxPwrReq (p : Fin 14) (l : Fin 72) (v : Fin 4) (s : State) : Host.Outcome State Fault Refusal :=
  .next (s.wroteField p F.LANE_CTRL.RX_PWR_REQ v l)

/-- LANE_ENABLE_WRITE (R50, R63). -/
def execLaneEnableWrite (p : Fin 14) (l : Fin 72) (on : Bool) (s : State) : Host.Outcome State Fault Refusal :=
  .next (s.wroteField p F.LANE_CTRL.ENABLE (if on then 1 else 0) l)

/-- LANE_CNT_CLR (R66). -/
def execLaneCntClr (p : Fin 14) (l : Fin 72) (s : State) : Host.Outcome State Fault Refusal :=
  .next (s.wroteField p F.LANE_CNT_CLR.CNT_CLR 1 l)

/-- URGENT (R160): with the codes the request converts, and whether a conversion or urgent request is in progress. -/
def execUrgent (p : Fin 14) (codes : List (BitVec 16)) (busy : Bool) (s : State) : Host.Outcome State Fault Refusal :=
  .next (s.wroteField p F.ADC_CTRL.URGENT 1 0 (some (codes, busy)))

/-- CAL_START (R155). -/
def execCalStart (p : Fin 14) (s : State) : Host.Outcome State Fault Refusal :=
  .next (s.wroteField p F.ADC_CTRL.CAL_START 1)

/-- MCH_RANGE_WRITE (R153, R165). -/
def execMchRangeWrite (p : Fin 14) (n : Fin 24) (v : Fin 4) (s : State) : Host.Outcome State Fault Refusal :=
  .next (s.wroteField p F.MCH_CTRL.RANGE v n)

/-- ADC_CNT_CLR (R164). -/
def execAdcCntClr (p : Fin 14) (s : State) : Host.Outcome State Fault Refusal :=
  .next (s.wroteField p F.ADC_CTRL.CNT_CLR 1)

/-- OBS_CNT_CLR (R184). -/
def execObsCntClr (p : Fin 14) (s : State) : Host.Outcome State Fault Refusal :=
  .next (s.wroteField p F.OBS_CMD.CNT_CLR 1)

/-- SEL_CNT_CLR (R207). -/
def execSelCntClr (p : Fin 14) (s : State) : Host.Outcome State Fault Refusal :=
  .next (s.wroteField p F.SEL_CMD.CNT_CLR 1)

/-- HALT_REQ (R229). -/
def execHaltReq (p : Fin 14) (s : State) : Host.Outcome State Fault Refusal :=
  .next (s.wroteField p F.EDGE_HALT.HALT_REQ 1)

/-- RESUME (R232). -/
def execResume (p : Fin 14) (s : State) : Host.Outcome State Fault Refusal :=
  .next (s.wroteField p F.EDGE_HALT.RESUME 1)

/-- EDGE_CNT_CLR (R234). -/
def execEdgeCntClr (p : Fin 14) (s : State) : Host.Outcome State Fault Refusal :=
  .next (s.wroteField p F.EDGE_CMD.CNT_CLR 1)

/-- CTX_MODE_WRITE (R252): mode 0 OFF, 1 LIVE, 2 SHADOW, with apply tick m + 2. -/
def execCtxModeWrite (p : Fin 14) (c : Fin 192) (m : Fin 4) (s : State) : Host.Outcome State Fault Refusal :=
  .next (s.wroteField p F.CTX_CTRL.MODE m c)

/-- INJ_START (R266). -/
def execInjStart (p : Fin 14) (c : Fin 192) (s : State) : Host.Outcome State Fault Refusal :=
  .next (s.wroteField p F.CTX_CMD.INJ_START 1 c)

/-- INJ_STOP (R266). -/
def execInjStop (p : Fin 14) (c : Fin 192) (s : State) : Host.Outcome State Fault Refusal :=
  .next (s.wroteField p F.CTX_CMD.INJ_STOP 1 c)

/-- SEAL (R269). -/
def execSeal (p : Fin 14) (c : Fin 192) (s : State) : Host.Outcome State Fault Refusal :=
  .next (s.wroteField p F.CTX_CMD.SEAL 1 c)

/-- FAULT_RESET (R262). -/
def execFaultReset (p : Fin 14) (c : Fin 192) (s : State) : Host.Outcome State Fault Refusal :=
  .next (s.wroteField p F.CTX_CMD.FAULT_RESET 1 c)

/-- CTX_CNT_CLR (R270). -/
def execCtxCntClr (p : Fin 14) (c : Fin 192) (s : State) : Host.Outcome State Fault Refusal :=
  .next (s.wroteField p F.CTX_CMD.CNT_CLR 1 c)

/-- LOOP_CNT_CLR (R270). -/
def execLoopCntClr (p : Fin 14) (s : State) : Host.Outcome State Fault Refusal :=
  .next (s.wroteField p F.LOOP_CMD.CNT_CLR 1)

/-- COEF_WRITE (R269): a word of the coefficient memory. -/
def execCoefWrite (p : Fin 14) (word : Fin 1048576) (value : Word) (s : State) : Host.Outcome State Fault Refusal :=
  .next (s.wrote p (0x100000 + 4 * word) value)

/-- SIG_VALUE_WRITE (R245). -/
def execSigValueWrite (p : Fin 14) (i : Fin 4096) (value : Word) (s : State) : Host.Outcome State Fault Refusal :=
  .next (s.wroteField p F.SIG_VALUE.VALUE value.toNat i)

/-- WITHDRAW (R312). -/
def execWithdraw (p : Fin 14) (s : State) : Host.Outcome State Fault Refusal :=
  .next (s.wroteField p F.TWIN_CMD.WITHDRAW 1)

/-- REJOIN_NOW (R312). -/
def execRejoinNow (p : Fin 14) (s : State) : Host.Outcome State Fault Refusal :=
  .next (s.wroteField p F.TWIN_CMD.REJOIN_NOW 1)

/-- TWIN_CNT_CLR (R311). -/
def execTwinCntClr (p : Fin 14) (s : State) : Host.Outcome State Fault Refusal :=
  .next (s.wroteField p F.TWIN_CMD.CNT_CLR 1)

/-- REC_CMD_TRIGGER (R369). -/
def execRecCmdTrigger (p : Fin 14) (caps : BitVec 8) (s : State) : Host.Outcome State Fault Refusal :=
  .next (s.wrote p F.REC_CMD.OP.base (State.recWord 0 0 caps.toNat))

/-- REC_CMD_ARM (R369). -/
def execRecCmdArm (p : Fin 14) (c : Fin 8) (s : State) : Host.Outcome State Fault Refusal :=
  .next (s.wrote p F.REC_CMD.OP.base (State.recWord 1 c 0))

/-- REC_CMD_DISARM (R369). -/
def execRecCmdDisarm (p : Fin 14) (c : Fin 8) (s : State) : Host.Outcome State Fault Refusal :=
  .next (s.wrote p F.REC_CMD.OP.base (State.recWord 2 c 0))

/-- REC_CMD_OFFLOAD (R369). -/
def execRecCmdOffload (p : Fin 14) (d : Fin 64) (s : State) : Host.Outcome State Fault Refusal :=
  .next (s.wrote p F.REC_CMD.OP.base (State.recWord 3 0 d))

/-- REC_CMD_RELEASE (R369). -/
def execRecCmdRelease (p : Fin 14) (d : Fin 64) (s : State) : Host.Outcome State Fault Refusal :=
  .next (s.wrote p F.REC_CMD.OP.base (State.recWord 4 0 d))

/-- REC_CMD_ABORT (R371). -/
def execRecCmdAbort (p : Fin 14) (c : Fin 8) (s : State) : Host.Outcome State Fault Refusal :=
  .next (s.wrote p F.REC_CMD.OP.base (State.recWord 5 c 0))

/-- REC_CMD_THAW (R363). -/
def execRecCmdThaw (p : Fin 14) (s : State) : Host.Outcome State Fault Refusal :=
  .next (s.wrote p F.REC_CMD.OP.base (State.recWord 6 0 0))

/-- STN_CNT_CLR (R329). -/
def execStnCntClr (p : Fin 14) (s : State) : Host.Outcome State Fault Refusal :=
  .next (s.wroteField p F.STN_CTRL2.CNT_CLR 1)

/-- TIME_INC_HI_WRITE (R332, R448). -/
def execTimeIncHiWrite (p : Fin 14) (value : Word) (s : State) : Host.Outcome State Fault Refusal :=
  .next (s.wrote p F.TIME_INC_HI.INC_HI.base value)

/-- TIME_STEP (R333): a correction in ns, two's complement. -/
def execTimeStep (p : Fin 14) (value : Word) (s : State) : Host.Outcome State Fault Refusal :=
  .next (s.wrote p F.TIME_STEP.VALUE.base value)

/-- TIME_SET (R334). -/
def execTimeSet (p : Fin 14) (value : Word) (s : State) : Host.Outcome State Fault Refusal :=
  .next (s.wrote p F.TIME_SET.VALUE.base value)

/-- TIME_CNT_CLR (R347). -/
def execTimeCntClr (p : Fin 14) (s : State) : Host.Outcome State Fault Refusal :=
  .next (s.wroteField p F.TIME_STATUS.CNT_CLR 1)

/-- REC_WIN_SEL_WRITE (R370). -/
def execRecWinSelWrite (p : Fin 14) (d : Fin 64) (ofs : Fin 67108864) (s : State) :
    Host.Outcome State Fault Refusal :=
  .next (s.wrote p F.REC_WIN_SEL.DIR.base (F.REC_WIN_SEL.OFFSET.inWord (F.REC_WIN_SEL.DIR.inWord 0 d) ofs))

/-- UNIT_ENABLE (R355, R356): pattern units 0 to 7, sequence units 8 and 9. -/
def execUnitEnable (p : Fin 14) (u : Fin 10) (on : Bool) (s : State) : Host.Outcome State Fault Refusal :=
  .next (s.wroteField p (if u.val < 8 then F.PAT_CTRL.ENABLE else F.SEQ_CTRL.ENABLE) (if on then 1 else 0)
    (if u.val < 8 then u.val else u.val - 8))

/-- REC_CNT_CLR (R374). -/
def execRecCntClr (p : Fin 14) (s : State) : Host.Outcome State Fault Refusal :=
  .next (s.wroteField p F.REC_CTRL.CNT_CLR 1)

/-- TRIP_LATCH_CLEAR (R391). -/
def execTripLatchClear (p : Fin 14) (n : Fin 8) (s : State) : Host.Outcome State Fault Refusal :=
  .next (s.wroteField p F.TRIP_STATUS.LATCH (2 ^ n.val))

/-- FB_DISCREP_CLEAR (R396). -/
def execFbDiscrepClear (p : Fin 14) (n : Fin 8) (s : State) : Host.Outcome State Fault Refusal :=
  .next (s.wroteField p F.FB_STATUS.DISCREP (2 ^ n.val))

/-- SBK_REQ (R397). -/
def execSbkReq (p : Fin 14) (s : State) : Host.Outcome State Fault Refusal :=
  .next (s.wroteField p F.SAFE_CMD.SBK_REQ 1)

/-- SBK_CLR (R399). -/
def execSbkClr (p : Fin 14) (s : State) : Host.Outcome State Fault Refusal :=
  .next (s.wroteField p F.SAFE_CMD.SBK_CLR 1)

/-- SOP_CLR (R395). -/
def execSopClr (p : Fin 14) (mask : BitVec 4) (s : State) : Host.Outcome State Fault Refusal :=
  .next (s.wroteField p F.SAFE_CMD.SOP_CLR mask.toNat)

/-- ILP_REQ (R400). -/
def execIlpReq (p : Fin 14) (s : State) : Host.Outcome State Fault Refusal :=
  .next (s.wroteField p F.SAFE_CMD.ILP_REQ 1)

/-- ILP_DROP (R400). -/
def execIlpDrop (p : Fin 14) (s : State) : Host.Outcome State Fault Refusal :=
  .next (s.wroteField p F.SAFE_CMD.ILP_DROP 1)

/-- SAFE_CNT_CLR (R412). -/
def execSafeCntClr (p : Fin 14) (s : State) : Host.Outcome State Fault Refusal :=
  .next (s.wroteField p F.SAFE_CMD.CNT_CLR 1)

/-- SAFE_CONFIRM_WRITE (R408). -/
def execSafeConfirmWrite (p : Fin 14) (value : Word) (s : State) : Host.Outcome State Fault Refusal :=
  .next (s.wrote p F.SAFE_CONFIRM.CONFIRM.base value)

/-- POWER_CAP_WRITE (R464): in 0.1 W. -/
def execPowerCapWrite (p : Fin 14) (v : Fin 1024) (s : State) : Host.Outcome State Fault Refusal :=
  .next (s.wroteField p F.PWR_CTRL.POWER_CAP v)

/-- LC_ARM (R431). -/
def execLcArm (p : Fin 14) (target : Fin 8) (s : State) : Host.Outcome State Fault Refusal :=
  .next (s.wrote p F.LC_CMD.ARM.base (F.LC_CMD.ARM.inWord (F.LC_CMD.TARGET.inWord 0 target) 1))

/-- LC_COMMIT (R430, R431). -/
def execLcCommit (p : Fin 14) (target : Fin 8) (s : State) : Host.Outcome State Fault Refusal :=
  .next (s.wrote p F.LC_CMD.ARM.base (F.LC_CMD.COMMIT.inWord (F.LC_CMD.TARGET.inWord 0 target) 1))

/-- NVM_PROGRAM_BLOCK (R427). -/
def execNvmProgramBlock (p : Fin 14) (block : Fin 8192) (s : State) : Host.Outcome State Fault Refusal :=
  .next (s.wrote p F.NVM_CMD.OP.base (F.NVM_CMD.BLOCK.inWord (F.NVM_CMD.OP.inWord 0 1) block))

/-- NVM_ERASE_SECTOR (R427): the sector that holds a block. -/
def execNvmEraseSector (p : Fin 14) (block : Fin 8192) (s : State) : Host.Outcome State Fault Refusal :=
  .next (s.wrote p F.NVM_CMD.OP.base (F.NVM_CMD.BLOCK.inWord (F.NVM_CMD.OP.inWord 0 2) block))

/-- DBG_VERIFY (R434). -/
def execDbgVerify (p : Fin 14) (level : Fin 4) (s : State) : Host.Outcome State Fault Refusal :=
  .next (s.wrote p F.DBG_CMD.VERIFY.base (F.DBG_CMD.VERIFY.inWord (F.DBG_CMD.REQ_LEVEL.inWord 0 level) 1))

/-- DBG_RELOCK (R434). -/
def execDbgRelock (p : Fin 14) (s : State) : Host.Outcome State Fault Refusal :=
  .next (s.wrote p F.DBG_CMD.VERIFY.base (F.DBG_CMD.RELOCK.inWord 0 1))

/-- CHK_INIT (R444). -/
def execChkInit (p : Fin 14) (n : Fin 4) (s : State) : Host.Outcome State Fault Refusal :=
  .next (s.wroteField p F.CHK_CTRL.INIT 1 n)

/-- CHK_DATA_WRITE (R444). -/
def execChkDataWrite (p : Fin 14) (n : Fin 4) (value : Word) (s : State) : Host.Outcome State Fault Refusal :=
  .next (s.wroteField p F.CHK_DATA.VALUE value.toNat n)

/-- CHK_FINISH (R444). -/
def execChkFinish (p : Fin 14) (n : Fin 4) (s : State) : Host.Outcome State Fault Refusal :=
  .next (s.wroteField p F.CHK_CTRL.FINISH 1 n)

/-- CHK_START (R444). -/
def execChkStart (p : Fin 14) (n : Fin 4) (s : State) : Host.Outcome State Fault Refusal :=
  .next (s.wroteField p F.CHK_CTRL.START 1 n)

/-- CHK_ABORT (R446). -/
def execChkAbort (p : Fin 14) (n : Fin 4) (s : State) : Host.Outcome State Fault Refusal :=
  .next (s.wroteField p F.CHK_CTRL.ABORT 1 n)

/-- CHK_CNT_CLR (R449). -/
def execChkCntClr (p : Fin 14) (n : Fin 4) (s : State) : Host.Outcome State Fault Refusal :=
  .next (s.wroteField p F.CHK_CMD.CNT_CLR 1 n)

/-- INTEG_CNT_CLR (R449). -/
def execIntegCntClr (p : Fin 14) (s : State) : Host.Outcome State Fault Refusal :=
  .next (s.wroteField p F.INTEG_CMD.CNT_CLR 1)

/-- SCHED_CNT_CLR (R467). -/
def execSchedCntClr (p : Fin 14) (s : State) : Host.Outcome State Fault Refusal :=
  .next (s.wroteField p F.SCHED_CMD.CNT_CLR 1)

/-- PEAK_CLR (R469). -/
def execPeakClr (p : Fin 14) (s : State) : Host.Outcome State Fault Refusal :=
  .next (s.wroteField p F.SCHED_CMD.PEAK_CLR 1)

/-- CLK_CNT_CLR (R467). -/
def execClkCntClr (p : Fin 14) (s : State) : Host.Outcome State Fault Refusal :=
  .next (s.wroteField p F.CLK_CMD.CNT_CLR 1)

end Sys2Proof.Machine
end

