-- ==== Sys2Proof/Machine/Dispatch.lean ====
section
/-!
DEFINITION. One arm per constructor of Instr: the meaning of each command.
-/

namespace Sys2Proof.Machine

def exec (i : Instr) (s : State) : Host.Outcome State Fault Refusal :=
  match i with
  | .registerWrite p addr value => Sys2Proof.Machine.execRegisterWrite p addr value s
  | .loRead p addr => Sys2Proof.Machine.execLoRead p addr s
  | .loWrite p addr value => Sys2Proof.Machine.execLoWrite p addr value s
  | .hiWrite p addr value => Sys2Proof.Machine.execHiWrite p addr value s
  | .powerOn => Sys2Proof.Machine.execPowerOn s
  | .coldReset c => Sys2Proof.Machine.execColdReset c s
  | .warmReset upset => Sys2Proof.Machine.execWarmReset upset s
  | .railFault => Sys2Proof.Machine.execRailFault s
  | .resetRelease junior strap fuseOk => Sys2Proof.Machine.execResetRelease junior strap fuseOk s
  | .onChipWipeComplete => Sys2Proof.Machine.execOnChipWipeComplete s
  | .imageReadComplete h0 h1 r => Sys2Proof.Machine.execImageReadComplete h0 h1 r s
  | .pllLock ok loopBad => Sys2Proof.Machine.execPllLock ok loopBad s
  | .trainingComplete mem => Sys2Proof.Machine.execTrainingComplete mem s
  | .trainWaitExpiry mem => Sys2Proof.Machine.execTrainWaitExpiry mem s
  | .startupDiscoveryComplete => Sys2Proof.Machine.execStartupDiscoveryComplete s
  | .startupSelftestComplete => Sys2Proof.Machine.execStartupSelftestComplete s
  | .ready us => Sys2Proof.Machine.execReady us s
  | .tickBoundary => Sys2Proof.Machine.execTickBoundary s
  | .adcBurst convs => Sys2Proof.Machine.execAdcBurst convs s
  | .adcStreamConversion codes => Sys2Proof.Machine.execAdcStreamConversion codes s
  | .adcValueHandover => Sys2Proof.Machine.execAdcValueHandover s
  | .reportCutoff => Sys2Proof.Machine.execReportCutoff s
  | .agreeSend => Sys2Proof.Machine.execAgreeSend s
  | .agreeDeadline => Sys2Proof.Machine.execAgreeDeadline s
  | .computeWindowOpen ecc => Sys2Proof.Machine.execComputeWindowOpen ecc s
  | .reportsMissingExclusion j => Sys2Proof.Machine.execReportsMissingExclusion j s
  | .sensorFrozen j => Sys2Proof.Machine.execSensorFrozen j s
  | .gradeChange j => Sys2Proof.Machine.execGradeChange j s
  | .contextLost c => Sys2Proof.Machine.execContextLost c s
  | .followingError c => Sys2Proof.Machine.execFollowingError c s
  | .inputFrozen c j => Sys2Proof.Machine.execInputFrozen c j s
  | .cmpWindowEnd c => Sys2Proof.Machine.execCmpWindowEnd c s
  | .injectionComplete c => Sys2Proof.Machine.execInjectionComplete c s
  | .waitExpired j => Sys2Proof.Machine.execWaitExpired j s
  | .pipMove a => Sys2Proof.Machine.execPipMove a s
  | .overrun => Sys2Proof.Machine.execOverrun s
  | .consecOverrun => Sys2Proof.Machine.execConsecOverrun s
  | .lateCompletion cycles => Sys2Proof.Machine.execLateCompletion cycles s
  | .handOver => Sys2Proof.Machine.execHandOver s
  | .frameDispatch => Sys2Proof.Machine.execFrameDispatch s
  | .stagedWrite p m value => Sys2Proof.Machine.execStagedWrite p m value s
  | .commit p => Sys2Proof.Machine.execCommit p s
  | .discard p => Sys2Proof.Machine.execDiscard p s
  | .groupLand => Sys2Proof.Machine.execGroupLand s
  | .overrunClr p => Sys2Proof.Machine.execOverrunClr p s
  | .faultRx k b blk at_ => Sys2Proof.Machine.execFaultRx k b blk at_ s
  | .huskRx k b => Sys2Proof.Machine.execHuskRx k b s
  | .reportRx k bs arr clean => Sys2Proof.Machine.execReportRx k bs arr clean s
  | .ackRx k bs => Sys2Proof.Machine.execAckRx k bs s
  | .nakMsgRx k bs => Sys2Proof.Machine.execNakMsgRx k bs s
  | .announceRx k bs => Sys2Proof.Machine.execAnnounceRx k bs s
  | .echoRespRx k bs t4 => Sys2Proof.Machine.execEchoRespRx k bs t4 s
  | .nakSetRx k b => Sys2Proof.Machine.execNakSetRx k b s
  | .otherEndFrameRx k bs => Sys2Proof.Machine.execOtherEndFrameRx k bs s
  | .unknownMessageRx k bs => Sys2Proof.Machine.execUnknownMessageRx k bs s
  | .hopVersionFixed k verCap => Sys2Proof.Machine.execHopVersionFixed k verCap s
  | .configSend k p bcast c atTick ahead => Sys2Proof.Machine.execConfigSend k p bcast c atTick ahead s
  | .testSend k p bcast code ahead => Sys2Proof.Machine.execTestSend k p bcast code ahead s
  | .syncSend k tx => Sys2Proof.Machine.execSyncSend k tx s
  | .callSend k => Sys2Proof.Machine.execCallSend k s
  | .echoReqSend k t1 => Sys2Proof.Machine.execEchoReqSend k t1 s
  | .requestTimeout k tag => Sys2Proof.Machine.execRequestTimeout k tag s
  | .linkCntClr p k => Sys2Proof.Machine.execLinkCntClr p k s
  | .discWaitExpiry k => Sys2Proof.Machine.execDiscWaitExpiry k s
  | .discPeriodExpiry => Sys2Proof.Machine.execDiscPeriodExpiry s
  | .catRediscover p => Sys2Proof.Machine.execCatRediscover p s
  | .disagreeRediscover k => Sys2Proof.Machine.execDisagreeRediscover k s
  | .remeasPeriodExpiry k => Sys2Proof.Machine.execRemeasPeriodExpiry k s
  | .scheduleDeviation k => Sys2Proof.Machine.execScheduleDeviation k s
  | .latencyMeasured k => Sys2Proof.Machine.execLatencyMeasured k s
  | .admitRetryExpiry => Sys2Proof.Machine.execAdmitRetryExpiry s
  | .admissionComplete j => Sys2Proof.Machine.execAdmissionComplete j s
  | .catCntClr p => Sys2Proof.Machine.execCatCntClr p s
  | .wearWrite p j value => Sys2Proof.Machine.execWearWrite p j value s
  | .losAssert l lol => Sys2Proof.Machine.execLosAssert l lol s
  | .losDeassert l => Sys2Proof.Machine.execLosDeassert l s
  | .lolAssert l => Sys2Proof.Machine.execLolAssert l s
  | .lolDeassert l => Sys2Proof.Machine.execLolDeassert l s
  | .blockLockGain l hs => Sys2Proof.Machine.execBlockLockGain l hs s
  | .blockLockLoss l hs => Sys2Proof.Machine.execBlockLockLoss l hs s
  | .hiErrWindowEnd l n => Sys2Proof.Machine.execHiErrWindowEnd l n s
  | .refclkLoss r => Sys2Proof.Machine.execRefclkLoss r s
  | .trainingBlockRx l ctrl b => Sys2Proof.Machine.execTrainingBlockRx l ctrl b s
  | .genSwitch l => Sys2Proof.Machine.execGenSwitch l s
  | .finalUp l => Sys2Proof.Machine.execFinalUp l s
  | .legacyTimeout l => Sys2Proof.Machine.execLegacyTimeout l s
  | .finalTimeout l => Sys2Proof.Machine.execFinalTimeout l s
  | .baseTimeout l => Sys2Proof.Machine.execBaseTimeout l s
  | .laneRetryExpiry l => Sys2Proof.Machine.execLaneRetryExpiry l s
  | .relockTimeout l => Sys2Proof.Machine.execRelockTimeout l s
  | .bondAlignBlock skew => Sys2Proof.Machine.execBondAlignBlock skew s
  | .lanePowerStateReached l tx => Sys2Proof.Machine.execLanePowerStateReached l tx s
  | .retrain p l => Sys2Proof.Machine.execRetrain p l s
  | .bitSlip p l => Sys2Proof.Machine.execBitSlip p l s
  | .txPwrReq p l v => Sys2Proof.Machine.execTxPwrReq p l v s
  | .rxPwrReq p l v => Sys2Proof.Machine.execRxPwrReq p l v s
  | .laneEnableWrite p l on => Sys2Proof.Machine.execLaneEnableWrite p l on s
  | .laneCntClr p l => Sys2Proof.Machine.execLaneCntClr p l s
  | .urgent p codes busy => Sys2Proof.Machine.execUrgent p codes busy s
  | .calStart p => Sys2Proof.Machine.execCalStart p s
  | .calComplete sums temp => Sys2Proof.Machine.execCalComplete sums temp s
  | .mchRangeWrite p n v => Sys2Proof.Machine.execMchRangeWrite p n v s
  | .adcCntClr p => Sys2Proof.Machine.execAdcCntClr p s
  | .svFrameRx f => Sys2Proof.Machine.execSvFrameRx f s
  | .obsCntClr p => Sys2Proof.Machine.execObsCntClr p s
  | .selCntClr p => Sys2Proof.Machine.execSelCntClr p s
  | .haltReq p => Sys2Proof.Machine.execHaltReq p s
  | .debugPortHalt => Sys2Proof.Machine.execDebugPortHalt s
  | .resume p => Sys2Proof.Machine.execResume p s
  | .edgeCntClr p => Sys2Proof.Machine.execEdgeCntClr p s
  | .ctxModeWrite p c m => Sys2Proof.Machine.execCtxModeWrite p c m s
  | .injStart p c => Sys2Proof.Machine.execInjStart p c s
  | .injStop p c => Sys2Proof.Machine.execInjStop p c s
  | .seal p c => Sys2Proof.Machine.execSeal p c s
  | .faultReset p c => Sys2Proof.Machine.execFaultReset p c s
  | .ctxCntClr p c => Sys2Proof.Machine.execCtxCntClr p c s
  | .loopCntClr p => Sys2Proof.Machine.execLoopCntClr p s
  | .coefWrite p word value => Sys2Proof.Machine.execCoefWrite p word value s
  | .sigValueWrite p j value => Sys2Proof.Machine.execSigValueWrite p j value s
  | .scrubBlockCheck c corrected uncorr upset => Sys2Proof.Machine.execScrubBlockCheck c corrected uncorr upset s
  | .heartRx bs at_ => Sys2Proof.Machine.execHeartRx bs at_ s
  | .heartDeadline => Sys2Proof.Machine.execHeartDeadline s
  | .heartbeatLost => Sys2Proof.Machine.execHeartbeatLost s
  | .adcMsgRx bs => Sys2Proof.Machine.execAdcMsgRx bs s
  | .agreeRx bs => Sys2Proof.Machine.execAgreeRx bs s
  | .stateRx bs => Sys2Proof.Machine.execStateRx bs s
  | .presenceRx bs => Sys2Proof.Machine.execPresenceRx bs s
  | .journalRx seq j => Sys2Proof.Machine.execJournalRx seq j s
  | .changeRx seq c land => Sys2Proof.Machine.execChangeRx seq c land s
  | .pairRx seq p => Sys2Proof.Machine.execPairRx seq p s
  | .pairSend => Sys2Proof.Machine.execPairSend s
  | .catchupRx m => Sys2Proof.Machine.execCatchupRx m s
  | .snapshotRx ok whole => Sys2Proof.Machine.execSnapshotRx ok whole s
  | .replayComplete => Sys2Proof.Machine.execReplayComplete s
  | .duplexEntry => Sys2Proof.Machine.execDuplexEntry s
  | .evtResend => Sys2Proof.Machine.execEvtResend s
  | .skewMeasure peerDiff => Sys2Proof.Machine.execSkewMeasure peerDiff s
  | .skewLimitExceeded => Sys2Proof.Machine.execSkewLimitExceeded s
  | .pairWaitExpiry => Sys2Proof.Machine.execPairWaitExpiry s
  | .juniorPartitionTimeout => Sys2Proof.Machine.execJuniorPartitionTimeout s
  | .seniorSilenceConfirm => Sys2Proof.Machine.execSeniorSilenceConfirm s
  | .rejoinMaxExpiry => Sys2Proof.Machine.execRejoinMaxExpiry s
  | .rejoinRetryExpiry => Sys2Proof.Machine.execRejoinRetryExpiry s
  | .withdraw p => Sys2Proof.Machine.execWithdraw p s
  | .rejoinNow p => Sys2Proof.Machine.execRejoinNow p s
  | .twinCntClr p => Sys2Proof.Machine.execTwinCntClr p s
  | .arpRequest p ip src => Sys2Proof.Machine.execArpRequest p ip src s
  | .icmpEcho p ip src data => Sys2Proof.Machine.execIcmpEcho p ip src data s
  | .openSession p src raw => Sys2Proof.Machine.execOpen p src raw s
  | .closeSession p src raw => Sys2Proof.Machine.execClose p src raw s
  | .order p src raw => Sys2Proof.Machine.execOrder p src raw s
  | .subscribe p src raw => Sys2Proof.Machine.execSubscribe p src raw s
  | .mgmtRead p src raw => Sys2Proof.Machine.execMgmtRead p src raw s
  | .mgmtWrite p src raw => Sys2Proof.Machine.execMgmtWrite p src raw s
  | .orderSetpoint idx v => Sys2Proof.Machine.execOrderSetpoint idx v s
  | .orderDeblock mask => Sys2Proof.Machine.execOrderDeblock mask s
  | .orderBlock mask => Sys2Proof.Machine.execOrderBlock mask s
  | .orderCtxOff c => Sys2Proof.Machine.execOrderCtxOff c s
  | .orderCtxLive c => Sys2Proof.Machine.execOrderCtxLive c s
  | .orderCtxShadow c => Sys2Proof.Machine.execOrderCtxShadow c s
  | .orderCtxPromote c => Sys2Proof.Machine.execOrderCtxPromote c s
  | .orderCtxFaultReset c => Sys2Proof.Machine.execOrderCtxFaultReset c s
  | .orderInjStart c => Sys2Proof.Machine.execOrderInjStart c s
  | .orderInjStop c => Sys2Proof.Machine.execOrderInjStop c s
  | .orderCellExclude j => Sys2Proof.Machine.execOrderCellExclude j s
  | .orderCellRelease j => Sys2Proof.Machine.execOrderCellRelease j s
  | .orderCellRetire j => Sys2Proof.Machine.execOrderCellRetire j s
  | .orderGradeReset j => Sys2Proof.Machine.execOrderGradeReset j s
  | .orderWearSet j v => Sys2Proof.Machine.execOrderWearSet j v s
  | .orderParam addr value mask => Sys2Proof.Machine.execOrderParam addr value mask s
  | .recordTrigger caps => Sys2Proof.Machine.execRecordTrigger caps s
  | .recordArm c => Sys2Proof.Machine.execRecordArm c s
  | .recordDisarm c => Sys2Proof.Machine.execRecordDisarm c s
  | .recordOffload d => Sys2Proof.Machine.execRecordOffload d s
  | .recordRelease d => Sys2Proof.Machine.execRecordRelease d s
  | .recordAbort c => Sys2Proof.Machine.execRecordAbort c s
  | .recordThaw => Sys2Proof.Machine.execRecordThaw s
  | .recCmdTrigger p caps => Sys2Proof.Machine.execRecCmdTrigger p caps s
  | .recCmdArm p c => Sys2Proof.Machine.execRecCmdArm p c s
  | .recCmdDisarm p c => Sys2Proof.Machine.execRecCmdDisarm p c s
  | .recCmdOffload p d => Sys2Proof.Machine.execRecCmdOffload p d s
  | .recCmdRelease p d => Sys2Proof.Machine.execRecCmdRelease p d s
  | .recCmdAbort p c => Sys2Proof.Machine.execRecCmdAbort p c s
  | .recCmdThaw p => Sys2Proof.Machine.execRecCmdThaw p s
  | .beaconSend => Sys2Proof.Machine.execBeaconSend s
  | .sessionTimeout k => Sys2Proof.Machine.execSessionTimeout k s
  | .pauseRepeat p full => Sys2Proof.Machine.execPauseRepeat p full s
  | .stnCntClr p => Sys2Proof.Machine.execStnCntClr p s
  | .timeIncHiWrite p value => Sys2Proof.Machine.execTimeIncHiWrite p value s
  | .timeStep p value => Sys2Proof.Machine.execTimeStep p value s
  | .timeSet p value => Sys2Proof.Machine.execTimeSet p value s
  | .timeWrap => Sys2Proof.Machine.execTimeWrap s
  | .ppsInEdge at_ => Sys2Proof.Machine.execPpsInEdge at_ s
  | .servoLocked => Sys2Proof.Machine.execServoLocked s
  | .holdoverEntry => Sys2Proof.Machine.execHoldoverEntry s
  | .ppsOutPulse => Sys2Proof.Machine.execPpsOutPulse s
  | .ptpSyncRx p domain seq twoStep sec ns corr at_ => Sys2Proof.Machine.execPtpSyncRx p domain seq twoStep sec ns corr at_ s
  | .ptpFollowUpRx p domain seq sec ns corr => Sys2Proof.Machine.execPtpFollowUpRx p domain seq sec ns corr s
  | .ptpDelayRespRx p domain seq sec ns corr => Sys2Proof.Machine.execPtpDelayRespRx p domain seq sec ns corr s
  | .ptpAnnounceRx p domain gm sec => Sys2Proof.Machine.execPtpAnnounceRx p domain gm sec s
  | .ptpDelayReqRx p domain seq port at_ => Sys2Proof.Machine.execPtpDelayReqRx p domain seq port at_ s
  | .ptpSyncSend p tx => Sys2Proof.Machine.execPtpSyncSend p tx s
  | .timeCntClr p => Sys2Proof.Machine.execTimeCntClr p s
  | .recInterval k offs codes busy => Sys2Proof.Machine.execRecInterval k offs codes busy s
  | .seqCountComplete q => Sys2Proof.Machine.execSeqCountComplete q s
  | .seqTimerExpiry q => Sys2Proof.Machine.execSeqTimerExpiry q s
  | .holdoffEnd u => Sys2Proof.Machine.execHoldoffEnd u s
  | .recordClose c => Sys2Proof.Machine.execRecordClose c s
  | .segmentRearm c => Sys2Proof.Machine.execSegmentRearm c s
  | .bufferOverflow c => Sys2Proof.Machine.execBufferOverflow c s
  | .compressionStart d => Sys2Proof.Machine.execCompressionStart d s
  | .compressionComplete d => Sys2Proof.Machine.execCompressionComplete d s
  | .recordWipeComplete => Sys2Proof.Machine.execRecordWipeComplete s
  | .recWinSelWrite p d ofs => Sys2Proof.Machine.execRecWinSelWrite p d ofs s
  | .unitEnable p u on => Sys2Proof.Machine.execUnitEnable p u on s
  | .recCntClr p => Sys2Proof.Machine.execRecCntClr p s
  | .tripInputActive n at_ => Sys2Proof.Machine.execTripInputActive n at_ s
  | .tripPairFault n at_ => Sys2Proof.Machine.execTripPairFault n at_ s
  | .tripLatchClear p n => Sys2Proof.Machine.execTripLatchClear p n s
  | .feedbackDiscrepancy n at_ => Sys2Proof.Machine.execFeedbackDiscrepancy n at_ s
  | .fbDiscrepClear p n => Sys2Proof.Machine.execFbDiscrepClear p n s
  | .lvtestChange high => Sys2Proof.Machine.execLvtestChange high s
  | .sbkReq p => Sys2Proof.Machine.execSbkReq p s
  | .sbkClr p => Sys2Proof.Machine.execSbkClr p s
  | .sopClr p mask => Sys2Proof.Machine.execSopClr p mask s
  | .ilpReq p => Sys2Proof.Machine.execIlpReq p s
  | .ilpDrop p => Sys2Proof.Machine.execIlpDrop p s
  | .ilpGrant => Sys2Proof.Machine.execIlpGrant s
  | .safeCntClr p => Sys2Proof.Machine.execSafeCntClr p s
  | .safeConfirmWrite p value => Sys2Proof.Machine.execSafeConfirmWrite p value s
  | .safeCheckRecompute => Sys2Proof.Machine.execSafeCheckRecompute s
  | .watchdogExpiry => Sys2Proof.Machine.execWatchdogExpiry s
  | .safeClockCheck ppm => Sys2Proof.Machine.execSafeClockCheck ppm s
  | .tripSelfTest n pass at_ => Sys2Proof.Machine.execTripSelfTest n pass at_ s
  | .outputReadbackFault o => Sys2Proof.Machine.execOutputReadbackFault o s
  | .forceRailMismatch => Sys2Proof.Machine.execForceRailMismatch s
  | .lcArm p target => Sys2Proof.Machine.execLcArm p target s
  | .lcCommit p target => Sys2Proof.Machine.execLcCommit p target s
  | .lcArmExpired => Sys2Proof.Machine.execLcArmExpired s
  | .fuseBurnComplete => Sys2Proof.Machine.execFuseBurnComplete s
  | .nvmProgramBlock p block => Sys2Proof.Machine.execNvmProgramBlock p block s
  | .nvmEraseSector p block => Sys2Proof.Machine.execNvmEraseSector p block s
  | .nvmCommandComplete => Sys2Proof.Machine.execNvmCommandComplete s
  | .dbgChalRead p => Sys2Proof.Machine.execDbgChalRead p s
  | .dbgVerify p level => Sys2Proof.Machine.execDbgVerify p level s
  | .dbgVerifyComplete ok => Sys2Proof.Machine.execDbgVerifyComplete ok s
  | .dbgRelock p => Sys2Proof.Machine.execDbgRelock p s
  | .jtagIdcode => Sys2Proof.Machine.execJtagIdcode s
  | .jtagSamplePreload cells => Sys2Proof.Machine.execJtagSamplePreload cells s
  | .jtagExtest => Sys2Proof.Machine.execJtagExtest s
  | .jtagDebugAccess dr => Sys2Proof.Machine.execJtagDebugAccess dr s
  | .jtagBypass => Sys2Proof.Machine.execJtagBypass s
  | .jtagTrst => Sys2Proof.Machine.execJtagTrst s
  | .mntWrite en addr words => Sys2Proof.Machine.execMntWrite en addr words s
  | .mntRead en addr n => Sys2Proof.Machine.execMntRead en addr n s
  | .mntStatus en => Sys2Proof.Machine.execMntStatus en s
  | .chkInit p n => Sys2Proof.Machine.execChkInit p n s
  | .chkDataWrite p n value => Sys2Proof.Machine.execChkDataWrite p n value s
  | .chkFinish p n => Sys2Proof.Machine.execChkFinish p n s
  | .chkStart p n => Sys2Proof.Machine.execChkStart p n s
  | .chkAbort p n => Sys2Proof.Machine.execChkAbort p n s
  | .chkComplete n => Sys2Proof.Machine.execChkComplete n s
  | .chkCntClr p n => Sys2Proof.Machine.execChkCntClr p n s
  | .integCntClr p => Sys2Proof.Machine.execIntegCntClr p s
  | .sramScrubPass ecc => Sys2Proof.Machine.execSramScrubPass ecc s
  | .itemReady src sub cls deadline a0 a1 cancel => Sys2Proof.Machine.execItemReady src sub cls deadline a0 a1 cancel s
  | .itemComplete c lost => Sys2Proof.Machine.execItemComplete c lost s
  | .itemCancel h => Sys2Proof.Machine.execItemCancel h s
  | .overdueSweep => Sys2Proof.Machine.execOverdueSweep s
  | .itemLimitExpiry c => Sys2Proof.Machine.execItemLimitExpiry c s
  | .coreResetComplete c => Sys2Proof.Machine.execCoreResetComplete c s
  | .schedCntClr p => Sys2Proof.Machine.execSchedCntClr p s
  | .peakClr p => Sys2Proof.Machine.execPeakClr p s
  | .droopLevelRise sagCore sagLoop => Sys2Proof.Machine.execDroopLevelRise sagCore sagLoop s
  | .droopRecoveryStep sagCore sagLoop => Sys2Proof.Machine.execDroopRecoveryStep sagCore sagLoop s
  | .powerCounterUpdate est => Sys2Proof.Machine.execPowerCounterUpdate est s
  | .powerWindowEnd => Sys2Proof.Machine.execPowerWindowEnd s
  | .powerCapWrite p v => Sys2Proof.Machine.execPowerCapWrite p v s
  | .clkCntClr p => Sys2Proof.Machine.execClkCntClr p s
  | .refclkReturn r => Sys2Proof.Machine.execRefclkReturn r s
  | .stnFrameDiscard p isMsg => Sys2Proof.Machine.execStnFrameDiscard p isMsg s
  | .ptpDelayReqSend p tx => Sys2Proof.Machine.execPtpDelayReqSend p tx s
  | .calStaleSet temp => Sys2Proof.Machine.execCalStaleSet temp s
  | .recPatrolPass corr lost => Sys2Proof.Machine.execRecPatrolPass corr lost s
  | .wipeCheckComplete ok => Sys2Proof.Machine.execWipeCheckComplete ok s
  | .tripInputInactive n => Sys2Proof.Machine.execTripInputInactive n s
  | .fbLevelChange n high => Sys2Proof.Machine.execFbLevelChange n high s
  | .ilpKickAged => Sys2Proof.Machine.execIlpKickAged s
  | .curatorParityFault => Sys2Proof.Machine.execCuratorParityFault s

end Sys2Proof.Machine
end

