-- ==== Sys2Proof/Machine/Transmit.lean ====
section
/-!
DEFINITION. The transmitters of the CELL and TWIN lanes, block by block as TIME passes: blocks and the
scrambler (R42, R43), the choice of what a lane sends (R73, R90), training blocks (R50 to R52, R57, R59),
and the bond slots of the cross-link (R60, R275). STN lanes transmit by their own standards (R61).
-/

namespace Sys2Proof.Machine

-- The scrambler (R43)

/-- Bits in transmission order scrambled: each is added to the scrambled bits sent 39 and 58 before it. The
register holds the last 58 scrambled bits, the newest in bit 0. -/
def scrambleBits : BitVec 58 → List Bool → BitVec 58 × List Bool
  | r, [] => (r, [])
  | r, d :: l =>
    let x := d ^^ r.getLsbD 38 ^^ r.getLsbD 57
    let a := scrambleBits ((r.concat x).setWidth 58) l
    (a.1, x :: a.2)

/-- The receiver's inverse: the same taps on the received bits. -/
def descrambleBits : BitVec 58 → List Bool → BitVec 58 × List Bool
  | r, [] => (r, [])
  | r, x :: l =>
    let a := descrambleBits ((r.concat x).setWidth 58) l
    (a.1, (x ^^ r.getLsbD 38 ^^ r.getLsbD 57) :: a.2)

/-- A payload's bits in transmission order: bit 63 first (R42). -/
def payloadBits (b : Block) : List Bool := (List.range 64).map fun j => b.getLsbD (63 - j)

def payloadOf (l : List Bool) : Block := l.foldl (fun a x => (a.concat x).setWidth 64) 0

/-- The IDLE block with the device's VER_CAP: versions 1 to 3 (R73). -/
def idleBlock : Block := mkBlock [(7, 53)]

/-- The alignment block of the bond (R60). -/
def alignBlock : Block := mkBlock [(0xE2, 56)]

/-- The two header bits of a block, left bit first (R42). -/
def headerBits (ctrl : Bool) : List Bool := if ctrl then [true, false] else [false, true]

namespace State

/-- A lane's block leaves: its payload is scrambled (R43). -/
def sendBlock (s : State) (l : Nat) (ctrl : Bool) (b : Block) : State :=
  let x := s.lane l
  let r := scrambleBits x.tx.scr (payloadBits b)
  s.setLane l { x with tx := { x.tx with scr := r.1, out := some (ctrl, b, payloadOf r.2) } }

-- Training blocks (R50 to R52, R57, R59)

/-- Generations offered, as GEN_CAP spells them (R51); a TWIN lane, with one rate, offers none. -/
def genCap (s : State) (l : Nat) : Nat := if isCell l then ((s.offered l).map fun g => 2 ^ (g - 1)).sum else 0

/-- GEN_SEL of the own blocks: none before a block of the far end was received (R51, R52). -/
def ownGenSel (s : State) (l : Nat) : Nat :=
  if !isCell l then 0 else if s.laneSt l = lsFinal then (s.lane l).target else if (s.lane l).heard then s.genSel l else 0

/-- The own training block of a lane (R51). -/
def trainingBlock (s : State) (l : Nat) : Block :=
  let x := s.lane l
  let body := mkBlock [(0xE1, 56), (x.tx.seq, 52), (s.genCap l, 48), (s.ownGenSel l, 46), (if x.ownReady then 1 else 0, 45),
    (if s.reqCapable l then 1 else 0, 44), (x.tx.req, 35), (x.stat.1, 32), (x.stat.2.1, 30), (x.stat.2.2, 28),
    (if isTwin l then l - 64 else 0, 24)]
  mkBlock [(body.toNat, 0), (Crc.crc16 (Crc.bytesBE 6 (Block.get body 63 16)), 0)]

/-- Tap requests of the own receiver, in FINAL where both ends set REQ_CAPABLE: which it makes, and when, is
its own affair, so they are free; each new one takes the next SEQ (R51, R57; log entry 104). -/
def drawRequest (s : State) (l : Nat) : State :=
  if s.laneSt l = lsFinal && s.reqCapable l && s.flag F.LANE_TAPS.FAR_REQ_CAPABLE l then
    let (w, s) := s.free
    let x := s.lane l
    if w.getLsbD 9 then s.setLane l { x with tx := { x.tx with seq := (x.tx.seq + 1) % 16, req := w.toNat % 512 } } else s
  else s

/-- A training block leaves; those sent after 16 matching ones came are counted (R52). -/
def sendTraining (s : State) (l : Nat) : State :=
  let s := s.drawRequest l
  let x := s.lane l
  let s := s.setLane l { x with tx := { x.tx with trained := if s.laneSt l = lsNegotiate && 16 ≤ x.matched then x.tx.trained + 1 else 0 } }
  s.sendBlock l true (s.trainingBlock l)

-- CELL lanes (R73, R90)

/-- A lane's transmitter sends: it is in use, in TX_ACTIVE, and neither silenced nor a TWIN lane held idle under R402
(R50, R62, R401). -/
def transmits (s : State) (l : Nat) : Bool :=
  s.laneSt l ≠ lsDisabled && s.get F.LANE_STATUS.TX_PWR l = 0 && !s.flag F.SAFE_STATUS.SILENCED && !(isTwin l && s.cur.oscFail)

/-- Priority of a cross-link message by its type (R275). -/
def xlinkPrio : Nat → Nat
  | 0x01 => 3
  | 0x02 => 2
  | 0x03 => 1
  | 0x04 => 4
  | 0x05 => 6
  | 0x06 => 5
  | 0x07 => 6
  | 0x08 => 7
  | 0x09 => 8
  | _ => 9

/-- Type and EVT_SEQ of a cross-link message the model keeps as a structure (R275, R276). -/
def xlinkHead : Wire → Nat × Nat
  | .event q (.journal _) => (0x06, q)
  | .event q (.change _ _) => (0x07, q)
  | .event q (.pair _) => (0x08, q)
  | .catchup _ => (0x09, 0)
  | _ => (0x0A, 0)

/-- The messages an entry of the record becomes on the bond (R275): a SNAPSHOT goes in chunks of up to 512
data blocks (R303). The lengths of JOURNAL and CATCHUP, which no layout gives, are free (log entry 105). -/
def xlinkItems (s : State) (w : Wire) (idx : Nat) : List XItem × State :=
  let n := (xlinkHead w).1
  match w with
  | .xlink bs => ([{ prio := xlinkPrio (bType (bs.headD 0)), len := bs.length, idx }], s)
  | .event _ (.change _ _) => ([{ prio := xlinkPrio n, len := 3, idx }], s)
  | .event _ (.pair _) => ([{ prio := xlinkPrio n, len := 5, idx }], s)
  | .event _ (.journal _) | .catchup _ =>
    let r := s.free
    ([{ prio := xlinkPrio n, len := 3 + r.1.toNat % 2 ^ 16, idx }], r.2)
  | .snapshot _ =>
    let blocks := (s.get F.TWIN_SNAP_BYTES.BYTES + 7) / 8
    ((List.range ((blocks + 511) / 512)).map fun k =>
      { prio := xlinkPrio n, len := 2 + min 512 (blocks - 512 * k), idx, part := k }, s)
  | _ => ([], s)

/-- What the device gave a lane to send joins what waits there by its class (R90): HUSK, a NAK ordered set,
a re-sent message, an own message. A message for a lane that is not UP is lost with it. -/
def takeWire (s : State) (w : Wire) (idx : Nat) : State :=
  match w with
  | .husk k _ _ => s.setLane k { s.lane k with tx := { (s.lane k).tx with husk := 4 } }
  | .cell k bs =>
    let x := s.lane k
    if s.laneSt k ≠ lsUp then s
    else match bs with
      | [b] => s.setLane k { x with tx := { x.tx with naks := x.tx.naks ++ [b] } }
      | _ =>
        if s.hopVer k ≠ 1 && (bs.getLast?.any fun c => Block.get c 46 46 = 1)
        then s.setLane k { x with tx := { x.tx with resent := x.tx.resent ++ [bs] } }
        else s.setLane k { x with tx := { x.tx with own := x.tx.own ++ [bs] } }
  | w =>
    let r := s.xlinkItems w idx
    { r.2 with bond := { r.2.bond with queue := r.2.bond.queue ++ r.1 } }

/-- The next block of a CELL lane that is UP, by the classes of R90. A HUSK abandons the message in progress:
its CHECK block is never sent (R32, R74). An IDLE leaves before a message that would put the next one
beyond 1,024 blocks (R73). -/
def pickBlock (x : LaneTx) : Bool × Block × LaneTx :=
  let start := fun (m : List Block) (x : LaneTx) =>
    if 1023 ≤ x.sinceIdle + m.length then (true, idleBlock, none)
    else (true, m.headD 0, some { x with cur := m.drop 1, sinceIdle := x.sinceIdle + 1 })
  let idle := (true, idleBlock, { x with sinceIdle := 0 })
  if 0 < x.husk then (true, huskWord, { x with husk := x.husk - 1, cur := [], sinceIdle := x.sinceIdle + 1 })
  else match x.naks, x.cur, x.resent, x.own with
    | b :: r, _, _, _ => (true, b, { x with naks := r, sinceIdle := x.sinceIdle + 1 })
    | [], b :: r, _, _ => (r.isEmpty, b, { x with cur := r, sinceIdle := x.sinceIdle + 1 })
    | [], [], m :: r, _ => match start m { x with resent := r } with
      | (c, b, some y) => (c, b, y)
      | _ => idle
    | [], [], [], m :: r => match start m { x with own := r } with
      | (c, b, some y) => (c, b, y)
      | _ => idle
    | [], [], [], [] => idle

/-- A block boundary of a lane that trains or of a CELL lane (R50, R64, R90). HUSK goes before training
blocks too. -/
def laneBoundary (s : State) (l : Nat) : State :=
  let x := s.lane l
  if s.laneSt l = lsUp && isTwin l then s
  else if s.laneSt l = lsUp then
    let r := pickBlock x.tx
    (s.setLane l { x with tx := r.2.2 }).sendBlock l r.1 r.2.1
  else if 0 < x.tx.husk then
    (s.setLane l { x with tx := { x.tx with husk := x.tx.husk - 1 } }).sendBlock l true huskWord
  else s.sendTraining l

/-- A lane's transmitter through one TIME cycle of 2 ns: a block leaves at each block boundary (R44). -/
def laneCycle (s : State) (l : Nat) : State :=
  if !s.transmits l then s
  else
    let x := s.lane l
    let tb := if isTwin l then 2560 else blockPs (s.txGen l)
    if x.tx.phase + 2000 < tb then s.setLane l { x with tx := { x.tx with phase := x.tx.phase + 2000 } }
    else (s.setLane l { x with tx := { x.tx with phase := x.tx.phase + 2000 - tb } }).laneBoundary l

-- The bond (R60, R275)

/-- The message whose block takes the next place on the bond (R275): one of priority 1 to 4 that has begun;
else the waiting one of priority 1 to 4 with the lowest number; else the one of priority 5 to 9 that has
begun; else the lowest number that waits. -/
def nextItem (q : List XItem) : Option XItem :=
  let least := fun (l : List XItem) => l.foldl (fun (a : Option XItem) i => match a with
    | none => some i
    | some j => if i.prio < j.prio then some i else some j) none
  (q.find? fun i => i.prio ≤ 4 && 0 < i.sent) <|> least (q.filter fun i => i.prio ≤ 4)
    <|> (q.find? fun i => 0 < i.sent) <|> least q

/-- The block of a message: as formed where the spec lays the message out, else its type and EVT_SEQ in the
header and free contents behind it (log entry 105). -/
def xlinkBlock (s : State) (i : XItem) : Bool × Block × State :=
  let ctrl := i.sent = 0 || i.sent + 1 = i.len
  match s.wire[i.idx]? with
  | some (.xlink bs) => (ctrl, bs.getD i.sent 0, s)
  | some w =>
    if i.sent = 0 then (true, mkBlock [((xlinkHead w).1, 56), ((xlinkHead w).2, 40)], s)
    else
      let (a, s) := s.free
      let (b, s) := s.free
      if i.sent + 1 = i.len then (true, mkBlock [(0xF0, 56), (a.toNat, 0)], s) else (false, mkBlock [(a.toNat, 32), (b.toNat, 0)], s)
  | none => (true, 0, s)

/-- The next payload block of the cross-link, an IDLE where no message waits. -/
def bondPayload (s : State) : Bool × Block × State :=
  match nextItem s.bond.queue with
  | none => (true, idleBlock, s)
  | some i =>
    let r := s.xlinkBlock i
    let q := s.bond.queue.filterMap fun j =>
      if (j.idx, j.part) ≠ (i.idx, i.part) then some j else if j.sent + 1 < j.len then some { j with sent := j.sent + 1 } else none
    (r.1, r.2.1, { r.2.2 with bond := { r.2.2.bond with queue := q } })

/-- The logical lanes in use: all four at full width, else the pair in use (R60). -/
def logicalLanes (s : State) : List Nat :=
  if s.get F.BOND_STATUS.WIDTH = 2 then [0, 1, 2, 3] else if s.flag F.BOND_STATUS.PAIR then [2, 3] else [0, 1]

/-- Physical lane of a logical lane of the bond. -/
def physical (s : State) (j : Nat) : Nat := 64 + ((List.range 4).find? fun p => s.bond.map[p]? = some j).getD j

/-- One block slot of the bond: payload blocks striped across the logical lanes, logical lane 0 first; every
4,096 blocks an alignment block on each lane (R60). -/
def bondSlot (s : State) : State :=
  let n := s.bond.slot
  let s := { s with bond := { s.bond with slot := n + 1 } }
  if n % 4096 = 0 then s.each s.logicalLanes fun s j => s.sendBlock (s.physical j) true alignBlock
  else s.each s.logicalLanes fun s j =>
    let r := s.bondPayload
    r.2.2.sendBlock (r.2.2.physical j) r.1 r.2.1

/-- The bond through one TIME cycle; a bond that is down or silenced sends nothing. -/
def bondCycle (s : State) : State :=
  if s.get F.BOND_STATUS.WIDTH = 0 || s.flag F.SAFE_STATUS.SILENCED || s.cur.oscFail then s
  else if s.bond.phase + 2000 < 2560 then { s with bond := { s.bond with phase := s.bond.phase + 2000 } }
  else ({ s with bond := { s.bond with phase := s.bond.phase + 2000 - 2560 } }).bondSlot

/-- One TIME cycle of 2 ns with no command waiting: the clock advances (R331), what the device gave its lanes
joins what waits there, and every transmitter goes on (DESIGN CHOICE, log entries 43 and 103). -/
def idleCycle (s : State) : State :=
  let s := s.timeCycle
  let s := s.each (s.wire.zipIdx.drop s.taken) fun s w => s.takeWire w.1 w.2
  let s := { s with taken := s.wire.length }
  (s.each (List.range 68) laneCycle).bondCycle

end State

end Sys2Proof.Machine
end

