-- ==== Sys2Proof/Machine/Step.lean ====
section
/-!
DEFINITION. The step: the command at the front of the queue is executed; with an empty queue one TIME
cycle passes.
-/

namespace Sys2Proof.Machine

/-- One step. The spec gives the device a clock and the table no row for it: with no command waiting the
TIME domain advances by one cycle of 2 ns, and the lanes send what falls due in it (R331, R44; DESIGN
CHOICE, log entries 43 and 103). -/
def step (s : State) : Host.Outcome State Fault Refusal :=
  match s.pending with
  | [] => .next s.idleCycle
  | c :: rest => exec c { s with pending := rest }

/-- The state with the command a table word spells put at the front of its queue; unchanged, since no
word spells one. -/
def State.withFetchWord (s : State) (nbits w : Nat) : State :=
  match decodeTableWord nbits w with
  | some c => { s with pending := c :: s.pending }
  | none => s

end Sys2Proof.Machine
end

