-- ==== Sys2Proof/WellFormed.lean ====
section
/-!
DEFINITION. Which operands a command may carry.
-/

namespace Sys2Proof

open Sys2Proof.Machine

/-- An ECC or parity event names a memory of R438, a word inside it, an entry of the signal table. -/
def EccEvent.wf : EccEvent → Bool
  | .corrected m w | .uncorrected m w => decide (m < 10 ∧ w < 2 ^ 21)
  | .sigParity i => decide (i < 4096)
  | .journalCopy => true
  | .journalLost w => decide (w < 2 ^ 21)

/-- An order as JOURNAL carries it: a slot, a 16-bit tag, a 48-bit accession number, at most 16 items. -/
def JOrder.wf (o : JOrder) : Bool :=
  decide (o.slot < 4 ∧ o.tag < 2 ^ 16 ∧ o.seq < 2 ^ 48 ∧ o.apply < 2 ^ 64 ∧ o.code < 256 ∧ o.count < 256 ∧ o.port < 4)

/-- A session as JOURNAL and a snapshot carry it. -/
def SessRec.wf (r : SessRec) : Bool :=
  decide (r.slot < 4 ∧ r.tag < 2 ^ 16 ∧ r.ver ≤ 3 ∧ r.expected < 2 ^ 48 ∧ r.applied < 2 ^ 48 ∧ r.port < 4)

/-- What JOURNAL carries. -/
def Journaled.wf : Journaled → Bool
  | .order o => JOrder.wf o
  | .session r => SessRec.wf r
  | .closed k => decide (k < 4)

/-- A proposal names a cell or a string, and a reason code of R138. -/
def CatChange.wf : CatChange → Bool
  | .arise i c => decide (i < 6144 ∧ 1 ≤ c ∧ c < 32)
  | .clear i c => decide (i < 6144 ∧ 1 ≤ c ∧ c < 32)
  | .disc k _ r => decide (k < 64 ∧ r.reach ≤ 128)
  | .admission i _ c => decide (i < 6144 ∧ c < 32)
  | .fault i c => decide (i < 6144 ∧ c < 256)
  | .lat k _ l => decide (k < 64 ∧ l.length ≤ 128)
  | .silent i _ _ => decide (i < 6144)

/-- PAIR: a mode of R279, a 64-bit count, the group in units of 2 ns. -/
def PairMsg.wf (p : PairMsg) : Bool :=
  decide (p.mode ≤ 5 ∧ p.count < 2 ^ 64 ∧ p.group.1 < 2 ^ 15 ∧ p.group.2.1 < 2 ^ 15 ∧ p.group.2.2.1 < 2 ^ 15 ∧ p.group.2.2.2 < 16)

/-- CATCHUP of a tick. -/
def Catchup.wf (m : Catchup) : Bool :=
  decide (m.tick < 2 ^ 64) && (m.strings.all fun e => decide (e.1 < 64)) && (m.changes.all fun c => CatChange.wf c.1)
    && m.orders.all Journaled.wf

/-- A snapshot: every address a multiple of 4, sessions and orders well formed. -/
def Snap.wf (p : Snap) : Bool :=
  decide (p.tick < 2 ^ 64) && (p.words.all fun w => decide (w.1 % 4 = 0)) && p.sessions.all SessRec.wf && p.journal.all JOrder.wf
    && p.changes.all fun c => CatChange.wf c.2

/-- The sections of an image: aligned addresses and at most 6,144 cells. -/
def ImageRead.wf (r : ImageRead) : Bool :=
  (r.regs.all fun w => decide (w.1 % 4 = 0)) && (r.coefs.all fun w => decide (w.1 % 4 = 0)) && decide (r.cells.length ≤ 6144)

/-- A command whose operands lie in the ranges the spec gives them. The types bound the numbers of
lanes, strings, cells, arms and contexts; what is left is checked here, constructor by constructor. -/
def Instr.wf : Instr → Bool
  | .registerWrite _ _ _ => true
  | .loRead _ _ => true
  | .loWrite _ _ _ => true
  | .hiWrite _ _ _ => true
  | .powerOn => true
  | .coldReset _ => true
  | .warmReset _ => true
  | .railFault => true
  | .resetRelease _ _ _ => true
  | .onChipWipeComplete => true
  | .imageReadComplete _ _ r => ImageRead.wf r
  | .pllLock _ _ => true
  | .trainingComplete _ => true
  | .trainWaitExpiry _ => true
  | .startupDiscoveryComplete => true
  | .startupSelftestComplete => true
  | .ready _ => true
  | .tickBoundary => true
  | .adcBurst convs => decide (convs.length = 1 || convs.length = 2 || convs.length = 4) && convs.all fun c => decide (c.length = 24)
  | .adcStreamConversion codes => decide (codes.length = 24)
  | .adcValueHandover => true
  | .reportCutoff => true
  | .agreeSend => true
  | .agreeDeadline => true
  | .computeWindowOpen ecc => ecc.all EccEvent.wf
  | .reportsMissingExclusion _ => true
  | .sensorFrozen _ => true
  | .gradeChange _ => true
  | .contextLost _ => true
  | .followingError _ => true
  | .inputFrozen _ _ => true
  | .cmpWindowEnd _ => true
  | .injectionComplete _ => true
  | .waitExpired _ => true
  | .pipMove _ => true
  | .overrun => true
  | .consecOverrun => true
  | .lateCompletion _ => true
  | .handOver => true
  | .frameDispatch => true
  | .stagedWrite _ _ _ => true
  | .commit _ => true
  | .discard _ => true
  | .groupLand => true
  | .overrunClr _ => true
  | .faultRx _ _ _ _ => true
  | .huskRx _ _ => true
  | .reportRx _ _ _ _ => true
  | .ackRx _ _ => true
  | .nakMsgRx _ _ => true
  | .announceRx _ _ => true
  | .echoRespRx _ _ _ => true
  | .nakSetRx _ _ => true
  | .otherEndFrameRx _ _ => true
  | .unknownMessageRx _ _ => true
  | .hopVersionFixed _ _ => true
  | .configSend _ _ _ _ _ _ => true
  | .testSend _ _ _ _ _ => true
  | .syncSend _ _ => true
  | .callSend _ => true
  | .echoReqSend _ _ => true
  | .requestTimeout _ _ => true
  | .linkCntClr _ _ => true
  | .discWaitExpiry _ => true
  | .discPeriodExpiry => true
  | .catRediscover _ => true
  | .disagreeRediscover _ => true
  | .remeasPeriodExpiry _ => true
  | .scheduleDeviation _ => true
  | .latencyMeasured _ => true
  | .admitRetryExpiry => true
  | .admissionComplete _ => true
  | .catCntClr _ => true
  | .wearWrite _ _ _ => true
  | .losAssert _ _ => true
  | .losDeassert _ => true
  | .lolAssert _ => true
  | .lolDeassert _ => true
  | .blockLockGain _ _ => true
  | .blockLockLoss _ _ => true
  | .hiErrWindowEnd _ _ => true
  | .refclkLoss _ => true
  | .trainingBlockRx _ _ _ => true
  | .genSwitch _ => true
  | .finalUp _ => true
  | .legacyTimeout _ => true
  | .finalTimeout _ => true
  | .baseTimeout _ => true
  | .laneRetryExpiry _ => true
  | .relockTimeout _ => true
  | .bondAlignBlock _ => true
  | .lanePowerStateReached _ _ => true
  | .retrain _ _ => true
  | .bitSlip _ _ => true
  | .txPwrReq _ _ _ => true
  | .rxPwrReq _ _ _ => true
  | .laneEnableWrite _ _ _ => true
  | .laneCntClr _ _ => true
  | .urgent _ codes _ => decide (codes.length = 24)
  | .calStart _ => true
  | .calComplete sums _ => decide (sums.length = 24)
  | .mchRangeWrite _ _ _ => true
  | .adcCntClr _ => true
  | .svFrameRx f => f.asdus.all fun a => decide (a.1 < 14400)
  | .obsCntClr _ => true
  | .selCntClr _ => true
  | .haltReq _ => true
  | .debugPortHalt => true
  | .resume _ => true
  | .edgeCntClr _ => true
  | .ctxModeWrite _ _ _ => true
  | .injStart _ _ => true
  | .injStop _ _ => true
  | .seal _ _ => true
  | .faultReset _ _ => true
  | .ctxCntClr _ _ => true
  | .loopCntClr _ => true
  | .coefWrite _ _ _ => true
  | .sigValueWrite _ _ _ => true
  | .scrubBlockCheck _ _ _ _ => true
  | .heartRx _ _ => true
  | .heartDeadline => true
  | .heartbeatLost => true
  | .adcMsgRx _ => true
  | .agreeRx _ => true
  | .stateRx _ => true
  | .presenceRx _ => true
  | .journalRx _ j => Journaled.wf j
  | .changeRx _ c _ => CatChange.wf c
  | .pairRx _ p => PairMsg.wf p
  | .pairSend => true
  | .catchupRx m => m.all Catchup.wf
  | .snapshotRx _ whole => whole.all Snap.wf
  | .replayComplete => true
  | .duplexEntry => true
  | .evtResend => true
  | .skewMeasure _ => true
  | .skewLimitExceeded => true
  | .pairWaitExpiry => true
  | .juniorPartitionTimeout => true
  | .seniorSilenceConfirm => true
  | .rejoinMaxExpiry => true
  | .rejoinRetryExpiry => true
  | .withdraw _ => true
  | .rejoinNow _ => true
  | .twinCntClr _ => true
  | .arpRequest _ _ _ => true
  | .icmpEcho _ _ _ _ => true
  | .openSession _ _ _ => true
  | .closeSession _ _ _ => true
  | .order _ _ _ => true
  | .subscribe _ _ _ => true
  | .mgmtRead _ _ _ => true
  | .mgmtWrite _ _ _ => true
  | .orderSetpoint _ _ => true
  | .orderDeblock _ => true
  | .orderBlock _ => true
  | .orderCtxOff _ => true
  | .orderCtxLive _ => true
  | .orderCtxShadow _ => true
  | .orderCtxPromote _ => true
  | .orderCtxFaultReset _ => true
  | .orderInjStart _ => true
  | .orderInjStop _ => true
  | .orderCellExclude _ => true
  | .orderCellRelease _ => true
  | .orderCellRetire _ => true
  | .orderGradeReset _ => true
  | .orderWearSet _ _ => true
  | .orderParam _ _ _ => true
  | .recordTrigger _ => true
  | .recordArm _ => true
  | .recordDisarm _ => true
  | .recordOffload _ => true
  | .recordRelease _ => true
  | .recordAbort _ => true
  | .recordThaw => true
  | .recCmdTrigger _ _ => true
  | .recCmdArm _ _ => true
  | .recCmdDisarm _ _ => true
  | .recCmdOffload _ _ => true
  | .recCmdRelease _ _ => true
  | .recCmdAbort _ _ => true
  | .recCmdThaw _ => true
  | .beaconSend => true
  | .sessionTimeout _ => true
  | .pauseRepeat _ _ => true
  | .stnCntClr _ => true
  | .timeIncHiWrite _ _ => true
  | .timeStep _ _ => true
  | .timeSet _ _ => true
  | .timeWrap => true
  | .ppsInEdge _ => true
  | .servoLocked => true
  | .holdoverEntry => true
  | .ppsOutPulse => true
  | .ptpSyncRx _ _ _ _ sec ns _ _ => decide (sec < 2 ^ 48 ∧ ns < 1000000000)
  | .ptpFollowUpRx _ _ _ sec ns _ => decide (sec < 2 ^ 48 ∧ ns < 1000000000)
  | .ptpDelayRespRx _ _ _ sec ns _ => decide (sec < 2 ^ 48 ∧ ns < 1000000000)
  | .ptpAnnounceRx _ _ _ sec => decide (sec < 2 ^ 48)
  | .ptpDelayReqRx _ _ _ _ _ => true
  | .ptpSyncSend _ _ => true
  | .timeCntClr _ => true
  | .recInterval k offs codes _ => decide (k < 800 ∧ codes.length = 24) && offs.all fun o => decide (o.2 < 1600)
  | .seqCountComplete _ => true
  | .seqTimerExpiry _ => true
  | .holdoffEnd _ => true
  | .recordClose _ => true
  | .segmentRearm _ => true
  | .bufferOverflow _ => true
  | .compressionStart _ => true
  | .compressionComplete _ => true
  | .recordWipeComplete => true
  | .recWinSelWrite _ _ _ => true
  | .unitEnable _ _ _ => true
  | .recCntClr _ => true
  | .tripInputActive _ _ => true
  | .tripPairFault _ _ => true
  | .tripLatchClear _ _ => true
  | .feedbackDiscrepancy _ _ => true
  | .fbDiscrepClear _ _ => true
  | .lvtestChange _ => true
  | .sbkReq _ => true
  | .sbkClr _ => true
  | .sopClr _ _ => true
  | .ilpReq _ => true
  | .ilpDrop _ => true
  | .ilpGrant => true
  | .safeCntClr _ => true
  | .safeConfirmWrite _ _ => true
  | .safeCheckRecompute => true
  | .watchdogExpiry => true
  | .safeClockCheck _ => true
  | .tripSelfTest _ _ _ => true
  | .outputReadbackFault _ => true
  | .forceRailMismatch => true
  | .lcArm _ _ => true
  | .lcCommit _ _ => true
  | .lcArmExpired => true
  | .fuseBurnComplete => true
  | .nvmProgramBlock _ _ => true
  | .nvmEraseSector _ _ => true
  | .nvmCommandComplete => true
  | .dbgChalRead _ => true
  | .dbgVerify _ _ => true
  | .dbgVerifyComplete _ => true
  | .dbgRelock _ => true
  | .jtagIdcode => true
  | .jtagSamplePreload _ => true
  | .jtagExtest => true
  | .jtagDebugAccess _ => true
  | .jtagBypass => true
  | .jtagTrst => true
  | .mntWrite _ _ _ => true
  | .mntRead _ _ _ => true
  | .mntStatus _ => true
  | .chkInit _ _ => true
  | .chkDataWrite _ _ _ => true
  | .chkFinish _ _ => true
  | .chkStart _ _ => true
  | .chkAbort _ _ => true
  | .chkComplete _ => true
  | .chkCntClr _ _ => true
  | .integCntClr _ => true
  | .sramScrubPass ecc => ecc.all EccEvent.wf
  | .itemReady _ _ _ _ _ _ _ => true
  | .itemComplete _ _ => true
  | .itemCancel _ => true
  | .overdueSweep => true
  | .itemLimitExpiry _ => true
  | .coreResetComplete _ => true
  | .schedCntClr _ => true
  | .peakClr _ => true
  | .droopLevelRise _ _ => true
  | .droopRecoveryStep _ _ => true
  | .powerCounterUpdate est => decide (est.length = 16)
  | .powerWindowEnd => true
  | .powerCapWrite _ _ => true
  | .clkCntClr _ => true
  | .refclkReturn _ => true
  | .stnFrameDiscard _ _ => true
  | .ptpDelayReqSend _ _ => true
  | .calStaleSet _ => true
  | .recPatrolPass _ lost => lost.all fun a => decide (a < 2 ^ 32)
  | .wipeCheckComplete _ => true
  | .tripInputInactive _ => true
  | .fbLevelChange _ _ => true
  | .ilpKickAged => true
  | .curatorParityFault => true

end Sys2Proof
end

