-- ==== Sys2Proof/Safety.lean ====
section
/-!
DEFINITION. What a sound state is, in the terms the statements use: every table of the state in its
canonical form, the life-cycle fuses within their array and with room kept for a burn that is under way,
and the order between fuse contents that burning alone produces.
-/

namespace Sys2Proof.Machine

/-- Every table of the state holds its keys strictly rising and lists no entry that reads as an unlisted
key does; so do the tables an abandoned stage would give back. -/
def State.canonical (s : State) : Prop :=
  AMap.wf resetWord s.regs = true ∧ AMap.wf (fun _ => {}) s.lanes = true ∧ AMap.wf (fun _ => {}) s.links = true
  ∧ AMap.wf (fun _ => {}) s.cells = true ∧ AMap.wf (fun _ => {}) s.inputs = true ∧ AMap.wf (fun _ => {}) s.obs = true
  ∧ AMap.wf (fun _ => {}) s.orders = true ∧ AMap.wf (fun _ => {}) s.arms = true ∧ AMap.wf (fun _ => {}) s.plan = true
  ∧ AMap.wf (fun _ => {}) s.ctxs = true ∧ AMap.wf (fun _ => {}) s.chans = true ∧ AMap.wf (fun _ => {}) s.streams = true
  ∧ AMap.wf (fun _ => {}) s.paths = true ∧ AMap.wf (fun _ => {}) s.chks = true
  ∧ ∀ u, s.tick.undo = some u → AMap.wf (fun _ => {}) u.arms = true ∧ AMap.wf (fun _ => {}) u.ctxs = true
      ∧ AMap.wf (fun _ => {}) u.plan = true

/-- The fuse array of R429 and R430: at most 63 rows beside row 63 and at most 8 safety slots, with room
left for what a burn under way writes. -/
def State.fuseRoom (s : State) : Prop :=
  s.fuse.rows.length ≤ 63 ∧ s.fuse.slots.length ≤ 8
  ∧ ∀ t v, s.boot.burning = some (t, v) →
      (t ≠ 5 → s.fuse.rows.length < 63) ∧ (v ≠ none → s.fuse.slots.length < 8)

/-- A state the device can be in, as far as the statements need it. -/
def State.sound (s : State) : Prop := s.canonical ∧ s.fuseRoom

/-- Fuse contents a burn can lead to: rows and safety slots are only added behind those there are, and a
valid row 63 stays. -/
def Fuses.grown (a b : Fuses) : Prop :=
  a.rows <+: b.rows ∧ a.slots <+: b.slots ∧ (a.row63 = some true → b.row63 = some true)

/-- What every operation of the device keeps: the commands that wait, the fuses (which only grow), and
the soundness of the state. -/
def Keeps (s t : State) : Prop :=
  t.pending = s.pending ∧ s.fuse.grown t.fuse ∧ (s.sound → t.sound)

/-- A register word with fields written one after another: each entry is a field, its index and its new
value, and counts where the field's register is the one at address a. -/
def State.wordWith (a : Nat) (w : Word) (l : List (Field × Nat × Nat)) : Word :=
  l.foldl (fun w x => if a = x.1.addr x.2.1 then x.1.inWord w x.2.2 else w) w

/-- The registers of t are those of s with the listed fields written: every other field and every other
register reads as before. -/
def State.regsAs (s : State) (l : List (Field × Nat × Nat)) (t : State) : Prop :=
  ∀ a, t.reg a = State.wordWith a (s.reg a) l

/-- t is s with the listed fields written and nothing else changed. -/
def State.fieldsOnly (s : State) (l : List (Field × Nat × Nat)) (t : State) : Prop :=
  s.regsAs l t ∧ { t with regs := s.regs } = s

/-- A management write by path p to a field of lock code l is not shut out: the debug level lets the path
write, the life-cycle state unlocks the code, and the twin mode leaves the field to management (R9, R327,
R433). -/
def State.admits (s : State) (p : Nat) (l : Lock) : Prop :=
  (p < 12 ∨ s.level = 2) ∧ l.admits (s.get F.LC_STATE.STATE) false = true ∧ (l = .any ∨ s.twinShut = false)

/-- t, with STATUS OK as what path p's last access answered. -/
def State.okOn (t : State) (p : Nat) : State := t.setPath p { t.path p with last := 0 }

/-- t, with st as the STATUS of path p's last access. -/
def State.answer (t : State) (p st : Nat) : State := t.setPath p { t.path p with last := st }

/-- The outcome is a next state that differs from s in the listed fields only. -/
def State.setsOnly (s : State) (l : List (Field × Nat × Nat)) (o : Host.Outcome State Fault Refusal) : Prop :=
  ∃ t, o = .next t ∧ s.fieldsOnly l t

/-- As setsOnly, for a management write: path p's access is answered OK beside. -/
def State.writesOnly (s : State) (p : Nat) (l : List (Field × Nat × Nat)) (o : Host.Outcome State Fault Refusal) : Prop :=
  ∃ t, o = .next (t.okOn p) ∧ s.fieldsOnly l t

/-- t is in twin mode m, entered for the cause given in the present tick of s (R279, R312). -/
def State.nowIn (s t : State) (m cause : Nat) : Prop :=
  t.mode = m ∧ t.get F.TWIN_STATUS.LAST_CAUSE = cause ∧ t.get64 F.TWIN_MODE_TICK_LO.TICK F.TWIN_MODE_TICK_HI.TICK = s.tickNo

/-- A counter of t is one above that of s, or stays at its maximum. -/
def State.counted (s t : State) (f : Field) (i : Nat := 0) : Prop := t.get f i = min f.max (s.get f i + 1)

/-- Every register but those at the listed addresses is in t as in s. -/
def State.regsBut (s : State) (l : List Nat) (t : State) : Prop := ∀ a, a ∉ l → t.reg a = s.reg a

/-- Fields written 0 at one index. -/
def zeroed (fs : List Field) (i : Nat := 0) : List (Field × Nat × Nat) := fs.map fun f => (f, i, 0)

/-- In t, lane l has gone to DETECT and, its signal being there, on to BASE, on a TWIN lane to FINAL (R50): no block lock, no
generation but SL-1 in BASE, every generation offered again (R54), the taps of the preset (R56), and the counts of
the training before gone, with what waited for a string's hop that was UP. Every other lane, and the registers beside the lane's own, its string's link and the
bond's, are as in s. -/
def State.restarted (s t : State) (l : Nat) : Prop :=
  t.laneSt l = (if s.flag F.LANE_STATUS.LOS l then 1 else if isTwin l then 4 else 2)
  ∧ t.get F.LANE_STATUS.GEN l = (if isCell l ∧ s.flag F.LANE_STATUS.LOS l = false then 1 else 0)
  ∧ t.flag F.LANE_STATUS.BLOCK_LOCK l = false ∧ t.flag F.LANE_STATUS.LEGACY l = false
  ∧ t.get F.LANE_STATUS.FAIL_REASON l = 0
  ∧ (t.get F.LANE_TAPS.C_PRE l, t.get F.LANE_TAPS.C_MAIN l, t.get F.LANE_TAPS.C_POST l) = presetTaps (s.get F.LANE_CTRL.PRESET l)
  ∧ t.lane l = { bitPos := (s.lane l).bitPos
                 tx := if s.laneSt l = 5 ∧ isCell l then { (s.lane l).tx with trained := 0, req := 0, naks := [], cur := [], resent := [], own := [] }
                       else { (s.lane l).tx with trained := 0, req := 0 } }
  ∧ (∀ m, m ≠ l → t.lane m = s.lane m)
  ∧ (∀ a, a ≠ F.LANE_STATUS.STATE.addr l → a ≠ F.LANE_TAPS.C_PRE.addr l →
      (s.laneSt l = 5 → a ≠ F.LINK_STR_STATUS.HOP0_VER.addr l ∧ a ≠ F.BOND_STATUS.WIDTH.addr 0 ∧ a ≠ F.TWIN_STATUS.WIDTH.addr 0) →
      t.reg a = s.reg a)
  ∧ { t with regs := s.regs, lanes := s.lanes, links := s.links, bond := s.bond } = s
  ∧ (s.laneSt l ≠ 5 → t.links = s.links ∧ t.bond = s.bond)

/-- What the blocks received on string k's own hop bring (R70, R71, R95): one message whose check passes, without
its CHECK block, and the HOP_SEQ received last. Nothing is taken from a hop that is not UP with its version fixed. -/
def State.arrives (s : State) (k : Nat) (rx : List RxBlock) : Option (List Block × Nat) :=
  if s.hopVer k = 0 || s.get F.LANE_STATUS.STATE k ≠ 5 then none
  else match frame none rx with
    | [.msg bs] => match checkRx (s.hopVer k) (s.link k).rxSeq bs with
      | .ok msg _ => some (msg, rxSeqOf (s.hopVer k) (s.link k).rxSeq bs)
      | _ => none
    | _ => none

/-- String lanes a burst of HUSK leaves on: enabled, not DISABLED, and with a transmitter in TX_ACTIVE or TX_QUIET
(R64, R381). -/
def State.huskLanes (s : State) : List Nat :=
  (List.range 64).filter fun k =>
    s.flag F.LANE_CTRL.ENABLE k && s.get F.LANE_STATUS.STATE k != 0 && decide (s.get F.LANE_STATUS.TX_PWR k ≤ 1)

/-- From s to t a Safe Block has been recorded with a cause (R395, R398): SAFE_OK low, the outputs that Safe Block releases
released; where none was recorded before, it is counted, HUSK is forced, every arm blocks from the next compute window on,
and the freeze signal rises where FRZ_ON_SBK asks for it. A force line that was low sends HUSK, unless the device is silenced. -/
def State.safeBlocked (s t : State) (cause : Nat) : Prop :=
  t.flag F.SAFE_STATUS.SBK = true ∧ t.bit F.SAFE_STATUS.SBK_CAUSE cause = true ∧ t.flag F.SAFE_STATUS.SAFE_OK = false
  ∧ (∀ o : Fin 4, s.outSbkRel o = true → t.released o = true)
  ∧ (s.flag F.SAFE_STATUS.SBK = false → s.counted t F.SAFE_CNT.SBK_CNT ∧ t.flag F.SAFE_STATUS.HUSK_FORCED = true ∧ t.cur.blockDue = true
      ∧ (s.flag F.WD_CFG.FRZ_ON_SBK = true → t.flag F.REC_STATUS.FREEZE_REQ = true)
      ∧ (s.flag F.SAFE_STATUS.HUSK_FORCED = false →
          t.wire = s.wire ++ (if s.flag F.SAFE_STATUS.SILENCED then [] else s.huskLanes.map fun k => Wire.husk k (s.txGen k) true)))

/-- Registers whose words do more than store their fields, or that a rule of their own may refuse. -/
def specialRegs : List Nat :=
  State.tickCmds ++ State.loopCmds ++ State.safeCmds
    ++ [0x78440, 0xC0004, 0xC0008, 0x98400, 0x510000, 0x550100, 0x550400, 0x550600, 0x550800, 0x554000, 0x540024, F.CAT_ENTRY_W3.WEAR.base, F.SIG_VALUE.VALUE.base,
        F.TRIP_STATUS.LATCH.base, F.FB_STATUS.DISCREP.base, F.CHK_ADDR.VALUE.base]

/-- The register at address a, index i of its array, stores what is written to it and does nothing besides. -/
def plainAt (a : Nat) (d : RegDesc) (i : Nat) : Prop :=
  regAt a = some (d, i, 0) ∧ a < 0x5A0000 ∧ State.isStaged d = false ∧ isCoef a = false ∧ isLoRw a = false ∧ isLoRw (a - 4) = false
  ∧ a ≠ 0x540018 ∧ a ≠ 0x54001C ∧ a ≠ 0x540020 ∧ specialRegs.contains d.base = false ∧ State.inSafetySet a = false

end Sys2Proof.Machine
end

