-- ==== Sys2Proof/Certificates/Slice0/Obligations.lean ====
section
/-!
DEFINITION. The statements about the NPC-6144 that are left to the provers.
Each says for every state and operands that meet conditions on the state and operands alone what the
command leaves; a command's completion is the equation of exec with a next state.
-/

open Sys2Proof Sys2Proof.Machine

-- The step and the state after a reset

/-- A command at the front of the queue is executed on the state with the rest of the queue. -/
def Obligations.StepRunsFront : Prop :=
  ∀ (c : Instr) (rest : List Instr) (s : State), s.pending = c :: rest → step s = exec c { s with pending := rest }

/-- With no command waiting one TIME cycle of 2 ns passes (DESIGN CHOICE, log entries 43 and 103): the accumulator, TIME_NS
above TIME_FRAC above 16 internal bits, advances by TIME_INC (R331). TIME_INC here is the 40-bit pair. What the device gave
its lanes joins what waits at them, and nothing of a lane but its transmitter changes. A CELL lane that is UP and at a
block boundary sends, in this order, a block of HUSK, which abandons the message in progress, a waiting NAK ordered set,
the message in progress, the first of the messages to be sent again, the first of the device's own, unless it would put
the next IDLE beyond 1,024 blocks, and else IDLE (R73, R74, R90); every payload leaves scrambled (R43). -/
def Obligations.IdleAdvancesTime : Prop :=
  ∀ s : State, s.canonical → s.pending = [] → s.clk.sub < 2 ^ 16 →
    ∃ t, step s = .next t ∧ t.accum = s.accum + s.timeInc
      ∧ s.regsAs [(F.TIME_HI.TIME_NS, 0, t.accum / 2 ^ 32 % 2 ^ 32), (F.TIME_LO.TIME_FRAC, 0, t.accum / 2 ^ 16 % 2 ^ 16)] t
      ∧ (∀ l : Fin 72, { t.lane l with tx := (s.lane l).tx } = s.lane l) ∧ t.taken = s.wire.length ∧ t.bond.map = s.bond.map
      ∧ { t with regs := s.regs, clk := s.clk, lanes := s.lanes, bond := s.bond, taken := s.taken, freeCount := s.freeCount } = s
      ∧ ∀ k : Fin 64, s.taken = s.wire.length → s.laneSt k = 5 → s.transmits k = true → blockPs (s.txGen k) ≤ (s.lane k).tx.phase + 2000 →
          let x := (s.lane k).tx
          let y := (t.lane k).tx
          let sends := fun (ctrl : Bool) (b : Block) =>
            let r := scrambleBits x.scr (payloadBits b)
            y.out = some (ctrl, b, payloadOf r.2) ∧ y.scr = r.1
          (0 < x.husk → sends true huskWord ∧ y.husk + 1 = x.husk ∧ y.cur = [])
          ∧ (x.husk = 0 → ∀ b r, x.naks = b :: r → sends true b ∧ y.naks = r ∧ y.cur = x.cur)
          ∧ (x.husk = 0 → x.naks = [] → ∀ b r, x.cur = b :: r → sends r.isEmpty b ∧ y.cur = r ∧ y.own = x.own ∧ y.resent = x.resent)
          ∧ (x.husk = 0 → x.naks = [] → x.cur = [] → ∀ m r, x.resent = m :: r →
              if x.sinceIdle + m.length < 1023 then sends true (m.headD 0) ∧ y.cur = m.drop 1 ∧ y.resent = r ∧ y.own = x.own
              else sends true idleBlock ∧ y = { x with phase := y.phase, scr := y.scr, out := y.out, sinceIdle := 0 })
          ∧ (x.husk = 0 → x.naks = [] → x.cur = [] → x.resent = [] → ∀ m r, x.own = m :: r →
              if x.sinceIdle + m.length < 1023 then sends true (m.headD 0) ∧ y.cur = m.drop 1 ∧ y.own = r
              else sends true idleBlock ∧ y = { x with phase := y.phase, scr := y.scr, out := y.out, sinceIdle := 0 })
          ∧ (x.husk = 0 → x.naks = [] → x.cur = [] → x.resent = [] → x.own = [] → sends true idleBlock ∧ y.sinceIdle = 0)

/-- The state after a reset is sound. -/
def Obligations.ResetSound : Prop := State.reset.sound

/-- Soundness is an invariant of the step: the canonical form of every table and the room of the fuse
array survive whatever command comes. -/
def Obligations.StepKeepsSound : Prop := ∀ s t : State, s.sound → step s = .next t → t.sound

/-- Fuses are one-time: a step only adds rows and safety slots behind those burnt, and a valid row 63 stays
(R429, R430, R432). -/
def Obligations.FusesOnlyGrow : Prop := ∀ s t : State, step s = .next t → s.fuse.grown t.fuse

/-- No command is refused and none faults: every command of the table completes in every state, and leaves
the queue of waiting commands as it is. -/
def Obligations.EveryCommandCompletes : Prop :=
  ∀ (c : Instr) (s : State), ∃ t, exec c s = .next t ∧ t.pending = s.pending

/-- What the registers read after a reset of everything on chip, for the words the spec gives a reset value
other than 0: DEVICE_ID, LOS of every lane, CAUSE of every cell's observer word, the end state of every cell, the
nominal gain, CAUSE and pending calibration of every channel, TIME_INC nominal, step 1 of start-up (R8, R11, R67, R185, R210,
R165, R347, R435). -/
def Obligations.ResetValues : Prop :=
  State.reset.reg 0x0 = 0x614420A7#32
  ∧ (∀ l : Fin 72, State.reset.reg (F.LANE_STATUS.LOS.addr l) = 0x40#32 ∧ State.reset.flag F.LANE_STATUS.LOS l = true)
  ∧ (∀ i : Fin 6144, State.reset.get F.OBS_CELL_W2.CAUSE i = 6 ∧ State.reset.get F.SEL_CELL.END_STATE i = 3)
  ∧ (∀ n : Fin 24, State.reset.get F.MCH_CAL.GAIN n = 32768 ∧ State.reset.get F.MCH_STATUS.CAUSE n = 2
      ∧ State.reset.flag F.MCH_STATUS.VALID n = false
      ∧ State.reset.get F.MCH_STATUS.BAD_1024 n = 1024)
  ∧ State.reset.timeInc = 0x200000000 ∧ State.reset.get F.BOOT_STATUS.STEP = 1

-- Management access

/-- REGISTER_WRITE (R9, R10, R327): a word written to a register that only stores is written whole or not at all.
Nothing counts as written: nothing changes. A written field whose lock excludes the life-cycle state, then a
field the twin mode shuts, which every field of the loop engine's registers is (R246), then a value outside a field's range: the word is left and STATUS says which. Else
the word is stored, and STATUS is OK. Every other register, and everything beside the registers and the path's
STATUS, is as before. -/
def Obligations.WordWholeOrNothing : Prop :=
  ∀ (s : State) (p : Fin 14) (a v : Word) (d : RegDesc) (i : Nat), s.canonical → plainAt a.toNat d i → a.toNat % 4 = 0 →
    s.mayWrite p a.toNat = true →
    let old := s.reg a.toNat
    let fs := State.writtenFields d old v
    let lc := s.get F.LC_STATE.STATE
    (fs = [] → exec (.registerWrite p a v) s = .next (s.okOn p))
    ∧ ((∃ f ∈ fs, f.lock.admits lc false = false) → exec (.registerWrite p a v) s = .next (s.answer p 1))
    ∧ ((∀ f ∈ fs, f.lock.admits lc false = true) → s.twinShut = true → fs ≠ [] →
        (∃ f ∈ fs, f.lock ≠ .any) ∨ State.isLoopReg d = true → exec (.registerWrite p a v) s = .next (s.answer p 2))
    ∧ ((∀ f ∈ fs, f.lock.admits lc false = true) → (s.twinShut = false ∨ (∀ f ∈ fs, f.lock = .any) ∧ State.isLoopReg d = false) →
        (∃ f ∈ fs, f.inRange (f.val v) = false) → exec (.registerWrite p a v) s = .next (s.answer p 4))
    ∧ ((∀ f ∈ fs, f.lock.admits lc false = true) → (s.twinShut = false ∨ (∀ f ∈ fs, f.lock = .any) ∧ State.isLoopReg d = false) →
        (∀ f ∈ fs, f.inRange (f.val v) = true) → fs ≠ [] →
        exec (.registerWrite p a v) s = .next ((s.setReg a.toNat (State.storedWord d old v)).okOn p))

/-- An access that names no register changes nothing but the path's STATUS (R466, R433): ALIGN off the words, the debug
level's refusal, NO_REGISTER beyond the windows. -/
def Obligations.AccessRefused : Prop :=
  ∀ (s : State) (p : Fin 14) (a v : Word),
    (a.toNat % 4 ≠ 0 → exec (.registerWrite p a v) s = .next (s.answer p 5))
    ∧ (a.toNat % 4 = 0 → s.mayWrite p a.toNat = false → exec (.registerWrite p a v) s = .next (s.answer p 6))
    ∧ (a.toNat % 4 = 0 → s.mayWrite p a.toNat = true → 0x5A0000 ≤ a.toNat →
        exec (.registerWrite p a v) s = .next (s.answer p 3) ∧ (s.mayRead p a.toNat = true → s.mgmtRead p a.toNat = (3, 0, s)))

/-- The two-half rule for 64-bit values (R347, R447, R448). A write of LO to a writable pair of the trigger units is held by its access path and
changes no register; a write of HI commits the held low half with the written high half, or the low half as it
stands where none is held for this pair; TIME_INC follows the same rule. A read of LO stores the half above it, and TIME_EXT_NS with TIME_EXT_SEC_LO, in the path's snapshot
tagged with the pair; a read of HI on the path then returns the snapshot, whatever happened to the registers since. -/
def Obligations.PairsOfWords : Prop :=
  (∀ (s : State) (p : Fin 14) (a v : Word), s.canonical → isLoRw a.toNat = true → a.toNat ≠ 0x540008 → s.admits p .live →
      exec (.loWrite p a v) s = .next ((s.setPath p { s.path p with held := some (a.toNat, v) }).okOn p)
      ∧ (let lo := match (s.path p).held with
          | some (b, w) => if b = a.toNat then w else s.reg a.toNat
          | none => s.reg a.toNat
         exec (.hiWrite p (a + 4) v) s = .next ((((s.setReg a.toNat lo).setReg (a.toNat + 4) v).setPath p
           { s.path p with held := none }).okOn p)))
  ∧ (∀ (s : State) (p : Fin 14) (a : Word), isLo a.toNat = true → s.mayRead p a.toNat = true →
      exec (.loRead p a) s
          = .next (s.setPath p { s.path p with snap := some (a.toNat, (loPartners a.toNat).map fun b => (b, s.shown b)) })
      ∧ (s.mgmtRead p a.toNat).1 = 0 ∧ (s.mgmtRead p a.toNat).2.1 = s.shown a.toNat
      ∧ ∀ u : State, (u.path p).snap = some (a.toNat, (loPartners a.toNat).map fun b => (b, s.shown b)) →
          u.mayRead p (a.toNat + 4) = true → (u.mgmtRead p (a.toNat + 4)).2.1 = s.shown (a.toNat + 4))
  ∧ (∀ (s : State) (p : Fin 14) (v : Word), s.canonical → s.admits p .any → s.get F.TIME_SERVO.SOURCE = 0 →
      exec (.loWrite p 0x540008 v) s = .next ((s.setPath p { s.path p with held := some (0x540008, v) }).okOn p)
      ∧ (let lo := match (s.path p).held with
          | some (b, w) => if b = 0x540008 then w else s.reg 0x540008
          | none => s.reg 0x540008
         let inc := v.toNat % 256 * 2 ^ 32 + lo.toNat
         0x1FFBE76C9 ≤ inc → inc ≤ 0x200418937 → s.anyDeblocked = false → ∃ t : State, exec (.hiWrite p 0x54000C v) s = .next (t.okOn p) ∧ t.timeInc = inc
           ∧ s.regsAs [(F.TIME_INC_LO.INC_LO, 0, lo.toNat), (F.TIME_INC_HI.INC_HI, 0, v.toNat)] t ∧ (t.path p).held = none))

/-- REGISTER_WRITE of the coefficient memory (COEF_WRITE, R246, R269): a word of the coefficient memory is stored
where every context that owns it may be changed, and sealing notes follow; else STATUS is REFUSED and nothing changes.
Reserved words and bits of a header keep 0 (R240). -/
def Obligations.CoefficientWrite : Prop :=
  ∀ (s : State) (p : Fin 14) (w : Fin 1048576) (v : Word), s.admits p .cfg → s.reg (0x100000 + 4 * w) ≠ v &&& s.coefMask (0x100000 + 4 * w) →
    ((∀ c ∈ s.coefOwners (0x100000 + 4 * w), s.coefOpen c = true) →
      exec (.coefWrite p w v) s
        = .next (((s.setReg (0x100000 + 4 * w) (v &&& s.coefMask (0x100000 + 4 * w))).each (s.coefOwners (0x100000 + 4 * w)) fun s c => s.coefTouched c).okOn p))
    ∧ ((∃ c ∈ s.coefOwners (0x100000 + 4 * w), s.coefOpen c = false) → exec (.coefWrite p w v) s = .next (s.answer p 4))

-- Counters and their clears

/-- A write of 1 to a counter clear of the tick, the lanes, the links, the catalogue, the measurement, the observer, the
selection and the edge windows (R31, R66, R101, R145, R164, R184, R207, R234) clears the counters that clear
names, and changes nothing else. -/
def Obligations.StageCountersCleared : Prop :=
  ∀ (s : State) (p : Fin 14), s.canonical → s.admits p .any →
    s.writesOnly p (zeroed [F.OVERRUN_CNT.COUNT, F.OVERRUN_STATUS.LATE_MAX]) (exec (.overrunClr p) s)
    ∧ (∀ l : Fin 72, s.writesOnly p (zeroed [F.LANE_SYNC_ERR_CNT.COUNT, F.LANE_EVT_CNT.LOL_CNT, F.LANE_EVT_CNT.LOS_CNT,
        F.LANE_EVT_CNT2.POL_FLIPS, F.LANE_EVT_CNT2.RETRAIN_CNT, F.LANE_EVT_CNT2.LOCK_LOSS_CNT] l) (exec (.laneCntClr p l) s))
    ∧ (∀ k : Fin 64, s.writesOnly p (zeroed [F.LINK_CRC_CNT.COUNT, F.LINK_NAK_CNT.NAK_TX, F.LINK_NAK_CNT.NAK_RX,
        F.LINK_RESEND_CNT.RESENT, F.LINK_RESEND_CNT.NO_COPY, F.LINK_RESEND_CNT.NAK_BAD, F.LINK_DROP_CNT.UNKNOWN,
        F.LINK_DROP_CNT.STRAY, F.LINK_DROP_CNT.FWD_BAD_RX, F.LINK_DROP_CNT.ABANDONED, F.LINK_LATE_CNT.LATE_RX,
        F.LINK_LATE_CNT.TIMEOUT, F.LINK_FAULT_CNT.FAULT_OK, F.LINK_FAULT_CNT.FAULT_BAD, F.LINK_FAULT_CNT.HUSK_RX] k)
        (exec (.linkCntClr p k) s))
    ∧ s.writesOnly p (zeroed [F.CAT_COUNTS.EXCL_CNT, F.CAT_COUNTS.ADMIT_CNT]) (exec (.catCntClr p) s)
    ∧ s.writesOnly p (zeroed [F.ADC_DROP_CNT.COUNT, F.ADC_URGENT_CNT.COUNT] ++ (List.range 8).flatMap fun k =>
        zeroed [F.SV_RX_CNT.RX, F.SV_ERR_CNT.MISS, F.SV_ERR_CNT.QUAL, F.SV_ERR_CNT.REJECT] k) (exec (.adcCntClr p) s)
    ∧ s.writesOnly p (zeroed [F.OBS_SUBST_CNT.COUNT, F.OBS_LATE_CNT.COUNT, F.OBS_DISAGREE_CNT.COUNT, F.OBS_EVT_CNT.FROZEN,
        F.OBS_EVT_CNT.MISMATCH, F.OBS_EXCL_CNT.MISSING, F.OBS_EXCL_CNT.FAILED]) (exec (.obsCntClr p) s)
    ∧ s.writesOnly p ((List.range 16).flatMap fun a => zeroed [F.SEL_ARM_SWAP_CNT.COUNT, F.SEL_ARM_EVT_CNT.BUDGET_CUT,
        F.SEL_ARM_EVT_CNT.SAT_CNT, F.SEL_ARM_EVT_CNT.PIP_NONE, F.SEL_ARM_EVT_CNT2.COMM_CNT, F.SEL_ARM_EVT_CNT2.REF_INVALID,
        F.SEL_ARM_EVT_CNT2.WAIT_EXPIRED] a) (exec (.selCntClr p) s)
    ∧ s.writesOnly p ((List.range 16).flatMap fun a => zeroed [F.EDGE_ARM_CNT.DWELL_MOVE, F.EDGE_ARM_CNT.DROP,
        F.EDGE_ARM_CNT2.CARRY_CLIP, F.EDGE_ARM_CNT2.PIP_SKIP, F.EDGE_ARM_CNT2.CROSS_SUB] a) (exec (.edgeCntClr p) s)

/-- The same for the loop, twin, station, time, record and Curator windows, and for the check units, the integrity, scheduler and power windows (R270, R301,
R326, R347, R384, R413, R444, R446, R464); PEAK_CLR sets POOL_PEAK to POOL_USED (R464). The loop clears are refused with TWIN_MODE in
DUPLEX, PARTITIONED and REJOINING (R246). -/
def Obligations.ServiceCountersCleared : Prop :=
  (∀ (s : State) (p : Fin 14), s.canonical → s.admits p .any →
      let ctxCounters := [F.CTX_RUN_CNT.COUNT, F.CTX_EVT_CNT.FAULT_CNT, F.CTX_EVT_CNT.MISSED_RUN, F.CTX_EVT_CNT.SHADOW_SKIP,
        F.CTX_EVT_CNT.ECC_CORR]
      (s.twinShut = false → ∀ c : Fin 192, s.writesOnly p (zeroed ctxCounters c) (exec (.ctxCntClr p c) s))
      ∧ (s.twinShut = true → (∀ c : Fin 192, exec (.ctxCntClr p c) s = .next (s.answer p 2)) ∧ exec (.loopCntClr p) s = .next (s.answer p 2))
      ∧ (s.twinShut = false → s.writesOnly p (zeroed [F.LOOP_ECC_CNT.CORRECTED, F.LOOP_ECC_CNT.UNCORRECTED, F.LOOP_SCRUB.MISMATCH, F.LOOP_SCRUB.PASSES]
          ++ (List.range 192).flatMap fun c => zeroed ctxCounters c) (exec (.loopCntClr p) s))
      ∧ s.writesOnly p (zeroed [F.TWIN_HB_CNT.HB_LOST, F.TWIN_HB_CNT.HB_MISSED, F.TWIN_AGREE_CNT.STR_DIS,
          F.TWIN_AGREE_CNT.AGREE_MISS, F.TWIN_AGREE_CNT.RELAY_CUT, F.TWIN_DIV_CNT.DIVERGE, F.TWIN_DIV_CNT.WITHDRAWN,
          F.TWIN_DIV_CNT.REJOINED, F.TWIN_DIV_CNT.REJOIN_FAIL, F.TWIN_ADC_CNT.ADC_DIS, F.TWIN_ADC_CNT.ADC_MISS,
          F.TWIN_XL_CNT.XL_CRC, F.TWIN_XL_CNT.LATE_CHG, F.TWIN_XL_CNT.LAG]
          ++ (List.range 64).map (fun k => (F.TWIN_STR.DIS_CNT, k, 0)) ++ (List.range 24).map fun n => (F.TWIN_ADC_STAT.DIS_CNT, n, 0))
          (exec (.twinCntClr p) s)
      ∧ s.writesOnly p ((List.range 4).flatMap (fun q => zeroed [F.STN_PORT_CNT.RX_DROP, F.STN_PORT_CNT.MSG_BAD,
            F.STN_PORT_CNT.PAUSE_TX] q)
          ++ (List.range 4).flatMap (fun k => zeroed [F.STN_SESS_CNT.GAP_CNT, F.STN_SESS_CNT.DUP_CNT, F.STN_SESS_CNT.OVER_CNT,
            F.STN_SESS_CNT.LATE_ACCEPT] k)
          ++ zeroed [F.STN_CTRL2.REPLAY, F.STN_AUTH_CNT.AUTH_FAIL]) (exec (.stnCntClr p) s)
      ∧ s.writesOnly p (zeroed [F.TIME_CNT.STEPS, F.TIME_CNT.LOCK_LOSS, F.TIME_CNT.PPS_GLITCH]) (exec (.timeCntClr p) s)
      ∧ s.writesOnly p (zeroed [F.REC_ECC.UNCORR, F.REC_ECC.CORR]
          ++ (List.range 8).flatMap (fun u => zeroed [F.PAT_CNT.FIRED, F.PAT_CNT.SUPPRESSED] u)
          ++ (List.range 2).flatMap (fun u => zeroed [F.SEQ_CNT.FIRED, F.SEQ_CNT.SUPPRESSED] u)
          ++ (List.range 8).flatMap fun c => zeroed [F.CAP_CNT.MISSED, F.CAP_CNT.TRIG_BUSY, F.CAP_CNT.NO_SLOT, F.CAP_CNT2.RECORDS,
            F.CAP_CNT2.OVF] c) (exec (.recCntClr p) s)
      ∧ s.writesOnly p (zeroed [F.SAFE_CNT.SBK_CNT, F.SAFE_CNT.FAULT_RX, F.SAFE_CNT.HUSK_FORCE, F.SAFE_CNT.LOG_LOST])
          (exec (.safeCntClr p) s))
  ∧ (∀ (s : State) (p : Fin 14), s.canonical → s.admits p .any →
      (∀ n : Fin 4, s.writesOnly p (zeroed [F.CHK_CNT.MATCH, F.CHK_CNT.MISMATCH_CNT] n) (exec (.chkCntClr p n) s))
      ∧ s.writesOnly p ((List.range 10).flatMap (fun m => zeroed [F.INTEG_MEM_CNT.CORRECTED, F.INTEG_MEM_CNT.UNCORRECTED] m)
          ++ zeroed [F.INTEG_PASS.SRAM_PASSES, F.INTEG_PASS.REC_PASSES, F.INTEG_EVT.SIG_PAR, F.INTEG_EVT.LOCAL_CNT,
            F.INTEG_EVT.JRNL_DUAL]) (exec (.integCntClr p) s)
      ∧ s.writesOnly p (zeroed [F.SCHED_CNT.FULL_REFUSED, F.SCHED_CNT.CANCEL_RACE, F.SCHED_CNT.CORE_RESET]
          ++ (List.range 16).flatMap fun k => zeroed [F.SCHED_CLASS_CNT.MISS, F.SCHED_CLASS_CNT.LATE_START] k)
          (exec (.schedCntClr p) s)
      ∧ s.writesOnly p (zeroed [F.DROOP_STATUS.EVENTS, F.DROOP_STATUS.MIN_LEVEL, F.DROOP_TIME.TIME, F.PWR_CNT.OVER_CAP_CNT,
          F.PWR_CNT.RAISES]) (exec (.clkCntClr p) s)
      ∧ s.writesOnly p [(F.SCHED_STATUS.POOL_PEAK, 0, s.get F.SCHED_STATUS.POOL_USED)] (exec (.peakClr p) s))

-- Serial lanes

/-- The ways into DETECT (R50, R54, R63): LOS from any state but DISABLED, counted and noted; a RETRAIN write, counted,
of a lane that is not busy; the retry from FAILED; the limit of RELOCK. A RETRAIN of a busy lane is refused with
REFUSED_SEEN and leaves the lane; a disabled lane stays disabled. -/
def Obligations.LaneRestarts : Prop :=
  ∀ (s : State) (l : Fin 72) (p : Fin 14), s.canonical →
    (s.laneSt l ≠ 0 → ∃ t : State, exec (.losAssert l false) s = .next t
      ∧ (((s.setB F.LANE_STATUS.LOS true l).setB F.LANE_EVENT.LOS_SEEN true l).bump F.LANE_EVT_CNT.LOS_CNT 1 l).restarted t l
      ∧ t.laneSt l = 1)
    ∧ (s.admits p .any → s.laneBusy l = false → s.laneSt l ≠ 0 →
        ∃ t : State, exec (.retrain p l) s = .next (t.okOn p) ∧ (s.bump F.LANE_EVT_CNT2.RETRAIN_CNT 1 l).restarted t l)
    ∧ (s.admits p .any → s.laneBusy l = false → s.laneSt l = 0 → exec (.retrain p l) s = .next (s.okOn p))
    ∧ (s.admits p .any → s.laneBusy l = true →
        exec (.retrain p l) s = .next ((s.setB F.LANE_EVENT.REFUSED_SEEN true l).answer p 4))
    ∧ (s.laneSt l = 7 → ∃ t : State, exec (.laneRetryExpiry l) s = .next t ∧ s.restarted t l)
    ∧ (s.laneSt l = 6 → ∃ t : State, exec (.relockTimeout l) s = .next t ∧ s.restarted t l)
    ∧ (s.laneSt l = 4 → isTwin l = true → ∃ t : State, exec (.finalTimeout l) s = .next t
        ∧ ((s.bump F.LANE_EVT_CNT2.RETRAIN_CNT 1 l).setB F.LANE_EVENT.FALLBACK_SEEN true l).restarted t l)

/-- Lane requests by management (R46, R62, R63): BIT_SLIP moves the boundary by one of 66 places in manual alignment while
unlocked and does nothing else; a power request of 0 to 2 other than the present one is stored, where it would not stop a
busy lane nor falls in the cycle of a forced HUSK (R64); ENABLE = 1 starts training of a disabled lane once training has begun
(step 6 of start-up, R418), of a TWIN lane in a twin installation only (R274); ENABLE = 0 disables the lane. -/
def Obligations.LaneRequests : Prop :=
  ∀ (s : State) (l : Fin 72) (p : Fin 14) (v : Fin 4), s.canonical →
    (s.admits p .any → s.flag F.LANE_CTRL.ALIGN_MODE l = true → s.flag F.LANE_STATUS.BLOCK_LOCK l = false →
      exec (.bitSlip p l) s = .next ((s.setLane l { s.lane l with bitPos := ((s.lane l).bitPos + 1) % 66 }).okOn p))
    ∧ (s.admits p .any → s.flag F.LANE_CTRL.ALIGN_MODE l = false ∨ s.flag F.LANE_STATUS.BLOCK_LOCK l = true →
      exec (.bitSlip p l) s = .next (s.okOn p))
    ∧ (s.admits p .any → s.laneBusy l = false ∨ v = 0 → v.val ≤ 2 → s.huskNow l = false →
      s.writesOnly p [(F.LANE_CTRL.TX_PWR_REQ, l, v)] (exec (.txPwrReq p l v) s)
      ∧ s.writesOnly p [(F.LANE_CTRL.RX_PWR_REQ, l, v)] (exec (.rxPwrReq p l v) s))
    ∧ (s.admits p .any → s.laneBusy l = true → v ≠ 0 → v.val ≤ 2 → s.get F.LANE_CTRL.TX_PWR_REQ l ≠ v →
      exec (.txPwrReq p l v) s = .next ((s.setB F.LANE_EVENT.REFUSED_SEEN true l).answer p 4))
    ∧ (s.admits p .any → s.huskNow l = true → v.val ≤ 2 → s.get F.LANE_CTRL.TX_PWR_REQ l ≠ v →
      exec (.txPwrReq p l v) s = .next ((s.setB F.LANE_EVENT.REFUSED_SEEN true l).answer p 4))
    ∧ (s.admits p .cfg → s.flag F.LANE_CTRL.ENABLE l = false → s.laneSt l = 0 →
        s.get F.BOOT_STATUS.STEP < 6 ∨ isTwin l = true ∧ s.flag F.TWIN_CTRL.TWIN_EN = false →
      s.writesOnly p [(F.LANE_CTRL.ENABLE, l, 1)] (exec (.laneEnableWrite p l true) s))
    ∧ (s.admits p .cfg → s.flag F.LANE_CTRL.ENABLE l = false → s.laneSt l = 0 → 6 ≤ s.get F.BOOT_STATUS.STEP →
        isTwin l = false ∨ s.flag F.TWIN_CTRL.TWIN_EN = true →
      ∃ t : State, exec (.laneEnableWrite p l true) s = .next (t.okOn p) ∧ (s.set F.LANE_CTRL.ENABLE 1 l).restarted t l)
    ∧ (s.admits p .cfg → s.flag F.LANE_CTRL.ENABLE l = true → s.laneBusy l = false →
      ∃ t : State, exec (.laneEnableWrite p l false) s = .next (t.okOn p) ∧ t.laneSt l = 0 ∧ t.get F.LANE_CTRL.ENABLE l = 0
        ∧ t.flag F.LANE_STATUS.BLOCK_LOCK l = false ∧ t.get F.LANE_STATUS.GEN l = 0 ∧ t.lane l = { tx := { scr := (s.lane l).tx.scr } })
    ∧ (s.admits p .cfg → s.flag F.LANE_CTRL.ENABLE l = true → s.laneBusy l = true →
      exec (.laneEnableWrite p l false) s = .next ((s.setB F.LANE_EVENT.REFUSED_SEEN true l).answer p 4))
    ∧ (p < 12 ∨ s.level = 2 → Lock.cfg.admits (s.get F.LC_STATE.STATE) false = true → isTwin l = true → s.twinShut = true →
        s.flag F.LANE_CTRL.ENABLE l = true →
      exec (.laneEnableWrite p l false) s = .next ((s.setB F.LANE_EVENT.REFUSED_SEEN true l).answer p 2))

/-- The detectors (R41, R42, R45, R47, R48, R49, R50): LOS gone leads from DETECT to BASE, or to FINAL on a TWIN lane; LOS with
LOL and LOL with block lock loss count the first alone; the headers of a CELL or TWIN lane decide its block lock, 64 valid
ones in a row gaining it and 16 invalid among 64 losing it, each invalid one counted and, without lock in automatic alignment,
moving the boundary; loss of lock and of block lock are noted and counted and take an UP lane to RELOCK; the lock regained takes
RELOCK to UP. An STN lane gains and loses block lock by its standard (R61). HI_ERR is set by 16 invalid headers in a
window while locked and cleared by fewer; a lost reference takes LOL to each lane it feeds. -/
def Obligations.LaneDetectors : Prop :=
  ∀ (s : State) (l : Fin 72) (hs : List Bool) (n : Nat) (lock : Bool) (r : Fin 2), s.canonical →
    -- a TWIN lane comes UP, unless its LANE_ID breaks the map of the bond (R59)
    let joined := fun (t : State) => t.laneSt l = 5 ∨ t.laneSt l = 7 ∧ t.get F.LANE_STATUS.FAIL_REASON l = 2
    (s.laneSt l ≠ 1 → s.setsOnly [(F.LANE_STATUS.LOS, l, 0)] (exec (.losDeassert l) s))
    ∧ (s.laneSt l = 1 → ∃ t : State, exec (.losDeassert l) s = .next t ∧ t.flag F.LANE_STATUS.LOS l = false
        ∧ t.laneSt l = (if isTwin l then 4 else 2) ∧ t.get F.LANE_STATUS.GEN l = (if isCell l then 1 else 0))
    ∧ (∃ t : State, exec (.losAssert l true) s = .next t ∧ t.flag F.LANE_STATUS.LOL l = true
        ∧ t.get F.LANE_EVT_CNT.LOL_CNT l = s.get F.LANE_EVT_CNT.LOL_CNT l
        ∧ t.get F.LANE_EVT_CNT.LOS_CNT l = min 65535 (s.get F.LANE_EVT_CNT.LOS_CNT l + 1))
    ∧ (∃ t : State, exec (.lolAssert (l, lock)) s = .next t ∧ t.flag F.LANE_STATUS.LOL l = true ∧ t.flag F.LANE_EVENT.LOL_SEEN l = true
        ∧ t.get F.LANE_EVT_CNT.LOL_CNT l = min 65535 (s.get F.LANE_EVT_CNT.LOL_CNT l + 1)
        ∧ t.flag F.LANE_STATUS.BLOCK_LOCK l = (s.flag F.LANE_STATUS.BLOCK_LOCK l && !lock)
        ∧ t.reg (F.LANE_EVT_CNT2.LOCK_LOSS_CNT.addr l) = s.reg (F.LANE_EVT_CNT2.LOCK_LOSS_CNT.addr l)
        ∧ t.flag F.LANE_EVENT.LOCK_LOSS_SEEN l = s.flag F.LANE_EVENT.LOCK_LOSS_SEEN l
        ∧ t.laneSt l = (if s.laneSt l = 5 then 6 else s.laneSt l))
    ∧ (isStn l = false →
        let was := s.flag F.LANE_STATUS.BLOCK_LOCK l
        let q := hs.foldl (State.HdrScan.next (!s.flag F.LANE_CTRL.ALIGN_MODE l)) (⟨was, (s.lane l).hdrRun, (s.lane l).hdrs, 0⟩ : State.HdrScan)
        ∃ t : State, exec (.blockLockLoss l hs) s = .next t ∧ exec (.blockLockGain l hs) s = .next t
          ∧ t.flag F.LANE_STATUS.BLOCK_LOCK l = q.lock ∧ (was = true → q.lock = false → t.flag F.LANE_EVENT.LOCK_LOSS_SEEN l = true)
          ∧ t.get F.LANE_EVT_CNT2.LOCK_LOSS_CNT l
              = min 65535 (s.get F.LANE_EVT_CNT2.LOCK_LOSS_CNT l + if was = true ∧ q.lock = false then 1 else 0)
          ∧ t.get F.LANE_SYNC_ERR_CNT.COUNT l = min (2 ^ 32 - 1) (s.get F.LANE_SYNC_ERR_CNT.COUNT l + (hs.filter (!·)).length)
          ∧ (t.lane l).bitPos = ((s.lane l).bitPos + q.slip) % 66
          ∧ (was = true → q.lock = false → t.laneSt l = (if s.laneSt l = 5 then 6 else s.laneSt l))
          ∧ (was = false → q.lock = true → isCell l = true →
              t.laneSt l = (if s.laneSt l = 6 ∧ s.flag F.LANE_STATUS.LOL l = false then 5 else s.laneSt l))
          ∧ (was = false → q.lock = true → isTwin l = true →
              if s.laneSt l = 6 ∧ s.flag F.LANE_STATUS.LOL l = false then joined t else t.laneSt l = s.laneSt l)
          ∧ (was = q.lock → t.laneSt l = s.laneSt l)
          ∧ (was = false → q.lock = true → s.laneSt l = 4 → (t.lane l).ownReady = true))
    ∧ (isStn l = false → s.flag F.LANE_STATUS.BLOCK_LOCK l = false → ∃ t : State,
        exec (.blockLockGain l (List.replicate 64 true)) s = .next t ∧ t.flag F.LANE_STATUS.BLOCK_LOCK l = true)
    ∧ (isStn l = false → s.flag F.LANE_STATUS.BLOCK_LOCK l = true → ∃ t : State,
        exec (.blockLockLoss l (List.replicate 16 false)) s = .next t ∧ t.flag F.LANE_STATUS.BLOCK_LOCK l = false)
    ∧ (isStn l = true → ∃ t : State, exec (.blockLockGain l hs) s = .next t ∧ t.flag F.LANE_STATUS.BLOCK_LOCK l = true
        ∧ t.laneSt l = (if s.laneSt l = 2 ∨ s.laneSt l = 6 ∧ s.flag F.LANE_STATUS.LOL l = false then 5 else s.laneSt l))
    ∧ (isStn l = true → ∃ t : State, exec (.blockLockLoss l hs) s = .next t ∧ t.flag F.LANE_STATUS.BLOCK_LOCK l = false
        ∧ t.flag F.LANE_EVENT.LOCK_LOSS_SEEN l = true
        ∧ t.get F.LANE_EVT_CNT2.LOCK_LOSS_CNT l = min 65535 (s.get F.LANE_EVT_CNT2.LOCK_LOSS_CNT l + 1)
        ∧ t.laneSt l = (if s.laneSt l = 5 then 6 else s.laneSt l))
    ∧ (s.flag (if refOf l = 0 then F.LANE_COMMON.REFCLK_0_LOSS else F.LANE_COMMON.REFCLK_1_LOSS) = true → exec (.lolDeassert l) s = .next s)
    ∧ (s.flag (if refOf l = 0 then F.LANE_COMMON.REFCLK_0_LOSS else F.LANE_COMMON.REFCLK_1_LOSS) = false → s.laneSt l ≠ 6 →
        s.setsOnly [(F.LANE_STATUS.LOL, l, 0)] (exec (.lolDeassert l) s))
    ∧ (s.flag (if refOf l = 0 then F.LANE_COMMON.REFCLK_0_LOSS else F.LANE_COMMON.REFCLK_1_LOSS) = false → s.laneSt l = 6 →
        ∃ t : State, exec (.lolDeassert l) s = .next t ∧ t.flag F.LANE_STATUS.LOL l = false
          ∧ (isTwin l = false ∨ s.flag F.LANE_STATUS.BLOCK_LOCK l = false → t.laneSt l = (if s.flag F.LANE_STATUS.BLOCK_LOCK l then 5 else 6))
          ∧ (isTwin l = true → s.flag F.LANE_STATUS.BLOCK_LOCK l = true → joined t))
    ∧ (isStn l = false → s.setsOnly ((F.LANE_SYNC_ERR_CNT.COUNT, l.val, min (2 ^ 32 - 1) (s.get F.LANE_SYNC_ERR_CNT.COUNT l + n))
          :: (if n < 16 then [(F.LANE_STATUS.HI_ERR, l.val, 0)]
              else if s.flag F.LANE_STATUS.BLOCK_LOCK l then [(F.LANE_STATUS.HI_ERR, l.val, 1)] else []))
        (exec (.hiErrWindowEnd l n) s))
    ∧ (isStn l = true → ∃ (t : State) (v : Nat), exec (.hiErrWindowEnd l n) s = .next t ∧ v ≤ 1
        ∧ s.regsAs [(F.LANE_SYNC_ERR_CNT.COUNT, l, min (2 ^ 32 - 1) (s.get F.LANE_SYNC_ERR_CNT.COUNT l + n)), (F.LANE_STATUS.HI_ERR, l, v)] t
        ∧ { t with regs := s.regs, freeCount := s.freeCount } = s)
    ∧ (∃ t : State, exec (.refclkLoss r) s = .next t
        ∧ t.flag (if r = 0 then F.LANE_COMMON.REFCLK_0_LOSS else F.LANE_COMMON.REFCLK_1_LOSS) = true
        ∧ ∀ m : Fin 72, refOf m = r → t.flag F.LANE_STATUS.LOL m = true ∧ t.get F.LANE_STATUS.FAIL_REASON m = 4
            ∧ t.laneSt m = (if s.laneSt m = 5 then 6 else s.laneSt m))
    ∧ (∃ t : State, exec (.refclkReturn r) s = .next t
        ∧ t.flag (if r = 0 then F.LANE_COMMON.REFCLK_0_LOSS else F.LANE_COMMON.REFCLK_1_LOSS) = false
        ∧ ∀ m : Fin 72, t.laneSt m = s.laneSt m ∧ t.flag F.LANE_STATUS.LOL m = s.flag F.LANE_STATUS.LOL m
            ∧ t.get F.LANE_STATUS.FAIL_REASON m
              = (if refOf m = r ∧ s.get F.LANE_STATUS.FAIL_REASON m = 4 then 0 else s.get F.LANE_STATUS.FAIL_REASON m))

/-- Lane training (R50 to R54, R58, R59): 16 matching blocks received and 32 sent after them lead to FINAL at the generation agreed; 8 blocks with RX_READY while the
own receiver is ready lead to UP; a TWIN lane that comes UP with another LANE_ID than the bond's map holds fails all four with BOND_MAP; a locked SL-1 end
that sends no training comes UP as legacy with the preset taps; a limit of FINAL takes the
generation out of the offer and leads back to BASE; BASE without lock fails with NO_LOCK. An inverted training block
corrects the polarity and is counted; a block whose CHECK fails is ignored. -/
def Obligations.LaneTraining : Prop :=
  ∀ (s : State) (l : Fin 72) (b : Block), s.canonical →
    (s.laneSt l = 3 → (s.lane l).matched < 16 ∨ (s.lane l).tx.trained < 32 → exec (.genSwitch l) s = .next s)
    ∧ (s.laneSt l = 3 → 16 ≤ (s.lane l).matched → 32 ≤ (s.lane l).tx.trained → s.genSel l ≠ 0 → ∃ t : State, exec (.genSwitch l) s = .next t ∧ t.laneSt l = 4
      ∧ (isCell l = true → t.get F.LANE_STATUS.GEN l = s.genSel l) ∧ t.flag F.LANE_STATUS.BLOCK_LOCK l = false
      ∧ (t.lane l).target = s.genSel l)
    ∧ (s.laneSt l = 4 → (s.lane l).ownReady = true → 8 ≤ (s.lane l).readyRun → isCell l = true →
        ∃ t : State, exec (.finalUp l) s = .next t ∧ s.regsAs [(F.LANE_STATUS.STATE, l, 5)] t
          ∧ (t.link l).runDue = decide (s.declared l ≠ 0) ∧ t.lanes = s.lanes)
    ∧ (s.laneSt l = 4 → (s.lane l).ownReady = true → 8 ≤ (s.lane l).readyRun → isTwin l = true → s.bond.map ≠ [] →
        (s.lane l).laneId ≠ none → (s.lane l).laneId ≠ s.bond.map[l.val - 64]? →
        ∃ t : State, exec (.finalUp l) s = .next t ∧ t.bond.map = [] ∧ t.get F.BOND_STATUS.WIDTH = 0 ∧ ∀ m : Fin 4, t.laneSt (64 + m) = 7 ∧ t.get F.LANE_STATUS.FAIL_REASON (64 + m) = 2)
    ∧ (s.laneSt l = 2 → isCell l = true → s.flag F.LANE_STATUS.BLOCK_LOCK l = true → (s.lane l).heard = false →
        ∃ t : State, exec (.legacyTimeout l) s = .next t ∧ s.regsAs [(F.LANE_STATUS.LEGACY, l, 1), (F.LANE_TAPS.C_PRE, l, (presetTaps (s.get F.LANE_CTRL.PRESET l)).1), (F.LANE_TAPS.C_MAIN, l, (presetTaps (s.get F.LANE_CTRL.PRESET l)).2.1),
            (F.LANE_TAPS.C_POST, l, (presetTaps (s.get F.LANE_CTRL.PRESET l)).2.2), (F.LANE_STATUS.STATE, l, 5)] t
          ∧ t.lanes = s.lanes)
    ∧ (s.laneSt l = 4 → isTwin l = false → ∃ t : State, exec (.finalTimeout l) s = .next t ∧ t.laneSt l = 2
        ∧ t.get F.LANE_STATUS.GEN l = (if isCell l then 1 else 0)
        ∧ t.get F.LANE_EVT_CNT2.RETRAIN_CNT l = min 255 (s.get F.LANE_EVT_CNT2.RETRAIN_CNT l + 1)
        ∧ t.flag F.LANE_EVENT.FALLBACK_SEEN l = true ∧ (t.lane l).removed = (s.lane l).target :: (s.lane l).removed)
    ∧ (s.laneSt l = 2 → isCell l = true → s.flag F.LANE_STATUS.BLOCK_LOCK l = false →
        s.setsOnly [(F.LANE_STATUS.STATE, l, 7), (F.LANE_STATUS.FAIL_REASON, l, 1), (F.LANE_STATUS.GEN, l, 0)]
          (exec (.baseTimeout l) s))
    ∧ (s.laneSt l ≠ 3 ∨ s.genSel l = 0 → exec (.genSwitch l) s = .next s)
    ∧ (s.laneSt l ≠ 4 ∨ (s.lane l).ownReady = false ∨ (s.lane l).readyRun < 8 → exec (.finalUp l) s = .next s)
    ∧ (s.laneSt l = 4 → (s.lane l).ownReady = true → 8 ≤ (s.lane l).readyRun → isTwin l = true → ∃ t : State, exec (.finalUp l) s = .next t
        ∧ (t.laneSt l = 5 ∨ t.laneSt l = 7 ∧ t.get F.LANE_STATUS.FAIL_REASON l = 2))
    ∧ (s.laneSt l ≠ 2 ∨ isCell l = false → exec (.legacyTimeout l) s = .next s ∧ exec (.baseTimeout l) s = .next s)
    ∧ (s.flag F.LANE_STATUS.BLOCK_LOCK l = false ∨ (s.lane l).heard = true → exec (.legacyTimeout l) s = .next s)
    ∧ (s.flag F.LANE_STATUS.BLOCK_LOCK l = true → exec (.baseTimeout l) s = .next s)
    ∧ (s.laneSt l ≠ 4 → exec (.finalTimeout l) s = .next s)
    ∧ (s.laneSt l = 4 → isTwin l = true → ∃ t : State, exec (.finalTimeout l) s = .next t
        ∧ t.laneSt l = (if s.flag F.LANE_STATUS.LOS l then 1 else 4)
        ∧ t.get F.LANE_EVT_CNT2.RETRAIN_CNT l = min 255 (s.get F.LANE_EVT_CNT2.RETRAIN_CNT l + 1)
        ∧ t.flag F.LANE_EVENT.FALLBACK_SEEN l = true)
    ∧ (isStn l = true ∨ s.laneSt l = 0 ∨ s.laneSt l = 5 → exec (.trainingBlockRx l true b) s = .next s)
    ∧ (isStn l = false → s.laneSt l ≠ 0 → s.laneSt l ≠ 5 → trainingOk (~~~b) = true →
        s.setsOnly [(F.LANE_EVT_CNT2.POL_FLIPS, l, min 255 (s.get F.LANE_EVT_CNT2.POL_FLIPS l + 1)),
          (F.LANE_EVENT.POL_FLIP_SEEN, l, 1), (F.LANE_STATUS.RX_INVERTED, l, 1 - s.get F.LANE_STATUS.RX_INVERTED l)]
          (exec (.trainingBlockRx l false b) s))
    ∧ (trainingOk b = false → exec (.trainingBlockRx l true b) s = .next s)
    ∧ (isStn l = false → s.laneSt l ≠ 0 → s.laneSt l ≠ 5 → trainingOk b = true → ∃ t : State, exec (.trainingBlockRx l true b) s = .next t
        ∧ t.get F.LANE_TAPS.FAR_GEN_CAP l = Block.get b 51 48 ∧ t.get F.LANE_TAPS.FAR_REQ_CAPABLE l = Block.get b 44 44
        ∧ (t.lane l).heard = true ∧ (t.lane l).laneId = some (Block.get b 27 24)
        ∧ t.laneSt l = (if s.laneSt l = 2 ∧ isCell l = true then 3 else s.laneSt l))

/-- The tap requests of a training block keep every setting within R55: in FINAL, whatever is asked, legal taps lead to legal
taps (R55, R56, R57). -/
def Obligations.TapsStayLegal : Prop :=
  ∀ (s : State) (l : Fin 72) (ctrl : Bool) (b : Block), s.canonical →
    let taps := fun (u : State) => ((u.get F.LANE_TAPS.C_PRE l : Int), (u.get F.LANE_TAPS.C_MAIN l : Int), (u.get F.LANE_TAPS.C_POST l : Int))
    tapsOk (taps s) = true → ∃ t : State, exec (.trainingBlockRx l ctrl b) s = .next t ∧ tapsOk (taps t) = true
      ∧ (s.laneSt l = 5 → t = s)

/-- The twin bond and the power states (R59, R60, R62): an alignment block with a skew of up to 32 blocks is removed and
noted, and widens a bond that waits for it; a greater one is BOND_SKEW, which fails all four lanes; a lane's power state
becomes the one requested, a receiver that leaves QUIET or SLEEP going to RELOCK if its lane was UP and to DETECT otherwise. What
a receiver's way into them does to BLOCK_LOCK and STATE is the model's choice (log entry 99). -/
def Obligations.BondAndPower : Prop :=
  ∀ (s : State) (l : Fin 72) (skew : Nat), s.canonical →
    (s.get F.BOND_STATUS.WIDTH = 0 → exec (.bondAlignBlock skew) s = .next s)
    ∧ (s.get F.BOND_STATUS.WIDTH ≠ 0 → skew ≤ 32 → ∃ t : State, exec (.bondAlignBlock skew) s = .next t
        ∧ s.regsAs ((F.BOND_STATUS.SKEW, 0, max (s.get F.BOND_STATUS.SKEW) skew)
            :: (if s.bond.widen then [(F.BOND_STATUS.WIDTH, 0, 2), (F.TWIN_STATUS.WIDTH, 0, 2), (F.BOND_STATUS.FORMED, 0, 1)] else [])) t
        ∧ t.bond.widen = false ∧ t.bond.map = s.bond.map)
    ∧ (s.get F.BOND_STATUS.WIDTH ≠ 0 → 32 < skew → ∃ t : State, exec (.bondAlignBlock skew) s = .next t ∧ t.bond = { s.bond with map := [], widen := false, queue := [] } ∧ s.regsAs ([(F.BOND_STATUS.FAULT_CNT, 0, min 65535 (s.get F.BOND_STATUS.FAULT_CNT + 1)),
          (F.BOND_STATUS.WIDTH, 0, 0), (F.TWIN_STATUS.WIDTH, 0, 0), (F.BOND_STATUS.FORMED, 0, 0)]
          ++ [64, 65, 66, 67].flatMap fun m => [(F.LANE_STATUS.STATE, m, 7), (F.LANE_STATUS.FAIL_REASON, m, 3)]) t)
    ∧ s.setsOnly [(F.LANE_STATUS.TX_PWR, l, s.get F.LANE_CTRL.TX_PWR_REQ l)] (exec (.lanePowerStateReached l true) s)
    ∧ (s.get F.LANE_STATUS.RX_PWR l = 0 → s.get F.LANE_CTRL.RX_PWR_REQ l = 0 →
        s.setsOnly [(F.LANE_STATUS.RX_PWR, l, 0)] (exec (.lanePowerStateReached l false) s))
    ∧ (s.get F.LANE_STATUS.RX_PWR l ≠ 0 → s.get F.LANE_CTRL.RX_PWR_REQ l = 0 → s.laneSt l ≠ 0 →
        ∃ t : State, exec (.lanePowerStateReached l false) s = .next t ∧ t.get F.LANE_STATUS.RX_PWR l = 0
          ∧ t.laneSt l = (if (s.lane l).wasUp then 6 else if s.flag F.LANE_STATUS.LOS l then 1 else if isTwin l then 4 else 2))
    ∧ (s.get F.LANE_STATUS.RX_PWR l ≠ 0 → s.get F.LANE_CTRL.RX_PWR_REQ l ≠ 0 ∨ s.laneSt l = 0 →
        s.setsOnly [(F.LANE_STATUS.RX_PWR, l, s.get F.LANE_CTRL.RX_PWR_REQ l)] (exec (.lanePowerStateReached l false) s))
    ∧ (s.get F.LANE_STATUS.RX_PWR l = 0 → s.get F.LANE_CTRL.RX_PWR_REQ l ≠ 0 → ∃ t : State, exec (.lanePowerStateReached l false) s = .next t
        ∧ s.regsAs [(F.LANE_STATUS.RX_PWR, l, s.get F.LANE_CTRL.RX_PWR_REQ l), (F.LANE_STATUS.BLOCK_LOCK, l, 0)] t
        ∧ (t.lane l).wasUp = decide (s.laneSt l = 5) ∧ ∀ m : Fin 72, m ≠ l → t.lane m = s.lane m)

-- The tick and its staged group

/-- Staging (R35): a staging write stores the member and sets its bit in STAGED whatever the value, DISCARD clears
STAGED, and neither touches the live values; while an accepted commit waits to land both are refused and change
nothing. -/
def Obligations.StagedWrites : Prop :=
  ∀ (s : State) (p : Fin 14) (m : Fin 4) (v : Word), s.canonical → s.admits p .live →
    let f := [F.TICK_STG_PERIOD.VALUE, F.TICK_STG_CUTOFF.VALUE, F.TICK_STG_OUTPUT.VALUE, F.TICK_STG_PIP.VALUE][m]
    (s.flag F.TICK_STAGE.PENDING = false →
      s.writesOnly p [(f, 0, v.toNat), (F.TICK_STAGE.STAGED, 0, Nat.lor (s.get F.TICK_STAGE.STAGED) (2 ^ m.val))]
        (exec (.stagedWrite p m v) s)
      ∧ s.writesOnly p [(F.TICK_STAGE.STAGED, 0, 0)] (exec (.discard p) s))
    ∧ (s.flag F.TICK_STAGE.PENDING = true →
      exec (.stagedWrite p m v) s = .next (s.answer p 4) ∧ exec (.discard p) s = .next (s.answer p 4))

/-- A COMMIT that passes (R20 to R24, R36, R37): all four members staged, no commit pending, the ranges of R12, R17, R226 and
R342, the compute check, and for each string the ceiling, the upstream load of every hop and the dispatch margin of
every cell reached. The group is accepted for apply tick m + 2: PENDING, RESULT PASS, TICK_LAND m + 3. Only TICK_STAGE,
TICK_LAND and the margins change; the live values stay.
A COMMIT that is refused leaves the live values and STAGED and records the first cause in RESULT (R36, R37): by management in
DUPLEX or PARTITIONED, pending, incomplete, ranges, then compute, which names the first string and the first end driven (R24) and
records its margin as 0. -/
def Obligations.CommitJudged : Prop :=
  (∀ (s : State) (p : Fin 14), s.canonical → s.admits p .live →
      s.flag F.TICK_STAGE.PENDING = false → s.get F.TICK_STAGE.STAGED = 15 →
      let g := s.stagedGroup
      s.rangesOk g = true → s.transitionOk g = true →
      (s.get F.COMPUTE_SCHEDULE.CYCLES * 16 + 11) / 12 ≤ computeWindow (2 * g.period) (2 * g.cutoff) →
      (∀ k ∈ s.strings, s.ceilingOk g k (s.slowestGen k) = true ∧ ∀ e ∈ s.drivenEnds,
        (∀ h ∈ List.range (s.reach k e), 3 * (s.reach k e - h) * blockPs (s.hopGen k e h) + 100000 ≤ 2000 * g.cutoff)
        ∧ (∀ d ∈ List.range (s.reach k e), 0 ≤ s.dispatchMargin g k e d)) →
      ∃ t : State, exec (.commit p) s = .next (t.okOn p)
        ∧ t.flag F.TICK_STAGE.PENDING = true ∧ t.get F.TICK_STAGE.RESULT = 0 ∧ t.get F.TICK_STAGE.STAGED = 15
        ∧ t.get64 F.TICK_LAND_LO.LAND F.TICK_LAND_HI.LAND = (s.tickNo + 3) % 2 ^ 64
        ∧ t.tick = { s.tick with landing := some ⟨g.period, g.cutoff, g.output, g.pip, s.tickNo + 2⟩ }
        ∧ s.regsBut [0xB0024, 0xB0028, 0xB002C, 0xB004C, 0xB0050, 0xB0054] t
        ∧ { t with regs := s.regs, tick := s.tick } = s)
  ∧ (∀ (s : State) (p : Fin 14), s.canonical → (p.val < 12 ∨ s.level = 2) → Lock.admits .live (s.get F.LC_STATE.STATE) false = true →
      let g := s.stagedGroup
      let refusedWith := fun (st code : Nat) (named : Bool) (margins : List (Field × Nat × Nat)) => ∃ t : State, exec (.commit p) s = .next (t.answer p st)
        ∧ s.fieldsOnly (margins ++ [(F.TICK_STAGE.RESULT, 0, code), (F.TICK_STAGE.RESULT_STRING, 0, if named then s.strings.headD 0 else 0),
            (F.TICK_STAGE.RESULT_END, 0, if named ∧ s.strings ≠ [] ∧ s.mode ≠ 2 then s.ownEnd.num else 0)]) t
      (s.mode = 2 ∨ s.mode = 4 → refusedWith 2 9 false [])
      ∧ (s.twinShut = false → s.flag F.TICK_STAGE.PENDING = true → refusedWith 4 7 false [])
      ∧ (s.twinShut = false → s.flag F.TICK_STAGE.PENDING = false → s.get F.TICK_STAGE.STAGED ≠ 15 → refusedWith 4 6 false [])
      ∧ (s.twinShut = false → s.flag F.TICK_STAGE.PENDING = false → s.get F.TICK_STAGE.STAGED = 15 →
          s.rangesOk g = false ∨ s.transitionOk g = false → refusedWith 4 5 true [])
      ∧ (s.twinShut = false → s.flag F.TICK_STAGE.PENDING = false → s.get F.TICK_STAGE.STAGED = 15 →
          s.rangesOk g = true → s.transitionOk g = true → (∀ k ∈ s.strings, s.ceilingOk g k (s.slowestGen k) = true) →
          computeWindow (2 * g.period) (2 * g.cutoff) < (s.get F.COMPUTE_SCHEDULE.CYCLES * 16 + 11) / 12 →
          refusedWith 4 1 true [(F.BUDGET_MARGIN_C.MARGIN, 0, 0)]))

/-- An accepted group governs from the tick after its apply tick (R38): then the live values are the group's, STAGED and PENDING
are cleared, and nothing waits to land; before, nothing changes.
A tick boundary of a device that does not adopt another's count (R12, R14, R333): T_(n+1) is T_n plus the period, the count
goes up by one, TICK_START shows TIME_NS at the boundary, the inputs of the tick before are gone; a pending
correction is applied and no longer pending. The count begins with the first boundary after PLL lock, at the time
that then is (DESIGN CHOICE, log entry 46), and with it the start-up calibration (R155). Nothing happens before PLL lock. -/
def Obligations.TickBegins : Prop :=
  (∀ (s : State), s.canonical →
      (s.tick.landing = none → exec .groupLand s = .next s)
      ∧ ∀ l ∈ s.tick.landing,
        (s.tickNo ≤ l.apply → exec .groupLand s = .next s)
        ∧ (l.apply < s.tickNo → ∃ t : State, exec .groupLand s = .next t
            ∧ t.get F.TICK_PERIOD.PERIOD = l.period % 2 ^ 15 ∧ t.get F.TICK_CUTOFF.CUTOFF = l.cutoff % 2 ^ 15
            ∧ t.get F.TICK_OUTPUT.OUTPUT = l.output % 2 ^ 15 ∧ t.get F.TICK_PIP.PIP_DIV = l.pip % 2 ^ 4
            ∧ t.get F.COMPUTE_WINDOW.CYCLES = min 65535 (computeWindow (2 * l.period) (2 * l.cutoff))
            ∧ t.get F.TICK_STAGE.STAGED = 0 ∧ t.flag F.TICK_STAGE.PENDING = false
            ∧ t.get F.TICK_STAGE.RESULT = s.get F.TICK_STAGE.RESULT ∧ t.tick.landing = none))
  ∧ (∀ (s : State), s.canonical → s.mode ≠ 5 →
      (s.tick.running = false → exec .tickBoundary s = .next s)
      ∧ (s.tick.running = true →
          let t0 := if s.tick.begun then s.tick.absT + s.periodNs else s.absNs
          ∃ t : State, exec .tickBoundary s = .next t ∧ t.tickNo = s.tick.next % 2 ^ 64 ∧ t.tick.next = s.tick.next + 1
            ∧ t.get F.TICK_START.START = t0 % 2 ^ 32 ∧ t.tick.absT = t0 ∧ t.inputs = [] ∧ t.tick.begun = true
            ∧ t.clk.step = none ∧ (s.clk.step ≠ none → t.flag F.TIME_STATUS.STEP_PENDING = false)
            ∧ (s.tick.begun = false → t.get F.ADC_STATUS.CAL_STATE = 1)))

-- Measurement inputs

/-- Urgent requests and calibration by management (R153, R155, R159, R160): a request while a conversion, another urgent request or a
calibration is in progress, or in STREAM mode, is dropped and counted; else it is counted, every analogue channel takes its
code, a request of the same ADC cycle sharing the conversion served before, and MCH_SNAP_VALUE shows the code in engineering units. CAL_START starts a calibration, does nothing while one runs, and
is refused with CAL_REFUSED while an arm is deblocked. A new RANGE leaves the channel's calibration pending. -/
def Obligations.MeasurementRequests : Prop :=
  ∀ (s : State) (p : Fin 14) (codes : List (BitVec 16)) (busy : Bool) (n : Fin 24) (v : Fin 4), s.canonical →
    let at_ := State.adcCycle s.sinceT
    let taken := s.burstBusy at_ = true ∨ s.urgentBusy (s.tick.absT + at_) = true
    let shared := s.tick.urgent = some (s.tick.absT + at_)
    let armed := fun (f : Field) => s.analogue n && s.flag f n
    (s.admits p .any → busy = true ∨ s.calRunning = true ∨ s.flag F.ADC_CTRL.ADC_MODE = true ∨ taken →
      s.writesOnly p [(F.ADC_DROP_CNT.COUNT, 0, min (2 ^ 32 - 1) (s.get F.ADC_DROP_CNT.COUNT + 1))] (exec (.urgent p codes busy) s))
    ∧ (s.admits p .any → busy = false → s.calRunning = false → s.flag F.ADC_CTRL.ADC_MODE = false → ¬taken →
      ∃ t : State, exec (.urgent p codes busy) s = .next (t.okOn p) ∧ t.tick.urgent = some (s.tick.absT + at_)
        ∧ t.get F.ADC_URGENT_CNT.COUNT = min (2 ^ 32 - 1) (s.get F.ADC_URGENT_CNT.COUNT + 1)
        ∧ (s.analogue n = true → ¬shared → ∀ c ∈ codes[n.val]?, (t.chan n).raw = c.toInt
            ∧ t.reg (F.MCH_SNAP_VALUE.VALUE.addr n) = s.engValue n c.toInt 1)
        ∧ (s.analogue n = true → shared → t.chan n = s.chan n ∧ t.reg (F.MCH_SNAP_VALUE.VALUE.addr n) = s.engValue n (s.chan n).raw 1)
        ∧ (s.analogue n = false → t.reg (F.MCH_SNAP_VALUE.VALUE.addr n) = s.reg (F.MCH_SNAP_VALUE.VALUE.addr n)))
    ∧ (s.admits p .any → s.calRunning = true → exec (.calStart p) s = .next (s.okOn p))
    ∧ (s.admits p .any → s.calRunning = false → s.anyDeblocked = true →
        exec (.calStart p) s = .next ((s.setB F.ADC_STATUS.CAL_REFUSED true).answer p 4))
    ∧ (s.admits p .any → s.calRunning = false → s.anyDeblocked = false →
        ∃ t : State, exec (.calStart p) s = .next (t.okOn p) ∧ s.regsAs [(F.ADC_STATUS.CAL_STATE, 0, 1)] t
          ∧ ((t.chan n).runHi, (t.chan n).runLo, (t.chan n).fireHi, (t.chan n).fireLo, (t.chan n).rangeWr) = (0, 0, false, false, false)
          ∧ { t with regs := s.regs, chans := s.chans } = s)
    ∧ (s.admits p .cfg → s.get F.MCH_CTRL.RANGE n ≠ v → v.val ≤ 2 → ∃ t : State, exec (.mchRangeWrite p n v) s = .next (t.okOn p)
        ∧ t.get F.MCH_CTRL.RANGE n = v
        ∧ t.chan n = { s.chan n with rangeWr := true, runHi := if armed F.MCH_CTRL.CMP_EN_HI then (s.chan n).runHi else 0,
                                     runLo := if armed F.MCH_CTRL.CMP_EN_LO then (s.chan n).runLo else 0,
                                     fireHi := (s.chan n).fireHi && armed F.MCH_CTRL.CMP_EN_HI, fireLo := (s.chan n).fireLo && armed F.MCH_CTRL.CMP_EN_LO })
    ∧ (s.admits p .cfg → s.get F.MCH_CTRL.RANGE n ≠ v → v.val = 3 → exec (.mchRangeWrite p n v) s = .next (s.answer p 4))
    ∧ (s.admits p .cfg → s.get F.MCH_CTRL.RANGE n = v → exec (.mchRangeWrite p n v) s = .next (s.okOn p))

/-- Conversions (R149, R151, R152, R155 to R157): the burst, of as many conversions as OSR says, keeps each analogue channel's codes,
marks an overrange code and leaves the last code as the present one; a stream conversion counts in STREAM mode only; a completed
calibration stores the GAIN and OFS of R155 for every channel and ends as failed where one is out of range; the die temperature is recorded and
CAL_STALE set beyond 15 °C. -/
def Obligations.Conversions : Prop :=
  ∀ (s : State) (convs : List (List (BitVec 16))) (codes : List (BitVec 16)) (sums : List (Int × Int × Int)) (temp : BitVec 8)
    (n : Fin 24), s.canonical →
    let osr := if s.get F.ADC_CTRL.OSR = 0 then 1 else if s.get F.ADC_CTRL.OSR = 1 then 2 else 4
    (convs.length ≠ osr → exec (.adcBurst convs) s = .next s)
    ∧ (convs.length = osr → ∃ t : State, exec (.adcBurst convs) s = .next t
      ∧ (s.analogue n = true → (t.chan n).burst = convs.map (fun c => (c.getD n 0#16).toInt)
          ∧ ((t.chan n).ovr = true ↔ ∃ c ∈ convs, overCode (c.getD n 0#16).toInt = true)
          ∧ (∀ conv ∈ convs.getLast?, ∀ x ∈ conv[n.val]?, (t.chan n).raw = x.toInt))
      ∧ (s.analogue n = false → t.chan n = s.chan n))
    ∧ (s.flag F.ADC_CTRL.ADC_MODE = false → exec (.adcStreamConversion codes) s = .next s)
    ∧ (s.flag F.ADC_CTRL.ADC_MODE = true → ∃ t : State, exec (.adcStreamConversion codes) s = .next t
        ∧ (s.analogue n = true → (t.chan n).fresh = true ∧ ∀ c ∈ codes[n.val]?, (t.chan n).raw = c.toInt))
    ∧ (s.calRunning = true → s.get F.BOOT_STATUS.STEP ≠ 9 → ∃ t : State, exec (.calComplete sums temp) s = .next t
        ∧ (∀ x ∈ sums[n.val]?,
            t.get F.MCH_CAL.GAIN n = (State.calFactors x).1 ∧ toSigned 16 (t.get F.MCH_CAL.OFS n) = (State.calFactors x).2
            ∧ (t.chan n).calDone = true)
        ∧ t.get F.ADC_STATUS.CAL_STATE = (if (List.range 24).any fun m => (t.chan m).calFail then 3 else 2)
        ∧ t.get F.ADC_STATUS.CAL_TEMP = temp.toNat ∧ t.flag F.ADC_STATUS.CAL_STALE = false)
    ∧ s.setsOnly ((F.ADC_STATUS.DIE_TEMP, 0, temp.toNat)
        :: (if s.get F.ADC_STATUS.CAL_TEMP + 15 < temp.toNat ∨ temp.toNat + 15 < s.get F.ADC_STATUS.CAL_TEMP
            then [(F.ADC_STATUS.CAL_STALE, 0, 1)] else [])) (exec (.calStaleSet temp) s)

/-- Sampled-value frames (R161): a frame that no enabled stream takes at its port is ignored; one that belongs to no such stream
is counted in REJECT by the streams it names, or by all that take the port where it names none; one that belongs to a stream with one
port is counted in RX there and its last ASDU is the newest sample. -/
def Obligations.SampledValueFrames : Prop :=
  ∀ (s : State) (f : SvFrame) (k : Fin 8), s.canonical →
    ((∀ j ∈ List.range 8, s.svPort j f = false) → exec (.svFrameRx f) s = .next s)
    ∧ ((∀ j ∈ List.range 8, (s.svPort j f && s.svBelongs j f) = false) →
        let named := (List.range 8).filter fun j => s.svPort j f && s.get F.SV_CTRL.APPID j = f.appid.toNat
        let counting := if named = [] then (List.range 8).filter fun j => s.svPort j f else named
        s.setsOnly (counting.map fun j => (F.SV_ERR_CNT.REJECT, j, min F.SV_ERR_CNT.REJECT.max (s.get F.SV_ERR_CNT.REJECT j + 1)))
          (exec (.svFrameRx f) s))
    ∧ (s.svPort k f = true → s.svBelongs k f = true → s.flag F.SV_CTRL.ANY_PORT k = false →
        ∃ t : State, exec (.svFrameRx f) s = .next t ∧ t.get F.SV_RX_CNT.RX k = min F.SV_RX_CNT.RX.max (s.get F.SV_RX_CNT.RX k + 1)
          ∧ ∀ a ∈ f.asdus.getLast?, (t.stream k).got.head? = some ⟨s.sampleTime k a.1, a.1, a.2.1, a.2.2⟩)

-- Halt and order frames

/-- The debug halt (R229, R231, R232): HALT_REQ is accepted in ALONE and SOLO and takes effect at a later hand-over; in
PAIRING it is refused with HALT_REFUSED, and in the other modes management is shut out besides. RESUME drops a request that has not taken
effect; it ends a halt and clears what the halt shows. LVTEST going away during a halt blocks every frozen arm with HUSK. -/
def Obligations.DebugHalt : Prop :=
  ∀ (s : State) (p : Fin 14), s.canonical →
    (s.admits p .cfg → s.mode = 0 ∨ s.mode = 3 →
      exec (.haltReq p) s = .next ({ s with tick := { s.tick with haltReq := true } }.okOn p))
    ∧ (s.admits p .cfg → s.mode = 1 → exec (.haltReq p) s = .next ((s.setB F.EDGE_HALT.HALT_REFUSED true).answer p 4))
    ∧ ((p.val < 12 ∨ s.level = 2) → Lock.admits .cfg (s.get F.LC_STATE.STATE) false = true → s.twinShut = true →
        exec (.haltReq p) s = .next ((s.setB F.EDGE_HALT.HALT_REFUSED true).answer p 2))
    ∧ (s.level = 2 → s.mode = 0 ∨ s.mode = 3 → exec .debugPortHalt s = .next { s with tick := { s.tick with haltReq := true } })
    ∧ (s.level ≠ 2 → exec .debugPortHalt s = .next s)
    ∧ (s.admits p .cfg → s.flag F.EDGE_HALT.HALTED = false →
        exec (.resume p) s = .next ({ s with tick := { s.tick with haltReq := false } }.okOn p))
    ∧ (s.admits p .cfg → s.flag F.EDGE_HALT.HALTED = true →
        s.writesOnly p ([(F.EDGE_HALT.HALTED, 0, 0), (F.EDGE_HALT.FREEZE_ACTIVE, 0, 0)]
          ++ (List.range 16).flatMap fun a => [(F.EDGE_ARM_STATUS.FROZEN, a, 0), (F.EDGE_ARM_STATUS.HALT_HUSK, a, 0)]) (exec (.resume p) s))
    ∧ s.setsOnly [(F.EDGE_HALT.LVTEST, 0, 1)] (exec (.lvtestChange true) s)
    ∧ (s.flag F.EDGE_HALT.HALTED = false → s.setsOnly [(F.EDGE_HALT.LVTEST, 0, 0)] (exec (.lvtestChange false) s))
    ∧ (s.flag F.EDGE_HALT.HALTED = true → ∃ t : State, exec (.lvtestChange false) s = .next t ∧ t.flag F.EDGE_HALT.LVTEST = false
        ∧ ∀ a ∈ s.declaredArms, s.frozen a = true → (t.arm a).deblocked = false ∧ t.flag F.EDGE_ARM_STATUS.FROZEN a = false
            ∧ t.flag F.EDGE_ARM_STATUS.HALT_HUSK a = true)

/-- The dispatch slot (R71, R96, R224): of every string whose hop is open the planned frame leaves, with the CHECK block of its hop and
the next HOP_SEQ, in string order; no frame is left, service messages of the tick are past their time (R94), and no register changes. -/
def Obligations.FramesLeave : Prop :=
  ∀ (s : State), s.canonical → (s.tick.frames.map (·.1)).Nodup → ∃ t : State, exec .frameDispatch s = .next t
    ∧ t.wire = s.wire ++ (s.tick.frames.filter fun f => s.hopOpen f.1).map (fun f =>
        Wire.cell f.1 (f.2 ++ [checkBlock (s.hopVer f.1) (((s.link f.1).txSeq + 1) % 256) false f.2]))
    ∧ (∀ f ∈ s.tick.frames, s.hopOpen f.1 = true → (t.link f.1).txSeq = ((s.link f.1).txSeq + 1) % 256)
    ∧ t.tick = { s.tick with frames := [], sent := true } ∧ { t with tick := s.tick, wire := s.wire, links := s.links } = s

-- The loop engine

/-- Mode changes asked for by management (R252, R255, R262): OFF to SHADOW and back, OFF to LIVE and back while no arm of the mask is
deblocked, LIVE and SHADOW only for a sealed context, none of an undeclared or faulted one, and SHADOW to LIVE as the promotion over
a LIVE partner; every other change is refused. An
accepted change, and a fault reset, waits for apply tick m + 2.
Injection by management (R264, R266): a declared, sound context with no injection armed or running, LIVE in COMMISSIONING or
MAINTENANCE or SHADOW in those and OPERATIONAL, arms the generator for its first run in or after tick m + 2; else the start is
refused. A stop ends what is armed or runs, with END 2, and else sets ALREADY_DONE. DURATION runs end it with END 1. -/
def Obligations.ContextWrites : Prop :=
  (∀ (s : State) (p : Fin 14) (c : Fin 192), s.canonical → s.admits p .live →
      let asked := fun (o : CtxOp) => s.setCtx c { s.ctx c with ops := (s.ctx c).ops ++ [(s.tickNo + 2, o)] }
      (∀ m : Fin 4, m.val ≤ 2 → s.ctxModeOf c ≠ m →
        let legal := s.ctxDeclared c = true ∧ s.ctxFaulted c = false ∧
          ((s.ctxModeOf c = 0 ∧ m = 2 ∧ s.ctxSealed c = true) ∨ (s.ctxModeOf c = 2 ∧ m = 0)
            ∨ (s.ctxModeOf c = 0 ∧ m = 1 ∧ s.ctxSealed c = true ∧ s.ctxArmed c = false)
            ∨ (s.ctxModeOf c = 1 ∧ m = 0 ∧ s.ctxArmed c = false))
        let promotes := s.ctxModeOf c = 2 ∧ m = 1 ∧ s.ctxFaulted c = false ∧ s.ctxSealed c = true
          ∧ ∃ a ∈ s.partner c, s.ctxModeOf a = 1 ∧ s.ctxFaulted a = false
        (legal → exec (.ctxModeWrite p c m) s = .next ((asked (.mode m)).okOn p))
        ∧ (promotes → exec (.ctxModeWrite p c m) s = .next ((asked .promote).okOn p))
        ∧ (¬legal → ¬promotes → exec (.ctxModeWrite p c m) s = .next (s.answer p 4)))
      ∧ (s.ctxModeOf c < 3 → ∀ m : Fin 4, s.ctxModeOf c = m → exec (.ctxModeWrite p c m) s = .next (s.okOn p))
      ∧ (s.ctxModeOf c < 3 → exec (.ctxModeWrite p c 3) s = .next (s.answer p 4))
      ∧ exec (.faultReset p c) s = .next ((asked .faultReset).okOn p))
  ∧ (∀ (s : State) (p : Fin 14) (c : Fin 192), s.canonical →
      let lc := s.get F.LC_STATE.STATE
      let st := s.get F.CTX_INJ_STATUS.STATE c
      let legal := s.ctxDeclared c = true ∧ s.ctxFaulted c = false ∧ st ≠ 1 ∧ st ≠ 2
        ∧ (s.ctxModeOf c = 1 ∧ (lc = 2 ∨ lc = 4) ∨ s.ctxModeOf c = 2 ∧ (lc = 2 ∨ lc = 3 ∨ lc = 4))
      (s.admits p .live → legal → ∃ t : State, exec (.injStart p c) s = .next (t.okOn p)
          ∧ s.regsAs [(F.CTX_INJ_STATUS.STATE, c, 1), (F.CTX_INJ_STATUS.END, c, 0), (F.CTX_INJ_STATUS.POSITION, c, 0)] t
          ∧ t.ctx c = { s.ctx c with injAt := s.tickNo + 2, injM := 0, injPhi := 0, injOmega := s.get F.CTX_INJ_F0.VALUE c, prbs := 0x7FFF, prbsRuns := 0 }
          ∧ { t with regs := s.regs, ctxs := s.ctxs } = s)
      ∧ (s.admits p .live → ¬legal → exec (.injStart p c) s = .next (s.answer p 4))
      ∧ (s.admits p .live → st = 1 ∨ st = 2 →
          s.writesOnly p [(F.CTX_INJ_STATUS.STATE, c, 3), (F.CTX_INJ_STATUS.END, c, 2)] (exec (.injStop p c) s))
      ∧ (s.admits p .live → st ≠ 1 → st ≠ 2 → s.writesOnly p [(F.CTX_INJ_STATUS.ALREADY_DONE, c, 1)] (exec (.injStop p c) s))
      ∧ (st = 2 → s.get F.CTX_INJ_CTRL.DURATION c ≤ (s.ctx c).injM →
          s.setsOnly [(F.CTX_INJ_STATUS.STATE, c, 3), (F.CTX_INJ_STATUS.END, c, 1)] (exec (.injectionComplete c) s))
      ∧ (st ≠ 2 ∨ (s.ctx c).injM < s.get F.CTX_INJ_CTRL.DURATION c → exec (.injectionComplete c) s = .next s))

/-- Seals, constant entries of the signal table and WEAR (R141, R245, R269): SEAL stores the CRC-32C of the block as its
reference and marks the context sealed; a write of an entry is stored where its kind is CONST, of WEAR where the cell's arm is
blocked, both in ALONE and SOLO only. -/
def Obligations.SealAndConstants : Prop :=
  ∀ (s : State) (p : Fin 14), s.canonical →
    (∀ c : Fin 192, s.admits p .cfg → s.ctxDeclared c = true → ∃ t : State, exec (.seal p c) s = .next (t.okOn p)
        ∧ t.flag F.CTX_STATUS.SEALED c = true ∧ (t.coef c 2).toNat = s.coefCrc c
        ∧ (∀ o : Fin 16, o ≠ 2 → t.coef c o = s.coef c o &&& headerMask o)
        ∧ s.regsBut (F.CTX_STATUS.SEALED.addr c :: (List.range 16).map (s.coefAddr c)) t ∧ { t with regs := s.regs } = s)
    ∧ (∀ c : Fin 192, s.admits p .cfg → s.ctxDeclared c = false → exec (.seal p c) s = .next (s.okOn p))
    ∧ (∀ (i : Fin 4096) (v : Word), s.admits p .cfg → s.mode = 0 ∨ s.mode = 3 → s.sigKind i = 1 →
        s.writesOnly p [(F.SIG_VALUE.VALUE, i, v.toNat)] (exec (.sigValueWrite p i v) s))
    ∧ (∀ (i : Fin 4096) (v : Word), s.admits p .cfg → s.sigKind i ≠ 1 → s.sig i ≠ v → exec (.sigValueWrite p i v) s = .next (s.answer p 4))
    ∧ (∀ (i : Fin 6144) (v : Word), s.admits p .any → s.mode = 0 ∨ s.mode = 3 → (s.arm (s.cellArm i)).deblocked = false →
        s.writesOnly p [(F.CAT_ENTRY_W3.WEAR, i, v.toNat)] (exec (.wearWrite p i v) s))
    ∧ (∀ (i : Fin 6144) (v : Word), s.admits p .any → s.mode = 0 ∨ s.mode = 3 → (s.arm (s.cellArm i)).deblocked = true →
        s.get F.CAT_ENTRY_W3.WEAR i ≠ v.toNat → exec (.wearWrite p i v) s = .next (s.answer p 4))

/-- Supervision of contexts (R254, R258 to R261): LOST_CNT beyond LOST_MAX faults a running context with cause 3, a following error
that lasts faults it with cause 4 and names the output; each fault counts. An input whose freeze count has reached FRZ_RUNS is frozen. A
complete comparison window is published and starts again. -/
def Obligations.ContextSupervision : Prop :=
  ∀ (s : State) (c : Fin 192), s.canonical →
    let sound := s.ctxDeclared c = true ∧ s.ctxFaulted c = false ∧ s.ctxModeOf c ≠ 0
    let faulted := fun (o : Host.Outcome State Fault Refusal) (cause j : Nat) => ∃ t : State, o = .next t ∧ t.flag F.CTX_STATUS.FAULTED c = true
      ∧ t.get F.CTX_STATUS.CAUSE c = cause ∧ t.get F.CTX_STATUS.FE_OUT c = j
      ∧ t.get F.CTX_EVT_CNT.FAULT_CNT c = min F.CTX_EVT_CNT.FAULT_CNT.max (s.get F.CTX_EVT_CNT.FAULT_CNT c + 1)
    (sound → s.get F.CTX_LIMITS.LOST_MAX c < s.get F.CTX_STATUS.LOST_CNT c → faulted (exec (.contextLost c) s) 3 0)
    ∧ (¬sound ∨ s.get F.CTX_STATUS.LOST_CNT c ≤ s.get F.CTX_LIMITS.LOST_MAX c → exec (.contextLost c) s = .next s)
    ∧ (sound → ∀ j ∈ s.feDue c, faulted (exec (.followingError c) s) 4 j)
    ∧ (¬sound ∨ s.feDue c = none → exec (.followingError c) s = .next s)
    ∧ (∀ j : Fin 16, s.get F.CTX_LIMITS.FRZ_RUNS c ≠ 0 → s.get F.CTX_LIMITS.FRZ_RUNS c ≤ (s.ctx c).frz.getD j 0 →
        ∃ t : State, exec (.inputFrozen c j) s = .next t ∧ t.bit F.CTX_INPUTS.FROZEN_IN j c = true
          ∧ ∀ i : Fin 16, i ≠ j → t.bit F.CTX_INPUTS.FROZEN_IN i c = s.bit F.CTX_INPUTS.FROZEN_IN i c)
    ∧ (let win := s.get F.CTX_LIMITS.CMP_WIN c
       let x := s.ctx c
       win ≠ 0 → win ≤ x.cmpRuns → ∃ t : State, exec (.cmpWindowEnd c) s = .next t
        ∧ t.reg (F.CTX_CMP_MAX.VALUE.addr c) = x.cmpMax
        ∧ t.reg (F.CTX_CMP_RMS.VALUE.addr c) = Fp.sqrt (Fp.div x.cmpSum (Fp.ofNat ((s.dim c).u * win)))
        ∧ t.ctx c = { x with cmpRuns := 0, cmpMax := 0, cmpSum := 0 })

/-- The scrub (R268): it takes the declared, sealed blocks in ascending order and finishes no other than the next; one whose CRC is
its reference leaves the context as it is, and only counts; a mismatch, an upset or an uncorrectable error is counted and marks
the block, so that the context faults at its next run. The pass is complete behind the last. -/
def Obligations.ScrubFindsMismatch : Prop :=
  ∀ (s : State) (c : Fin 192) (n : Nat) (uncorr upset : Bool), s.canonical →
    let order := (List.range 192).filter fun d => s.ctxDeclared d && s.ctxSealed d
    let from_ := fun (d : Nat) => (order.filter fun x => decide (d ≤ x)).head?.or order.head?
    let due := from_ (s.get F.LOOP_SCRUB.CTX) = some c.val
    let nx := (from_ (c + 1)).getD c
    let passed := (F.LOOP_SCRUB.CTX, 0, nx)
      :: (if nx ≤ c then [(F.LOOP_SCRUB.PASSES, 0, min F.LOOP_SCRUB.PASSES.max (s.get F.LOOP_SCRUB.PASSES + 1))] else [])
    let counted := [(F.CTX_EVT_CNT.ECC_CORR, c.val, min F.CTX_EVT_CNT.ECC_CORR.max (s.get F.CTX_EVT_CNT.ECC_CORR c + n)),
      (F.LOOP_ECC_CNT.CORRECTED, 0, min F.LOOP_ECC_CNT.CORRECTED.max (s.get F.LOOP_ECC_CNT.CORRECTED + n))]
    (¬due → exec (.scrubBlockCheck c n uncorr upset) s = .next s)
    ∧ (due → s.coefCrc c = (s.coef c 2).toNat → s.setsOnly (passed ++ counted) (exec (.scrubBlockCheck c n false false) s))
    ∧ (due → uncorr = true ∨ upset = true ∨ s.coefCrc c ≠ (s.coef c 2).toNat →
        ∃ t : State, exec (.scrubBlockCheck c n uncorr upset) s = .next t ∧ t.ctx c = { s.ctx c with coefBad := true }
          ∧ (uncorr = true → s.counted t F.LOOP_ECC_CNT.UNCORRECTED)
          ∧ (upset = true ∨ s.coefCrc c ≠ (s.coef c 2).toNat → s.counted t F.LOOP_SCRUB.MISMATCH) ∧ t.get F.LOOP_SCRUB.CTX = nx)

-- Twin operation

/-- What management and the timers ask of the twin unit (R131, R145, R279, R298, R300, R306): WITHDRAW in DUPLEX leads to REJOINING at the
next dispatch with cause 13; a failed rejoin is tried again at REJOIN_NOW and after REJOIN_RETRY; REJOIN_MAX ends an attempt with
reason 6; PAIR is sent in PAIRING; PAIR_WAIT leads to SOLO at the next tick, from REJOINING with every arm blocked; REDISCOVER
makes a run due on every string in use. In any other mode none of them changes anything. -/
def Obligations.TwinRequests : Prop :=
  ∀ (s : State) (p : Fin 14), s.canonical →
    (s.admits p .any → exec (.withdraw p) s
      = .next ((if s.mode = 2 then { s with twin := { s.twin with atDispatch := some (5, 13) } } else s).okOn p))
    ∧ (s.mode = 5 → s.twin.join.waiting = true → s.bondOpen = true → ∃ t : State, exec .rejoinRetryExpiry s = .next t
        ∧ (s.admits p .any → exec (.rejoinNow p) s = .next (t.okOn p)) ∧ t.twin.join = {} ∧ t.regs = s.regs
        ∧ t.wire = s.wire ++ [.event s.twin.evtSeq (.pair (s.pairMsg false none none))])
    ∧ (s.mode ≠ 5 ∨ s.twin.join.waiting = false → exec .rejoinRetryExpiry s = .next s
        ∧ (s.admits p .any → exec (.rejoinNow p) s = .next (s.okOn p)))
    ∧ (s.mode = 5 → s.twin.join.waiting = false → ∃ t : State, exec .rejoinMaxExpiry s = .next t
        ∧ s.regsAs [(F.TWIN_STATUS.FAIL_REASON, 0, 6), (F.TWIN_STATUS.LAST_CAUSE, 0, 14),
            (F.TWIN_DIV_CNT.REJOIN_FAIL, 0, min F.TWIN_DIV_CNT.REJOIN_FAIL.max (s.get F.TWIN_DIV_CNT.REJOIN_FAIL + 1)),
            (F.TWIN_REJOIN.PHASE, 0, 0), (F.TWIN_REJOIN.LOG_TICKS, 0, 0)] t
        ∧ t.twin.join = { waiting := true } ∧ t.twin.entry = none)
    ∧ (s.mode ≠ 5 ∨ s.twin.join.waiting = true → exec .rejoinMaxExpiry s = .next s)
    ∧ (s.mode = 1 → s.bondOpen = true → ∃ t : State, exec .pairSend s = .next t ∧ t.regs = s.regs
        ∧ t.twin.unacked = s.twin.unacked ++ [(s.twin.evtSeq, s.tickNo, .pair (s.pairMsg false none none))]
        ∧ t.wire = s.wire ++ [.event s.twin.evtSeq (.pair (s.pairMsg false none none))])
    ∧ (s.mode ≠ 1 → exec .pairSend s = .next s)
    ∧ (s.mode = 1 → s.twin.entry = none → s.get F.TWIN_STATUS.FAIL_REASON ≠ 1 → (s.junior && s.twin.pairFailed) = false →
        exec .pairWaitExpiry s = .next { s with twin := { s.twin with atTick := some (3, 2) } })
    ∧ (s.mode = 5 → ∃ t : State, exec .pairWaitExpiry s = .next t ∧ t.twin.atTick = some (3, 2)
        ∧ ∀ a ∈ s.declaredArms, (t.arm a).deblocked = false)
    ∧ (s.mode ≠ 1 → s.mode ≠ 5 → exec .pairWaitExpiry s = .next s)
    ∧ (s.admits p .any → ∃ t : State, exec (.catRediscover p) s = .next (t.okOn p) ∧ { t with links := s.links } = s
        ∧ ∀ k : Fin 64, t.link k = if s.declared k = 0 then s.link k else { s.link k with runDue := true })

/-- HEART and its loss (R276, R277, R279, R280, R293, R294): a HEART that fails its check only counts in XL_CRC; a valid one, in DUPLEX
one of the tick, makes the peer seen in the mode it names, and ends DUPLEX where the peer rejoins and PARTITIONED at the next dispatch. One that
is missing at its deadline is counted and stays missing when it comes late, and HB_MISS of them in a row take a twin in DUPLEX to
PARTITIONED. -/
def Obligations.Heartbeat : Prop :=
  ∀ (s : State), s.canonical →
    (∀ (bs : List Block) (at_ : Stamp), xlBody 0x01 bs = none → s.setsOnly [(F.TWIN_XL_CNT.XL_CRC, 0, min F.TWIN_XL_CNT.XL_CRC.max (s.get F.TWIN_XL_CNT.XL_CRC + 1))]
      (exec (.heartRx bs at_) s))
    ∧ (∀ (bs : List Block) (at_ : Stamp), ∀ m ∈ xlBody 0x01 bs, m.length = 3 → (s.mode = 2 → (m.getD 1 0).toNat = s.tickNo) →
        let pm := Block.get (m.getD 0 0) 55 53
        ∃ t : State, exec (.heartRx bs at_) s = .next t ∧ t.twin.rxDiff = some (State.heartDiff at_ (m.getD 2 0))
          ∧ t.get F.TWIN_STATUS.PEER_MODE = pm ∧ t.flag F.TWIN_STATUS.PEER_SEEN = true ∧ t.twin.pairing = decide (pm = 1)
          ∧ (s.twin.hbDue ≠ some s.tickNo → t.twin.heart = some s.tickNo ∧ t.twin.missed = 0)
          ∧ (s.twin.hbDue = some s.tickNo → t.twin.heart = s.twin.heart)
          ∧ (s.mode = 2 → pm = 5 → s.nowIn t 3 12)
          ∧ (s.mode = 4 → t.twin.atDispatch = some (if s.junior then 5 else 3, 10))
          ∧ (s.mode ≠ 2 ∨ pm ≠ 5 → t.mode = s.mode))
    ∧ (∀ (bs : List Block) (at_ : Stamp), ∀ m ∈ xlBody 0x01 bs, m.length = 3 → s.mode = 2 → (m.getD 1 0).toNat ≠ s.tickNo →
        ∃ t : State, exec (.heartRx bs at_) s = .next t ∧ t.mode = 2 ∧ t.twin.heart = s.twin.heart ∧ t.twin.missed = s.twin.missed
          ∧ t.twin.rxDiff = some (State.heartDiff at_ (m.getD 2 0)))
    ∧ (s.mode = 0 ∨ s.twin.heart = some s.tickNo → exec .heartDeadline s = .next s)
    ∧ (s.mode ≠ 0 → s.twin.heart ≠ some s.tickNo → s.twin.missed + 1 < s.get F.TWIN_CTRL.HB_MISS → ∃ t : State, exec .heartDeadline s = .next t
        ∧ t.twin = { s.twin with missed := s.twin.missed + 1, hbDue := some s.tickNo } ∧ (s.mode = 2 ∨ s.mode = 5 → s.counted t F.TWIN_HB_CNT.HB_MISSED) ∧ t.mode = s.mode)
    ∧ (s.mode = 2 → s.twin.heart ≠ some s.tickNo → s.get F.TWIN_CTRL.HB_MISS ≤ s.twin.missed + 1 → ∃ t : State, exec .heartDeadline s = .next t
        ∧ s.nowIn t 4 3 ∧ t.flag F.TWIN_STATUS.PEER_SEEN = false ∧ s.counted t F.TWIN_HB_CNT.HB_LOST ∧ s.counted t F.TWIN_HB_CNT.HB_MISSED
        ∧ t.twin.partTick = s.tickNo)
    ∧ (s.mode = 2 → s.get F.TWIN_CTRL.HB_MISS ≤ s.twin.missed → ∃ t : State, exec .heartbeatLost s = .next t ∧ s.nowIn t 4 3
        ∧ s.counted t F.TWIN_HB_CNT.HB_LOST)
    ∧ (s.twin.missed < s.get F.TWIN_CTRL.HB_MISS → exec .heartbeatLost s = .next s)

/-- Partition and its end (R102, R279, R285, R292, R295 to R297): a frame of the other end marks the string and ends a junior's service at the next
dispatch; PART_CONFIRM silent ticks take the senior to SOLO, ORDER_TIMEOUT ticks without the senior the junior; a junior out of
SKEW_LIM 16 times withdraws; REDISC_AFTER ticks of disagreement make a discovery run due. -/
def Obligations.Partition : Prop :=
  ∀ (s : State) (k : Fin 64) (bs : List RxBlock), s.canonical →
    (∀ msg seq, s.arrives k bs = some (msg, seq) → ∀ h ∈ msg.head?, bType h = 0x10 → Block.get h 31 26 = k →
        ∃ t : State, exec (.otherEndFrameRx k bs) s = .next t ∧ s.regsAs [(F.LINK_STR_STATUS.OTHER_END_SEEN, k, 1)] t
          ∧ (t.link k).otherSeen = some s.tickNo ∧ (t.link k).rxSeq = seq
          ∧ (s.flag F.TWIN_CTRL.TWIN_EN = true → s.junior = true → s.mode = 3 ∨ s.mode = 4 ∧ Block.get h 23 22 = 1 →
              t.twin.atDispatch = some (5, 7))
          ∧ (s.flag F.TWIN_CTRL.TWIN_EN = true → s.junior = false → s.mode = 4 → Block.get h 23 22 = 2 → t.twin.heard = true))
    ∧ (s.mode = 4 → s.junior = false → s.get F.TWIN_CTRL.PART_CONFIRM ≤ s.twin.silent →
        ∃ t : State, exec .seniorSilenceConfirm s = .next t ∧ s.nowIn t 3 9)
    ∧ (s.mode ≠ 4 ∨ s.junior = true ∨ s.twin.silent < s.get F.TWIN_CTRL.PART_CONFIRM → exec .seniorSilenceConfirm s = .next s)
    ∧ (s.mode = 4 → s.junior = true → s.twin.atDispatch = none → s.twin.partTick + s.get F.LINK_CTRL.ORDER_TIMEOUT < s.tickNo →
        ∃ t : State, exec .juniorPartitionTimeout s = .next t ∧ s.nowIn t 3 8)
    ∧ (s.mode ≠ 4 ∨ s.junior = false ∨ s.tickNo ≤ s.twin.partTick + s.get F.LINK_CTRL.ORDER_TIMEOUT → exec .juniorPartitionTimeout s = .next s)
    ∧ exec .skewLimitExceeded s = .next (if 16 ≤ s.twin.skewRun ∧ s.junior = true ∧ s.mode = 2
        then { s with twin := { s.twin with atDispatch := some (5, 6) } } else s)
    ∧ (s.declared k ≠ 0 → s.get F.TWIN_STR.RUN k = s.get F.TWIN_CTRL.REDISC_AFTER → (s.link k).run = none →
        exec (.disagreeRediscover k) s = .next (s.setLink k { s.link k with runDue := true }))
    ∧ (s.get F.TWIN_STR.RUN k ≠ s.get F.TWIN_CTRL.REDISC_AFTER ∨ (s.link k).run ≠ none → exec (.disagreeRediscover k) s = .next s)

/-- Event messages in order (R276, R288, R289, R298 to R303): one that fails its check is counted in XL_CRC and does nothing else; a copy whose EVT_SEQ
is held already changes nothing; the next in order is acknowledged, and so is the first of a peer that numbers anew; a
CHANGE enters the proposals at its landing tick, a JOURNAL its order; a PAIR that the checks of R300 fail records the reason; the
senior in PAIRING names an entry two ticks ahead, one in SOLO a snapshot, and one in DUPLEX whose peer withdraws enters SOLO and serves.
What is unacknowledged two ticks after it was sent is sent again. -/
def Obligations.EventMessages : Prop :=
  ∀ (s : State) (q : BitVec 16), s.canonical →
    let held := s.twin.based = true ∧ (State.seqLe q.toNat s.twin.ackSeq = true ∨ q.toNat ∈ s.twin.ahead)
    let next := s.twin.based = false ∨ q.toNat = (s.twin.ackSeq + 1) % 2 ^ 16 ∧ s.twin.ackSeq < 2 ^ 16 ∧ s.twin.ahead = []
    let bad := [(F.TWIN_XL_CNT.XL_CRC, 0, min F.TWIN_XL_CNT.XL_CRC.max (s.get F.TWIN_XL_CNT.XL_CRC + 1))]
    (∀ (c : CatChange) (land : Nat), s.setsOnly bad (exec (.changeRx none c land) s)
      ∧ (held → exec (.changeRx (some q) c land) s = .next s)
      ∧ (next → s.mode = 5 ∨ s.tickNo < land → ∃ t : State, exec (.changeRx (some q) c land) s = .next t ∧ t.twin.ackSeq = q.toNat
          ∧ (∃ x ∈ t.twin.changes, x.2 = c ∧ x.1 ≤ land) ∧ t.regs = s.regs))
    ∧ (∀ j : Journaled, s.setsOnly bad (exec (.journalRx none j) s) ∧ (held → exec (.journalRx (some q) j) s = .next s))
    ∧ (∀ o : JOrder, next → ∃ t : State, exec (.journalRx (some q) (.order o)) s = .next t ∧ t.twin.ackSeq = q.toNat
        ∧ t.stn.journal = s.stn.journal ++ [{ o with evt := none }])
    ∧ (∀ m : PairMsg, s.setsOnly bad (exec (.pairRx none m) s)
        ∧ (m.mode ≠ 1 → held → exec (.pairRx (some q) m) s = .next { s with twin := { s.twin with pairing := false } }))
    ∧ (∀ m : PairMsg, m.mode = 1 → s.twin.pairing = false ∨ next → s.mode = 1 → s.pairCheck m ≠ 0 → ∃ t : State, exec (.pairRx (some q) m) s = .next t
        ∧ t.get F.TWIN_STATUS.FAIL_REASON = s.pairCheck m ∧ t.mode = 1 ∧ t.twin.ackSeq = q.toNat
        ∧ (s.junior = true ∨ s.pairCheck m = 1 → t.get F.BOOT_STATUS.CODE = 0x30))
    ∧ (∀ m : PairMsg, m.mode = 1 → s.twin.pairing = false ∨ next → s.mode = 1 → s.pairCheck m = 0 → s.junior = false → s.twin.entry = none →
        ∃ t : State, exec (.pairRx (some q) m) s = .next t ∧ t.twin.entry = some (s.tickNo + 2) ∧ t.twin.ackSeq = q.toNat)
    ∧ (∀ m : PairMsg, m.mode = 1 → s.twin.pairing = false ∨ next → s.mode = 3 → s.pairCheck m = 0 → m.ready = false → s.bondOpen = true →
        ∃ t : State, exec (.pairRx (some q) m) s = .next t ∧ t.twin.serve = some (s.tickNo + 2) ∧ t.get F.TWIN_REJOIN.PHASE = 1 ∧ t.mode = 3
          ∧ t.wire = s.wire ++ [.event s.twin.evtSeq (.pair (s.pairMsg false none (some (s.tickNo + 2))))])
    ∧ (∀ m : PairMsg, m.mode = 5 → next → s.mode = 2 → s.pairCheck m = 0 → ∃ t : State, exec (.pairRx (some q) m) s = .next t
        ∧ s.nowIn t 3 12 ∧ t.twin.serve = some (s.tickNo + 2) ∧ t.get F.TWIN_REJOIN.PHASE = 1)
    ∧ (s.bondOpen = true → ∃ t : State, exec .evtResend s = .next t ∧ t.regs = s.regs
        ∧ t.wire = s.wire ++ (s.twin.unacked.filter fun u => decide (u.2.1 + 2 ≤ s.tickNo)).map (fun u => .event u.1 u.2.2)
        ∧ ∀ u ∈ t.twin.unacked, s.tickNo < u.2.1 + 2)
    ∧ (s.bondOpen = false → exec .evtResend s = .next s)

/-- The agreement of reports (R280 to R286): the tick's own AGREE is formed and in DUPLEX sent in two copies with one PRESENCE; the first
valid copy of the peer's counts; the decision is taken once a tick. Without a peer's AGREE, and in every other mode, each cell's input is
what this twin received. With one, a shared position takes the own report where HELD and DIGEST agree, and is disagreed
where they do not; a one-sided position takes its own end's report, received or relayed, which a disagreed string makes not valid (R168) and
a cut relay drops. PRESENCE of the tick is kept, and ODD_CNT of a disagreed string counts the positions held by one twin alone. -/
def Obligations.ReportAgreement : Prop :=
  ∀ (s : State), s.canonical →
    (∃ t : State, exec .agreeSend s = .next t ∧ t.twin.own = some (s.tickNo, s.agreeOf) ∧ t.regs = s.regs
      ∧ (s.mode = 2 → s.bondOpen = true → t.wire = s.wire ++ [.xlink (xlMsg (s.agreeMsg s.agreeOf)), .xlink (xlMsg (s.agreeMsg s.agreeOf)),
          .xlink (xlMsg s.presenceMsg)])
      ∧ (s.mode ≠ 2 → s.mode ≠ 5 → t.wire = s.wire))
    ∧ (∀ bs : List Block, xlBody 0x03 bs = none → s.setsOnly [(F.TWIN_XL_CNT.XL_CRC, 0, min F.TWIN_XL_CNT.XL_CRC.max (s.get F.TWIN_XL_CNT.XL_CRC + 1))]
        (exec (.agreeRx bs) s))
    ∧ (∀ bs : List Block, ∀ m ∈ xlBody 0x03 bs, ∀ a ∈ readAgree m, exec (.agreeRx bs) s
        = .next (if a.1 = s.tickNo % 2 ^ 32 ∧ (s.twin.peer.all fun p => p.1 ≠ s.tickNo) = true
            then { s with twin := { s.twin with peer := some (s.tickNo, a.2) } } else s))
    ∧ (s.twin.decided = some s.tickNo → exec .agreeDeadline s = .next s)
    ∧ (s.twin.decided ≠ some s.tickNo → s.mode ≠ 2 ∨ s.twin.peer = none → ∃ t : State, exec .agreeDeadline s = .next t
        ∧ t.twin.decided = some s.tickNo ∧ (s.mode = 2 → s.counted t F.TWIN_AGREE_CNT.AGREE_MISS)
        ∧ (∀ k ∈ s.strings, t.get F.TWIN_STR.RUN k = 0)
        ∧ ∀ i ∈ s.allCells, (t.input i).agreed = (s.input i).own
            ∧ (t.input i).cause = (if (s.input i).own.isSome then 0 else if (s.input i).late then 2 else 1))
    ∧ (∀ peer : Agree, s.twin.decided ≠ some s.tickNo → s.mode = 2 → s.twin.peer = some (s.tickNo, peer) → s.allCells.Nodup →
        let own := match s.twin.own with | some (t, a) => if t = s.tickNo then a else s.agreeOf | none => s.agreeOf
        let blk := fun (g : Agree) (k : Nat) => (g.strs.find? fun x => x.str = k).getD ⟨k, false, false, 0, 0⟩
        let dis := fun (k : Nat) => (blk own k).held ≠ (blk peer k).held ∨ (blk own k).digest ≠ (blk peer k).digest
        let relayed := fun (k p : Nat) => ((peer.relays.lookup k).getD []).lookup p
        let sided := fun (k : Nat) (x : CellInput) (d : Option Block) =>
          x.agreed = d ∧ x.cause = (if dis k then 3 else if d.isSome then 0 else 1)
        ∃ t : State, exec .agreeDeadline s = .next t ∧ ∀ k ∈ s.strings, ∀ p ∈ List.range (s.declared k),
          let x := t.input (s.base k + p)
          let mine := (s.input (s.base k + p)).own
          (s.shared k p = true → x.agreed = (if dis k then none else mine) ∧ (dis k → x.cause = 3))
          ∧ (s.oneSided k s.ownEnd p = true → if (blk own k).cut then x.agreed = none ∧ x.cause = 3 else sided k x mine)
          ∧ (s.oneSided k s.ownEnd.other p = true → if (blk peer k).cut then x.agreed = none ∧ x.cause = 3 else sided k x (relayed k p)))
    ∧ (let odd := fun (t : State) (ks : List Nat) (pres : List Block) => ∀ k : Fin 64, k.val ∈ ks → t.get F.TWIN_STR.ODD_CNT k
            = min 255 ((s.stringCells k).filter fun i => (s.input i).own.isSome
                != decide (Block.get (pres.getD (i / 64) 0) (63 - i % 64) (63 - i % 64) = 1)).length
      ∀ bs : List Block, (xlBody 0x05 bs = none → s.setsOnly [(F.TWIN_XL_CNT.XL_CRC, 0, min F.TWIN_XL_CNT.XL_CRC.max (s.get F.TWIN_XL_CNT.XL_CRC + 1))]
          (exec (.presenceRx bs) s))
        ∧ ∀ m ∈ xlBody 0x05 bs, ∀ h ∈ m.head?,
          (Block.get h 31 0 ≠ s.tickNo % 2 ^ 32 → exec (.presenceRx bs) s = .next s)
          ∧ (Block.get h 31 0 = s.tickNo % 2 ^ 32 → ∃ t : State, exec (.presenceRx bs) s = .next t
            ∧ { t with regs := s.regs } = { s with twin := { s.twin with presence := some (s.tickNo, m.drop 1) } }
            ∧ (s.twin.decided ≠ some s.tickNo → t.regs = s.regs) ∧ (s.twin.decided = some s.tickNo → odd t s.twin.odd (m.drop 1))))

/-- The measurement channels between the twins (R152, R153, R280, R287): the hand-over shows each channel's own value with its cause and validity, and in
DUPLEX sends them in two copies; the peer's first ADC of the tick is kept for the agreement, a second copy, one of another tick and in
DUPLEX one after the report cutoff are not. -/
def Obligations.ChannelExchange : Prop :=
  ∀ (s : State), s.canonical →
    (∃ t : State, exec .adcValueHandover s = .next t
      ∧ (∀ n : Fin 24, t.reg (F.MCH_TICK_VALUE.VALUE.addr n) = (s.ownValue n).1 ∧ t.get F.MCH_STATUS.CAUSE n = (s.ownValue n).2
          ∧ t.flag F.MCH_STATUS.VALID n = decide ((s.ownValue n).2 = 0) ∧ (t.chan n).cause = (s.ownValue n).2 ∧ (t.chan n).burst = [])
      ∧ t.wire = s.wire ++ (if (s.mode = 2 ∨ s.twin.serve ≠ none) ∧ s.bondOpen = true then [.xlink (xlMsg t.adcMsg), .xlink (xlMsg t.adcMsg)] else []))
    ∧ (∀ bs : List Block, xlBody 0x02 bs = none → s.setsOnly [(F.TWIN_XL_CNT.XL_CRC, 0, min F.TWIN_XL_CNT.XL_CRC.max (s.get F.TWIN_XL_CNT.XL_CRC + 1))]
        (exec (.adcMsgRx bs) s))
    ∧ (∀ bs : List Block, ∀ m ∈ xlBody 0x02 bs, (∀ h ∈ m.head?, Block.get h 31 0 ≠ s.tickNo % 2 ^ 32) ∨ (s.twin.adc.any fun p => p.1 = s.tickNo) = true
        ∨ s.mode = 2 ∧ s.tick.reportsOpen = false → exec (.adcMsgRx bs) s = .next s)
    ∧ (∀ bs : List Block, ∀ m ∈ xlBody 0x02 bs, (s.twin.adc.all fun p => p.1 ≠ s.tickNo) = true → (s.mode = 2 → s.tick.reportsOpen = true) →
        ∀ h ∈ m.head?, Block.get h 31 0 = s.tickNo % 2 ^ 32 →
        ∃ t : State, exec (.adcMsgRx bs) s = .next t ∧ t = { s with twin := { s.twin with adc := t.twin.adc } }
          ∧ (t.twin.adc.all fun x => x.1 = s.tickNo ∧ x.2.length = 24) = true
          ∧ ∀ n : Fin 24, ∀ d ∈ (m.drop 1).find? (fun d => Block.get d 4 0 = n),
              (t.twin.adc.bind fun x => x.2[n.val]?) = some (BitVec.ofNat 32 (Block.get d 63 32), decide (Block.get d 31 31 = 1), Block.get d 30 27, Block.get d 26 16))

/-- Divergence (R290, R291): the peer's first STATE of the present tick is kept; where both digests of a tick in DUPLEX are held they are compared once, and
where they differ the divergence is counted and the twin that alone reported a local cause, else the junior, withdraws to REJOINING
at the next dispatch while the other goes to SOLO. -/
def Obligations.DivergenceFound : Prop :=
  ∀ (s : State) (bs : List Block) (h d : Block) (mine : TickDigest), s.canonical →
    xlBody 0x04 bs = some [h, d] → s.mode = 2 → Block.get h 31 0 = s.tickNo % 2 ^ 32 → s.twin.theirs = none → s.twin.mine = some mine →
    mine.tick = s.tickNo → s.twin.compared = none →
    let theirs := BitVec.ofNat 32 (Block.get d 63 32)
    let theirLocal := Block.get h 54 54 = 1
    ∃ t : State, exec (.stateRx bs) s = .next t ∧ t.twin.compared = some s.tickNo
      ∧ t.reg F.TWIN_DIGEST.DIGEST.base = mine.digest ∧ t.reg F.TWIN_PEER_DIGEST.DIGEST.base = theirs
      ∧ (mine.digest = theirs → t.twin.atDispatch = s.twin.atDispatch ∧ t.get F.TWIN_DIV_CNT.DIVERGE = s.get F.TWIN_DIV_CNT.DIVERGE)
      ∧ (mine.digest ≠ theirs → s.counted t F.TWIN_DIV_CNT.DIVERGE
          ∧ t.twin.atDispatch = (if (mine.isLocal = true ∧ ¬theirLocal) ∨ ((mine.isLocal = true ↔ theirLocal) ∧ s.junior = true)
              then some (5, 4) else some (3, 12)))

/-- A joining twin (R299, R302 to R306): outside REJOINING, CATCHUP, SNAPSHOT and the end of a replay change nothing; a chunk that fails its check
ends the attempt with reason 8; the snapshot of the tick named is installed and leads to the replay; a replay with nothing left
to replay sends PAIR with READY; at its entry tick the serving twin, and the senior that paired, enter DUPLEX. -/
def Obligations.Rejoining : Prop :=
  ∀ (s : State), s.canonical →
    (s.setsOnly [(F.TWIN_XL_CNT.XL_CRC, 0, min F.TWIN_XL_CNT.XL_CRC.max (s.get F.TWIN_XL_CNT.XL_CRC + 1))] (exec (.catchupRx none) s))
    ∧ (∀ m : Catchup, s.mode ≠ 5 → exec (.catchupRx (some m)) s = .next s)
    ∧ (∀ m : Catchup, s.mode = 5 → ∃ t : State, exec (.catchupRx (some m)) s = .next t
        ∧ t.twin.join.log.map (fun x : LogTick => x.tick) = s.twin.join.log.map (fun x : LogTick => x.tick)
        ∧ (∀ x ∈ t.twin.join.log, x.tick = m.tick → x.coast = m.coast ∧ x.withheld = m.withheld)
        ∧ (∀ c ∈ m.changes, ∃ x ∈ t.twin.changes, x.2 = c.1 ∧ x.1 ≤ c.2))
    ∧ (∀ (ok : Bool) (w : Option Snap), s.mode ≠ 5 ∨ s.twin.join.waiting = true ∨ s.twin.join.installed = true → exec (.snapshotRx ok w) s = .next s)
    ∧ (∀ w : Option Snap, s.mode = 5 → s.twin.join.waiting = false → s.twin.join.installed = false →
        ∃ t : State, exec (.snapshotRx false w) s = .next t ∧ t.get F.TWIN_STATUS.FAIL_REASON = 8 ∧ t.get F.TWIN_STATUS.LAST_CAUSE = 14
          ∧ s.counted t F.TWIN_XL_CNT.XL_CRC ∧ s.counted t F.TWIN_DIV_CNT.REJOIN_FAIL ∧ t.twin.join = { waiting := true } ∧ t.mode = 5)
    ∧ (∀ w : Snap, s.mode = 5 → s.twin.join.waiting = false → s.twin.join.installed = false → s.twin.join.snapTick = some w.tick →
        ∃ t : State, exec (.snapshotRx true (some w)) s = .next t ∧ t.twin.join.installed = true ∧ t.get F.TWIN_REJOIN.PHASE = 2
          ∧ (let d : Int := ((s.absNs : Int) - w.abs + 2 ^ 31) / 2 ^ 32 * 2 ^ 32
             t.arms = AMap.ofList (fun _ => {}) (w.arms.map fun a => (a.1, a.2.shift d))
             ∧ t.orders = AMap.ofList (fun _ => {}) (w.orders.map fun o => (o.1, o.2.shift d)))
          ∧ t.ctxs = AMap.ofList (fun _ => {}) w.ctxs ∧ t.obs = AMap.ofList (fun _ => {}) w.obs ∧ t.tick.landing = w.landing)
    ∧ (s.mode ≠ 5 ∨ s.twin.join.installed = false ∨ s.get F.TWIN_REJOIN.PHASE ≠ 2 → exec .replayComplete s = .next s)
    ∧ (s.mode = 5 → s.twin.join.installed = true → s.get F.TWIN_REJOIN.PHASE = 2 → s.twin.join.log = [] → s.bondOpen = true →
        ∃ t : State, exec .replayComplete s = .next t ∧ t.get F.TWIN_REJOIN.PHASE = 3 ∧ t.tickNo = s.tickNo
          ∧ t.wire = s.wire ++ [.event s.twin.evtSeq (.pair (s.pairMsg true none none))])
    ∧ (s.twin.entry = none → exec .duplexEntry s = .next s)
    ∧ (∀ e ∈ s.twin.entry, s.tickNo < e → s.mode ≠ 1 ∨ s.junior = false → exec .duplexEntry s = .next s)
    ∧ (∀ e ∈ s.twin.entry, e ≤ s.tickNo → s.mode = 3 → ∃ t : State, exec .duplexEntry s = .next t ∧ s.nowIn t 2 11
        ∧ s.counted t F.TWIN_DIV_CNT.REJOINED)
    ∧ (∀ e ∈ s.twin.entry, e ≤ s.tickNo → s.mode = 1 → s.junior = false → ∃ t : State, exec .duplexEntry s = .next t ∧ s.nowIn t 2 1
        ∧ ∀ k ∈ s.strings, (t.link k).runDue = true)

-- The compute of a tick

/-- The phases of a tick (R16, R18, R28, R76, R224): the report window closes at the cutoff; the compute window opens once, with the agreement
taken; the hand-over, once, forms one frame for each string, of 1 + N/2 blocks rounded up before its CHECK, and none in
PAIRING and REJOINING. -/
def Obligations.TickPhases : Prop :=
  ∀ (s : State), s.canonical →
    (s.tick.running = false ∨ s.tick.reportsOpen = false → exec .reportCutoff s = .next s)
    ∧ (s.tick.running = true → s.tick.reportsOpen = true → ∃ t : State, exec .reportCutoff s = .next t ∧ t.tick = { s.tick with reportsOpen := false }
        ∧ t.regs = s.regs ∧ ∀ k ∈ s.strings, (t.link k).devRun = (if (s.link k).devNow then (s.link k).devRun + 1 else 0))
    ∧ (∀ ecc : List EccEvent, s.tick.running = false ∨ s.tick.begun = false ∨ s.tick.opened = true → exec (.computeWindowOpen ecc) s = .next s)
    ∧ (∀ ecc : List EccEvent, s.tick.running = true → s.tick.begun = true → s.tick.opened = false →
        ∃ t : State, exec (.computeWindowOpen ecc) s = .next t ∧ t.tick.opened = true ∧ t.tick.reportsOpen = false
          ∧ t.twin.decided = some s.tickNo
          ∧ (s.isReady = true → s.mode ≠ 1 → s.mode ≠ 5 → (∀ e ∈ ecc, e.overruns = false) → t.tick.stage = .computed))
    ∧ (s.tick.running = false ∨ s.tick.begun = false ∨ s.tick.handed = true → exec .handOver s = .next s)
    ∧ (s.tick.running = true → s.tick.begun = true → s.tick.handed = false → s.isReady = true → s.twin.atDispatch = none →
        s.tick.haltReq = false → s.tick.stage ≠ .withheld →
        ∃ t : State, exec .handOver s = .next t ∧ t.tick.handed = true ∧ t.cur.kickCount = (s.cur.kickCount + 1) % 2 ^ 32
          ∧ t.tick.frames.map (·.1) = (if s.mode = 1 ∨ s.mode = 5 then [] else s.strings)
          ∧ (∀ f ∈ t.tick.frames, f.2.length + 1 = frameBlocks (s.declared f.1)) ∧ t.mode = s.mode)

/-- Overruns (R28 to R31): a compute that has not completed at its deadline is counted once; in DUPLEX the frames are withheld and the work goes on, in the other
modes the coast plan takes the plan's place; the third in a row makes a twin in DUPLEX withdraw with cause 5, and the other modes
request Safe Block. A late completion records how late it was. -/
def Obligations.Overruns : Prop :=
  ∀ (s : State), s.canonical →
    (s.tick.stage ≠ .computed ∨ s.tick.handed = true → exec .overrun s = .next s)
    ∧ (s.tick.stage = .computed → s.tick.handed = false → ∃ t : State, exec .overrun s = .next t
        ∧ t.get F.OVERRUN_CNT.COUNT = min (2 ^ 32 - 1) (s.get F.OVERRUN_CNT.COUNT + 1)
        ∧ t.get F.OVERRUN_STATUS.CONSEC = min 3 (s.get F.OVERRUN_STATUS.CONSEC + 1) ∧ t.tick.localNow = true
        ∧ t.get F.OVERRUN_STATUS.LAST_ACTION = (if s.mode = 2 then 1 else 0)
        ∧ t.tick.stage = (if s.mode = 2 then .withheld else .coast)
        ∧ (s.mode = 2 → t.tick.lateDue = true)
        ∧ (s.mode = 2 → 2 ≤ s.get F.OVERRUN_STATUS.CONSEC → s.twin.atDispatch = none → t.twin.atDispatch = some (5, 5))
        ∧ (s.mode = 0 ∨ s.mode = 3 ∨ s.mode = 4 → 2 ≤ s.get F.OVERRUN_STATUS.CONSEC → t.bit F.SAFE_STATUS.SBK_CAUSE 3 = true))
    ∧ (s.get F.OVERRUN_STATUS.CONSEC ≠ 3 → exec .consecOverrun s = .next s)
    ∧ (s.get F.OVERRUN_STATUS.CONSEC = 3 → s.mode = 2 → s.twin.atDispatch = none →
        exec .consecOverrun s = .next { s with twin := { s.twin with atDispatch := some (5, 5) } })
    ∧ (s.get F.OVERRUN_STATUS.CONSEC = 3 → s.mode = 0 ∨ s.mode = 3 ∨ s.mode = 4 →
        ∃ t : State, exec .consecOverrun s = .next t ∧ t.bit F.SAFE_STATUS.SBK_CAUSE 3 = true)
    ∧ (∀ n : BitVec 16, s.tick.lateDue = false → exec (.lateCompletion n) s = .next s)
    ∧ (∀ n : BitVec 16, s.tick.lateDue = true → ∃ t : State, exec (.lateCompletion n) s = .next t ∧ t.tick.lateDue = false
        ∧ t.get F.OVERRUN_STATUS.LATE_MAX = max (s.get F.OVERRUN_STATUS.LATE_MAX) (min 0x7FFF n.toNat))
    ∧ (∀ p : Fin 14, s.admits p .any → s.writesOnly p (zeroed [F.OVERRUN_CNT.COUNT, F.OVERRUN_STATUS.LATE_MAX]) (exec (.overrunClr p) s))
    ∧ (s.tick.running = true → s.tick.begun = true → s.tick.handed = false → s.isReady = true → s.twin.atDispatch = none → s.tick.haltReq = false →
        s.tick.stage = .computed → ∃ t : State, exec .handOver s = .next t ∧ t.get F.OVERRUN_STATUS.CONSEC = 0)

-- The vitrine

/-- Commands to the vitrine by management (R355, R356, R357, R360, R363, R369, R370, R371): a TRIGGER joins the manual trigger that waits for
the end of the interval; ARM is refused for a disabled capture and while the wipe runs, and else gives a CIRCULAR capture a slot no record holds, or leads to FULL;
DISARM stops a capture that has no record open; OFFLOAD of a record marks it and moves the window to its start; RELEASE frees the entry, and a capture
in FULL whose slot that was re-arms; ABORT closes the open record at its current row, and says ALREADY_DONE where none is open; THAW is refused
while the freeze signal stands and else re-arms what AUTO_ARM asks for. The window moves as written; enabling a unit arms it afresh. -/
def Obligations.RecordCommands : Prop :=
  ∀ (s : State) (p : Fin 14), s.canonical →
    (s.admits p .any → ∀ caps : BitVec 8, ∃ t : State, exec (.recCmdTrigger p caps) s = .next (t.okOn p)
        ∧ t = { s with vit := { s.vit with manual := t.vit.manual } }
        ∧ t.vit.manual.map (·.1) = some (((s.vit.manual.map (·.1)).getD 0) ||| caps.toNat)
        ∧ (s.vit.manual ≠ none → t.vit.manual.map (·.2) = s.vit.manual.map (·.2)))
    ∧ (s.admits p .any → ∀ c : Fin 8,
        let free := ∃ k ∈ List.range (s.get F.CAP_STATUS.SLOTS c), k ∉ s.usedSlots c
        let ready := s.flag F.CAP_CTRL.ENABLE c = true ∧ s.flag F.REC_STATUS.WIPE_DONE = true
        let inHand := (s.cap c).dir ≠ none ∧ (s.capState c = 3 ∨ s.capSession c = true ∧ (s.capState c = 2 ∨ s.capState c = 4))
        (¬ready → exec (.recCmdArm p c) s = .next (s.answer p 4))
        ∧ (ready → s.capState c ∈ [2, 3, 4] → exec (.recCmdArm p c) s = .next ((s.setCap c { s.cap c with off := false }).okOn p))
        ∧ (ready → s.capState c ∉ [2, 3, 4] → s.capSession c = false → ∃ t : State, exec (.recCmdArm p c) s = .next (t.okOn p)
            ∧ s.regsAs [(F.CAP_STATUS.STATE, c, if free then 2 else 5)] t ∧ (t.cap c).ring = [] ∧ (t.cap c).off = false
            ∧ (free → (t.cap c).slot < s.get F.CAP_STATUS.SLOTS c ∧ (t.cap c).slot ∉ s.usedSlots c))
        ∧ (s.capState c = 2 ∨ s.capState c = 5 → s.capSession c = false → ∃ t : State, exec (.recCmdDisarm p c) s = .next (t.okOn p)
            ∧ s.regsAs [(F.CAP_STATUS.STATE, c, 6)] t ∧ t.cap c = { s.cap c with ring := [], off := true } ∧ t.vit.dir = s.vit.dir)
        ∧ (s.capState c = 3 → s.capSession c = false →
            exec (.recCmdDisarm p c) s = .next ((s.setCap c { s.cap c with off := true }).okOn p))
        ∧ (¬inHand → s.writesOnly p [(F.CAP_STATUS.ALREADY_DONE, c, 1)] (exec (.recCmdAbort p c) s))
        ∧ (s.capState c = 3 → s.capSession c = false → ∀ d ∈ (s.cap c).dir, d < 64 → ∀ r ∈ s.dirRec d,
            ∃ t : State, exec (.recCmdAbort p c) s = .next (t.okOn p) ∧ t.dirState d = 2
              ∧ t.get F.DIR_W0.FLAGS d = (s.get F.DIR_W0.FLAGS d &&& 0xFF) ||| 16 ∧ t.get F.CAP_STATUS.ALREADY_DONE c = s.get F.CAP_STATUS.ALREADY_DONE c
              ∧ (∃ q ∈ t.dirRec d, q.stop = s.stopIndex r ∧ q.rows = r.rows) ∧ (r.cap < 8 → s.counted t F.CAP_CNT2.RECORDS r.cap) ∧ (t.cap c).dir = none))
    ∧ (s.admits p .any → ∀ c : Fin 8, s.capSession c = true → s.capState c = 2 ∨ s.capState c = 3 ∨ s.capState c = 4 →
        ∀ d ∈ (s.cap c).dir, d < 64 → ∀ r ∈ s.dirRec d, ∃ t : State, exec (.recCmdAbort p c) s = .next (t.okOn p) ∧ t.dirState d = 2
          ∧ t.get F.DIR_W0.FLAGS d = (s.get F.DIR_W0.FLAGS d &&& 0xFF) ||| 16 ∧ (∃ q ∈ t.dirRec d, q.stop = s.stopIndex r)
          ∧ t.capState c = 6 ∧ (t.cap c).dir = none ∧ (r.cap < 8 → s.counted t F.CAP_CNT2.RECORDS r.cap))
    ∧ (s.admits p .any → ∀ d : Fin 64,
        (s.dirState d = 0 ∨ s.dirState d = 1 → exec (.recCmdOffload p d) s = .next (s.answer p 4))
        ∧ (s.dirState d ≠ 0 → s.dirState d ≠ 1 → s.writesOnly p [(F.DIR_W0.STATE, d, 4),
            (F.REC_STATUS.FREE_DIR, 0, min 63 ((List.range 64).filter fun e => s.dirState e = 0).length),
            (F.REC_WIN_POS.DIR, 0, d), (F.REC_WIN_POS.OFFSET, 0, 0)] (exec (.recCmdOffload p d) s))
        ∧ (s.dirState d = 1 → exec (.recCmdRelease p d) s = .next (s.answer p 4))
        ∧ (s.dirState d ≠ 1 → (∀ r ∈ s.dirRec d, r.cap < 8 → s.capState r.cap ≠ 5) → ∃ t : State, exec (.recCmdRelease p d) s = .next (t.okOn p)
            ∧ t.dirRec d = none ∧ (∀ e : Fin 64, e ≠ d → t.dirRec e = s.dirRec e) ∧ t.vit.caps = s.vit.caps
            ∧ s.regsAs (zeroed [F.DIR_W0.KIND, F.DIR_W0.CAPTURE, F.DIR_W0.FLAGS, F.DIR_W1.VALUE, F.DIR_W2.VALUE, F.DIR_W3.VALUE, F.DIR_W0.STATE] d
                ++ [(F.REC_STATUS.FREE_DIR, 0, min 63 ((List.range 64).filter fun e => e = d.val ∨ s.dirState e = 0).length)]) t)
        ∧ (s.dirState d ≠ 0 → s.dirState d ≠ 1 → ∀ r ∈ s.dirRec d, r.cap < 8 → r.kind ≠ 2 → s.capState r.cap = 5 → s.capSession r.cap = false →
            r.slot < s.get F.CAP_STATUS.SLOTS r.cap → (s.usedSlots r.cap).count r.slot = 1 →
            ∃ t : State, exec (.recCmdRelease p d) s = .next (t.okOn p) ∧ t.dirState d = 0 ∧ t.capState r.cap = 2
              ∧ (t.cap r.cap).ring = []))
    ∧ (s.admits p .any → s.flag F.REC_STATUS.FREEZE_REQ = true → exec (.recCmdThaw p) s = .next (s.answer p 4))
    ∧ (s.admits p .any → s.flag F.REC_STATUS.FREEZE_REQ = false → ∃ t : State, exec (.recCmdThaw p) s = .next (t.okOn p)
        ∧ t.flag F.REC_STATUS.FROZEN = false
        ∧ (∀ c : Fin 8, t.capState c = s.capState c ∨ s.flag F.CAP_CTRL.ENABLE c = true ∧ s.flag F.CAP_CTRL.AUTO_ARM c = true ∧ s.capState c = 6)
        ∧ (∀ d : Fin 64, s.dirState d ≠ 0 → s.dirState d ≠ 1 → ∀ r ∈ s.dirRec d, hasBit r.status 8 = true →
            t.dirRec d = some { r with status := s.get F.DIR_W0.FLAGS d }))
    ∧ (s.admits p .any → ∀ (d : Fin 64) (ofs : Fin 67108864),
        s.writesOnly p [(F.REC_WIN_POS.DIR, 0, d), (F.REC_WIN_POS.OFFSET, 0, ofs)] (exec (.recWinSelWrite p d ofs) s))
    ∧ (s.admits p .live → ∀ u : Fin 10,
        let f := if u.val < 8 then F.PAT_CTRL.ENABLE else F.SEQ_CTRL.ENABLE
        let i := if u.val < 8 then u.val else u.val - 8
        (s.unitOn u = true → exec (.unitEnable p u true) s = .next (s.okOn p)
          ∧ ∃ t : State, exec (.unitEnable p u false) s = .next (t.okOn p) ∧ s.regsAs [(f, i, 0)] t
              ∧ t.unit u = { s.unit u with armed := false, hold := false, ended := false })
        ∧ (s.unitOn u = false → exec (.unitEnable p u false) s = .next (s.okOn p)
          ∧ ∃ t : State, exec (.unitEnable p u true) s = .next (t.okOn p)
              ∧ s.regsAs ((f, i, 1) :: (if u.val < 8 then [] else zeroed [F.SEQ_STATUS.STATE, F.SEQ_STATUS.COUNT, F.SEQ_STATUS.IN_HOLDOFF] i)) t
              ∧ t.unit u = { s.unit u with armed := true, hold := false, held := 0, ended := false, timer := 0 }))

/-- The vitrine at work (R354 to R359, R361 to R364, R368): at the end of an interval a manual trigger opens a record of an armed
capture; a pattern unit whose care bits match fires once armed and is suppressed in hold-off; nothing triggers while the freeze signal stands. A sequence state that has
its COUNT moves on, or fires from LAST_STATE; one whose TIMER has run goes to TIMEOUT_NEXT. An open record closes with its POST rows, or with OVERFLOW when its
buffer is full; compression and the wipe run to their ends. -/
def Obligations.RecordEvents : Prop :=
  ∀ (s : State), s.canonical →
    (∀ (k : Nat) (offs : List ((Nat × Nat) × Nat)) (codes : List (BitVec 16)) (busy : Bool), s.flag F.REC_STATUS.FREEZE_REQ = true →
      exec (.recInterval k offs codes busy) s = .next { s with vit := { s.vit with events := [], rose := [], manual := none } })
    ∧ (∀ (k : Nat) (offs : List ((Nat × Nat) × Nat)) (codes : List (BitVec 16)) (busy : Bool), s.flag F.REC_STATUS.FREEZE_REQ = false →
        let cond := (List.range 64).map (s.condBit offs)
        (∀ u : Fin 8, let mask := s.get F.PAT_MASK_LO.BITS u + s.get F.PAT_MASK_HI.BITS u * 2 ^ 32
          let value := s.get F.PAT_VALUE_LO.BITS u + s.get F.PAT_VALUE_HI.BITS u * 2 ^ 32
          State.careMatch cond (s.unitCare u 0) = true ↔ Nat.land (State.condNum cond) mask = Nat.land value mask)
        ∧ ∃ t : State, exec (.recInterval k offs codes busy) s = .next t ∧ t.vit.events = [] ∧ t.vit.rose = [] ∧ t.vit.manual = none
          ∧ (∀ u : Fin 8, s.unitOn u = true → State.careMatch cond (s.unitCare u 0) = true → s.flag F.PAT_CTRL.EDGE u = false ∨ (s.unit u).prevMatch = false →
              (s.unit u).hold = false → (s.unit u).armed = true → s.counted t F.PAT_CNT.FIRED u ∧ (t.unit u).hold = true ∧ (t.unit u).armed = false)
          ∧ (∀ u : Fin 8, s.unitOn u = true → State.careMatch cond (s.unitCare u 0) = true → s.flag F.PAT_CTRL.EDGE u = false ∨ (s.unit u).prevMatch = false →
              (s.unit u).hold = true → (s.unit u).ended = false → s.get F.PAT_CTRL.HOLDOFF u ≠ 0 → s.get F.PAT_CTRL.HOLD_MODE u = 0 →
              s.counted t F.PAT_CNT.SUPPRESSED u ∧ t.get F.PAT_CNT.FIRED u = s.get F.PAT_CNT.FIRED u)
          ∧ (∀ u : Fin 8, State.careMatch cond (s.unitCare u 0) = false ∨ s.flag F.PAT_CTRL.EDGE u = true ∧ (s.unit u).prevMatch = true ∨ (s.unit u).armed = false ∧ (s.unit u).hold = false →
              t.get F.PAT_CNT.FIRED u = s.get F.PAT_CNT.FIRED u)
          ∧ (∀ u : Fin 10, s.unitOn u = false →
              t.unit u = if u.val < 8 then { s.unit u with prevMatch := State.careMatch cond (s.unitCare u 0) } else s.unit u)
          ∧ (∀ c : Fin 8, (∀ u ∈ List.range 10, s.unitOn u = false) → s.vit.manual.map (·.1) = some (2 ^ c.val) → s.flag F.CAP_CTRL.ENABLE c = true →
              s.capState c = 2 → s.capSession c = false → ∀ d ∈ s.freeDir, ∃ r ∈ t.dirRec d, r.kind = 0 ∧ r.cap = c ∧ r.trigBits = 2 ^ 10
                ∧ r.primary = 10 ∧ r.trigTick = s.tickNo ∧ r.slot = (s.cap c).slot ∧ t.dirState d ≠ 0))
    ∧ (∀ q : Fin 2,
        let st := s.get F.SEQ_STATUS.STATE q
        let max_ := s.get F.SEQ_S_COUNT.COUNT_MAX q st
        let timer := s.get F.SEQ_S_TIMER.TIMER q st
        (max_ = 0 ∨ s.get F.SEQ_STATUS.COUNT q < max_ → exec (.seqCountComplete q) s = .next s)
        ∧ (max_ ≠ 0 → max_ ≤ s.get F.SEQ_STATUS.COUNT q → st ≠ s.get F.SEQ_CTRL.LAST_STATE q → ∃ t : State, exec (.seqCountComplete q) s = .next t
            ∧ s.regsAs [(F.SEQ_STATUS.COUNT, q, 0), (F.SEQ_STATUS.STATE, q, s.get F.SEQ_S_COUNT.NEXT q st)] t ∧ (t.unit (q + 8)).timer = 0)
        ∧ (max_ ≠ 0 → max_ ≤ s.get F.SEQ_STATUS.COUNT q → st = s.get F.SEQ_CTRL.LAST_STATE q → (s.unit (q + 8)).armed = true →
            (s.unit (q + 8)).hold = false → ∃ t : State, exec (.seqCountComplete q) s = .next t
            ∧ s.regsAs [(F.SEQ_STATUS.COUNT, q, 0), (F.SEQ_STATUS.STATE, q, 0), (F.SEQ_CNT.FIRED, q, min F.SEQ_CNT.FIRED.max (s.get F.SEQ_CNT.FIRED q + 1)),
                (F.SEQ_STATUS.IN_HOLDOFF, q, 1)] t ∧ (t.unit (q + 8)).hold = true ∧ (t.unit (q + 8)).armed = false)
        ∧ (timer = 0 ∨ (s.unit (q + 8)).timer + 1 < timer → exec (.seqTimerExpiry q) s = .next s)
        ∧ (timer ≠ 0 → timer ≤ (s.unit (q + 8)).timer + 1 → ∃ t : State, exec (.seqTimerExpiry q) s = .next t
            ∧ s.regsAs [(F.SEQ_STATUS.STATE, q, s.get F.SEQ_S_TIMER.TIMEOUT_NEXT q st), (F.SEQ_STATUS.COUNT, q, 0)] t ∧ (t.unit (q + 8)).timer = 0))
    ∧ (∀ u : Fin 10, let byTrigger := if u.val < 8 then s.get F.PAT_CTRL.HOLD_MODE u = 0 else s.get F.SEQ_CTRL.HOLD_MODE (u.val - 8) = 0
        ((s.unit u).hold = true → byTrigger → exec (.holdoffEnd u) s = .next (s.setUnit u { s.unit u with ended := true }))
        ∧ ((s.unit u).hold = false ∨ ¬byTrigger → exec (.holdoffEnd u) s = .next s))
    ∧ (∀ c : Fin 8,
        (s.capState c ≠ 3 ∨ (s.cap c).left ≠ 0 → exec (.recordClose c) s = .next s)
        ∧ (s.capState c = 3 → (s.cap c).left = 0 → s.capSession c = false → ∀ d ∈ (s.cap c).dir, d < 64 → ∀ r ∈ s.dirRec d,
            ∃ t : State, exec (.recordClose c) s = .next t ∧ t.dirState d = 2 ∧ t.get F.DIR_W0.FLAGS d = (s.get F.DIR_W0.FLAGS d &&& 0xFF) ||| 1
              ∧ t.dirRec d = some { r with status := (s.get F.DIR_W0.FLAGS d &&& 0xFF) ||| 1 } ∧ (r.cap < 8 → s.counted t F.CAP_CNT2.RECORDS r.cap) ∧ (t.cap c).dir = none)
        ∧ (s.capState c ≠ 4 → exec (.segmentRearm c) s = .next s)
        ∧ (s.capState c = 4 → ∃ t : State, exec (.segmentRearm c) s = .next t ∧ s.regsAs [(F.CAP_STATUS.STATE, c, 2)] t ∧ t.cap c = { s.cap c with ring := [] })
        ∧ (s.capState c ≠ 2 → s.capState c ≠ 3 → exec (.bufferOverflow c) s = .next s)
        ∧ (s.capState c = 2 → ∃ t : State, exec (.bufferOverflow c) s = .next t
            ∧ s.regsAs [(F.CAP_CNT2.OVF, c, min F.CAP_CNT2.OVF.max (s.get F.CAP_CNT2.OVF c + 1))] t ∧ t.cap c = { s.cap c with ring := [] })
        ∧ (s.capState c = 3 → ∀ d ∈ (s.cap c).dir, d < 64 → ∀ r ∈ s.dirRec d, ∃ t : State, exec (.bufferOverflow c) s = .next t ∧ t.dirState d = 2
            ∧ s.counted t F.CAP_CNT2.OVF c ∧ t.capState c = 6 ∧ (∃ q ∈ t.dirRec d, q.stop = s.stopIndex r ∧ hasBit q.status 2 = true)))
    ∧ (∀ d : Fin 64, ∀ r ∈ s.dirRec d,
        let may := s.dirState d = 2 ∧ r.packed = none ∧ r.cap < 8 ∧ s.flag F.CAP_CTRL.COMPRESS r.cap = true ∧ s.pwr.governs = 0
          ∧ s.flag F.REC_STATUS.FREEZE_REQ = false
        (¬may → exec (.compressionStart d) s = .next s)
        ∧ (may → s.setsOnly [(F.DIR_W0.STATE, d, 3), (F.REC_STATUS.FREE_DIR, 0, min 63 ((List.range 64).filter fun e => s.dirState e = 0).length)]
            (exec (.compressionStart d) s))
        ∧ (s.dirState d ≠ 3 → exec (.compressionComplete d) s = .next s)
        ∧ (s.dirState d = 3 → ∃ t : State, exec (.compressionComplete d) s = .next t ∧ t.dirState d = 2
            ∧ t.get F.DIR_W0.FLAGS d = s.get F.DIR_W0.FLAGS d ||| 32
            ∧ t.dirRec d = some { r with packed := some (encRows (r.kind = 1) 0 none r.rows), compLen := 4 * (encRows (r.kind = 1) 0 none r.rows).length,
                                          status := r.status ||| 32 }))
    ∧ (s.flag F.REC_STATUS.WIPE_DONE = true ∨ s.flag F.REC_STATUS.MEM_PRESENT = false → exec .recordWipeComplete s = .next s)
    ∧ (s.flag F.REC_STATUS.WIPE_DONE = false → s.flag F.REC_STATUS.MEM_PRESENT = true → ∃ t : State, exec .recordWipeComplete s = .next t
        ∧ t.flag F.REC_STATUS.WIPE_DONE = true
        ∧ ∀ c : Fin 8, (s.flag F.CAP_CTRL.ENABLE c = false → t.capState c = s.capState c)
            ∧ (s.flag F.CAP_CTRL.ENABLE c = true → s.flag F.CAP_CTRL.AUTO_ARM c = false → t.capState c = 6)
            ∧ (s.flag F.CAP_CTRL.ENABLE c = true → s.flag F.CAP_CTRL.AUTO_ARM c = true → t.capState c ∈ [2, 5, 6]))

-- Time

/-- Writes of the time registers (R332, R333, R334): TIME_INC within ±500 ppm, and while an arm is deblocked within 859 units of the value in
force, is committed by its HI half with the LO half held; else it is refused with INC_REFUSED. A correction is refused with STEP_REFUSED while an arm is
deblocked, in DUPLEX, PARTITIONED and REJOINING, and where it exceeds the period less 2 µs; else it is pending. A load is refused likewise, and else begins
the next tick at the value loaded, with the station time unchanged. -/
def Obligations.TimeWrites : Prop :=
  ∀ (s : State) (p : Fin 14) (v : Word), s.canonical → s.admits p .any →
    (let lo := match (s.path p).held with
        | some (b, w) => if b = 0x540008 then w else s.reg 0x540008
        | none => s.reg 0x540008
      let inc := v.toNat % 256 * 2 ^ 32 + lo.toNat
      let ok := 0x1FFBE76C9 ≤ inc ∧ inc ≤ 0x200418937 ∧ (s.anyDeblocked = true → inc ≤ s.timeInc + 859 ∧ s.timeInc ≤ inc + 859)
      (s.get F.TIME_SERVO.SOURCE = 0 → ok → ∃ t : State, exec (.timeIncHiWrite p v) s = .next (t.okOn p) ∧ t.timeInc = inc
          ∧ s.regsAs [(F.TIME_INC_LO.INC_LO, 0, lo.toNat), (F.TIME_INC_HI.INC_HI, 0, v.toNat)] t ∧ (t.path p).held = none)
      ∧ (s.get F.TIME_SERVO.SOURCE = 0 → ¬ok → inc ≠ s.timeInc →
          exec (.timeIncHiWrite p v) s = .next ((s.setB F.TIME_STATUS.INC_REFUSED true).answer p 4))
      ∧ (s.get F.TIME_SERVO.SOURCE ≠ 0 → inc ≠ s.timeInc → exec (.timeIncHiWrite p v) s = .next (s.answer p 4)))
    ∧ (let refused := s.anyDeblocked = true ∨ s.mode = 2 ∨ s.mode = 4 ∨ s.mode = 5 ∨ s.periodNs < v.toInt.natAbs + 2000
      (refused → exec (.timeStep p v) s = .next ((s.setB F.TIME_STATUS.STEP_REFUSED true).answer p 4))
      ∧ (¬refused → ∃ t : State, exec (.timeStep p v) s = .next (t.okOn p) ∧ s.regsAs [(F.TIME_STATUS.STEP_PENDING, 0, 1)] t
          ∧ t.clk = { s.clk with step := some (v.toInt, false) }))
    ∧ (let refused := s.anyDeblocked = true ∨ s.mode = 2 ∨ s.mode = 4 ∨ s.mode = 5
      (refused → exec (.timeSet p v) s = .next ((s.setB F.TIME_STATUS.STEP_REFUSED true).answer p 4))
      ∧ (¬refused → s.mode < 6 → s.tick.begun = true → ∃ t : State, exec (.timeSet p v) s = .next (t.okOn p) ∧ t.get F.TIME_HI.TIME_NS = v.toNat
          ∧ t.get F.TIME_LO.TIME_FRAC = 0 ∧ t.get F.TICK_START.START = v.toNat ∧ t.tickNo = s.tick.next % 2 ^ 64
          ∧ s.counted t F.TIME_CNT.STEPS ∧ t.clk.step = none ∧ t.flag F.TIME_STATUS.STEP_PENDING = false
          ∧ (s.flag F.TIME_STATUS.EXT_VALID = true → 2 ^ 33 ≤ s.extNs → s.extNs < 2 ^ 62 → t.extNs + t.absNs = s.extNs + s.absNs)))

/-- The servo, PPS and the extension to station time (R335, R338 to R341): TIME_EXT takes up each wrap of TIME_NS once; LOCKED follows LOCK_CNT samples within
LOCK_NS and makes TIME_EXT valid; HOLDOVER keeps TIME_INC within the limits of R332 and starts the samples anew; an edge of PPS_IN within 0.5 s of the last is a glitch,
another is stamped to 31.25 ps; PPS_OUT pulses only with valid station time. SKEW and XLAT are half the difference and half the sum of both ends' measurements (R277).
PTP (R336, R337, R338): a message for another role or domain changes nothing; a two-step Sync waits for its Follow_Up; a Delay_Req takes the next
sequence number, and its Delay_Resp yields the mean path delay; Announce names the grandmaster. A time transmitter answers Delay_Req and sends Sync with the station
time of the stamp, in 31.25 ps (R341), in LOCKED and HOLDOVER only, with clockClass 6 or 7. -/
def Obligations.TimeServices : Prop :=
  (∀ (s : State), s.canonical →
      (s.clk.wraps ≤ s.clk.extWraps → exec .timeWrap s = .next s)
      ∧ (s.clk.extWraps < s.clk.wraps → ∃ t : State, exec .timeWrap s = .next t ∧ t.clk = { s.clk with extWraps := s.clk.wraps }
          ∧ t.extNs = (s.extNs + (s.clk.wraps - s.clk.extWraps) * 2 ^ 32) % (2 ^ 48 * 1000000000)
          ∧ s.regsBut [0x540018, 0x54001C, 0x540020] t)
      ∧ (let locks := s.servoState = 1 ∧ 0 < s.clk.good ∧ s.get F.TIME_SERVO.LOCK_CNT ≤ s.clk.good
        (locks → s.setsOnly [(F.TIME_STATUS.EXT_VALID, 0, 1), (F.TIME_STATUS.STATE, 0, 2)] (exec .servoLocked s))
        ∧ (¬locks → exec .servoLocked s = .next s))
      ∧ (s.servoState ≠ 1 → s.servoState ≠ 2 → exec .holdoverEntry s = .next s)
      ∧ (s.servoState = 1 ∨ s.servoState = 2 → ∃ t : State, exec .holdoverEntry s = .next t ∧ t.servoState = 3
          ∧ t.clk = { s.clk with last := none, good := 0 }
          ∧ (s.anyDeblocked = false → 0x1FFBE76C9 ≤ t.timeInc ∧ t.timeInc ≤ 0x200418937)
          ∧ (s.anyDeblocked = true → t.timeInc ≤ s.timeInc + 859 ∧ s.timeInc ≤ t.timeInc + 859)
          ∧ (s.servoState = 2 → s.counted t F.TIME_CNT.LOCK_LOSS ∧ t.vit.tickEvents = s.vit.tickEvents ++ [(9, 6)])
          ∧ s.regsBut [0x540008, 0x54000C, 0x54002C, 0x540034] t)
      ∧ (∀ at_ : Stamp, (∃ q ∈ s.clk.lastPps, s.nearestAbs at_.ns.toNat < q + 500000000) →
          s.setsOnly [(F.TIME_CNT.PPS_GLITCH, 0, min 255 (s.get F.TIME_CNT.PPS_GLITCH + 1))] (exec (.ppsInEdge at_) s))
      ∧ (∀ at_ : Stamp, (∀ q ∈ s.clk.lastPps, q + 500000000 ≤ s.nearestAbs at_.ns.toNat) → s.get F.TIME_SERVO.SOURCE ≠ 2 →
          ∃ t : State, exec (.ppsInEdge at_) s = .next t ∧ t.clk = { s.clk with lastPps := some (s.nearestAbs at_.ns.toNat) }
            ∧ t.reg F.PPS_STAMP_LO.STAMP.base = BitVec.ofNat 32 (at_.frac.toNat / 2 ^ 11 * 2 ^ 27) ∧ t.reg F.PPS_STAMP_HI.STAMP.base = at_.ns
            ∧ s.regsBut [F.PPS_STAMP_LO.STAMP.base, F.PPS_STAMP_HI.STAMP.base] t)
      ∧ exec .ppsOutPulse s = .next (if s.flag F.TIME_STATUS.EXT_VALID = true ∧ s.flag F.PPS_CTRL.PPS_OUT_EN = true
          then s.emit (.pin "PPS_OUT" [s.get F.PPS_CTRL.PPS_WIDTH]) else s)
      ∧ (∀ peer : Int, s.twin.rxDiff = none → exec (.skewMeasure peer) s = .next s)
      ∧ (∀ peer : Int, ∀ d ∈ s.twin.rxDiff, s.followsSenior = false → s.mode ≠ 2 → ∃ t : State, exec (.skewMeasure peer) s = .next t
          ∧ t.get F.TWIN_LINK.XLAT = (clampInt 0 65535 ((d + peer + 65536) / 131072)).toNat
          ∧ toSigned 16 (t.get F.TWIN_LINK.SKEW) = clampInt (-32768) 32767 ((d - peer + 65536) / 131072)
          ∧ (((d - peer + 65536) / 131072).natAbs ≤ s.get F.TWIN_CTRL.SKEW_LIM → t.twin.skewRun = 0)))
  ∧ (∀ (s : State) (p : Fin 4) (dom : BitVec 8) (seq : BitVec 16), s.canonical →
      let mine := fun (role : Nat) => s.get F.PTP_PORT.ROLE p = role ∧ s.get F.PTP_PORT.DOMAIN p = dom.toNat
      let rx := min 65535 (s.get F.PTP_PORT.RX_EVT p + 1)
      let serves := s.servoState = 2 ∨ s.servoState = 3
      let cls := if s.servoState = 2 then 6 else 7
      let ns := fun (at_ : Stamp) => (s.extNs * 2 ^ 16 + at_.units / 2 ^ 11 * 2 ^ 11) / 2 ^ 16
      (∀ (two : Bool) (sec n : Nat) (corr : Int) (at_ : Stamp),
        (¬mine 1 → exec (.ptpSyncRx p dom seq two sec n corr at_) s = .next s)
        ∧ (mine 1 → two = true → ∃ t : State, exec (.ptpSyncRx p dom seq two sec n corr at_) s = .next t ∧ s.regsAs [(F.PTP_PORT.RX_EVT, p, rx)] t
            ∧ t.clk = { s.clk with sync := some (seq.toNat, at_, corr) })
        ∧ (mine 1 → two = false → s.get F.TIME_SERVO.SOURCE ≠ 1 → ∃ t : State, exec (.ptpSyncRx p dom seq two sec n corr at_) s = .next t
            ∧ s.regsAs [(F.PTP_PORT.RX_EVT, p, rx)] t
            ∧ t.clk = { s.clk with sync := none, down := some ((s.nearestAbs at_.ns.toNat * 65536 + at_.frac.toNat / 2048 * 2048 : Int) - ((sec * 1000000000 + n) * 65536 + corr)) }))
      ∧ (∀ (sec n : Nat) (corr : Int),
        (s.clk.sync = none ∨ ¬mine 1 → exec (.ptpFollowUpRx p dom seq sec n corr) s = .next s)
        ∧ (∀ w ∈ s.clk.sync, mine 1 → w.1 = seq.toNat → s.get F.TIME_SERVO.SOURCE ≠ 1 → ∃ t : State, exec (.ptpFollowUpRx p dom seq sec n corr) s = .next t
            ∧ t.regs = s.regs ∧ t.clk.sync = none
            ∧ t.clk.down = some ((s.nearestAbs w.2.1.ns.toNat * 65536 + w.2.1.frac.toNat / 2048 * 2048 : Int) - ((sec * 1000000000 + n) * 65536 + corr + w.2.2)))
        ∧ (s.clk.delayReq = none ∨ s.clk.down = none ∨ ¬mine 1 → exec (.ptpDelayRespRx p dom seq sec n corr) s = .next s)
        ∧ (∀ q ∈ s.clk.delayReq, ∀ down ∈ s.clk.down, mine 1 → q.1 = seq.toNat → exec (.ptpDelayRespRx p dom seq sec n corr) s
            = .next { s with clk := { s.clk with delayReq := none, meanPath := (down + ((sec * 1000000000 + n) * 65536 - corr - q.2)) / 2 } }))
      ∧ (∀ tx : Stamp, (s.get F.PTP_PORT.ROLE p ≠ 1 → exec (.ptpDelayReqSend p tx) s = .next s)
        ∧ (s.get F.PTP_PORT.ROLE p = 1 → ∃ t : State, exec (.ptpDelayReqSend p tx) s = .next t ∧ t.regs = s.regs
            ∧ t.clk.delaySeq = (s.clk.delaySeq + 1) % 65536 ∧ t.clk.delayReq = some (t.clk.delaySeq, s.nearestAbs tx.ns.toNat * 65536 + tx.frac.toNat / 2048 * 2048)
            ∧ t.wire = s.wire ++ [.port p (s.vlan p) "PTP Delay_Req" [s.get F.PTP_PORT.TRANSPORT p, s.get F.PTP_PORT.DOMAIN p, t.clk.delaySeq]]))
      ∧ (∀ (gm : BitVec 64) (sec : Nat), (¬mine 1 → exec (.ptpAnnounceRx p dom gm sec) s = .next s)
        ∧ (mine 1 → ∃ t : State, exec (.ptpAnnounceRx p dom gm sec) s = .next t ∧ t.clk = { s.clk with gm := some gm, annSec := some sec }
            ∧ (s.get F.TIME_SERVO.SOURCE ≠ 2 ∨ s.followsSenior = true → t.regs = s.regs)))
      ∧ (∀ (port : BitVec 80) (at_ : Stamp), (¬mine 2 → exec (.ptpDelayReqRx p dom seq port at_) s = .next s)
        ∧ (mine 2 → ∃ t : State, exec (.ptpDelayReqRx p dom seq port at_) s = .next t ∧ s.regsAs [(F.PTP_PORT.RX_EVT, p, rx)] t
            ∧ t.wire = s.wire ++ (if serves then [.port p (s.vlan p) "PTP Delay_Resp" [s.get F.PTP_PORT.TRANSPORT p, dom.toNat, seq.toNat, port.toNat, ns at_ / 1000000000, ns at_ % 1000000000]] else [])))
      ∧ (∀ tx : Stamp, (s.get F.PTP_PORT.ROLE p ≠ 2 ∨ ¬serves → exec (.ptpSyncSend p tx) s = .next s)
        ∧ (s.get F.PTP_PORT.ROLE p = 2 → serves →
            let q := (s.clk.syncSeq + 1) % 65536
            let head := [s.get F.PTP_PORT.TRANSPORT p, s.get F.PTP_PORT.DOMAIN p, q, s.get F.PTP_PORT.LOG_SYNC p, cls]
            let origin := [ns tx / 1000000000, ns tx % 1000000000]
            ∃ t : State, exec (.ptpSyncSend p tx) s = .next t ∧ t.regs = s.regs ∧ t.clk = { s.clk with syncSeq := q }
              ∧ t.wire = s.wire ++ (if s.flag F.PTP_PORT.ONE_STEP p then [.port p (s.vlan p) "PTP Sync" (head ++ origin)]
                  else [.port p (s.vlan p) "PTP Sync" head, .port p (s.vlan p) "PTP Follow_Up" (head ++ origin)]))))

-- The Curator

/-- Commands to the Curator (R391, R395 to R397, R399, R400, R408): a LATCH or DISCREP whose cause holds is not cleared; SBK_REQ records Safe Block
with the cause MANAGEMENT; SBK_CLR ends it, the force line and the freeze when no cause of R397 holds, and is refused else; SOP_CLR lets each output it names
pulse again when no cause that names it holds, and is refused else; ILP_REQ asks for the permit and ILP_DROP ends it; a write of SAFE_CONFIRM
shows in CONFIRMED whether it equals SAFE_CHECK. -/
def Obligations.CuratorCommands : Prop :=
  ∀ (s : State) (p : Fin 14), s.canonical →
    (s.admits p .any → ∀ n : Fin 8,
      (s.bit F.TRIP_STATUS.ACTIVE n = true → exec (.tripLatchClear p n) s = .next ((s.setBit F.TRIP_STATUS.CLR_REFUSED n true).answer p 4))
      ∧ (s.bit F.TRIP_STATUS.ACTIVE n = false → s.writesOnly p
          [(F.TRIP_STATUS.LATCH, 0, s.get F.TRIP_STATUS.LATCH - Nat.land (s.get F.TRIP_STATUS.LATCH) (2 ^ n.val))] (exec (.tripLatchClear p n) s))
      ∧ (s.fbDiffers n = true → exec (.fbDiscrepClear p n) s = .next (s.answer p 4))
      ∧ (s.fbDiffers n = false → s.writesOnly p
          [(F.FB_STATUS.DISCREP, 0, s.get F.FB_STATUS.DISCREP - Nat.land (s.get F.FB_STATUS.DISCREP) (2 ^ n.val))] (exec (.fbDiscrepClear p n) s)))
    ∧ (s.admits p .any → ∃ t : State, exec (.sbkReq p) s = .next (t.okOn p) ∧ s.safeBlocked t 5)
    ∧ (s.admits p .any → s.sbkHolds = true → exec (.sbkClr p) s = .next ((s.setB F.SAFE_STATUS.SBK_CLR_REFUSED true).answer p 4))
    ∧ (s.admits p .any → s.sbkHolds = false → s.writesOnly p [(F.SAFE_STATUS.SBK, 0, 0), (F.SAFE_STATUS.SBK_CAUSE, 0, 0),
        (F.SAFE_STATUS.HUSK_FORCED, 0, if s.cur.oscFail then 1 else 0), (F.SAFE_STATUS.FREEZE, 0, 0), (F.REC_STATUS.FREEZE_REQ, 0, 0),
        (F.SAFE_STATUS.SAFE_OK, 0, if s.isReady && !s.cur.oscFail then 1 else 0)] (exec (.sbkClr p) s))
    ∧ (s.admits p .any → ∀ mask : BitVec 4,
      ((∃ o : Fin 4, mask.getLsbD o = true ∧ s.releaseHolds o = true) → exec (.sopClr p mask) s = .next (s.answer p 4))
      ∧ ((∀ o : Fin 4, mask.getLsbD o = true → s.releaseHolds o = false) → ∃ t : State, exec (.sopClr p mask) s = .next (t.okOn p)
          ∧ (∀ o : Fin 4, t.released o = (s.released o && !mask.getLsbD o)) ∧ s.regsBut [F.SAFE_STATUS.SOP_OUT.base] t
          ∧ (s.flag F.SAFE_STATUS.ILP_GRANTED = false → t.cur = s.cur)))
    ∧ (s.admits p .any → exec (.ilpReq p) s = .next (({ s with cur := { s.cur with ilpReq := true } } : State).okOn p))
    ∧ (s.admits p .any → ∃ t : State, exec (.ilpDrop p) s = .next (t.okOn p) ∧ s.regsAs [(F.SAFE_STATUS.ILP_GRANTED, 0, 0)] t
        ∧ t.cur = { s.cur with ilpReq := false })
    ∧ ((p.val < 12 ∨ s.level = 2) → Lock.admits .com (s.get F.LC_STATE.STATE) false = true → ∀ v : Word, v ≠ s.reg F.SAFE_CONFIRM.CONFIRM.base →
        s.writesOnly p [(F.SAFE_CONFIRM.CONFIRM, 0, v.toNat), (F.SAFE_STATUS.CONFIRMED, 0, if s.reg F.SAFE_CHECK.CHECK.base = v then 1 else 0)]
          (exec (.safeConfirmWrite p v) s))

/-- What the Curator does of itself (R390, R391, R396, R400 to R402, R407, R409): an enabled trip input sets its LATCH, releases the outputs it names and, with
ACT_SBK, records Safe Block; a pair fault or a failed self-test counts as active and is a Curator fault that records no Safe Block by itself; a feedback
discrepancy, the watchdog, a failed clock and the other Curator faults do. The watchdog silences the device instead in DUPLEX and PARTITIONED. The permit is granted only when every
condition holds, and lost with an aged kick. -/
def Obligations.CuratorEvents : Prop :=
  ∀ (s : State), s.canonical →
    let fault := fun (t : State) (code : Nat) => hasBit t.cur.faults code = true
      ∧ t.get F.SAFE_STATUS.CURATOR_FAULT = (if s.flag F.SAFE_STATUS.CURATOR_FAULT then s.get F.SAFE_STATUS.CURATOR_FAULT else code)
    (∀ (n : Fin 8) (at_ : Stamp),
      let active := fun (t : State) => (∀ m : Fin 8, t.bit F.TRIP_STATUS.ACTIVE m = (s.bit F.TRIP_STATUS.ACTIVE m || decide (m = n)))
        ∧ (s.bit F.TRIP_STATUS.ACTIVE n = false → s.flag F.TRIP_CFG.ENABLE n = true → t.bit F.TRIP_STATUS.LATCH n = true
            ∧ ∀ o : Fin 4, s.bit F.TRIP_CFG.ACT_OUT o n = true → t.released o = true)
      (s.bit F.TRIP_STATUS.ACTIVE n = true → ∃ t : State, exec (.tripInputActive n at_) s = .next t ∧ t.regs = s.regs ∧ t.vit.rose = s.vit.rose ++ [(1, n.val)])
      ∧ (s.bit F.TRIP_STATUS.ACTIVE n = false → s.flag F.TRIP_CFG.ENABLE n = false → ∃ t : State, exec (.tripInputActive n at_) s = .next t ∧ active t
          ∧ s.regsBut [F.TRIP_STATUS.ACTIVE.base] t ∧ t.get F.TRIP_STATUS.LATCH = s.get F.TRIP_STATUS.LATCH)
      ∧ (s.bit F.TRIP_STATUS.ACTIVE n = false → s.flag F.TRIP_CFG.ENABLE n = true → ∃ t : State, exec (.tripInputActive n at_) s = .next t ∧ active t
          ∧ (s.flag F.TRIP_CFG.ACT_SBK n = true → s.safeBlocked t 0) ∧ (s.flag F.TRIP_CFG.ACT_SBK n = false → t.flag F.SAFE_STATUS.SBK = s.flag F.SAFE_STATUS.SBK)
          ∧ t.get F.SAFE_LOG_W0.TIME_NS (s.get F.SAFE_LOG_PTR.NEXT) = at_.ns.toNat ∧ t.get F.SAFE_LOG_W1.SOURCE (s.get F.SAFE_LOG_PTR.NEXT) = 1)
      ∧ (s.bit F.TRIP_STATUS.PAIR_FAULT n = true → exec (.tripInputInactive n) s = .next s ∧ exec (.tripPairFault n at_) s = .next s
          ∧ exec (.tripSelfTest n false at_) s = .next s)
      ∧ exec (.tripSelfTest n true at_) s = .next s
      ∧ (s.bit F.TRIP_STATUS.PAIR_FAULT n = false → ∃ t : State, exec (.tripInputInactive n) s = .next t ∧ s.regsBut [F.TRIP_STATUS.ACTIVE.base] t
          ∧ t.get F.TRIP_STATUS.LATCH = s.get F.TRIP_STATUS.LATCH ∧ ∀ m : Fin 8, t.bit F.TRIP_STATUS.ACTIVE m = (s.bit F.TRIP_STATUS.ACTIVE m && decide (m ≠ n)))
      ∧ (s.bit F.TRIP_STATUS.PAIR_FAULT n = false → ∃ t : State, exec (.tripPairFault n at_) s = .next t ∧ exec (.tripSelfTest n false at_) s = .next t
          ∧ active t ∧ t.bit F.TRIP_STATUS.PAIR_FAULT n = true ∧ fault t 4
          ∧ (s.flag F.TRIP_CFG.ACT_SBK n = false → t.flag F.SAFE_STATUS.SBK = s.flag F.SAFE_STATUS.SBK)))
    ∧ (∀ (n : Fin 8) (high : Bool) (at_ : Stamp),
      (∃ t : State, exec (.fbLevelChange n high) s = .next t ∧ s.regsBut [F.FB_STATUS.LEVEL.base] t ∧ t.get F.FB_STATUS.DISCREP = s.get F.FB_STATUS.DISCREP
        ∧ ∀ m : Fin 8, t.bit F.FB_STATUS.LEVEL m = (if m = n then high else s.bit F.FB_STATUS.LEVEL m))
      ∧ (s.fbDiffers n = false → exec (.feedbackDiscrepancy n at_) s = .next s)
      ∧ (s.fbDiffers n = true → ∃ t : State, exec (.feedbackDiscrepancy n at_) s = .next t ∧ s.safeBlocked t 6 ∧ t.bit F.FB_STATUS.DISCREP n = true
          ∧ (s.flag F.FB_CFG.ACT_SOP n = true → ∀ o : Fin 4, t.released o = true)))
    ∧ (s.cur.ilpReq = true → s.ilpOk = true → s.setsOnly [(F.SAFE_STATUS.ILP_GRANTED, 0, 1)] (exec .ilpGrant s))
    ∧ (s.cur.ilpReq = false ∨ s.ilpOk = false → exec .ilpGrant s = .next s)
    ∧ (s.cur.kick = none → exec .ilpKickAged s = .next s)
    ∧ (∀ k ∈ s.cur.kick, ∃ t : State, exec .ilpKickAged s = .next t ∧ s.regsAs [(F.SAFE_STATUS.ILP_GRANTED, 0, 0)] t
        ∧ t.cur.kick = some { k with aged := true } ∧ (s.flag F.SAFE_STATUS.ILP_GRANTED = true → t.cur.ilpReq = false))
    ∧ (s.cur.wdExpired = true ∨ s.isReady = false → exec .watchdogExpiry s = .next s)
    ∧ (s.cur.wdExpired = false → s.isReady = true →
        let m := match s.cur.kick with | some k => k.mode | none => 0
        ∃ t : State, exec .watchdogExpiry s = .next t ∧ t.cur.wdExpired = true ∧ t.flag F.REC_STATUS.FREEZE_REQ = true ∧ t.flag F.SAFE_STATUS.SAFE_OK = false
          ∧ (m = 2 ∨ m = 4 → t.flag F.SAFE_STATUS.SILENCED = true ∧ t.flag F.SAFE_STATUS.SBK = s.flag F.SAFE_STATUS.SBK)
          ∧ (m ≠ 2 → m ≠ 4 → s.safeBlocked t 7))
    ∧ (∀ ppm : Int, s.cur.oscFail = true ∨ -100000 ≤ ppm ∧ ppm ≤ 100000 → exec (.safeClockCheck ppm) s = .next s)
    ∧ (∀ ppm : Int, s.cur.oscFail = false → ppm < -100000 ∨ 100000 < ppm → ∃ t : State, exec (.safeClockCheck ppm) s = .next t ∧ t.cur.oscFail = true
        ∧ fault t 1 ∧ s.safeBlocked t 8 ∧ (∀ o : Fin 4, t.released o = true) ∧ t.flag F.SAFE_STATUS.HUSK_FORCED = true ∧ t.flag F.REC_STATUS.FREEZE_REQ = true)
    ∧ (∀ o : Fin 4, ∃ t : State, exec (.outputReadbackFault o) s = .next t ∧ fault t 5 ∧ s.safeBlocked t 8 ∧ ∀ q : Fin 4, t.released q = true)
    ∧ (∃ t : State, exec .forceRailMismatch s = .next t ∧ fault t 3 ∧ s.safeBlocked t 8 ∧ t.flag F.SAFE_STATUS.HUSK_FORCED = true)
    ∧ (∃ t : State, exec .curatorParityFault s = .next t ∧ fault t 6 ∧ s.safeBlocked t 8)
    ∧ (let same := s.boot.loaded = false ∨ s.get F.LC_STATE.STATE ≠ 3 ∨ s.lastSlot = some (BitVec.ofNat 32 s.safetyCrc) ∨ hasBit s.cur.faults 7 = true
      (same → s.setsOnly [(F.SAFE_CHECK.CHECK, 0, s.safetyCrc), (F.SAFE_STATUS.CONFIRMED, 0,
          if BitVec.ofNat 32 s.safetyCrc = s.reg F.SAFE_CONFIRM.CONFIRM.base then 1 else 0)] (exec .safeCheckRecompute s))
      ∧ (¬same → ∃ t : State, exec .safeCheckRecompute s = .next t ∧ t.reg F.SAFE_CHECK.CHECK.base = BitVec.ofNat 32 s.safetyCrc ∧ fault t 7 ∧ s.safeBlocked t 8))

-- The life cycle, the flash and debug access

/-- Life cycle and flash (R427, R429 to R432): ARM notes its target; COMMIT of the target armed within 1 s, along a transition of R430 with every arm blocked since the
ARM, burns, and is refused with its first cause else; the burn adds its row or row 63, a safety slot where it takes one, and ends in a cold reset. A program or erase
of a block outside the slot in use, from a buffer whose CRC holds, occupies the flash until it completes; while it does a further command has no effect (DESIGN CHOICE, log entry 35). -/
def Obligations.LifeCycleAndFlash : Prop :=
  ∀ (s : State) (p : Fin 14), s.canonical →
    (s.admits p .any → ∀ tgt : Fin 8, tgt.val ≤ 5 → s.get F.LC_CMD.TARGET ≤ 5 →
      (s.boot.burning ≠ none → s.writesOnly p [(F.LC_CMD.TARGET, 0, tgt)] (exec (.lcArm p tgt) s) ∧ s.writesOnly p [(F.LC_CMD.TARGET, 0, tgt)] (exec (.lcCommit p tgt) s))
      ∧ (s.boot.burning = none → ∃ t : State, exec (.lcArm p tgt) s = .next (t.okOn p) ∧ s.regsAs [(F.LC_CMD.TARGET, 0, tgt), (F.LC_CMD.ARMED, 0, 1)] t
          ∧ t.boot = { s.boot with armed := some tgt.val, armBlocked := !s.anyDeblocked, armExpired := false })
      ∧ (s.boot.burning = none → s.lcCode tgt ≠ 0 → ∃ t : State, exec (.lcCommit p tgt) s = .next (t.answer p 4)
          ∧ s.regsAs [(F.LC_CMD.ARMED, 0, 0), (F.LC_CMD.LC_RESULT, 0, s.lcCode tgt), (F.LC_CMD.LC_REFUSED, 0, 1), (F.BOOT_STATUS.CODE, 0, 0x31)] t
          ∧ t.boot = { s.boot with armed := none, armExpired := false } ∧ t.fuse = s.fuse)
      ∧ (s.boot.burning = none → s.boot.armExpired = false → s.boot.armed = some tgt.val → s.lcAllowed tgt = true → s.boot.armBlocked = true →
          s.anyDeblocked = false → tgt.val ≠ 3 ∨ s.flag F.SAFE_STATUS.CONFIRMED = true ∧ s.fuse.slots.length < 8 → tgt.val = 5 ∨ s.fuse.rows.length < 63 →
          ∃ t : State, exec (.lcCommit p tgt) s = .next (t.okOn p) ∧ s.regsAs [(F.LC_CMD.TARGET, 0, tgt), (F.LC_CMD.ARMED, 0, 0)] t ∧ t.fuse = s.fuse
            ∧ t.boot = { s.boot with armed := none, burning := some (tgt.val, if tgt.val = 3 ∧ s.lastSlot ≠ some (s.reg F.SAFE_CHECK.CHECK.base)
                then some (s.reg F.SAFE_CHECK.CHECK.base) else none) }))
    ∧ (s.boot.armed = none → exec .lcArmExpired s = .next s)
    ∧ (s.boot.armed ≠ none → ∃ t : State, exec .lcArmExpired s = .next t ∧ s.regsAs [(F.LC_CMD.ARMED, 0, 0)] t
        ∧ t.boot = { s.boot with armed := none, armExpired := true })
    ∧ (s.boot.burning = none → exec .fuseBurnComplete s = .next s)
    ∧ (∀ b ∈ s.boot.burning, ∃ t : State, exec .fuseBurnComplete s = .next t ∧ t.boot = {} ∧ t.get F.RESET_CAUSE.CAUSE = 5
        ∧ t.fuse.rows = (if b.1 = 5 then s.fuse.rows else s.fuse.rows ++ [⟨b.1, s.fuse.rows.length, true⟩])
        ∧ t.fuse.row63 = (if b.1 = 5 then some true else s.fuse.row63)
        ∧ t.fuse.slots = s.fuse.slots ++ (match b.2 with | some v => [(v, true)] | none => [])
        ∧ t.fuse.digest = (if b.1 = 1 then some s.img.keyDigest else s.fuse.digest))
    ∧ (s.admits p .any → ∀ blk : Fin 8192,
      let shut := (s.boot.loaded = true ∧ blk.val / 4096 = s.get F.BOOT_STATUS.SLOT) ∨ s.nvmBufOk = false
      let data := (List.range 1024).map fun w => (s.reg (F.NVM_BUF.DATA.addr w)).toNat
      (s.boot.flash ≠ none → exec (.nvmProgramBlock p blk) s = .next (s.okOn p) ∧ exec (.nvmEraseSector p blk) s = .next (s.okOn p))
      ∧ (s.boot.flash = none → shut → exec (.nvmProgramBlock p blk) s = .next ((s.setB F.NVM_STATUS.NVM_REFUSED true).answer p 4)
          ∧ exec (.nvmEraseSector p blk) s = .next ((s.setB F.NVM_STATUS.NVM_REFUSED true).answer p 4))
      ∧ (s.boot.flash = none → ¬shut → (∃ t : State, exec (.nvmProgramBlock p blk) s = .next (t.okOn p) ∧ s.regsAs [(F.NVM_STATUS.BUSY, 0, 1)] t
            ∧ t.boot = { s.boot with flash := some (1, blk.val) } ∧ t.wire = s.wire ++ [.pin "NVM_PROGRAM" (blk.val :: data)])
          ∧ ∃ t : State, exec (.nvmEraseSector p blk) s = .next (t.okOn p) ∧ s.regsAs [(F.NVM_STATUS.BUSY, 0, 1)] t
            ∧ t.boot = { s.boot with flash := some (2, blk.val) } ∧ t.wire = s.wire ++ [.pin "NVM_ERASE" [blk.val]]))
    ∧ (∃ t : State, exec .nvmCommandComplete s = .next t ∧ s.regsAs [(F.NVM_STATUS.BUSY, 0, 0)] t ∧ t.boot = { s.boot with flash := none })

/-- Debug access, JTAG and the maintenance SPI (R433, R434, R489, R490): a verification needs a challenge, which its drawing renews, and raises the level at most to what the life cycle
allows; 8 failures end it. DEBUG_ACCESS makes one read or write as path 12 and captures its STATUS and data, and below level 2 writes nothing outside the unlock; each word of
a maintenance frame is one access of path 13, and without MNT_EN nothing happens. EXTEST acts at level 2 in BLANK and MAINTENANCE with every arm blocked only. -/
def Obligations.DebugAccess : Prop :=
  ∀ (s : State) (p : Fin 14), s.canonical →
    (∀ lvl : Fin 4,
      let may := s.get F.DBG_STATUS.DBG_FAIL < 8 ∧ s.dbg.chal = true ∧ s.dbg.verify = none
      (may → ∃ t : State, exec (.dbgVerify p lvl) s = .next (t.okOn p) ∧ s.regsAs [(F.DBG_STATUS.BUSY, 0, 1)] t ∧ t.dbg = { s.dbg with verify := some lvl.val })
      ∧ (¬may → exec (.dbgVerify p lvl) s = .next (s.okOn p)))
    ∧ s.writesOnly p [(F.DBG_STATUS.LEVEL, 0, if s.get F.LC_STATE.STATE = 0 then 2 else 0)] (exec (.dbgRelock p) s)
    ∧ (∃ t : State, exec (.dbgChalRead p) s = .next t ∧ t.dbg = { s.dbg with chal := true, verify := none } ∧ t.flag F.DBG_STATUS.BUSY = false
        ∧ t.level = s.level ∧ t.freeCount = s.freeCount + 4
        ∧ s.regsBut (F.DBG_STATUS.BUSY.base :: (List.range 4).map fun i => F.DBG_CHAL.CHAL.addr i) t)
    ∧ (s.dbg.verify = none → ∀ ok : Bool, exec (.dbgVerifyComplete ok) s = .next s)
    ∧ (∀ lvl ∈ s.dbg.verify, ∀ ok : Bool,
        let top := if s.get F.LC_STATE.STATE = 3 ∨ s.get F.LC_STATE.STATE = 5 then 1 else 2
        ∃ t : State, exec (.dbgVerifyComplete ok) s = .next t ∧ t.dbg = { s.dbg with verify := none }
          ∧ s.regsAs [(F.DBG_STATUS.BUSY, 0, 0), if ok = true ∧ s.boot.loaded = true ∧ lvl ≤ top then (F.DBG_STATUS.LEVEL, 0, lvl)
              else (F.DBG_STATUS.DBG_FAIL, 0, min 15 (s.get F.DBG_STATUS.DBG_FAIL + 1))] t)
    ∧ exec .jtagIdcode s = .next { s with dbg := { s.dbg with ir := 0x01 }, wire := s.wire ++ [.pin "TDO" [0x2614414F]] }
    ∧ (∀ cells : List Bool, exec (.jtagSamplePreload cells) s = .next { s with dbg := { s.dbg with ir := 0x02, scan := cells } })
    ∧ exec .jtagExtest s = .next (if s.level = 2 ∧ (s.get F.LC_STATE.STATE = 0 ∨ s.get F.LC_STATE.STATE = 4) ∧ s.anyDeblocked = false
        then { s with dbg := { s.dbg with ir := 0x03 }, wire := s.wire ++ [.pin "EXTEST" (s.dbg.scan.map fun b => if b then 1 else 0)] } else s)
    ∧ exec .jtagBypass s = .next { s with dbg := { s.dbg with ir := 0xFF } }
    ∧ exec .jtagTrst s = .next { s with dbg := { s.dbg with ir := 0x01 } }
    ∧ (∀ dr : BitVec 64, dr.getLsbD 63 = false → ∃ t : State, exec (.jtagDebugAccess dr) s = .next t
        ∧ t.dbg.capture = ((s.mgmtRead 12 (4 * Block.get dr 61 32)).1, (s.mgmtRead 12 (4 * Block.get dr 61 32)).2.1) ∧ t.dbg.ir = 0x10
        ∧ (4 * Block.get dr 61 32 ≠ F.DBG_CHAL.CHAL.base → t.regs = s.regs))
    ∧ (∀ dr : BitVec 64, dr.getLsbD 63 = true → s.mayWrite 12 (4 * Block.get dr 61 32) = false → ∃ t : State, exec (.jtagDebugAccess dr) s = .next t
        ∧ t.dbg.capture = (6, 0) ∧ t.regs = s.regs ∧ (t.path 12).last = 6)
    ∧ (∀ (d : RegDesc) (i : Nat) (dr : BitVec 64), dr.getLsbD 63 = true → s.admits 12 .cfg → s.level = 2 → plainAt (4 * Block.get dr 61 32) d i →
        let a := 4 * Block.get dr 61 32
        let v := BitVec.ofNat 32 (Block.get dr 31 0)
        (∀ f ∈ State.writtenFields d (s.reg a) v, (f.lock = .any ∨ f.lock = .cfg) ∧ f.inRange (f.val v) = true) → State.writtenFields d (s.reg a) v ≠ [] →
        ∃ t : State, exec (.jtagDebugAccess dr) s = .next t ∧ t.dbg.capture = (0, 0) ∧ t.reg a = State.storedWord d (s.reg a) v ∧ s.regsBut [a] t)
    ∧ (∀ (a : Word) (ws : List Word) (n : Nat), exec (.mntWrite false a ws) s = .next s ∧ exec (.mntRead false a n) s = .next s)
    ∧ exec (.mntStatus false) s = .next s
    ∧ exec (.mntStatus true) s = .next { s with wire := s.wire ++ [.pin "MNT_SDO" [(s.path 13).last]] }
    ∧ (∀ a : Word, exec (.mntWrite true a []) s = .next s)
    ∧ (∀ (a w : Word) (ws : List Word), ∃ u : State, exec (.registerWrite 13 a w) s = .next u ∧ exec (.mntWrite true a [w]) s = .next u
        ∧ exec (.mntWrite true a (w :: ws)) s = exec (.mntWrite true (a + 4) ws) u)
    ∧ (∀ a : Word, ∃ t : State, exec (.mntRead true a 1) s = .next t ∧ t.wire = s.wire ++ [.pin "MNT_SDO" [(s.mgmtRead 13 a.toNat).2.1.toNat]]
        ∧ (t.path 13).last = (s.mgmtRead 13 a.toNat).1 ∧ (a.toNat ≠ F.DBG_CHAL.CHAL.base → t.regs = s.regs))

-- Resets and start-up

/-- Resets (R415 to R418, R422, R429, R432, R433): everything on chip takes its reset value, but for fuses and, in a warm reset, the retention registers; RESET_CAUSE names the source. A warm reset beside a cold
one is the cold one. A burn cut short leaves its row without a marker. The release reads the fuses and stops with 0x2E where they fail; a valid head kept through a warm
reset continues the count, another is HEAD_LOST. Step 3 waits for the on-chip wipe and for straps that name a slot. -/
def Obligations.Resets : Prop :=
  ∀ (s : State), s.canonical →
    let fresh := fun (t : State) (cause warm : Nat) => t.get F.RESET_CAUSE.CAUSE = cause ∧ t.get F.RESET_CAUSE.WARM_CNT = warm
      ∧ State.reset.regsBut [F.RESET_CAUSE.CAUSE.base] t ∧ t.boot = {} ∧ t.tick = {} ∧ t.arms = [] ∧ t.cur = {} ∧ t.clk = {} ∧ t.stn = {} ∧ t.twin = {}
      ∧ t.pending = s.pending ∧ t.wire = s.wire ++ [.pin "TX_IDLE" []]
      ∧ (s.boot.burning = none → t.fuse = s.fuse)
      ∧ (∀ b ∈ s.boot.burning, b.1 ≠ 5 → t.fuse.rows = s.fuse.rows ++ [⟨b.1, s.fuse.rows.length, false⟩])
    (∃ t : State, exec .powerOn s = .next t ∧ fresh t 0 0 ∧ t.kept = {} ∧ t.dbg = {})
    ∧ (∃ t : State, exec (.coldReset .pin) s = .next t ∧ fresh t 1 0 ∧ t.kept = {} ∧ t.dbg = { ir := s.dbg.ir, scan := s.dbg.scan })
    ∧ (∃ t : State, exec (.coldReset .supply) s = .next t ∧ fresh t 4 0 ∧ t.kept = {})
    ∧ (∃ t : State, exec .railFault s = .next t ∧ fresh t 3 0 ∧ t.kept = {})
    ∧ (∀ upset : BitVec 512,
      (s.boot.asserted = true → s.get F.RESET_CAUSE.CAUSE ≠ 2 → exec (.warmReset upset) s = .next s)
      ∧ (s.boot.asserted = true → s.get F.RESET_CAUSE.CAUSE = 2 → exec (.warmReset upset) s = .next { s with kept := { s.kept with head := s.kept.head ^^^ upset } })
      ∧ (s.boot.asserted = false → s.cur.faults = 0 → s.cur.oscFail = false → ∃ t : State, exec (.warmReset upset) s = .next t
          ∧ fresh t 2 (min 255 (s.kept.warm + 1)) ∧ t.kept = ⟨s.kept.head ^^^ upset, s.kept.commits, min 255 (s.kept.warm + 1)⟩)
      ∧ (s.boot.asserted = false → s.cur.faults ≠ 0 → ∃ t : State, exec (.warmReset upset) s = .next t ∧ t.cur.faults = s.cur.faults
          ∧ t.get F.SAFE_STATUS.CURATOR_FAULT = s.get F.SAFE_STATUS.CURATOR_FAULT ∧ t.isReady = false))
    ∧ (∀ (jun : Bool) (strap : Fin 4) (ok : Bool), s.boot.asserted = false → exec (.resetRelease jun strap ok) s = .next s)
    ∧ (∀ (jun : Bool) (strap : Fin 4), s.boot.asserted = true → s.cur.oscFail = false → ∃ t : State, exec (.resetRelease jun strap false) s = .next t
        ∧ t.flag F.BOOT_STATUS.STOPPED = true ∧ t.get F.BOOT_STATUS.CODE = 0x2E ∧ t.get F.BOOT_STATUS.STEP = 2 ∧ t.junior = jun
        ∧ t.get F.BOOT_STATUS.STRAP = strap ∧ t.boot.asserted = false)
    ∧ (∀ (jun : Bool) (strap : Fin 4), s.boot.asserted = true → s.cur.oscFail = false → s.flag F.BOOT_STATUS.STOPPED = false → s.isReady = false →
        ∃ t : State, exec (.resetRelease jun strap true) s = .next t ∧ t.get F.LC_STATE.STATE = s.fusedState % 8 ∧ t.junior = jun
          ∧ t.get F.DBG_STATUS.LEVEL = (if s.fusedState % 8 = 0 then 2 else 0) ∧ t.get F.BOOT_STATUS.STRAP = strap ∧ t.boot.fusesRead = true
          ∧ t.get F.BOOT_STATUS.STEP = (if s.boot.wiped ∧ strap.val ≠ 3 then 3 else 2)
          ∧ (s.get F.RESET_CAUSE.CAUSE = 2 → s.kept.head ≠ 0 →
              let h := headList s.kept.head
              t.get F.RESET_CAUSE.HEAD = (if Crc.crc32c (h.take 60) = fieldAt h 60 4 then 1 else 2)
              ∧ (Crc.crc32c (h.take 60) = fieldAt h 60 4 → t.tick.next = fieldAt h 0 8 + 1)
              ∧ (Crc.crc32c (h.take 60) ≠ fieldAt h 60 4 → t.flag F.TWIN_STATUS.HEAD_LOST = true ∧ t.tick = s.tick)))
    ∧ (∃ t : State, exec .onChipWipeComplete s = .next t ∧ t.boot = { s.boot with wiped := true }
        ∧ s.regsAs (if s.atStep 2 = true ∧ s.boot.fusesRead = true ∧ s.get F.BOOT_STATUS.STRAP ≠ 3 then [(F.BOOT_STATUS.STEP, 0, 3)] else []) t)

/-- Start-up (R14, R155, R418 to R422, R425, R426, R452): each step ends with its own event and at its own step only. A slot that fails its checks is refused with its code, and start-up stops
where no candidate is left; an accepted image names its slot, and the supervisor cores start. PLL lock starts the tick. Steps 6 and 7 note strings without a
hop and refuse READY for a budget that fails; step 10 is PAIRING with a twin and takes no time without; READY is given once, unless the Curator holds SET_CRC or PARITY. -/
def Obligations.StartUp : Prop :=
  ∀ (s : State), s.canonical →
    let pairing := fun (t : State) => t.get F.BOOT_STATUS.STEP = (if s.flag F.TWIN_CTRL.TWIN_EN then 10 else 11) ∧ (s.flag F.TWIN_CTRL.TWIN_EN = true → t.mode = 1)
    (∀ (h0 h1 : ImageHead) (r : ImageRead),
      (s.atStep 3 = false → exec (.imageReadComplete h0 h1 r) s = .next s)
      ∧ (s.atStep 3 = true → (s.nextSlotOf h0 h1).1 = none → s.setsOnly [(F.BOOT_STATUS.CODE, 0, if (s.nextSlotOf h0 h1).2 = 0 then 0x20 else (s.nextSlotOf h0 h1).2),
          (F.BOOT_STATUS.STOPPED, 0, 1)] (exec (.imageReadComplete h0 h1 r) s))
      ∧ (s.atStep 3 = true → ∀ k ∈ (s.nextSlotOf h0 h1).1, s.authCode r ≠ 0 → ∃ t : State, exec (.imageReadComplete h0 h1 r) s = .next t
          ∧ t.boot.tried = s.boot.tried ++ [k] ∧ t.flag F.BOOT_STATUS.FALLBACK = true ∧ t.get F.BOOT_STATUS.STEP = 3 ∧ t.boot.loaded = s.boot.loaded
          ∧ ((t.nextSlotOf h0 h1).1 ≠ none → t.get F.BOOT_STATUS.CODE = s.authCode r ∧ t.flag F.BOOT_STATUS.STOPPED = s.flag F.BOOT_STATUS.STOPPED)
          ∧ ((t.nextSlotOf h0 h1).1 = none → t.flag F.BOOT_STATUS.STOPPED = true))
      ∧ (s.atStep 3 = true → ∀ k ∈ (s.nextSlotOf h0 h1).1, s.authCode r = 0 →
          let code := ((s.bump F.BOOT_STATUS.REREAD r.rereads).loadImage r).imageCode r
          ∃ t : State, exec (.imageReadComplete h0 h1 r) s = .next t ∧ if code = 0 then
              t.get F.BOOT_STATUS.STEP = 4 ∧ t.get F.BOOT_STATUS.SLOT = k % 2 ∧ t.reg F.BOOT_IMAGE.SEQ.base = (if k = 0 then h0 else h1).seq
                ∧ t.get F.SCHED_STATUS.CORE_UP = 0xFF ∧ t.boot.loaded = true
            else t.boot.tried = s.boot.tried ++ [k] ∧ t.flag F.BOOT_STATUS.FALLBACK = true ∧ t.get F.BOOT_STATUS.STEP = 3 ∧ t.boot.loaded = s.boot.loaded
              ∧ ((t.nextSlotOf h0 h1).1 ≠ none → t.get F.BOOT_STATUS.CODE = code) ∧ ((t.nextSlotOf h0 h1).1 = none → t.flag F.BOOT_STATUS.STOPPED = true)))
    ∧ (∀ ok : Bool, (s.atStep 4 = false → exec (.wipeCheckComplete ok) s = .next s)
      ∧ (s.atStep 4 = true → s.setsOnly (if ok then [(F.BOOT_STATUS.STEP, 0, 5)] else [(F.BOOT_STATUS.CODE, 0, 0x2C), (F.BOOT_STATUS.STOPPED, 0, 1)])
          (exec (.wipeCheckComplete ok) s)))
    ∧ (∀ bad : BitVec 64, (∀ ok : Bool, s.atStep 5 = false → exec (.pllLock ok bad) s = .next s)
      ∧ (s.atStep 5 = true → s.setsOnly [(F.BOOT_STATUS.CODE, 0, 0x2D), (F.BOOT_STATUS.STOPPED, 0, 1)] (exec (.pllLock false bad) s))
      ∧ (s.atStep 5 = true → ∃ t : State, exec (.pllLock true bad) s = .next t ∧ t.tick.running = true ∧ t.get F.BOOT_STATUS.STEP = 6
          ∧ t.get F.CLK_STATUS.LOCK = 0x7F
          ∧ (∀ l : Fin 72, l.val ∉ s.bootLanes bad → t.laneSt l = s.laneSt l)
          ∧ t.boot.refused = (s.boot.refused || (List.range 64).any fun l => bad.getLsbD l && s.flag F.LANE_CTRL.ENABLE l)))
    ∧ (∀ mem : Bool,
      let goes := s.atStep 6 = true ∧ s.boot.refused = false ∧ s.get F.LC_STATE.STATE ≠ 5
      (s.lanesUp = false → exec (.trainingComplete mem) s = .next s)
      ∧ (s.atStep 6 = false → exec (.trainWaitExpiry mem) s = .next s)
      ∧ (goes → ∃ t : State, exec (.trainWaitExpiry mem) s = .next t ∧ (s.lanesUp = true → exec (.trainingComplete mem) s = .next t)
          ∧ t.get F.BOOT_STATUS.STEP = 7 ∧ t.flag F.REC_STATUS.MEM_PRESENT = (mem && decide (s.img.memGiB ≠ 0))
          ∧ ∀ k ∈ s.strings, s.laneSt k ≠ 5 → t.get F.CAT_STR_REACH.CODE k = 7))
    ∧ (s.atStep 7 = false ∨ s.boot.refused = true → exec .startupDiscoveryComplete s = .next s)
    ∧ (s.atStep 7 = true → s.boot.refused = false →
        let code := (s.runBudget s.liveGroup { ranges := false, transition := false, compute := false, dispatch := true, declaredGen := false }).res.code
        ∃ t : State, exec .startupDiscoveryComplete s = .next t ∧ (code = 0 → t.get F.BOOT_STATUS.STEP = 8 ∧ t.boot = s.boot)
          ∧ (code ≠ 0 → t.get F.BOOT_STATUS.STEP = 7 ∧ t.get F.BOOT_STATUS.CODE = code % 256 ∧ t.boot = { s.boot with refused := true }))
    ∧ (s.atStep 8 = false ∨ s.boot.refused = true → exec .startupSelftestComplete s = .next s)
    ∧ (s.atStep 8 = true → s.boot.refused = false → ∃ t : State, exec .startupSelftestComplete s = .next t
        ∧ (s.get F.ADC_STATUS.CAL_STATE < 2 → t.get F.BOOT_STATUS.STEP = 9 ∧ t.mode = s.mode) ∧ (2 ≤ s.get F.ADC_STATUS.CAL_STATE → pairing t))
    ∧ (∀ (sums : List (Int × Int × Int)) (temp : BitVec 8), s.atStep 9 = true → s.boot.refused = false → s.calRunning = true →
        ∃ t : State, exec (.calComplete sums temp) s = .next t ∧ pairing t)
    ∧ (∀ us : Nat,
      let holds := hasBit s.cur.faults 7 = true ∨ hasBit s.cur.faults 6 = true
      (s.atStep 11 = false ∨ s.boot.refused = true → exec (.ready us) s = .next s)
      ∧ (s.atStep 11 = true → s.boot.refused = false → holds → exec (.ready us) s = .next { s with boot := { s.boot with refused := true } })
      ∧ (s.atStep 11 = true → s.boot.refused = false → ¬holds → ∃ t : State, exec (.ready us) s = .next t ∧ t.boot = { s.boot with readyWait := true }
          ∧ s.regsAs [(F.BOOT_STATUS.READY, 0, 1), (F.BOOT_READY_TIME.TIME, 0, us % 2 ^ 32)] t ∧ { t with regs := s.regs, boot := s.boot } = s))

-- Integrity and check units

/-- Check units (R443 to R446): while a block computation runs INIT, data, FINISH and START are refused with REFUSED; INIT takes the initial value of R443; a word
feeds 1, 2 or 4 bytes in stream mode; FINISH completes, and in fall-back mode compares RESULT with EXPECTED; ABORT stops a block computation and says ALREADY_DONE without one. A
block computation ends as the bytes of its range fed one after another would.
Scrub and patrol passes (R373, R439): a pass is counted with every error it found, each counter saturating; the patrol waits for the wipe of the record memory. A
scrub's errors have no other consequence. -/
def Obligations.CheckUnits : Prop :=
  (let digits := [0x31, 0x32, 0x33, 0x34, 0x35, 0x36, 0x37, 0x38, 0x39]
   let result := fun (poly init : Nat) => chkFinal poly (digits.foldl (chkByte poly) init)
   result 0 0xFFFF = 0x29B1 ∧ result 1 0xB704CE = 0x21CF02 ∧ result 2 0xFFFFFFFF = 0xCBF43926 ∧ result 3 0xFFFFFFFF = 0xE3069283)
  ∧ (∀ (s : State) (p : Fin 14) (n : Fin 4), s.canonical → s.admits p .any →
      let poly := s.get F.CHK_CTRL.POLY n
      let busy := s.flag F.CHK_STATUS.BUSY n = true
      let block := s.flag F.CHK_CTRL.SRC n = true
      let init := match poly with | 0 => 0xFFFF | 1 => 0xB704CE | _ => 0xFFFFFFFF
      let refused := fun (o : Host.Outcome State Fault Refusal) => o = .next ((s.setB F.CHK_STATUS.REFUSED true n).answer p 4)
      let sameResult := s.reg (F.CHK_RESULT.RESULT.addr n) = s.reg (F.CHK_EXPECTED.VALUE.addr n)
      (busy → refused (exec (.chkInit p n) s) ∧ refused (exec (.chkFinish p n) s) ∧ refused (exec (.chkStart p n) s) ∧ ∀ v : Word, refused (exec (.chkDataWrite p n v) s))
      ∧ (¬busy → ∃ t : State, exec (.chkInit p n) s = .next (t.okOn p) ∧ t.chk n = { acc := init }
          ∧ s.regsAs ((F.CHK_RESULT.RESULT, n, if poly < 2 then init else 0) :: zeroed [F.CHK_STATUS.DONE, F.CHK_STATUS.MISMATCH, F.CHK_STATUS.ABORTED] n) t)
      ∧ (∀ v : Word, ¬busy → block → exec (.chkDataWrite p n v) s = .next (s.okOn p))
      ∧ (∀ v : Word, ¬busy → ¬block →
          let bytes := (Crc.wordBytes v).take (match s.get F.CHK_CTRL.WIDTH n with | 0 => 1 | 1 => 2 | _ => 4)
          let acc := bytes.foldl (chkByte poly) (s.chk n).acc
          ∃ t : State, exec (.chkDataWrite p n v) s = .next (t.okOn p) ∧ t.chk n = { acc := acc } ∧ s.regsAs [(F.CHK_RESULT.RESULT, n, chkFinal poly acc)] t)
      ∧ (¬busy → block → exec (.chkFinish p n) s = .next (s.okOn p) ∧ s.writesOnly p [(F.CHK_STATUS.BUSY, n, 1)] (exec (.chkStart p n) s))
      ∧ (¬busy → ¬block → exec (.chkStart p n) s = .next (s.okOn p))
      ∧ (¬busy → ¬block → s.flag F.CHK_CTRL.MODE n = false → s.writesOnly p [(F.CHK_STATUS.DONE, n, 1)] (exec (.chkFinish p n) s))
      ∧ (¬busy → ¬block → s.flag F.CHK_CTRL.MODE n = true → sameResult →
          s.writesOnly p [(F.CHK_STATUS.DONE, n, 1), (F.CHK_CNT.MATCH, n, min F.CHK_CNT.MATCH.max (s.get F.CHK_CNT.MATCH n + 1))] (exec (.chkFinish p n) s))
      ∧ (¬busy → ¬block → s.flag F.CHK_CTRL.MODE n = true → ¬sameResult → ∃ t : State, exec (.chkFinish p n) s = .next (t.okOn p)
          ∧ t.flag F.CHK_STATUS.DONE n = true ∧ t.flag F.CHK_STATUS.MISMATCH n = true ∧ s.counted t F.CHK_CNT.MISMATCH_CNT n)
      ∧ (¬busy → s.writesOnly p [(F.CHK_STATUS.ALREADY_DONE, n, 1)] (exec (.chkAbort p n) s))
      ∧ (busy → ∃ t : State, exec (.chkAbort p n) s = .next (t.okOn p) ∧ t.flag F.CHK_STATUS.BUSY n = false ∧ t.flag F.CHK_STATUS.ABORTED n = true
          ∧ s.regsBut [F.CHK_STATUS.BUSY.addr n, F.CHK_RESULT.RESULT.addr n] t)
      ∧ (¬busy → exec (.chkComplete n) s = .next s)
      ∧ (busy → s.flag F.CHK_CTRL.MODE n = false → ∃ t : State, exec (.chkComplete n) s = .next t
          ∧ t.chk n = { acc := (s.chkBlock n).foldl (chkByte poly) (s.chk n).acc }
          ∧ s.regsAs [(F.CHK_RESULT.RESULT, n, chkFinal poly ((s.chkBlock n).foldl (chkByte poly) (s.chk n).acc)), (F.CHK_STATUS.BUSY, n, 0), (F.CHK_STATUS.DONE, n, 1)] t))
  ∧ (∀ (s : State), s.canonical →
      (∀ ecc : List EccEvent, (∀ e ∈ ecc, (match e with | .corrected m _ => decide (m < 10) | .uncorrected m _ => decide (m < 10) | _ => true) = true) →
        let corr := fun (m : Nat) => (ecc.filter fun e => match e with | .corrected k _ => decide (k = m) | _ => false).length
        let lost := fun (m : Nat) => (ecc.filter fun e => match e with | .uncorrected k _ => decide (k = m) | .journalLost _ => decide (m = 5) | _ => false).length
        ∃ t : State, exec (.sramScrubPass ecc) s = .next t ∧ { t with regs := s.regs } = s
          ∧ (∀ m : Fin 10, t.get F.INTEG_MEM_CNT.CORRECTED m = min F.INTEG_MEM_CNT.CORRECTED.max (s.get F.INTEG_MEM_CNT.CORRECTED m + corr m)
              ∧ t.get F.INTEG_MEM_CNT.UNCORRECTED m = min F.INTEG_MEM_CNT.UNCORRECTED.max (s.get F.INTEG_MEM_CNT.UNCORRECTED m + lost m))
          ∧ s.counted t F.INTEG_PASS.SRAM_PASSES
          ∧ s.regsBut (F.INTEG_PASS.SRAM_PASSES.base :: F.INTEG_ECC_LAST.MEM.base :: (List.range 10).map fun m => F.INTEG_MEM_CNT.CORRECTED.addr m) t)
      ∧ (∀ (corr : Nat) (lost : List Nat), (s.flag F.REC_STATUS.WIPE_DONE = false → exec (.recPatrolPass corr lost) s = .next s)
        ∧ (s.flag F.REC_STATUS.WIPE_DONE = true → s.setsOnly ([(F.REC_ECC.CORR, 0, min F.REC_ECC.CORR.max (s.get F.REC_ECC.CORR + corr)),
              (F.REC_ECC.UNCORR, 0, min F.REC_ECC.UNCORR.max (s.get F.REC_ECC.UNCORR + lost.length)),
              (F.INTEG_PASS.REC_PASSES, 0, min F.INTEG_PASS.REC_PASSES.max (s.get F.INTEG_PASS.REC_PASSES + 1))]
              ++ (match lost.getLast? with | some a => [(F.REC_ECC_ADDR.ADDR, 0, a)] | none => [])) (exec (.recPatrolPass corr lost) s))))

-- The dispatcher and power

/-- The dispatcher (R454 to R458): an item of a supervisor that finds 512 in the pool is refused and counted, one cancelled in the same cycle is never dispatched; a hardware source that finds 496 waits; with no core free an item
takes the lowest free place with its deadline, with one free and the pool empty it runs on the lowest. Of two items a core takes the earlier. A late or lost item is a MISS; one that runs beyond
ITEM_LIMIT costs its core a reset. A handle that holds no waiting item is answered ALREADY_DONE. -/
def Obligations.Dispatcher : Prop :=
  ∀ (s : State), s.canonical →
    let used := s.sched.pool.length
    (∀ (src : Fin 16) (sub : Fin 64) (cls : Fin 12) (dl : Option Word) (a0 a1 : Word),
      let due := match dl with | some d => d | none => s.now.ns + BitVec.ofNat 32 (s.relDeadline cls)
      (∀ cancel : Bool, src.val < 8 → 512 ≤ used → s.setsOnly [(F.SCHED_CNT.FULL_REFUSED, 0, min F.SCHED_CNT.FULL_REFUSED.max (s.get F.SCHED_CNT.FULL_REFUSED + 1))]
          (exec (.itemReady src sub cls dl a0 a1 cancel) s))
      ∧ (src.val < 8 ∧ used < 512 ∨ 8 ≤ src.val ∧ used < 496 ∧ s.sched.waiting = [] → s.setsOnly [(F.SCHED_CNT.CANCEL_RACE, 0, min F.SCHED_CNT.CANCEL_RACE.max (s.get F.SCHED_CNT.CANCEL_RACE + 1))]
          (exec (.itemReady src sub cls dl a0 a1 true) s))
      ∧ (∀ cancel : Bool, 8 ≤ src.val → 496 ≤ used ∨ s.sched.waiting ≠ [] → State.holdLimit src = none → ∃ t : State, exec (.itemReady src sub cls dl a0 a1 cancel) s = .next t
          ∧ t.sched = { s.sched with waiting := s.sched.waiting ++ [⟨src, sub, cls, dl, a0, a1⟩] } ∧ t.flag F.SCHED_STATUS.HW_STALL = true)
      ∧ (used < 496 → s.sched.waiting = [] → (∀ c ∈ List.range 8, s.coreFree c = false) → ∃ t : State, exec (.itemReady src sub cls dl a0 a1 false) s = .next t
          ∧ t.sched = { s.sched with nextReady := s.sched.nextReady + 1, pool := s.sched.pool ++ [⟨due, cls, src, false, s.freeHandle, a0, a1, s.sched.nextReady⟩] }
          ∧ t.get F.SCHED_STATUS.POOL_USED = used + 1 ∧ t.get F.SCHED_STATUS.POOL_PEAK = max (used + 1) (s.get F.SCHED_STATUS.POOL_PEAK)
          ∧ ∀ i ∈ s.sched.pool, i.handle ≠ s.freeHandle)
      ∧ (s.sched.pool = [] → s.sched.waiting = [] → ∀ c ∈ (List.range 8).find? s.coreFree, ∃ t : State, exec (.itemReady src sub cls dl a0 a1 false) s = .next t
          ∧ t.sched.pool = [] ∧ (t.core c).run = some (⟨due, cls, src, false, 0, a0, a1, s.sched.nextReady⟩, s.absNs) ∧ t.get F.SCHED_CORE.STATE c = 1
          ∧ t.get F.SCHED_CORE.CLASS c = cls))
    ∧ (∀ (c : Fin 8) (lost : Option (Fin 524288)), (s.core c).run = none → exec (.itemComplete c lost) s = .next s ∧ exec (.itemLimitExpiry c) s = .next s)
    ∧ (∀ c : Fin 8, ∀ r ∈ (s.core c).run, r.1.cls < 16 →
      let late := r.1.overdue = true ∨ wrapBefore r.1.deadline s.now.ns = true
      (∀ lost : Option (Fin 524288), s.sched.pool = [] → s.sched.waiting = [] → ∃ t : State, exec (.itemComplete c lost) s = .next t ∧ (t.core c).run = none
          ∧ t.get F.SCHED_CORE.STATE c = 0 ∧ (late ∨ lost ≠ none → s.counted t F.SCHED_CLASS_CNT.MISS r.1.cls)
          ∧ (¬late → lost = none → t.get F.SCHED_CLASS_CNT.MISS r.1.cls = s.get F.SCHED_CLASS_CNT.MISS r.1.cls))
      ∧ (∀ i ∈ s.sched.pool.head?, ∀ j ∈ (s.sched.pool.drop 1).head?, s.sched.pool.length = 2 → s.sched.waiting = [] → i.handle ≠ j.handle → s.bit F.SCHED_STATUS.CORE_UP c = true →
          (s.core c).resetting = false → (∀ d ∈ List.range 8, d ≠ c → s.coreFree d = false) → ∃ t : State, exec (.itemComplete c none) s = .next t
            ∧ (t.core c).run = some (if j.earlier i = true then j else i, s.absNs) ∧ t.sched.pool = [if j.earlier i = true then i else j])
      ∧ (∃ t : State, exec (.itemLimitExpiry c) s = .next t ∧ (t.core c).run = none ∧ (t.core c).resetting = true ∧ t.get F.SCHED_CORE.STATE c = 2
          ∧ t.bit F.SCHED_STATUS.CORE_UP c = false ∧ s.counted t F.SCHED_CNT.CORE_RESET ∧ s.counted t F.SCHED_CLASS_CNT.MISS r.1.cls ∧ t.sched.pool = s.sched.pool))
    ∧ (∀ h : Fin 512, (∀ i ∈ s.sched.pool, i.handle ≠ h) → exec (.itemCancel h) s = .next (s.emit (.pin "ALREADY_DONE" [h])))
    ∧ (∀ h : Fin 512, (∃ i ∈ s.sched.pool, i.handle = h) → s.sched.waiting = [] → used ≤ 512 → ∃ t : State, exec (.itemCancel h) s = .next t
        ∧ t.sched = { s.sched with pool := s.sched.pool.filter fun (i : Item) => decide (i.handle ≠ h) } ∧ t.get F.SCHED_STATUS.POOL_USED = t.sched.pool.length)
    ∧ (∃ t : State, exec .overdueSweep s = .next t ∧ t.regs = s.regs
        ∧ t.sched = { s.sched with pool := s.sched.pool.map fun i => if wrapBefore s.now.ns i.deadline then i else { i with overdue := true } })
    ∧ (∀ c : Fin 8, (s.core c).resetting = false → exec (.coreResetComplete c) s = .next s)
    ∧ (∀ c : Fin 8, (s.core c).resetting = true → s.sched.pool = [] → s.sched.waiting = [] → ∃ t : State, exec (.coreResetComplete c) s = .next t
        ∧ (t.core c).resetting = false ∧ t.get F.SCHED_CORE.STATE c = 0 ∧ t.bit F.SCHED_STATUS.CORE_UP c = true)

/-- Droop and the power ledger (R461 to R464): POWER_CAP takes 10.0 W to 60.0 W; the level rises at once with the deeper sag, counted where it was 0, and falls a level every 250 ns; each µs the energy counters take
their estimates and the droop time counts; at the end of a window CURTAIL rises by one above the cap, to 4 and beyond that counted, and falls by one below the cap less HYST. -/
def Obligations.Power : Prop :=
  ∀ (s : State), s.canonical →
    (∀ (p : Fin 14) (v : Fin 1024), s.admits p .live →
      (v.val = s.get F.PWR_CTRL.POWER_CAP → exec (.powerCapWrite p v) s = .next (s.okOn p))
      ∧ (v.val ≠ s.get F.PWR_CTRL.POWER_CAP → 100 ≤ v.val ∧ v.val ≤ 600 → s.writesOnly p [(F.PWR_CTRL.POWER_CAP, 0, v)] (exec (.powerCapWrite p v) s))
      ∧ (v.val ≠ s.get F.PWR_CTRL.POWER_CAP → v.val < 100 ∨ 600 < v.val → exec (.powerCapWrite p v) s = .next (s.answer p 4)))
    ∧ (∀ sagCore sagLoop : Nat,
      let step := fun (thr sag : Nat) => if sag < thr then 0 else min 4 ((sag - thr) / 10 + 1)
      let d := max (step (s.get F.DROOP_CTRL.THR_CORE) sagCore) (step (s.get F.DROOP_CTRL.THR_LOOP) sagLoop)
      let l := s.get F.DROOP_STATUS.LEVEL
      let sags := [(F.DROOP_STATUS.CORE_SAG, 0, if s.get F.DROOP_CTRL.THR_CORE ≤ sagCore then 1 else 0),
        (F.DROOP_STATUS.LOOP_SAG, 0, if s.get F.DROOP_CTRL.THR_LOOP ≤ sagLoop then 1 else 0)]
      (d ≤ l → ∃ t : State, exec (.droopLevelRise sagCore sagLoop) s = .next t ∧ s.regsAs sags t)
      ∧ (l < d → ∃ t : State, exec (.droopLevelRise sagCore sagLoop) s = .next t ∧ exec (.droopRecoveryStep sagCore sagLoop) s = .next t
          ∧ s.regsAs (sags ++ [(F.DROOP_STATUS.LEVEL, 0, d), (F.DROOP_STATUS.MIN_LEVEL, 0, max d (s.get F.DROOP_STATUS.MIN_LEVEL)),
              (F.DROOP_STATUS.EVENTS, 0, min 65535 (s.get F.DROOP_STATUS.EVENTS + (if l = 0 then 1 else 0)))]) t)
      ∧ (d ≤ l → ∃ t : State, exec (.droopRecoveryStep sagCore sagLoop) s = .next t ∧ s.regsAs (sags ++ [(F.DROOP_STATUS.LEVEL, 0, if d < l then l - 1 else l)]) t))
    ∧ (∀ est : List Nat, ∃ t : State, exec (.powerCounterUpdate est) s = .next t
        ∧ (∀ b : Fin 16, t.get64 F.PWR_BLK_LO.ENERGY F.PWR_BLK_HI.ENERGY b = (s.get64 F.PWR_BLK_LO.ENERGY F.PWR_BLK_HI.ENERGY b + est.getD b 0) % 2 ^ 64)
        ∧ t.get F.DROOP_TIME.TIME = (if s.flag F.DROOP_STATUS.LEVEL then min F.DROOP_TIME.TIME.max (s.get F.DROOP_TIME.TIME + 1) else s.get F.DROOP_TIME.TIME))
    ∧ (let e := s.powerTotal - s.pwr.winEnergy
      let d := s.tick.absT - s.pwr.winAbs
      let high := s.get F.PWR_CTRL.POWER_CAP * d < e * 10000
      let low := e * 10000 + s.get F.PWR_CTRL.HYST * d < s.get F.PWR_CTRL.POWER_CAP * d
      let l := s.get F.PWR_STATUS.CURTAIL
      ∃ t : State, exec .powerWindowEnd s = .next t ∧ t.pwr = { s.pwr with winAbs := s.tick.absT, winEnergy := s.powerTotal }
        ∧ (l ≤ 4 → t.get F.PWR_STATUS.CURTAIL = (if high then min 4 (l + 1) else if low then l - 1 else l)
            ∧ t.flag F.PWR_STATUS.OVER_CAP = decide (high ∧ l = 4)
            ∧ t.get F.PWR_CNT.OVER_CAP_CNT = (if high ∧ l = 4 then min F.PWR_CNT.OVER_CAP_CNT.max (s.get F.PWR_CNT.OVER_CAP_CNT + 1) else s.get F.PWR_CNT.OVER_CAP_CNT)
            ∧ t.get F.PWR_CNT.RAISES = (if high ∧ l ≠ 4 then min F.PWR_CNT.RAISES.max (s.get F.PWR_CNT.RAISES + 1) else s.get F.PWR_CNT.RAISES)))

-- The cell link

/-- Messages received from cells (R69 to R75, R80, R82, R86, R95, R96, R101, R137, R138, R383, R386): nothing is taken from a hop that is not UP with its version fixed; blocks that form no whole message count as
abandoned or stray; a message that fails its check is counted and, where re-send is in use, answered with a NAK set; a REPORT counts for the tick it names inside its window, and its flags and TAG are
acted on; a reply ends the request it answers; an ANNOUNCE counts for the CALL under way; a listed type with no receiver here is absorbed, an unlisted one counted. The first valid copy of a FAULT
excludes its cell; a HUSK that no FAULT explains blocks the string's arm. A NAK set repeats a message once. -/
def Obligations.LinkMessages : Prop :=
  ∀ (s : State) (k : Fin 64), s.canonical →
    let isOpen := s.hopVer k ≠ 0 ∧ s.get F.LANE_STATUS.STATE k = 5
    let alone := s.mode ≠ 2 ∧ s.twin.serve = none
    let up := fun (f : Field) => (f, k.val, min f.max (s.get f k + 1))
    let seqd := fun (seq : Nat) => s.setLink k { s.link k with rxSeq := seq }
    (∀ (rx : List RxBlock) (arr : Nat) (clean : Bool) (t4 : Stamp),
      let all := fun (o : Host.Outcome State Fault Refusal) => exec (.reportRx k rx arr clean) s = o ∧ exec (.ackRx k rx) s = o ∧ exec (.nakMsgRx k rx) s = o
        ∧ exec (.announceRx k rx) s = o ∧ exec (.echoRespRx k rx t4) s = o ∧ exec (.unknownMessageRx k rx) s = o
      (¬isOpen → all (.next s))
      ∧ (isOpen → frame none rx = [.stray] → s.setsOnly [up F.LINK_DROP_CNT.STRAY] (exec (.unknownMessageRx k rx) s) ∧ all (exec (.unknownMessageRx k rx) s))
      ∧ (isOpen → frame none rx = [.abandoned] → s.setsOnly [up F.LINK_DROP_CNT.ABANDONED] (exec (.unknownMessageRx k rx) s) ∧ all (exec (.unknownMessageRx k rx) s))
      ∧ (∀ bs : List Block, isOpen → frame none rx = [.msg bs] →
          let got := seqd (rxSeqOf (s.hopVer k) (s.link k).rxSeq bs)
          (checkRx (s.hopVer k) (s.link k).rxSeq bs = .fwdBad → all (.next (got.bump F.LINK_DROP_CNT.FWD_BAD_RX 1 k)))
          ∧ (∀ nak : Option Nat, checkRx (s.hopVer k) (s.link k).rxSeq bs = .failed nak →
              let naks := s.flag F.LINK_CTRL.RESEND_EN = true ∧ s.hopOpen k = true
              ∃ t : State, exec (.unknownMessageRx k rx) s = .next t ∧ all (.next t) ∧ t.links = got.links
                ∧ s.regsAs (up F.LINK_CRC_CNT.COUNT :: (if nak ≠ none ∧ naks then [up F.LINK_NAK_CNT.NAK_TX] else [])) t
                ∧ t.wire = s.wire ++ (match nak with | some q => if naks then [.cell k [nakSet q]] else [] | none => []))))
    ∧ (∀ (h c : Block) (d : List Block), opensMsg (bType h) = true → isHusk h = false → bType c = 0xF0 → isHusk c = false →
        frame none (onLane (h :: (d ++ [c]))) = [.msg (h :: (d ++ [c]))])
    ∧ (∀ (h d : Block) (seq : Nat) (rx : List RxBlock) (arr : Nat) (clean : Bool), s.arrives k rx = some ([h, d], seq) →
        let p := Block.get h 23 17
        let i := s.base k + p
        let flags := Block.get d 34 19
        let tag := Block.get d 16 9
        let mine := bType h = 0x20 ∧ Block.get h 31 26 = k ∧ p < s.declared k
        let now := Block.get h 55 32 = s.tickNo % 2 ^ 24
        let late := (seqd seq).bump F.LINK_LATE_CNT.LATE_RX 1 k
        (¬mine → exec (.reportRx k rx arr clean) s = .next ((seqd seq).bump F.LINK_DROP_CNT.STRAY 1 k))
        ∧ (mine → ¬now → exec (.reportRx k rx arr clean) s = .next late)
        ∧ (mine → now → s.tick.reportsOpen = false →
            exec (.reportRx k rx arr clean) s = .next ((late.setInput i { s.input i with late := true }).setLink k { s.link k with rxSeq := seq, devNow := true }))
        ∧ (mine → now → s.tick.reportsOpen = true → ∃ t : State, exec (.reportRx k rx arr clean) s = .next t ∧ (t.input i).own = some d
            ∧ (t.cell i).seenState = some (Block.get d 37 35) ∧ (t.cell i).seenTag = some tag ∧ (∀ j : Fin 6144, j.val ≠ i → t.input j = s.input j)
            ∧ ((s.link k).cast = none → (s.cell i).tag = none ∨ (s.cell i).tag = some tag → hasBit flags 5 = false →
                s.regsAs (if hasBit flags 2 then [(F.CAT_ENTRY_W2.BLANK_CNT, i, min F.CAT_ENTRY_W2.BLANK_CNT.max (s.get F.CAT_ENTRY_W2.BLANK_CNT i + 1))] else []) t)
            ∧ (hasBit flags 5 = true → alone → t.holds i 17 = true)
            ∧ ((s.link k).cast = none → (s.cell i).adm ≠ .full → (s.cell i).tag ≠ none → (s.cell i).tag ≠ some tag → (s.cell i).tagAt < s.tickNo →
                (∀ r ∈ (s.link k).reqs, r.pos ≠ p ∨ r.tag ≠ tag) → alone → t.holds i 12 = true)))
    ∧ (∀ (m : List Block) (seq : Nat) (rx : List RxBlock), s.arrives k rx = some (m, seq) →
        exec (.unknownMessageRx k rx) s = .next (if listedType (bType (m.headD 0)) then seqd seq else (seqd seq).bump F.LINK_DROP_CNT.UNKNOWN 1 k))
    ∧ (∀ (h : Block) (seq : Nat) (rx : List RxBlock), s.arrives k rx = some ([h], seq) →
        let p := Block.get h 49 43
        let i := s.base k + p
        Block.get h 55 50 = k → p < s.declared k →
        (s.findReq k p (Block.get h 42 35) = none → (bType h = 0x80 → exec (.ackRx k rx) s = .next (seqd seq)) ∧ (bType h = 0x81 → exec (.nakMsgRx k rx) s = .next (seqd seq)))
        ∧ (∀ r ∈ s.findReq k p (Block.get h 42 35),
            (bType h = 0x80 → ∃ t : State, exec (.ackRx k rx) s = .next t ∧ (∀ x ∈ (t.link k).reqs, x.tag ≠ r.tag)
              ∧ (r.kind = .config .gateSet → (t.cell i).gateOk = true ∧ (t.cell i).tag = some r.tag ∧ (t.cell i).tagAt = r.tagAt s.tickNo
                  ∧ (t.cell i).tagDue = true ∧ (t.cell i).tagSeen = false)
              ∧ (r.kind = .config .probe → (t.cell i).probeOk = false))
            ∧ (bType h = 0x81 → ∃ t : State, exec (.nakMsgRx k rx) s = .next t ∧ (∀ x ∈ (t.link k).reqs, x.tag ≠ r.tag)
              ∧ (r.kind = .config .gateSet → (t.cell i).gateOk = false)
              ∧ (r.kind = .config .probe → ((t.cell i).probeOk = true ↔ Block.get h 26 19 = 2 ∧ Block.get h 18 14 = 0)))))
    ∧ (∀ (h d1 d2 : Block) (seq : Nat) (rx : List RxBlock), s.arrives k rx = some ([h, d1, d2], seq) → bType h = 0x71 →
        let a : Announce := ⟨h, d1, d2⟩
        ((∀ r ∈ (s.link k).run, r.sent = none ∨ a.callId ≠ r.callId ∨ a.endOf ≠ s.ownEnd) →
          exec (.announceRx k rx) s = .next ((seqd seq).bump F.LINK_LATE_CNT.LATE_RX 1 k))
        ∧ (∀ r ∈ (s.link k).run, r.sent ≠ none → a.callId = r.callId → a.endOf = s.ownEnd → ∃ t : State, exec (.announceRx k rx) s = .next t ∧ t.regs = s.regs
            ∧ (t.link k).run = some { r with found := if (r.found.lookup a.dist).isSome then r.found else r.found ++ [(a.dist, a)] }))
    ∧ (∀ (h d1 d2 d3 : Block) (seq : Nat) (rx : List RxBlock) (t4 : Stamp), s.arrives k rx = some ([h, d1, d2, d3], seq) →
        bType h = 0x50 → Block.get h 55 52 = 2 →
        let diff := fun (x y : Nat) => toSigned 48 (x + 2 ^ 48 - y)
        let hold := diff (Block.get d3 63 16) (Block.get d2 63 16)
        let trip := diff t4.units (Block.get d1 63 16)
        (s.link k).echo = some (Block.get h 50 47, Block.get d1 63 16) → ∃ t : State, exec (.echoRespRx k rx t4) s = .next t ∧ t.regs = s.regs
          ∧ (t.link k).echo = none ∧ (t.link k).hopDelay = some ((trip - hold) / 2) ∧ (t.link k).echoTries = 0
          ∧ (t.link k).echoT3 = some (Block.get d3 63 16)
          ∧ (t.link k).echoRun = (if 0 < hold ∧ hold ≤ 2000 * 2 ^ 16 ∧ 0 ≤ trip ∧ (∀ x ∈ (s.link k).echoT3, 0 < diff (Block.get d2 63 16) x)
              then (s.link k).echoRun + 1 else 0))
    ∧ (∀ b : Block,
      let q := Block.get b 55 48
      (q + Block.get b 47 40 ≠ 255 → s.setsOnly [up F.LINK_RESEND_CNT.NAK_BAD] (exec (.nakSetRx k b) s))
      ∧ (q + Block.get b 47 40 = 255 → s.flag F.LINK_CTRL.RESEND_EN = false ∨ s.hopVer k < 2 → s.setsOnly [up F.LINK_NAK_CNT.NAK_RX] (exec (.nakSetRx k b) s))
      ∧ (q + Block.get b 47 40 = 255 → s.flag F.LINK_CTRL.RESEND_EN = true → 2 ≤ s.hopVer k → s.hopOpen k = true →
          ∀ m ∈ (s.link k).kept.find? (fun m => m.1 = q), ∃ t : State, exec (.nakSetRx k b) s = .next t
            ∧ (m.2.1 = true → s.regsAs [up F.LINK_NAK_CNT.NAK_RX, up F.LINK_RESEND_CNT.NO_COPY] t ∧ t.wire = s.wire)
            ∧ (m.2.1 = false → s.regsAs [up F.LINK_NAK_CNT.NAK_RX, up F.LINK_RESEND_CNT.RESENT] t
                ∧ t.wire = s.wire ++ [.cell k (m.2.2 ++ [checkBlock (s.hopVer k) (((s.link k).txSeq + 1) % 256) true m.2.2])])))
    ∧ (∀ (b : Block) (blk : Nat) (at_ : Stamp),
      let okd := crc8 (Crc.bytesBE 7 (Block.get b 63 8)) = Block.get b 7 0 ∧ bType b = 0x30
      let p := Block.get b 49 43
      let code := Block.get b 42 35
      let mine := Block.get b 55 50 = k ∧ p < s.declared k
      let seen := ∃ f ∈ (s.link k).faults, f.1 = Block.get b 55 35 * 2 ^ 24 + Block.get b 31 8 ∧ blk ≤ f.2 + 64
      (¬okd → s.setsOnly [up F.LINK_FAULT_CNT.FAULT_BAD] (exec (.faultRx k b blk at_) s))
      ∧ (okd → ¬mine → s.setsOnly [up F.LINK_DROP_CNT.STRAY] (exec (.faultRx k b blk at_) s))
      ∧ (okd → mine → seen → s.setsOnly [up F.LINK_FAULT_CNT.FAULT_BAD] (exec (.faultRx k b blk at_) s))
      ∧ (okd → mine → ¬seen → ∃ t : State, exec (.faultRx k b blk at_) s = .next t ∧ s.counted t F.LINK_FAULT_CNT.FAULT_OK k ∧ s.counted t F.SAFE_CNT.FAULT_RX
          ∧ (s.mode ≠ 2 → s.twin.serve = none → t.holds (s.base k + p) 15 = true)
          ∧ (s.mode = 2 → (s.tickNo + 2, .fault (s.base k + p) code) ∈ t.twin.changes ∨ ∃ x ∈ t.twin.changes, x.2 = .fault (s.base k + p) code ∧ x.1 ≤ s.tickNo + 2)
          ∧ (s.faultScope code = 4 → t.flag F.SAFE_STATUS.SBK = true ∧ t.bit F.SAFE_STATUS.SBK_CAUSE 2 = true)))
    ∧ (∀ (b : Block) (at_ : Stamp),
      let explained := (s.mode = 2 ∨ s.mode = 3 ∨ s.mode = 4) ∧ ∃ r ∈ s.cur.reacts, s.tickNo ≤ r.1 + 2 ∧ k.val ∈ r.2
      let near := ((List.range 64).filter fun j => b.getLsbD j != (0xD29669A55AC33CE1#64).getLsbD j).length ≤ 3
      (¬near → exec (.huskRx k (b, at_)) s = .next s)
      ∧ (near → ∃ t : State, exec (.huskRx k (b, at_)) s = .next t ∧ s.counted t F.LINK_FAULT_CNT.HUSK_RX k
        ∧ t.cur.huskArms = (if explained ∨ s.declared k = 0 then s.cur.huskArms else s.cur.huskArms ++ [s.get F.CAT_STR_INFO.ARM k])))
    ∧ (∀ cap : Fin 8,
      let far := if cap.val = 0 ∨ s.flag F.LANE_STATUS.LEGACY k = true then 1 else cap.val
      let v := match s.get F.LANE_STATUS.GEN k with
        | 1 => if hasBit far 1 then 2 else if hasBit far 0 then 1 else 0
        | 2 => if hasBit far 2 then 3 else if hasBit far 1 then 2 else 0
        | 3 => if hasBit far 2 then 3 else 0
        | _ => 0
      (s.get F.LANE_STATUS.STATE k ≠ 5 ∨ s.hopVer k ≠ 0 → exec (.hopVersionFixed k cap) s = .next s)
      ∧ (s.get F.LANE_STATUS.STATE k = 5 → s.hopVer k = 0 → ∃ t : State, exec (.hopVersionFixed k cap) s = .next t ∧ t.hopVer k = v
          ∧ ((∀ i ∈ s.stringCells k, s.holds i 6 = false) → s.regsBut [F.LINK_STR_STATUS.HOP0_VER.addr k] t)
          ∧ (alone → t.get F.LINK_STR_STATUS.STR_VER k ≠ s.get F.LINK_STR_STATUS.STR_VER k → ∀ i ∈ s.stringCells k, t.holds i 6 = false)))

/-- What the device sends to cells, and the timers of the link (R84, R86, R87, R94, R99, R126, R130, R131, R135, R136, R138, R140, R342): a message takes the next HOP_SEQ and is kept for a re-send;
service messages start between the report cutoff and the dispatch slot, a request once a tick and string; it is repeated up to REQ_TRIES times and then counts as a timeout with reason 2; SYNC goes where it is due,
once a tick; a broadcast is kept for the reports to confirm; a CALL of a string whose hop is shut counts and leaves nothing; two matching CALLs end a run; a measurement starts with no samples; admission is
tried again where only reasons it clears hold, and ends by its first failed check. -/
def Obligations.LinkService : Prop :=
  ∀ (s : State) (k : Fin 64), s.canonical →
    let alone := s.mode ≠ 2 ∧ s.twin.serve = none
    let seq := ((s.link k).txSeq + 1) % 256
    let sends := fun (t : State) (m : List Block) => t.wire = s.wire ++ [.cell k (m ++ [checkBlock (s.hopVer k) seq false m])] ∧ (t.link k).txSeq = seq
      ∧ (t.link k).kept = ((seq, false, m) :: (s.link k).kept).take 4 ∧ t.regs = s.regs
    let fresh := fun (t : State) => t.regs = s.regs ∧ (t.link k).measuring = true ∧ (t.link k).devRun = 0 ∧ ∀ i ∈ s.stringCells k, (t.cell i).rttN = 0
    let service := s.tick.reportsOpen = false ∧ s.tick.sent = false
    let room := (s.sched.waiting.filter fun (w : Waiting) => decide (w.source = 9 ∧ w.sub = k.val)).length < 16
    let slot := service ∧ (s.link k).reqTick ≠ some s.tickNo ∧ room
    let goes := fun (bcast : Bool) => s.hopOpen k = true ∧ service ∧ (bcast = false → slot)
    (∀ tx : Stamp,
      let due := (s.link k).syncAt ≠ some s.tickNo ∧ ((∀ a ∈ (s.link k).syncAt, s.tickNo < a ∨ a + s.get F.TIME_STR_CTRL.SYNC_TICKS ≤ s.tickNo)
        ∨ s.flag F.TICK_STAGE.PENDING = true ∨ s.tick.landedAt = some s.tickNo ∨ ∃ u ∈ s.clk.syncUntil, s.tickNo ≤ u)
      (s.declared k = 0 ∨ ¬service ∨ ¬due → exec (.syncSend k tx) s = .next s)
      ∧ (s.declared k ≠ 0 → service → due → s.hopOpen k = false → exec (.syncSend k tx) s = .next (s.setLink k { s.link k with syncAt := some s.tickNo }))
      ∧ (s.declared k ≠ 0 → service → due → s.hopOpen k = true → ∃ t : State, exec (.syncSend k tx) s = .next t ∧ sends t (s.syncMsg tx)
          ∧ (t.link k).syncAt = some s.tickNo)
      ∧ (¬goes false → exec (.echoReqSend k tx) s = .next s)
      ∧ (goes false → ∃ t : State, exec (.echoReqSend k tx) s = .next t ∧ (t.link k).reqTick = some s.tickNo
          ∧ (t.link k).echo = some (((s.link k).echoId + 1) % 16, tx.units) ∧ (t.link k).echoTries = (s.link k).echoTries + 1
          ∧ sends t [mkBlock [(0x50, 56), (1, 52), (s.ownEnd.num, 51), (((s.link k).echoId + 1) % 16, 47)], mkBlock [(tx.ns.toNat, 32), (tx.frac.toNat, 16)]]))
    ∧ (∀ (p : Fin 128) (bcast atTick : Bool) (c : CfgKind) (ahead : Nat),
      let tag := (s.link k).nextTag % 255 + 1
      let m := State.configMsg k (if bcast then 0x7F else p) tag (s.cfgParams k p c) atTick (s.tickNo + ahead)
      (s.declared k ≤ p ∨ atTick = true ∧ s.get F.LINK_STR_STATUS.STR_VER k ≠ 3 → exec (.configSend k p bcast c atTick ahead) s = .next s)
      ∧ (c ≠ .latFrom → ¬goes bcast → exec (.configSend k p bcast c atTick ahead) s = .next s)
      ∧ (p < s.declared k → atTick = false ∨ s.get F.LINK_STR_STATUS.STR_VER k = 3 → c ≠ .latFrom ∨ s.latDeliverable k (s.base k + p) atTick = true →
          goes bcast → ∃ t : State, exec (.configSend k p bcast c atTick ahead) s = .next t ∧ sends t m
            ∧ (t.link k).nextTag = tag
            ∧ (bcast = false → (t.link k).reqTick = some s.tickNo ∧ (t.link k).reqs = (s.link k).reqs ++ [⟨.config c, p, tag, 1, s.tickNo, m⟩])
            ∧ (bcast = true → (t.link k).cast = some ⟨.config c, p, tag, 1, s.tickNo, m⟩ ∧ (t.link k).reqs = (s.link k).reqs)))
    ∧ (∀ (p : Fin 128) (bcast : Bool) (code : Fin 4) (ahead : Nat),
      let tag := (s.link k).nextTag % 255 + 1
      let m := State.testMsg k (if bcast then 0x7F else p) tag code (s.tickNo + ahead)
      (s.declared k ≤ p ∨ s.get F.LINK_STR_STATUS.STR_VER k < 2 ∧ code ≠ 3 ∨ ¬goes bcast → exec (.testSend k p bcast code ahead) s = .next s)
      ∧ (p < s.declared k → 2 ≤ s.get F.LINK_STR_STATUS.STR_VER k ∨ code = 3 → goes bcast →
          ∃ t : State, exec (.testSend k p bcast code ahead) s = .next t ∧ sends t m
            ∧ (bcast = false → (t.link k).reqs = (s.link k).reqs ++ [⟨.test code (s.tickNo + ahead), p, tag, 1, s.tickNo, m⟩])
            ∧ (bcast = true → ∀ i ∈ s.stringCells k, (s.tickNo + ahead, code.val) ∈ (t.cell i).testRuns)))
    ∧ ((∀ r ∈ (s.link k).run, r.sent ≠ none) → (s.link k).run ≠ none ∨ (s.link k).runDue = false → exec (.callSend k) s = .next s)
    ∧ (¬slot → exec (.callSend k) s = .next s)
    ∧ (∀ r : DiscRun, (s.link k).run = some r ∧ r.sent = none ∨ (s.link k).run = none ∧ (s.link k).runDue = true ∧ r = ⟨0, 0, none, [], none⟩ → slot →
        let id := ((s.link k).callId + 1) % 256
        ∃ t : State, exec (.callSend k) s = .next t ∧ (t.link k).run = some ⟨id, r.calls + 1, some s.tickNo, [], r.prev⟩ ∧ (t.link k).runDue = false
          ∧ (t.link k).reqTick = some s.tickNo
          ∧ (s.hopOpen k = true → sends t [mkBlock [(0x70, 56), (s.ownEnd.num, 55), (0, 48), (id, 40), (k, 34)]])
          ∧ (s.hopOpen k = false → { t with links := s.links } = s))
    ∧ (∀ tag : BitVec 8, tag ≠ 0 →
      ((∀ r ∈ (s.link k).reqs, r.tag ≠ tag.toNat) → exec (.requestTimeout k tag) s = .next s)
      ∧ (∀ r ∈ (s.link k).reqs.find? (fun r => r.tag = tag.toNat),
          (r.tries < s.get F.LINK_CTRL.REQ_TRIES → goes false → ∃ t : State, exec (.requestTimeout k tag) s = .next t ∧ sends t r.msg
            ∧ (t.link k).reqs = (s.link k).reqs.map fun x => if x.tag = tag.toNat then { x with tries := x.tries + 1, tick := s.tickNo } else x)
          ∧ (r.tries < s.get F.LINK_CTRL.REQ_TRIES → ¬goes false → exec (.requestTimeout k tag) s = .next s)
          ∧ (s.get F.LINK_CTRL.REQ_TRIES ≤ r.tries → ∃ t : State, exec (.requestTimeout k tag) s = .next t ∧ s.counted t F.LINK_LATE_CNT.TIMEOUT k
              ∧ (t.link k).reqs = (s.link k).reqs.filter (fun x => x.tag ≠ tag.toNat) ∧ (alone → t.holds (s.base k + r.pos) 2 = true))))
    ∧ ((s.link k).echo = none → exec (.requestTimeout k 0) s = .next s)
    ∧ ((s.link k).echo ≠ none → (s.link k).echoTries < s.get F.LINK_CTRL.REQ_TRIES →
        exec (.requestTimeout k 0) s = .next (s.setLink k { s.link k with echo := none }))
    ∧ ((s.link k).echo ≠ none → s.get F.LINK_CTRL.REQ_TRIES ≤ (s.link k).echoTries → ∃ t : State, exec (.requestTimeout k 0) s = .next t
        ∧ s.counted t F.LINK_LATE_CNT.TIMEOUT k ∧ (t.link k).echo = none ∧ (t.link k).echoTries = 0
        ∧ (alone → t.holds (s.atDist k s.ownEnd 0) 2 = true))
    ∧ ((∀ r ∈ (s.link k).run, r.sent = none) → exec (.discWaitExpiry k) s = .next s)
    ∧ (∀ r ∈ (s.link k).run, r.sent ≠ none →
        let found := r.found.mergeSort fun a b => a.1 ≤ b.1
        let res : DiscResult := ⟨r.callId, (found.map fun f => f.1 + 1).foldl max 0, false, found⟩
        let agrees := ∃ q ∈ r.prev, State.sameRun q res = true
        (¬agrees → r.calls < s.get F.CAT_CTRL.DISC_TRIES → exec (.discWaitExpiry k) s
            = .next (s.setLink k { s.link k with run := some { r with sent := none, prev := some res } }))
        ∧ (agrees ∨ s.get F.CAT_CTRL.DISC_TRIES ≤ r.calls → ∃ t : State, exec (.discWaitExpiry k) s = .next t ∧ (t.link k).run = none
            ∧ (alone → t.result k s.ownEnd = some (if agrees then res else { res with unstable := true }))))
    ∧ (∃ t : State, exec .discPeriodExpiry s = .next t ∧ t.regs = s.regs ∧ t.cells = s.cells
        ∧ ∀ j : Fin 64, (t.link j).runDue = ((s.link j).runDue || decide (j.val ∈ s.strings)))
    ∧ (s.declared k = 0 → exec (.remeasPeriodExpiry k) s = .next s)
    ∧ (s.declared k ≠ 0 → ∃ t : State, exec (.remeasPeriodExpiry k) s = .next t ∧ fresh t)
    ∧ ((s.link k).devRun < 4 → exec (.scheduleDeviation k) s = .next s)
    ∧ (4 ≤ (s.link k).devRun → ∃ t : State, exec (.scheduleDeviation k) s = .next t ∧ fresh t)
    ∧ ((s.link k).measuring = false → exec (.latencyMeasured k) s = .next s)
    ∧ ((s.link k).measuring = true → ∃ t : State, exec (.latencyMeasured k) s = .next t ∧ (t.link k).measuring = false ∧ (t.link k).devRun = 0
        ∧ (s.mode = 2 → ∃ x ∈ t.twin.changes, x.2 = .lat k s.ownEnd ((List.range (s.reach k s.ownEnd)).map fun d => s.sampledLat k d)))
    ∧ ((∀ i ∈ s.allCells, i < 6144) → ∃ t : State, exec .admitRetryExpiry s = .next t
        ∧ (∀ i ∈ s.allCells, s.cellDeblocked i = true → t.svc i = s.svc i ∧ t.cell i = s.cell i)
        ∧ (∀ i ∈ s.allCells, s.cellDeblocked i = false → s.svc i = 3 → (s.cell i).reasons &&& State.fullMask true = (s.cell i).reasons →
            t.svc i = 1 ∧ (t.cell i).adm = .full ∧ (t.cell i).reasons = 0))
    ∧ (∀ i : Fin 6144,
      (s.svc i ≠ 1 ∨ (s.cell i).adm = .none → exec (.admissionComplete i) s = .next s)
      ∧ (s.svc i = 1 → (s.cell i).adm = .full → alone → s.admissionCode i ≠ 0 → s.admissionCode i < 17 → (s.cell i).reasons = 0 →
          ∃ t : State, exec (.admissionComplete i) s = .next t ∧ t.svc i = 3 ∧ (t.cell i).reasons = 2 ^ s.admissionCode i
            ∧ t.get F.CAT_ENTRY_W2.REASON i = s.admissionCode i ∧ s.counted t F.CAT_COUNTS.EXCL_CNT)
      ∧ (s.svc i = 1 → (s.cell i).adm = .full → alone → s.admissionCode i = 0 → ∃ t : State, exec (.admissionComplete i) s = .next t ∧ t.svc i = 2
            ∧ (t.cell i).adm = .none ∧ (t.cell i).admitted = true ∧ s.counted t F.CAT_COUNTS.ADMIT_CNT))

/-- The station ports (R313, R315, R317, R320, R323, R325, R326, R327): a message no kind of which is right, or of no held session, is discarded and counted; an OPEN
gives the lowest free slot, and a session ends by CLOSE or its timeout; an order in sequence is journaled, and a repeated, a missing or an uncredited one has its own
counter and answer; a subscription takes its stream; management access asks for a session of version 3, its TAG and a rising SEQ; PAUSE stands while its cause does. -/
def Obligations.StationSessions : Prop :=
  ∀ (s : State) (p : Fin 4) (src : NetAddr) (raw : List Byte), s.canonical →
    let drop := [(F.STN_PORT_CNT.RX_DROP, p.val, min F.STN_PORT_CNT.RX_DROP.max (s.get F.STN_PORT_CNT.RX_DROP p + 1))]
    let bad := [(F.STN_PORT_CNT.MSG_BAD, p.val, min F.STN_PORT_CNT.MSG_BAD.max (s.get F.STN_PORT_CNT.MSG_BAD p + 1))]
    let sends := fun (w : List Wire) => { s with wire := s.wire ++ w }
    let reply := fun (m : StnIn) (kind seq : Nat) (body : List Nat) => Wire.station p (s.vlan p) src (stnMsg m.ver kind m.tag seq body [])
    let inSess := fun (k : Nat) => s.setSess k { s.sess k with src := src, port := p }
    let on := s.flag F.STN_PORT_CTRL.SESS_EN p = true
    let serving := s.mode ≠ 1 ∧ s.mode ≠ 5 ∧ s.isReady = true
    let here := fun (k : Nat) => s.mode ≠ 2 ∨ s.sessHome k = true
    (∀ c ∈ [(0x01, exec (.openSession p src raw) s), (0x03, exec (.closeSession p src raw) s), (0x10, exec (.order p src raw) s),
            (0x20, exec (.subscribe p src raw) s), (0x30, exec (.mgmtRead p src raw) s), (0x31, exec (.mgmtWrite p src raw) s)],
      (¬on → s.setsOnly drop c.2)
      ∧ (on → (∀ m ∈ readStn raw, m.kind ≠ c.1) → s.setsOnly bad c.2)
      ∧ (on → c.1 ≠ 0x01 → c.1 ≠ 0x10 → ∀ m ∈ readStn raw, m.kind = c.1 → s.slotOf m.tag = none → s.setsOnly bad c.2))
    ∧ (∀ isMsg : Bool, s.setsOnly (if isMsg then bad else drop) (exec (.stnFrameDiscard p isMsg) s))
    ∧ (∀ ip : Word,
      (ip ≠ s.reg (F.STN_PORT_IP.IPV4.addr p) → s.setsOnly drop (exec (.arpRequest p ip src) s) ∧ s.setsOnly drop (exec (.icmpEcho p ip src raw) s))
      ∧ (ip = s.reg (F.STN_PORT_IP.IPV4.addr p) →
          exec (.arpRequest p ip src) s = .next (sends [.port p (s.vlan p) "ARP_REPLY" [s.portMac p, ip.toNat, src.mac.toNat, src.ip.toNat]])
          ∧ exec (.icmpEcho p ip src raw) s = .next (sends [.port p (s.vlan p) "ICMP_ECHO_REPLY" ([s.portMac p, ip.toNat, src.mac.toNat, src.ip.toNat] ++ fromBytes raw)])))
    ∧ (on → ∀ m ∈ readStn raw, m.kind = 0x01 → m.body.length = 8 →
        let lo := fieldAt m.body 0 1
        let hi := fieldAt m.body 1 1
        let first := fieldAt m.body 2 6
        let home := if s.mode = 0 then 2 else if s.junior then 1 else 0
        let refused := fun (reason : Nat) => sends [reply m 0x02 0 (s.openAckBody m.ver 0 home reason 0 0 0)]
        (s.mode = 1 ∨ s.mode = 5 → exec (.openSession p src raw) s = .next (sends [reply m 0x12 m.seq (Crc.bytesBE 6 0 ++ [3])]))
        ∧ (s.mode ≠ 1 → s.mode ≠ 5 → s.isReady = false → exec (.openSession p src raw) s = .next (refused 6))
        ∧ (serving → min hi 3 < max lo 1 → exec (.openSession p src raw) s = .next (refused 4))
        ∧ (serving → max lo 1 ≤ min hi 3 → s.mode ≠ 4 → m.tag = 0 → s.heldSlots.length = 4 → exec (.openSession p src raw) s = .next (refused 3))
        ∧ (serving → max lo 1 ≤ min hi 3 → s.mode ≠ 4 → m.tag = 0 → ∀ k : Fin 4, s.sessTag k = 0 → (∀ j : Fin 4, j.val < k.val → s.sessTag j ≠ 0) →
            ∃ t : State, exec (.openSession p src raw) s = .next t ∧ t.sessTag k ≠ 0 ∧ (∀ j : Fin 4, j ≠ k → t.sessTag j = s.sessTag j ∧ t.sessTag j ≠ t.sessTag k)
              ∧ t.sessVer k = min hi 3 ∧ t.sessHome k = true ∧ t.expected k = first ∧ t.applied k = first - 1
              ∧ (t.sess k).src = src ∧ (t.sess k).port = p
              ∧ (s.mode ≠ 2 → t.wire = s.wire ++ [.station p (s.vlan p) src (stnMsg (min hi 3) 0x02 (t.sessTag k) 0
                  (s.openAckBody (min hi 3) k home 0 first (first - 1) (t.credit k)) [])]))
        ∧ (serving → max lo 1 ≤ min hi 3 → m.tag ≠ 0 → ∀ k ∈ s.slotOf m.tag, here k → ∃ t : State, exec (.openSession p src raw) s = .next t
            ∧ t.sessTag k = m.tag ∧ t.sessVer k = min hi 3 ∧ t.expected k = s.expected k ∧ t.applied k = s.applied k))
    ∧ (∀ k : Fin 4,
      let ends := fun (t : State) => t.sessTag k = 0 ∧ t.get F.STN_SESS_STATUS.CREDIT k = 0 ∧ t.expected k = 0 ∧ t.applied k = 0
        ∧ (∀ n : Fin 16, ∀ x ∈ AMap.read (fun _ => none) t.stn.tele n, x.slot ≠ k) ∧ t.stn.journal = s.stn.journal
        ∧ s.regsBut [F.STN_SESS_STATUS.TAG.addr k, F.STN_SESS_EXP_LO.VALUE.addr k, F.STN_SESS_EXP_HI.VALUE.addr k, F.STN_SESS_APPL_LO.VALUE.addr k,
            F.STN_SESS_APPL_HI.VALUE.addr k] t
      (s.sessTag k = 0 ∨ ¬here k → exec (.sessionTimeout k) s = .next s)
      ∧ (s.sessTag k ≠ 0 → s.mode ≠ 2 → ∃ t : State, exec (.sessionTimeout k) s = .next t ∧ ends t)
      ∧ (on → ∀ m ∈ readStn raw, m.kind = 0x03 → s.slotOf m.tag = some k.val → m.ver ≤ s.sessVer k → s.sessTag k ≠ 0 → s.mode ≠ 2 →
          ∃ t : State, exec (.closeSession p src raw) s = .next t ∧ ends t))
    ∧ (on → ∀ m ∈ readStn raw, m.kind = 0x10 → ∀ k ∈ s.slotOf m.tag, k < 4 → m.ver ≤ s.sessVer k →
        let e := s.expected k
        let ofs := if s.sessVer k = 1 then 0 else 8
        let nak := fun (code : Nat) => (inSess k).emit (reply m 0x12 m.seq (Crc.bytesBE 6 e ++ [code]))
        let judged := serving ∧ here k ∧ ofs + 4 ≤ m.body.length
        (ofs + 4 ≤ m.body.length → s.mode = 1 ∨ s.mode = 5 → exec (.order p src raw) s = .next (nak 3))
        ∧ (ofs + 4 ≤ m.body.length → s.mode ≠ 1 → s.mode ≠ 5 → s.isReady = false → exec (.order p src raw) s = .next (nak 4))
        ∧ (ofs + 4 ≤ m.body.length → serving → ¬here k → exec (.order p src raw) s = .next (nak 2))
        ∧ (judged → m.seq < e → ∃ t : State, exec (.order p src raw) s = .next t ∧ s.counted t F.STN_SESS_CNT.DUP_CNT k ∧ t.stn.journal = s.stn.journal
            ∧ t.expected k = e ∧ t.wire = s.wire ++ [.station p (s.vlan p) src (stnMsg (s.sessVer k) 0x11 m.tag (s.sess k).accepted
                (Crc.bytesBE 6 (s.sess k).accepted ++ Crc.bytesBE 2 (if s.sessVer k = 1 ∨ s.stnStalled = true then 0 else s.credit k)) [])])
        ∧ (judged → e < m.seq → ∃ t : State, exec (.order p src raw) s = .next t ∧ s.counted t F.STN_SESS_CNT.GAP_CNT k ∧ t.stn.journal = s.stn.journal
            ∧ t.expected k = e ∧ t.wire = s.wire ++ (if (s.sess k).nakTick = some s.tickNo then [] else [reply m 0x12 m.seq (Crc.bytesBE 6 e ++ [1])]))
        ∧ (judged → m.seq = e → s.credit k = 0 ∨ s.mode = 4 → ∃ t : State, exec (.order p src raw) s = .next t ∧ s.counted t F.STN_SESS_CNT.OVER_CNT k
            ∧ s.counted t F.STN_PORT_CNT.PAUSE_TX p ∧ t.stn.journal = s.stn.journal ∧ t.expected k = e
            ∧ t.wire = s.wire ++ [.port p none "PAUSE" [s.get F.STN_CTRL2.PAUSE_QUANTA]])
        ∧ (judged → m.seq = e → s.credit k ≠ 0 → s.mode ≠ 4 → e = 2 ^ 48 - 1 → exec (.order p src raw) s = .next (nak 5))
        ∧ (judged → m.seq = e → s.credit k ≠ 0 → s.mode ≠ 4 → e < 2 ^ 48 - 1 →
            let first := s.tickNo + (if s.mode = 2 then 3 else 2)
            let req := if ofs = 0 then 0 else fieldAt m.body 0 8
            ∃ t : State, exec (.order p src raw) s = .next t ∧ t.expected k = e + 1
              ∧ (∃ o : JOrder, t.stn.journal = s.stn.journal ++ [o] ∧ o.slot = k ∧ o.tag = m.tag ∧ o.seq = e
                  ∧ o.apply = (if s.tickNo + 65536 < req then first else max req first) ∧ o.tooFar = decide (s.tickNo + 65536 < req)
                  ∧ o.code = fieldAt m.body ofs 1 ∧ o.count = fieldAt m.body (ofs + 1) 1 ∧ fromBytes o.items = (m.body.drop (ofs + 4)).map (· % 256))
              ∧ (s.mode ≠ 2 → s.sessTag k = m.tag → (t.sess k).accepted = max (s.sess k).accepted e ∧ (t.sess k).ackDue = true)))
    ∧ (on → ∀ m ∈ readStn raw, m.kind = 0x20 → ∀ k ∈ s.slotOf m.tag, m.ver ≤ s.sessVer k → 2 ≤ s.sessVer k → s.sessHome k = true →
        let n := fieldAt m.body 0 1
        let cnt := if fieldAt m.body 1 1 = 0 then 256 else fieldAt m.body 1 1
        let dec := fieldAt m.body 2 2
        let items := (List.range cnt).map fun j => fieldAt m.body (4 + 2 * j) 2
        (n < 16 → m.body.length = 4 + 2 * cnt → dec % 2 ^ 15 ≠ 0 → AMap.read (fun _ => none) s.stn.tele n = none →
          (s.stn.tele.filter fun x => x.2.any fun y => y.slot = k).length < 4 →
          ∃ t : State, exec (.subscribe p src raw) s = .next t ∧ t.regs = s.regs ∧ AMap.read (fun _ => none) t.stn.tele n
            = if items.any (fun i => decide (i < 4096)) then some ⟨k, items, dec % 2 ^ 15, decide (2 ^ 15 ≤ dec), src, p, 0⟩ else none)
        ∧ (dec % 2 ^ 15 = 0 → ∃ t : State, exec (.subscribe p src raw) s = .next t ∧ s.counted t F.STN_PORT_CNT.MSG_BAD p ∧ t.stn.tele = s.stn.tele))
    ∧ (on → ∀ c ∈ [(0x30, exec (.mgmtRead p src raw) s), (0x31, exec (.mgmtWrite p src raw) s)], ∀ m ∈ readStn raw, m.kind = c.1 → ∀ k ∈ s.slotOf m.tag,
        let n := fieldAt m.body 2 2
        let tagged := s.mgmtTag (fieldAt m.body 0 1) m.signed = some m.auth
        let here := s.sessVer k = 3 ∧ m.ver ≤ 3 ∧ here k
        (s.sessVer k ≠ 3 → s.setsOnly bad c.2)
        ∧ (here → ¬tagged → s.setsOnly [(F.STN_AUTH_CNT.AUTH_FAIL, 0, min F.STN_AUTH_CNT.AUTH_FAIL.max (s.get F.STN_AUTH_CNT.AUTH_FAIL + 1))] c.2)
        ∧ (here → tagged → m.seq ≤ (s.sess k).mgmtSeq →
            s.setsOnly [(F.STN_CTRL2.REPLAY, 0, min F.STN_CTRL2.REPLAY.max (s.get F.STN_CTRL2.REPLAY + 1))] c.2)
        ∧ (here → tagged → (s.sess k).mgmtSeq < m.seq → n = 1 → m.body.length = (if c.1 = 0x30 then 8 else 12) →
            let a := fieldAt m.body 4 4
            let u := s.setSess k { s.sess k with src := src, port := p, mgmtSeq := m.seq }
            let r := if c.1 = 0x30 then u.mgmtRead (8 + k) a else let w := u.mgmtWrite (8 + k) a (BitVec.ofNat 32 (fieldAt m.body 8 4)); (w.1, 0, w.2)
            let body := [0, 1, 0, 0, r.1, 0, 0, 0] ++ (if c.1 = 0x30 then Crc.wordBytes r.2.1 else [])
            c.2 = .next (r.2.2.emit (.station p (r.2.2.vlan p) src (stnMsg m.ver 0x32 m.tag m.seq body
              ((r.2.2.mgmtTag (fieldAt m.body 0 1) (stnHead m.ver 0x32 m.tag m.seq body)).getD []))))))
    ∧ (∀ full : Bool,
      let cause := full = true ∨ s.stnStalled = true ∨ ∃ k : Fin 4, (p.val, k.val) ∈ s.stn.starved ∧ (s.credit k = 0 ∨ s.mode = 4)
      let paused := fun (t : State) (quanta : Nat) => t.wire = s.wire ++ [.port p none "PAUSE" [quanta]] ∧ s.counted t F.STN_PORT_CNT.PAUSE_TX p
      (∀ e ∈ s.stn.starved, e.2 < 4) →
      (cause → ∃ t : State, exec (.pauseRepeat p full) s = .next t ∧ paused t (s.get F.STN_CTRL2.PAUSE_QUANTA) ∧ p.val ∈ t.stn.pause)
      ∧ (¬cause → p.val ∈ s.stn.pause → ∃ t : State, exec (.pauseRepeat p full) s = .next t ∧ paused t 0 ∧ p.val ∉ t.stn.pause)
      ∧ (¬cause → p.val ∉ s.stn.pause → ∃ t : State, exec (.pauseRepeat p full) s = .next t ∧ t.regs = s.regs ∧ t.wire = s.wire))
    ∧ (s.get F.BOOT_STATUS.STEP < 6 → exec .beaconSend s = .next s)
    ∧ (6 ≤ s.get F.BOOT_STATUS.STEP → ∃ t : State, exec .beaconSend s = .next t ∧ t.regs = s.regs
        ∧ ∃ l, t.wire = s.wire ++ l
          ∧ (∀ q : Fin 4, s.flag F.STN_PORT_CTRL.BCAST q = true → ∃ w ∈ l, w = .station q (s.vlan q) ⟨0xFFFFFFFFFFFF#48, 0xFFFFFFFF#32, BitVec.ofNat 16 (s.get F.STN_CTRL.ORDER_PORT)⟩
              (stnMsg 1 0x22 0 s.stn.beacons s.beaconBody []))
          ∧ (∀ k : Fin 4, s.sessTag k ≠ 0 → (s.sess k).src ≠ ⟨0, 0, 0⟩ → 1 ≤ s.sessVer k →
              Wire.station (s.sess k).port (s.vlan (s.sess k).port) (s.sess k).src (stnMsg (s.sessVer k) 0x22 0 s.stn.beacons s.beaconBody []) ∈ l))

/-- Station orders as they apply, but for the vitrine's (R138, R139, R141, R146, R176, R242, R252, R255, R262, R266, R324): a setpoint reaches an entry of kind STATION only;
DEBLOCK is refused under Safe Block and where the life cycle, interlocks or MIN_CELLS forbid it, BLOCK never; a context changes its mode where R252 lets it and keeps it
otherwise; an INJ_STOP that lands with the run of completion still to come changes nothing but ALREADY_DONE; a cell order reaches declared cells only; PARAM writes the LIVE fields
its mask covers, within their ranges, whole or not at all; in DECOMMISSIONED all but DEBLOCK and BLOCK find their targets locked and leave the state as it is. -/
def Obligations.StationOrders : Prop :=
  ∀ (s : State), s.canonical →
    let up := s.get F.LC_STATE.STATE ≠ 5
    (¬up → (∀ (idx : Fin 4096) (v : Word), exec (.orderSetpoint idx v) s = .next s)
      ∧ (∀ c : Fin 192, exec (.orderCtxOff c) s = .next s ∧ exec (.orderCtxLive c) s = .next s ∧ exec (.orderCtxShadow c) s = .next s
        ∧ exec (.orderCtxPromote c) s = .next s ∧ exec (.orderCtxFaultReset c) s = .next s ∧ exec (.orderInjStart c) s = .next s
        ∧ exec (.orderInjStop c) s = .next s)
      ∧ (∀ (i : Fin 6144) (v : Word), exec (.orderCellExclude i) s = .next s ∧ exec (.orderCellRelease i) s = .next s
        ∧ exec (.orderCellRetire i) s = .next s ∧ exec (.orderGradeReset i) s = .next s ∧ exec (.orderWearSet i v) s = .next s))
    ∧ (up → ∀ (idx : Fin 4096) (v : Word),
      (s.sigKind idx ≠ 6 → exec (.orderSetpoint idx v) s = .next s)
      ∧ (s.sigKind idx = 6 → ∃ t : State, exec (.orderSetpoint idx v) s = .next t ∧ t.sig idx = v ∧ t.sigOk idx = true
          ∧ (∀ j : Fin 4096, j ≠ idx → t.sig j = s.sig j ∧ t.sigOk j = s.sigOk j) ∧ { t with regs := s.regs } = s))
    ∧ (∀ mask : BitVec 16,
      let lc := s.get F.LC_STATE.STATE
      let named := fun (a : Nat) => a ∈ s.declaredArms ∧ mask.getLsbD a = true
      let short := ∃ a : Fin 16, named a ∧ (s.arm a).deblocked = false ∧ s.get F.CAT_ARM.AVAIL a < s.get F.CAT_ARM.MIN_CELLS a
      let shut := s.flag F.SAFE_STATUS.SBK = true ∨ lc = 0 ∨ lc = 1 ∨ lc = 5 ∨ s.boot.armed ≠ none ∨ s.cur.ilpReq = true
        ∨ s.flag F.SAFE_STATUS.ILP_GRANTED = true ∨ short
      (shut → exec (.orderDeblock mask) s = .next s)
      ∧ (¬shut → ∃ t : State, exec (.orderDeblock mask) s = .next t
          ∧ ∀ a : Fin 16, (named a → (t.arm a).deblocked = true) ∧ (¬named a → (t.arm a).deblocked = (s.arm a).deblocked)
            ∧ (named a → (s.arm a).deblocked = false → (t.arm a).set = [] ∧ (t.arm a).carry = 0))
      ∧ (∃ t : State, exec (.orderBlock mask) s = .next t
          ∧ ∀ a : Fin 16, (named a → (t.arm a).deblocked = false) ∧ (¬named a → (t.arm a).deblocked = (s.arm a).deblocked)
            ∧ (named a → (s.arm a).deblocked = true → (t.arm a).set = [] ∧ (t.arm a).carry = 0)))
    ∧ (up → ∀ c : Fin 192,
      let old := s.ctxModeOf c
      let able := s.ctxDeclared c = true ∧ s.ctxFaulted c = false
      let moves := fun (o : Host.Outcome State Fault Refusal) (m : Nat) => ∃ t : State, o = .next t ∧ t.ctxModeOf c = m
        ∧ (m ≠ 0 → (t.ctx c).started = false) ∧ (∀ i ∈ s.outs c, i < 4096 → m = 2 → s.sigKind i = 5 → t.sigOk i = true) ∧ (∀ i ∈ s.outs c, i < 4096 → m = 0 → t.sigOk i = false)
        ∧ (∀ b : Fin 192, b ≠ c → t.ctxModeOf b = s.ctxModeOf b)
        ∧ (s.get F.CTX_INJ_STATUS.STATE c = 1 ∨ s.get F.CTX_INJ_STATUS.STATE c = 2 → t.get F.CTX_INJ_STATUS.STATE c = 3 ∧ t.get F.CTX_INJ_STATUS.END c = 3)
      (old < 3 →
        (able → old = 2 ∨ old = 1 ∧ s.ctxArmed c = false → moves (exec (.orderCtxOff c) s) 0)
        ∧ (¬able ∨ old = 0 ∨ old = 1 ∧ s.ctxArmed c = true → exec (.orderCtxOff c) s = .next s)
        ∧ (able → old = 0 → s.ctxSealed c = true → s.ctxArmed c = false → moves (exec (.orderCtxLive c) s) 1)
        ∧ (¬able ∨ old ≠ 0 ∨ s.ctxSealed c = false ∨ s.ctxArmed c = true → exec (.orderCtxLive c) s = .next s)
        ∧ (able → old = 0 → s.ctxSealed c = true → moves (exec (.orderCtxShadow c) s) 2)
        ∧ (¬able ∨ old ≠ 0 ∨ s.ctxSealed c = false → exec (.orderCtxShadow c) s = .next s))
      ∧ (s.partner c = none → exec (.orderCtxPromote c) s = .next s)
      ∧ (∀ a ∈ s.partner c,
          let can := old = 2 ∧ s.ctxModeOf a = 1 ∧ s.ctxFaulted a = false ∧ s.ctxFaulted c = false ∧ s.ctxSealed c = true
          (¬can → exec (.orderCtxPromote c) s = .next s)
          ∧ (can → ∃ t : State, exec (.orderCtxPromote c) s = .next t ∧ t.ctxModeOf c = 1 ∧ t.ctxModeOf a = 2 ∧ t.get F.CTX_CTRL.CMP_CTX c = a
              ∧ t.get F.CTX_CTRL.ORDER c = s.get F.CTX_CTRL.ORDER a ∧ t.get F.CTX_CTRL.ORDER a = s.get F.CTX_CTRL.ORDER c
              ∧ (∀ j : Fin 8, t.reg (F.CTX_OUT.INDEX_EVEN.addr c j) = s.reg (F.CTX_OUT.INDEX_EVEN.addr a j)
                  ∧ t.reg (F.CTX_OUT.INDEX_EVEN.addr a j) = s.reg (F.CTX_OUT.INDEX_EVEN.addr c j))))
      ∧ (s.ctxFaulted c = false → exec (.orderCtxFaultReset c) s = .next s)
      ∧ (s.ctxFaulted c = true → ∃ t : State, exec (.orderCtxFaultReset c) s = .next t ∧ t.ctxFaulted c = false ∧ t.get F.CTX_STATUS.CAUSE c = 0
          ∧ t.get F.CTX_STATUS.LOST_CNT c = 0 ∧ t.get F.CTX_INPUTS.FROZEN_IN c = 0 ∧ t.ctx c = { s.ctx c with started := false, frz := [], fe := [] }
          ∧ t.ctxModeOf c = old)
      ∧ (let st := s.get F.CTX_INJ_STATUS.STATE c
         let lc := s.get F.LC_STATE.STATE
         let legal := able ∧ st ≠ 1 ∧ st ≠ 2 ∧ (old = 1 ∧ (lc = 2 ∨ lc = 4) ∨ old = 2 ∧ (lc = 2 ∨ lc = 3 ∨ lc = 4))
         (¬legal → exec (.orderInjStart c) s = .next s)
         ∧ (legal → ∃ t : State, exec (.orderInjStart c) s = .next t
             ∧ s.regsAs [(F.CTX_INJ_STATUS.STATE, c, 1), (F.CTX_INJ_STATUS.END, c, 0), (F.CTX_INJ_STATUS.POSITION, c, 0)] t
             ∧ t.ctx c = { s.ctx c with injAt := s.tickNo, injM := 0, injPhi := 0, injOmega := s.get F.CTX_INJ_F0.VALUE c, prbs := 0x7FFF, prbsRuns := 0 })
         -- the run of completion, still to come in this tick
         ∧ (let last := s.tick.stage = .idle ∧ s.ctxSlot c = true ∧ (st = 1 → (s.ctx c).injAt ≤ s.tickNo) ∧ ¬(s.shadowSkip = true ∧ old = 2) ∧ s.get F.CTX_INJ_CTRL.DURATION c ≤ (s.ctx c).injM + 1
            (st = 1 ∨ st = 2 → last → s.setsOnly [(F.CTX_INJ_STATUS.ALREADY_DONE, c, 1)] (exec (.orderInjStop c) s))
            ∧ (st = 1 ∨ st = 2 → ¬last → s.setsOnly [(F.CTX_INJ_STATUS.STATE, c, 3), (F.CTX_INJ_STATUS.END, c, 2)] (exec (.orderInjStop c) s)))
         ∧ (st ≠ 1 → st ≠ 2 → s.setsOnly [(F.CTX_INJ_STATUS.ALREADY_DONE, c, 1)] (exec (.orderInjStop c) s))))
    ∧ (up → ∀ (i : Fin 6144) (v : Word),
      let known := s.inCatalogue i = true
      (¬known → exec (.orderCellExclude i) s = .next s ∧ exec (.orderCellRelease i) s = .next s ∧ exec (.orderCellRetire i) s = .next s
        ∧ exec (.orderGradeReset i) s = .next s ∧ exec (.orderWearSet i v) s = .next s)
      ∧ (known → s.holds i 16 = true → exec (.orderCellExclude i) s = .next s)
      ∧ (known → s.holds i 16 = false → ∃ t : State, exec (.orderCellExclude i) s = .next t ∧ (t.cell i).reasons = withBit (s.cell i).reasons 16
          ∧ t.get F.CAT_ENTRY_W2.REASON i = lowestCode (withBit (s.cell i).reasons 16)
          ∧ t.svc i = (if s.svc i = 1 ∨ s.svc i = 2 then 3 else s.svc i) ∧ ∀ j : Fin 6144, j ≠ i → t.svc j = s.svc j ∧ t.cell j = s.cell j)
      ∧ (known → ∃ t : State, exec (.orderCellRelease i) s = .next t ∧ t.holds i 15 = false ∧ t.holds i 16 = false
          ∧ ∀ j : Fin 6144, j ≠ i → t.svc j = s.svc j ∧ t.cell j = s.cell j)
      ∧ (known → ∃ t : State, exec (.orderCellRetire i) s = .next t ∧ t.svc i = 4 ∧ (s.svc i = 2 → t.get F.CAT_ARM.AVAIL (s.cellArm i)
            = (s.get F.CAT_ARM.AVAIL (s.cellArm i) - 1)) ∧ ∀ j : Fin 6144, j ≠ i → t.svc j = s.svc j ∧ t.cell j = s.cell j)
      ∧ (known → s.holds i 14 = false → ∃ t : State, exec (.orderGradeReset i) s = .next t
          ∧ t.inst i = { s.inst i with grade := 0, exc := 0, frz := 0, goodRun := 0, movedAt := some s.tickNo }
          ∧ s.regsAs (zeroed [F.CAT_ENTRY_W2.HEALTH, F.OBS_CELL_W2.GRADE, F.OBS_CELL_W2.EXC_CNT, F.OBS_CELL_W2.FRZ_CNT] i) t)
      ∧ (known → s.holds i 14 = true → ∃ t : State, exec (.orderGradeReset i) s = .next t ∧ t.holds i 14 = false ∧ (t.inst i).grade = 0)
      ∧ (known → (s.arm (s.cellArm i)).deblocked = true → exec (.orderWearSet i v) s = .next s)
      ∧ (known → (s.arm (s.cellArm i)).deblocked = false → s.setsOnly [(F.CAT_ENTRY_W3.WEAR, i, v.toNat)] (exec (.orderWearSet i v) s)))
    ∧ (∀ (a value mask : Word) (d : RegDesc) (i : Nat), plainAt a.toNat d i →
      let new := (s.reg a.toNat &&& ~~~mask) ||| (value &&& mask)
      let fs := d.fields.filter fun f => bits mask.toNat f.hi f.lo != 0
      let legal := s.get F.LC_STATE.STATE ≠ 5 ∧ ∀ f ∈ fs, f.lock = .live ∧ f.inRange (f.val new) = true
      (¬legal → fs ≠ [] → exec (.orderParam a value mask) s = .next s)
      ∧ (legal → fs ≠ [] → exec (.orderParam a value mask) s = .next (s.setReg a.toNat (fs.foldl (fun w f => f.put w (f.val new)) (s.reg a.toNat)))))

/-- The vitrine's operations by order (R360, R361, R363, R369, R371): as by management, but that a trigger's instant is the opening of the compute window, that a refused operation
leaves the state as it is, and that in DECOMMISSIONED every order does. -/
def Obligations.RecordOrders : Prop :=
  ∀ (s : State), s.canonical →
    let up := s.get F.LC_STATE.STATE ≠ 5
    (¬up → (∀ caps : BitVec 8, exec (.recordTrigger caps) s = .next s)
      ∧ (∀ c : Fin 8, exec (.recordArm c) s = .next s ∧ exec (.recordDisarm c) s = .next s ∧ exec (.recordAbort c) s = .next s)
      ∧ (∀ d : Fin 64, exec (.recordOffload d) s = .next s ∧ exec (.recordRelease d) s = .next s) ∧ exec .recordThaw s = .next s)
    ∧ (up → ∀ caps : BitVec 8, exec (.recordTrigger caps) s = .next { s with vit := { s.vit with manual := match s.vit.manual with
        | some x => some (x.1 ||| caps.toNat, x.2)
        | none => some (caps.toNat, (s.cutoffNs + 350) * 32) } })
    ∧ (up → ∀ c : Fin 8,
      let free := ∃ k ∈ List.range (s.get F.CAP_STATUS.SLOTS c), k ∉ s.usedSlots c
      let ready := s.flag F.CAP_CTRL.ENABLE c = true ∧ s.flag F.REC_STATUS.WIPE_DONE = true
      let inHand := (s.cap c).dir ≠ none ∧ (s.capState c = 3 ∨ s.capSession c = true ∧ (s.capState c = 2 ∨ s.capState c = 4))
      (¬ready → exec (.recordArm c) s = .next s)
      ∧ (ready → s.capState c ∈ [2, 3, 4] → exec (.recordArm c) s = .next (s.setCap c { s.cap c with off := false }))
      ∧ (ready → s.capState c ∉ [2, 3, 4] → s.capSession c = false → ∃ t : State, exec (.recordArm c) s = .next t
          ∧ s.regsAs [(F.CAP_STATUS.STATE, c, if free then 2 else 5)] t ∧ (t.cap c).ring = [] ∧ (t.cap c).off = false)
      ∧ (s.capState c = 2 ∨ s.capState c = 5 → s.capSession c = false → ∃ t : State, exec (.recordDisarm c) s = .next t
          ∧ s.regsAs [(F.CAP_STATUS.STATE, c, 6)] t ∧ t.cap c = { s.cap c with ring := [], off := true } ∧ t.vit.dir = s.vit.dir)
      ∧ (s.capState c = 3 → s.capSession c = false → exec (.recordDisarm c) s = .next (s.setCap c { s.cap c with off := true }))
      ∧ (¬inHand → s.setsOnly [(F.CAP_STATUS.ALREADY_DONE, c, 1)] (exec (.recordAbort c) s))
      ∧ (s.capState c = 3 → s.capSession c = false → ∀ d ∈ (s.cap c).dir, d < 64 → ∀ r ∈ s.dirRec d, ∃ t : State, exec (.recordAbort c) s = .next t
          ∧ t.dirState d = 2 ∧ t.get F.DIR_W0.FLAGS d = (s.get F.DIR_W0.FLAGS d &&& 0xFF) ||| 16
          ∧ (∃ q ∈ t.dirRec d, q.stop = s.stopIndex r ∧ q.rows = r.rows) ∧ (r.cap < 8 → s.counted t F.CAP_CNT2.RECORDS r.cap) ∧ (t.cap c).dir = none))
    ∧ (up → ∀ d : Fin 64,
      (s.dirState d = 0 ∨ s.dirState d = 1 → exec (.recordOffload d) s = .next s)
      ∧ (s.dirState d ≠ 0 → s.dirState d ≠ 1 → s.setsOnly [(F.DIR_W0.STATE, d, 4),
          (F.REC_STATUS.FREE_DIR, 0, min 63 ((List.range 64).filter fun e => s.dirState e = 0).length),
          (F.REC_WIN_POS.DIR, 0, d), (F.REC_WIN_POS.OFFSET, 0, 0)] (exec (.recordOffload d) s))
      ∧ (s.dirState d = 1 → exec (.recordRelease d) s = .next s)
      ∧ (s.dirState d ≠ 1 → (∀ r ∈ s.dirRec d, r.cap < 8 → s.capState r.cap ≠ 5) → ∃ t : State, exec (.recordRelease d) s = .next t
          ∧ t.dirRec d = none ∧ (∀ e : Fin 64, e ≠ d → t.dirRec e = s.dirRec e) ∧ t.vit.caps = s.vit.caps
          ∧ s.regsAs (zeroed [F.DIR_W0.KIND, F.DIR_W0.CAPTURE, F.DIR_W0.FLAGS, F.DIR_W1.VALUE, F.DIR_W2.VALUE, F.DIR_W3.VALUE, F.DIR_W0.STATE] d
              ++ [(F.REC_STATUS.FREE_DIR, 0, min 63 ((List.range 64).filter fun e => e = d.val ∨ s.dirState e = 0).length)]) t))
    ∧ (up → s.flag F.REC_STATUS.FREEZE_REQ = true → exec .recordThaw s = .next s)
    ∧ (up → s.flag F.REC_STATUS.FREEZE_REQ = false → ∃ t : State, exec .recordThaw s = .next t ∧ t.flag F.REC_STATUS.FROZEN = false
        ∧ (∀ c : Fin 8, t.capState c = s.capState c ∨ s.flag F.CAP_CTRL.ENABLE c = true ∧ s.flag F.CAP_CTRL.AUTO_ARM c = true ∧ s.capState c = 6)
        ∧ (∀ d : Fin 64, s.dirState d ≠ 0 → s.dirState d ≠ 1 → ∀ r ∈ s.dirRec d, hasBit r.status 8 = true →
            t.dirRec d = some { r with status := s.get F.DIR_W0.FLAGS d }))

/-- Events of the observer and of the selection engine (R142, R173, R174, R176, R199, R201): a cell whose MISS_CNT has passed MISS_MAX is excluded with reason 13, counted once;
a sensor that has stood still for FREEZE_TICKS freezes its instance and fails the cell with reason 14; a grade moves by the first row of R176 that holds; a pending cell that
has waited COMM_WAIT ticks enters the mask; a pip that has been held PIP_HOLD carriers moves to the next cell that fits, or to none. -/
def Obligations.ObserverAndSelection : Prop :=
  ∀ (s : State) (i : Fin 6144), s.canonical →
    let x := s.inst i
    let rc := s.get F.OBS_CTRL.RES_COUNT
    let lim := s.get F.OBS_CTRL.MISS_MAX + 1
    let live := s.svc i = 1 ∨ s.svc i = 2 ∨ s.svc i = 3
    let excluded := fun (t : State) (c : Nat) => t.holds i c = true ∧ t.get F.CAT_ENTRY_W2.REASON i = lowestCode (withBit (s.cell i).reasons c)
      ∧ t.svc i = (if s.svc i = 1 ∨ s.svc i = 2 then 3 else s.svc i)
    let graded := fun (t : State) (g : Nat) => (t.inst i).grade = g ∧ t.get F.CAT_ENTRY_W2.HEALTH i = g
    let frees := x.init = true ∧ x.frozen = false ∧ s.get F.OBS_CTRL2.FREEZE_TICKS ≤ x.frz
    let fails := x.grade ≠ 3 ∧ 2 * rc ≤ x.exc
    (x.init = true → lim ≤ x.miss → s.holds i 13 = false → live → ∃ t : State, exec (.reportsMissingExclusion i) s = .next t
        ∧ excluded t 13 ∧ s.counted t F.OBS_EXCL_CNT.MISSING ∧ t.inst i = { x with afterMissing := true }
        ∧ ∀ j : Fin 6144, j ≠ i → t.svc j = s.svc j ∧ t.cell j = s.cell j ∧ t.inst j = s.inst j)
    ∧ (x.init = false ∨ x.miss < lim ∨ s.holds i 13 = true ∨ ¬live → exec (.reportsMissingExclusion i) s = .next s)
    ∧ (frees → x.grade ≠ 3 → s.holds i 14 = false → ∃ t : State, exec (.sensorFrozen i) s = .next t ∧ excluded t 14 ∧ graded t 3
        ∧ (t.inst i).frozen = true ∧ (t.inst i).frozenVcap = x.lastVcap ∧ (t.inst i).goodRun = 0
        ∧ s.counted t F.OBS_EVT_CNT.FROZEN ∧ s.counted t F.OBS_EXCL_CNT.FAILED)
    ∧ (frees → x.grade = 3 → s.get F.OBS_CTRL3.RECOVER_TICKS ≠ 0 → ∃ t : State, exec (.sensorFrozen i) s = .next t ∧ (t.inst i).frozen = true
        ∧ (t.inst i).grade = 3 ∧ s.counted t F.OBS_EVT_CNT.FROZEN ∧ t.get F.OBS_EXCL_CNT.FAILED = s.get F.OBS_EXCL_CNT.FAILED)
    ∧ (x.init = false → exec (.gradeChange i) s = .next s)
    ∧ (x.init = true → fails → s.holds i 14 = false → ∃ t : State, exec (.gradeChange i) s = .next t ∧ excluded t 14 ∧ graded t 3
        ∧ (t.inst i).goodRun = 0 ∧ s.counted t F.OBS_EXCL_CNT.FAILED)
    ∧ (x.init = true → ¬fails → x.grade ≤ 1 → rc ≤ x.exc → ∃ t : State, exec (.gradeChange i) s = .next t ∧ graded t 2 ∧ t.cells = s.cells)
    ∧ (x.init = true → ¬fails → x.grade = 0 → x.exc < rc → 64 ≤ x.goodRun → ∃ t : State, exec (.gradeChange i) s = .next t ∧ graded t 1 ∧ t.cells = s.cells)
    ∧ (x.init = true → ¬fails → x.grade = 2 → x.exc = 0 → ∃ t : State, exec (.gradeChange i) s = .next t ∧ graded t 1 ∧ t.cells = s.cells)
    ∧ (x.init = true → x.grade = 3 → s.get F.OBS_CTRL3.RECOVER_TICKS ≤ x.goodRun → ∃ t : State, exec (.gradeChange i) s = .next t ∧ (t.inst i).grade = 1
        ∧ (t.inst i).exc = 0 ∧ t.holds i 14 = false)
    ∧ (x.init = true → ¬fails → (x.grade = 0 ∧ x.exc < rc ∧ x.goodRun < 64) ∨ (x.grade = 1 ∧ x.exc < rc) ∨ (x.grade = 2 ∧ x.exc ≠ 0)
          ∨ (x.grade = 3 ∧ x.goodRun < s.get F.OBS_CTRL3.RECOVER_TICKS) → exec (.gradeChange i) s = .next s)
    ∧ (let a := s.cellArm i
       let m := s.arm a
       let waited := ∃ y ∈ m.pend, y.1 = i.val ∧ s.get F.SEL_ARM_CTRL2.COMM_WAIT a ≤ y.2
       (¬waited → exec (.waitExpired i) s = .next s)
       ∧ (waited → ∃ t : State, exec (.waitExpired i) s = .next t ∧ t.arm a = { m with pend := m.pend.filter fun y => y.1 ≠ i.val }
           ∧ s.regsAs [(F.SEL_ARM_EVT_CNT2.WAIT_EXPIRED, a, min F.SEL_ARM_EVT_CNT2.WAIT_EXPIRED.max (s.get F.SEL_ARM_EVT_CNT2.WAIT_EXPIRED a + 1))] t
           ∧ { t with regs := s.regs, arms := s.arms } = s))
    ∧ (∀ a : Fin 16,
      let m := s.arm a
      let all := s.armCells a
      let due := m.deblocked = true ∧ m.pip ≠ none ∧ s.get F.SEL_ARM_CTRL.PIP_HOLD a ≤ s.get F.SEL_ARM_PIP.PIP_AGE a
      let fits := fun (c : Nat) => s.pipFits a (m.set.map (·.1)) (s.flag F.SEL_ARM_STATUS.PIP_SIGN a) c = true
      let from_ := s.get F.SEL_ARM_PIP.PIP_PTR a % max 1 all.length
      let turned := all.drop from_ ++ all.take from_
      (¬due → exec (.pipMove a) s = .next s)
      ∧ (due → (∀ c ∈ all, ¬fits c) → ∃ t : State, exec (.pipMove a) s = .next t ∧ t.arm a = { m with pip := none }
          ∧ s.regsAs [(F.SEL_ARM_PIP.PIP_INDEX, a, 0)] t)
      ∧ (due → ∀ (before after : List Nat) (c : Nat), turned = before ++ c :: after → (∀ d ∈ before, ¬fits d) → fits c → ∃ t : State, exec (.pipMove a) s = .next t ∧ t.arm a = { m with pip := some c }
          ∧ s.regsAs [(F.SEL_ARM_PIP.PIP_PTR, a, (all.idxOf c + 1) % max 1 all.length), (F.SEL_ARM_PIP.PIP_AGE, a, 0), (F.SEL_ARM_PIP.PIP_INDEX, a, c)] t))
end

