-- ==== Sys2Proof/Laws/AMap.lean ====
section
/-!
SUPPORT. What the sparse maps do: a read after a write, and the canonical form that every write keeps.
-/

namespace Sys2Proof.Machine.AMap

theorem read_put {α : Type} [DecidableEq α] (d : Nat → α) (m : AMap α) (k : Nat) (v : α) (j : Nat)
    (h : AMap.wf d m = true) : AMap.read d (AMap.put d m k v) j = if j = k then v else AMap.read d m j := by
  induction m with
  | nil =>
    by_cases hv : v = d k <;> by_cases hj : j = k <;> simp [AMap.put, AMap.read, hv, hj]
  | cons e t ih =>
    obtain ⟨k', v'⟩ := e
    simp only [AMap.wf, Bool.and_eq_true, AMap.above, List.all_eq_true, decide_eq_true_eq] at h
    obtain ⟨⟨hv', hab⟩, ht⟩ := h
    have miss : ∀ (l : AMap α), (∀ x ∈ l, k' < x.1) → ∀ n, n ≤ k' → AMap.read d l n = d n := by
      intro l
      induction l with
      | nil => intro _ n _; rfl
      | cons e l ihl =>
        intro hl n hn
        have h1 := hl e (by simp)
        have hne : n ≠ e.1 := by omega
        simp only [AMap.read, if_neg hne]
        exact ihl (fun x hx => hl x (by simp [hx])) n hn
    unfold AMap.put
    split
    · rename_i hk
      by_cases hj : j = k
      · subst hj
        have : j ≠ k' := by omega
        have hr := miss t hab j (by omega)
        split <;> simp_all [AMap.read]
      · split <;> simp [AMap.read, hj]
    · split
      · rename_i hk
        subst hk
        by_cases hj : j = k
        · subst hj
          have hr := miss t hab j (by omega)
          split <;> simp_all [AMap.read]
        · split <;> simp [AMap.read, hj]
      · simp only [AMap.read]
        rw [ih ht]
        by_cases hj : j = k <;> by_cases hj' : j = k' <;> simp_all

theorem mem_put {α : Type} [DecidableEq α] (d : Nat → α) (m : AMap α) (k : Nat) (v : α) (x : Nat × α)
    (h : x ∈ AMap.put d m k v) : x = (k, v) ∨ x ∈ m := by
  induction m with
  | nil => unfold AMap.put at h; split at h <;> simp_all
  | cons e t ih =>
    unfold AMap.put at h
    split at h
    · split at h <;> simp_all
    · split at h
      · split at h <;> simp_all
        exact h.imp_right Or.inr
      · rcases List.mem_cons.mp h with h | h
        · exact .inr (by simp [h])
        · exact (ih h).imp_right fun h => by simp [h]

theorem above_put {α : Type} [DecidableEq α] (d : Nat → α) (m : AMap α) (k : Nat) (v : α) (b : Nat)
    (hb : b < k) (h : AMap.above b m = true) : AMap.above b (AMap.put d m k v) = true := by
  simp only [AMap.above, List.all_eq_true, decide_eq_true_eq] at h ⊢
  intro x hx
  rcases mem_put d m k v x hx with rfl | hx
  · exact hb
  · exact h x hx

theorem above_trans {α : Type} (m : AMap α) (a b : Nat) (hab : a ≤ b) (h : AMap.above b m = true) :
    AMap.above a m = true := by
  simp only [AMap.above, List.all_eq_true, decide_eq_true_eq] at *
  intro x hx
  have := h x hx
  omega

/-- A write keeps the canonical form. -/
theorem put_wf {α : Type} [DecidableEq α] (d : Nat → α) (m : AMap α) (k : Nat) (v : α)
    (h : AMap.wf d m = true) : AMap.wf d (AMap.put d m k v) = true := by
  induction m with
  | nil => unfold AMap.put; split <;> simp_all [AMap.wf, AMap.above]
  | cons e t ih =>
    have h0 := h
    simp only [AMap.wf, Bool.and_eq_true, decide_eq_true_eq] at h
    obtain ⟨⟨hv, hab⟩, ht⟩ := h
    unfold AMap.put
    split
    · rename_i hk
      split
      · exact h0
      · rename_i hne
        have := above_trans t k e.1 (by omega) hab
        simp only [AMap.wf, Bool.and_eq_true, decide_eq_true_eq]
        refine ⟨⟨hne, ?_⟩, ⟨hv, hab⟩, ht⟩
        simp only [AMap.above, List.all_cons, Bool.and_eq_true, decide_eq_true_eq] at this ⊢
        exact ⟨hk, this⟩
    · split
      · rename_i hk
        subst hk
        split
        · exact ht
        · rename_i hne
          simp only [AMap.wf, Bool.and_eq_true, decide_eq_true_eq]
          exact ⟨⟨hne, hab⟩, ht⟩
      · rename_i h1 h2
        simp only [AMap.wf, Bool.and_eq_true, decide_eq_true_eq]
        exact ⟨⟨hv, above_put d t k v e.1 (by omega) hab⟩, ih ht⟩

theorem filter_wf {α : Type} [DecidableEq α] (d : Nat → α) (p : Nat × α → Bool) (m : AMap α)
    (h : AMap.wf d m = true) : AMap.wf d (m.filter p) = true := by
  induction m with
  | nil => exact h
  | cons e t ih =>
    simp only [AMap.wf, Bool.and_eq_true, decide_eq_true_eq] at h
    obtain ⟨⟨hv, hab⟩, ht⟩ := h
    have hf : AMap.above e.1 (t.filter p) = true := by
      simp only [AMap.above, List.all_eq_true, decide_eq_true_eq, List.mem_filter] at hab ⊢
      exact fun x hx => hab x hx.1
    simp only [List.filter]
    split
    · simp only [AMap.wf, Bool.and_eq_true, decide_eq_true_eq]
      exact ⟨⟨hv, hf⟩, ih ht⟩
    · exact ih ht

theorem ofList_wf {α : Type} [DecidableEq α] (d : Nat → α) (l : List (Nat × α)) :
    AMap.wf d (AMap.ofList d l) = true := by
  have key : ∀ (l : List (Nat × α)) (m : AMap α), AMap.wf d m = true →
      AMap.wf d (l.foldl (fun m e => AMap.put d m e.1 e.2) m) = true := by
    intro l
    induction l with
    | nil => exact fun m h => h
    | cons e t ih => exact fun m h => ih _ (put_wf d m e.1 e.2 h)
  exact key l [] rfl

end Sys2Proof.Machine.AMap
end

