-- ==== Sys2Proof/Laws/State.lean ====
section
/-!
SUPPORT. One lemma per field of State for every named update of it: what the update leaves, and what it
writes; and what a register or a field reads after a register was written.
-/

namespace Sys2Proof.Machine.State

-- One lemma after another: a thread each would be many.
set_option Elab.async false

variable (s : State)

@[simp] theorem setReg_regs (a : Nat) (w : Word) : (s.setReg a w).regs = AMap.put resetWord s.regs a w := rfl
@[simp] theorem setReg_tick (a : Nat) (w : Word) : (s.setReg a w).tick = s.tick := rfl
@[simp] theorem setReg_lanes (a : Nat) (w : Word) : (s.setReg a w).lanes = s.lanes := rfl
@[simp] theorem setReg_bond (a : Nat) (w : Word) : (s.setReg a w).bond = s.bond := rfl
@[simp] theorem setReg_links (a : Nat) (w : Word) : (s.setReg a w).links = s.links := rfl
@[simp] theorem setReg_cells (a : Nat) (w : Word) : (s.setReg a w).cells = s.cells := rfl
@[simp] theorem setReg_inputs (a : Nat) (w : Word) : (s.setReg a w).inputs = s.inputs := rfl
@[simp] theorem setReg_obs (a : Nat) (w : Word) : (s.setReg a w).obs = s.obs := rfl
@[simp] theorem setReg_orders (a : Nat) (w : Word) : (s.setReg a w).orders = s.orders := rfl
@[simp] theorem setReg_arms (a : Nat) (w : Word) : (s.setReg a w).arms = s.arms := rfl
@[simp] theorem setReg_plan (a : Nat) (w : Word) : (s.setReg a w).plan = s.plan := rfl
@[simp] theorem setReg_ctxs (a : Nat) (w : Word) : (s.setReg a w).ctxs = s.ctxs := rfl
@[simp] theorem setReg_chans (a : Nat) (w : Word) : (s.setReg a w).chans = s.chans := rfl
@[simp] theorem setReg_streams (a : Nat) (w : Word) : (s.setReg a w).streams = s.streams := rfl
@[simp] theorem setReg_vit (a : Nat) (w : Word) : (s.setReg a w).vit = s.vit := rfl
@[simp] theorem setReg_cur (a : Nat) (w : Word) : (s.setReg a w).cur = s.cur := rfl
@[simp] theorem setReg_twin (a : Nat) (w : Word) : (s.setReg a w).twin = s.twin := rfl
@[simp] theorem setReg_stn (a : Nat) (w : Word) : (s.setReg a w).stn = s.stn := rfl
@[simp] theorem setReg_img (a : Nat) (w : Word) : (s.setReg a w).img = s.img := rfl
@[simp] theorem setReg_clk (a : Nat) (w : Word) : (s.setReg a w).clk = s.clk := rfl
@[simp] theorem setReg_boot (a : Nat) (w : Word) : (s.setReg a w).boot = s.boot := rfl
@[simp] theorem setReg_fuse (a : Nat) (w : Word) : (s.setReg a w).fuse = s.fuse := rfl
@[simp] theorem setReg_kept (a : Nat) (w : Word) : (s.setReg a w).kept = s.kept := rfl
@[simp] theorem setReg_dbg (a : Nat) (w : Word) : (s.setReg a w).dbg = s.dbg := rfl
@[simp] theorem setReg_paths (a : Nat) (w : Word) : (s.setReg a w).paths = s.paths := rfl
@[simp] theorem setReg_chks (a : Nat) (w : Word) : (s.setReg a w).chks = s.chks := rfl
@[simp] theorem setReg_sched (a : Nat) (w : Word) : (s.setReg a w).sched = s.sched := rfl
@[simp] theorem setReg_pwr (a : Nat) (w : Word) : (s.setReg a w).pwr = s.pwr := rfl
@[simp] theorem setReg_wire (a : Nat) (w : Word) : (s.setReg a w).wire = s.wire := rfl
@[simp] theorem setReg_taken (a : Nat) (w : Word) : (s.setReg a w).taken = s.taken := rfl
@[simp] theorem setReg_freeCount (a : Nat) (w : Word) : (s.setReg a w).freeCount = s.freeCount := rfl
@[simp] theorem setReg_pending (a : Nat) (w : Word) : (s.setReg a w).pending = s.pending := rfl

@[simp] theorem set_tick (f : Field) (v i j : Nat) : (s.set f v i j).tick = s.tick := rfl
@[simp] theorem set_lanes (f : Field) (v i j : Nat) : (s.set f v i j).lanes = s.lanes := rfl
@[simp] theorem set_bond (f : Field) (v i j : Nat) : (s.set f v i j).bond = s.bond := rfl
@[simp] theorem set_links (f : Field) (v i j : Nat) : (s.set f v i j).links = s.links := rfl
@[simp] theorem set_cells (f : Field) (v i j : Nat) : (s.set f v i j).cells = s.cells := rfl
@[simp] theorem set_inputs (f : Field) (v i j : Nat) : (s.set f v i j).inputs = s.inputs := rfl
@[simp] theorem set_obs (f : Field) (v i j : Nat) : (s.set f v i j).obs = s.obs := rfl
@[simp] theorem set_orders (f : Field) (v i j : Nat) : (s.set f v i j).orders = s.orders := rfl
@[simp] theorem set_arms (f : Field) (v i j : Nat) : (s.set f v i j).arms = s.arms := rfl
@[simp] theorem set_plan (f : Field) (v i j : Nat) : (s.set f v i j).plan = s.plan := rfl
@[simp] theorem set_ctxs (f : Field) (v i j : Nat) : (s.set f v i j).ctxs = s.ctxs := rfl
@[simp] theorem set_chans (f : Field) (v i j : Nat) : (s.set f v i j).chans = s.chans := rfl
@[simp] theorem set_streams (f : Field) (v i j : Nat) : (s.set f v i j).streams = s.streams := rfl
@[simp] theorem set_vit (f : Field) (v i j : Nat) : (s.set f v i j).vit = s.vit := rfl
@[simp] theorem set_cur (f : Field) (v i j : Nat) : (s.set f v i j).cur = s.cur := rfl
@[simp] theorem set_twin (f : Field) (v i j : Nat) : (s.set f v i j).twin = s.twin := rfl
@[simp] theorem set_stn (f : Field) (v i j : Nat) : (s.set f v i j).stn = s.stn := rfl
@[simp] theorem set_img (f : Field) (v i j : Nat) : (s.set f v i j).img = s.img := rfl
@[simp] theorem set_clk (f : Field) (v i j : Nat) : (s.set f v i j).clk = s.clk := rfl
@[simp] theorem set_boot (f : Field) (v i j : Nat) : (s.set f v i j).boot = s.boot := rfl
@[simp] theorem set_fuse (f : Field) (v i j : Nat) : (s.set f v i j).fuse = s.fuse := rfl
@[simp] theorem set_kept (f : Field) (v i j : Nat) : (s.set f v i j).kept = s.kept := rfl
@[simp] theorem set_dbg (f : Field) (v i j : Nat) : (s.set f v i j).dbg = s.dbg := rfl
@[simp] theorem set_paths (f : Field) (v i j : Nat) : (s.set f v i j).paths = s.paths := rfl
@[simp] theorem set_chks (f : Field) (v i j : Nat) : (s.set f v i j).chks = s.chks := rfl
@[simp] theorem set_sched (f : Field) (v i j : Nat) : (s.set f v i j).sched = s.sched := rfl
@[simp] theorem set_pwr (f : Field) (v i j : Nat) : (s.set f v i j).pwr = s.pwr := rfl
@[simp] theorem set_wire (f : Field) (v i j : Nat) : (s.set f v i j).wire = s.wire := rfl
@[simp] theorem set_taken (f : Field) (v i j : Nat) : (s.set f v i j).taken = s.taken := rfl
@[simp] theorem set_freeCount (f : Field) (v i j : Nat) : (s.set f v i j).freeCount = s.freeCount := rfl
@[simp] theorem set_pending (f : Field) (v i j : Nat) : (s.set f v i j).pending = s.pending := rfl

@[simp] theorem setB_tick (f : Field) (b : Bool) (i j : Nat) : (s.setB f b i j).tick = s.tick := rfl
@[simp] theorem setB_lanes (f : Field) (b : Bool) (i j : Nat) : (s.setB f b i j).lanes = s.lanes := rfl
@[simp] theorem setB_bond (f : Field) (b : Bool) (i j : Nat) : (s.setB f b i j).bond = s.bond := rfl
@[simp] theorem setB_links (f : Field) (b : Bool) (i j : Nat) : (s.setB f b i j).links = s.links := rfl
@[simp] theorem setB_cells (f : Field) (b : Bool) (i j : Nat) : (s.setB f b i j).cells = s.cells := rfl
@[simp] theorem setB_inputs (f : Field) (b : Bool) (i j : Nat) : (s.setB f b i j).inputs = s.inputs := rfl
@[simp] theorem setB_obs (f : Field) (b : Bool) (i j : Nat) : (s.setB f b i j).obs = s.obs := rfl
@[simp] theorem setB_orders (f : Field) (b : Bool) (i j : Nat) : (s.setB f b i j).orders = s.orders := rfl
@[simp] theorem setB_arms (f : Field) (b : Bool) (i j : Nat) : (s.setB f b i j).arms = s.arms := rfl
@[simp] theorem setB_plan (f : Field) (b : Bool) (i j : Nat) : (s.setB f b i j).plan = s.plan := rfl
@[simp] theorem setB_ctxs (f : Field) (b : Bool) (i j : Nat) : (s.setB f b i j).ctxs = s.ctxs := rfl
@[simp] theorem setB_chans (f : Field) (b : Bool) (i j : Nat) : (s.setB f b i j).chans = s.chans := rfl
@[simp] theorem setB_streams (f : Field) (b : Bool) (i j : Nat) : (s.setB f b i j).streams = s.streams := rfl
@[simp] theorem setB_vit (f : Field) (b : Bool) (i j : Nat) : (s.setB f b i j).vit = s.vit := rfl
@[simp] theorem setB_cur (f : Field) (b : Bool) (i j : Nat) : (s.setB f b i j).cur = s.cur := rfl
@[simp] theorem setB_twin (f : Field) (b : Bool) (i j : Nat) : (s.setB f b i j).twin = s.twin := rfl
@[simp] theorem setB_stn (f : Field) (b : Bool) (i j : Nat) : (s.setB f b i j).stn = s.stn := rfl
@[simp] theorem setB_img (f : Field) (b : Bool) (i j : Nat) : (s.setB f b i j).img = s.img := rfl
@[simp] theorem setB_clk (f : Field) (b : Bool) (i j : Nat) : (s.setB f b i j).clk = s.clk := rfl
@[simp] theorem setB_boot (f : Field) (b : Bool) (i j : Nat) : (s.setB f b i j).boot = s.boot := rfl
@[simp] theorem setB_fuse (f : Field) (b : Bool) (i j : Nat) : (s.setB f b i j).fuse = s.fuse := rfl
@[simp] theorem setB_kept (f : Field) (b : Bool) (i j : Nat) : (s.setB f b i j).kept = s.kept := rfl
@[simp] theorem setB_dbg (f : Field) (b : Bool) (i j : Nat) : (s.setB f b i j).dbg = s.dbg := rfl
@[simp] theorem setB_paths (f : Field) (b : Bool) (i j : Nat) : (s.setB f b i j).paths = s.paths := rfl
@[simp] theorem setB_chks (f : Field) (b : Bool) (i j : Nat) : (s.setB f b i j).chks = s.chks := rfl
@[simp] theorem setB_sched (f : Field) (b : Bool) (i j : Nat) : (s.setB f b i j).sched = s.sched := rfl
@[simp] theorem setB_pwr (f : Field) (b : Bool) (i j : Nat) : (s.setB f b i j).pwr = s.pwr := rfl
@[simp] theorem setB_wire (f : Field) (b : Bool) (i j : Nat) : (s.setB f b i j).wire = s.wire := rfl
@[simp] theorem setB_taken (f : Field) (b : Bool) (i j : Nat) : (s.setB f b i j).taken = s.taken := rfl
@[simp] theorem setB_freeCount (f : Field) (b : Bool) (i j : Nat) : (s.setB f b i j).freeCount = s.freeCount := rfl
@[simp] theorem setB_pending (f : Field) (b : Bool) (i j : Nat) : (s.setB f b i j).pending = s.pending := rfl

@[simp] theorem bump_tick (f : Field) (n i j : Nat) : (s.bump f n i j).tick = s.tick := rfl
@[simp] theorem bump_lanes (f : Field) (n i j : Nat) : (s.bump f n i j).lanes = s.lanes := rfl
@[simp] theorem bump_bond (f : Field) (n i j : Nat) : (s.bump f n i j).bond = s.bond := rfl
@[simp] theorem bump_links (f : Field) (n i j : Nat) : (s.bump f n i j).links = s.links := rfl
@[simp] theorem bump_cells (f : Field) (n i j : Nat) : (s.bump f n i j).cells = s.cells := rfl
@[simp] theorem bump_inputs (f : Field) (n i j : Nat) : (s.bump f n i j).inputs = s.inputs := rfl
@[simp] theorem bump_obs (f : Field) (n i j : Nat) : (s.bump f n i j).obs = s.obs := rfl
@[simp] theorem bump_orders (f : Field) (n i j : Nat) : (s.bump f n i j).orders = s.orders := rfl
@[simp] theorem bump_arms (f : Field) (n i j : Nat) : (s.bump f n i j).arms = s.arms := rfl
@[simp] theorem bump_plan (f : Field) (n i j : Nat) : (s.bump f n i j).plan = s.plan := rfl
@[simp] theorem bump_ctxs (f : Field) (n i j : Nat) : (s.bump f n i j).ctxs = s.ctxs := rfl
@[simp] theorem bump_chans (f : Field) (n i j : Nat) : (s.bump f n i j).chans = s.chans := rfl
@[simp] theorem bump_streams (f : Field) (n i j : Nat) : (s.bump f n i j).streams = s.streams := rfl
@[simp] theorem bump_vit (f : Field) (n i j : Nat) : (s.bump f n i j).vit = s.vit := rfl
@[simp] theorem bump_cur (f : Field) (n i j : Nat) : (s.bump f n i j).cur = s.cur := rfl
@[simp] theorem bump_twin (f : Field) (n i j : Nat) : (s.bump f n i j).twin = s.twin := rfl
@[simp] theorem bump_stn (f : Field) (n i j : Nat) : (s.bump f n i j).stn = s.stn := rfl
@[simp] theorem bump_img (f : Field) (n i j : Nat) : (s.bump f n i j).img = s.img := rfl
@[simp] theorem bump_clk (f : Field) (n i j : Nat) : (s.bump f n i j).clk = s.clk := rfl
@[simp] theorem bump_boot (f : Field) (n i j : Nat) : (s.bump f n i j).boot = s.boot := rfl
@[simp] theorem bump_fuse (f : Field) (n i j : Nat) : (s.bump f n i j).fuse = s.fuse := rfl
@[simp] theorem bump_kept (f : Field) (n i j : Nat) : (s.bump f n i j).kept = s.kept := rfl
@[simp] theorem bump_dbg (f : Field) (n i j : Nat) : (s.bump f n i j).dbg = s.dbg := rfl
@[simp] theorem bump_paths (f : Field) (n i j : Nat) : (s.bump f n i j).paths = s.paths := rfl
@[simp] theorem bump_chks (f : Field) (n i j : Nat) : (s.bump f n i j).chks = s.chks := rfl
@[simp] theorem bump_sched (f : Field) (n i j : Nat) : (s.bump f n i j).sched = s.sched := rfl
@[simp] theorem bump_pwr (f : Field) (n i j : Nat) : (s.bump f n i j).pwr = s.pwr := rfl
@[simp] theorem bump_wire (f : Field) (n i j : Nat) : (s.bump f n i j).wire = s.wire := rfl
@[simp] theorem bump_taken (f : Field) (n i j : Nat) : (s.bump f n i j).taken = s.taken := rfl
@[simp] theorem bump_freeCount (f : Field) (n i j : Nat) : (s.bump f n i j).freeCount = s.freeCount := rfl
@[simp] theorem bump_pending (f : Field) (n i j : Nat) : (s.bump f n i j).pending = s.pending := rfl

@[simp] theorem setBit_tick (f : Field) (b : Nat) (v : Bool) (i : Nat) : (s.setBit f b v i).tick = s.tick := rfl
@[simp] theorem setBit_lanes (f : Field) (b : Nat) (v : Bool) (i : Nat) : (s.setBit f b v i).lanes = s.lanes := rfl
@[simp] theorem setBit_bond (f : Field) (b : Nat) (v : Bool) (i : Nat) : (s.setBit f b v i).bond = s.bond := rfl
@[simp] theorem setBit_links (f : Field) (b : Nat) (v : Bool) (i : Nat) : (s.setBit f b v i).links = s.links := rfl
@[simp] theorem setBit_cells (f : Field) (b : Nat) (v : Bool) (i : Nat) : (s.setBit f b v i).cells = s.cells := rfl
@[simp] theorem setBit_inputs (f : Field) (b : Nat) (v : Bool) (i : Nat) : (s.setBit f b v i).inputs = s.inputs := rfl
@[simp] theorem setBit_obs (f : Field) (b : Nat) (v : Bool) (i : Nat) : (s.setBit f b v i).obs = s.obs := rfl
@[simp] theorem setBit_orders (f : Field) (b : Nat) (v : Bool) (i : Nat) : (s.setBit f b v i).orders = s.orders := rfl
@[simp] theorem setBit_arms (f : Field) (b : Nat) (v : Bool) (i : Nat) : (s.setBit f b v i).arms = s.arms := rfl
@[simp] theorem setBit_plan (f : Field) (b : Nat) (v : Bool) (i : Nat) : (s.setBit f b v i).plan = s.plan := rfl
@[simp] theorem setBit_ctxs (f : Field) (b : Nat) (v : Bool) (i : Nat) : (s.setBit f b v i).ctxs = s.ctxs := rfl
@[simp] theorem setBit_chans (f : Field) (b : Nat) (v : Bool) (i : Nat) : (s.setBit f b v i).chans = s.chans := rfl
@[simp] theorem setBit_streams (f : Field) (b : Nat) (v : Bool) (i : Nat) : (s.setBit f b v i).streams = s.streams := rfl
@[simp] theorem setBit_vit (f : Field) (b : Nat) (v : Bool) (i : Nat) : (s.setBit f b v i).vit = s.vit := rfl
@[simp] theorem setBit_cur (f : Field) (b : Nat) (v : Bool) (i : Nat) : (s.setBit f b v i).cur = s.cur := rfl
@[simp] theorem setBit_twin (f : Field) (b : Nat) (v : Bool) (i : Nat) : (s.setBit f b v i).twin = s.twin := rfl
@[simp] theorem setBit_stn (f : Field) (b : Nat) (v : Bool) (i : Nat) : (s.setBit f b v i).stn = s.stn := rfl
@[simp] theorem setBit_img (f : Field) (b : Nat) (v : Bool) (i : Nat) : (s.setBit f b v i).img = s.img := rfl
@[simp] theorem setBit_clk (f : Field) (b : Nat) (v : Bool) (i : Nat) : (s.setBit f b v i).clk = s.clk := rfl
@[simp] theorem setBit_boot (f : Field) (b : Nat) (v : Bool) (i : Nat) : (s.setBit f b v i).boot = s.boot := rfl
@[simp] theorem setBit_fuse (f : Field) (b : Nat) (v : Bool) (i : Nat) : (s.setBit f b v i).fuse = s.fuse := rfl
@[simp] theorem setBit_kept (f : Field) (b : Nat) (v : Bool) (i : Nat) : (s.setBit f b v i).kept = s.kept := rfl
@[simp] theorem setBit_dbg (f : Field) (b : Nat) (v : Bool) (i : Nat) : (s.setBit f b v i).dbg = s.dbg := rfl
@[simp] theorem setBit_paths (f : Field) (b : Nat) (v : Bool) (i : Nat) : (s.setBit f b v i).paths = s.paths := rfl
@[simp] theorem setBit_chks (f : Field) (b : Nat) (v : Bool) (i : Nat) : (s.setBit f b v i).chks = s.chks := rfl
@[simp] theorem setBit_sched (f : Field) (b : Nat) (v : Bool) (i : Nat) : (s.setBit f b v i).sched = s.sched := rfl
@[simp] theorem setBit_pwr (f : Field) (b : Nat) (v : Bool) (i : Nat) : (s.setBit f b v i).pwr = s.pwr := rfl
@[simp] theorem setBit_wire (f : Field) (b : Nat) (v : Bool) (i : Nat) : (s.setBit f b v i).wire = s.wire := rfl
@[simp] theorem setBit_taken (f : Field) (b : Nat) (v : Bool) (i : Nat) : (s.setBit f b v i).taken = s.taken := rfl
@[simp] theorem setBit_freeCount (f : Field) (b : Nat) (v : Bool) (i : Nat) : (s.setBit f b v i).freeCount = s.freeCount := rfl
@[simp] theorem setBit_pending (f : Field) (b : Nat) (v : Bool) (i : Nat) : (s.setBit f b v i).pending = s.pending := rfl

@[simp] theorem set64_tick (lo hi : Field) (v i : Nat) : (s.set64 lo hi v i).tick = s.tick := rfl
@[simp] theorem set64_lanes (lo hi : Field) (v i : Nat) : (s.set64 lo hi v i).lanes = s.lanes := rfl
@[simp] theorem set64_bond (lo hi : Field) (v i : Nat) : (s.set64 lo hi v i).bond = s.bond := rfl
@[simp] theorem set64_links (lo hi : Field) (v i : Nat) : (s.set64 lo hi v i).links = s.links := rfl
@[simp] theorem set64_cells (lo hi : Field) (v i : Nat) : (s.set64 lo hi v i).cells = s.cells := rfl
@[simp] theorem set64_inputs (lo hi : Field) (v i : Nat) : (s.set64 lo hi v i).inputs = s.inputs := rfl
@[simp] theorem set64_obs (lo hi : Field) (v i : Nat) : (s.set64 lo hi v i).obs = s.obs := rfl
@[simp] theorem set64_orders (lo hi : Field) (v i : Nat) : (s.set64 lo hi v i).orders = s.orders := rfl
@[simp] theorem set64_arms (lo hi : Field) (v i : Nat) : (s.set64 lo hi v i).arms = s.arms := rfl
@[simp] theorem set64_plan (lo hi : Field) (v i : Nat) : (s.set64 lo hi v i).plan = s.plan := rfl
@[simp] theorem set64_ctxs (lo hi : Field) (v i : Nat) : (s.set64 lo hi v i).ctxs = s.ctxs := rfl
@[simp] theorem set64_chans (lo hi : Field) (v i : Nat) : (s.set64 lo hi v i).chans = s.chans := rfl
@[simp] theorem set64_streams (lo hi : Field) (v i : Nat) : (s.set64 lo hi v i).streams = s.streams := rfl
@[simp] theorem set64_vit (lo hi : Field) (v i : Nat) : (s.set64 lo hi v i).vit = s.vit := rfl
@[simp] theorem set64_cur (lo hi : Field) (v i : Nat) : (s.set64 lo hi v i).cur = s.cur := rfl
@[simp] theorem set64_twin (lo hi : Field) (v i : Nat) : (s.set64 lo hi v i).twin = s.twin := rfl
@[simp] theorem set64_stn (lo hi : Field) (v i : Nat) : (s.set64 lo hi v i).stn = s.stn := rfl
@[simp] theorem set64_img (lo hi : Field) (v i : Nat) : (s.set64 lo hi v i).img = s.img := rfl
@[simp] theorem set64_clk (lo hi : Field) (v i : Nat) : (s.set64 lo hi v i).clk = s.clk := rfl
@[simp] theorem set64_boot (lo hi : Field) (v i : Nat) : (s.set64 lo hi v i).boot = s.boot := rfl
@[simp] theorem set64_fuse (lo hi : Field) (v i : Nat) : (s.set64 lo hi v i).fuse = s.fuse := rfl
@[simp] theorem set64_kept (lo hi : Field) (v i : Nat) : (s.set64 lo hi v i).kept = s.kept := rfl
@[simp] theorem set64_dbg (lo hi : Field) (v i : Nat) : (s.set64 lo hi v i).dbg = s.dbg := rfl
@[simp] theorem set64_paths (lo hi : Field) (v i : Nat) : (s.set64 lo hi v i).paths = s.paths := rfl
@[simp] theorem set64_chks (lo hi : Field) (v i : Nat) : (s.set64 lo hi v i).chks = s.chks := rfl
@[simp] theorem set64_sched (lo hi : Field) (v i : Nat) : (s.set64 lo hi v i).sched = s.sched := rfl
@[simp] theorem set64_pwr (lo hi : Field) (v i : Nat) : (s.set64 lo hi v i).pwr = s.pwr := rfl
@[simp] theorem set64_wire (lo hi : Field) (v i : Nat) : (s.set64 lo hi v i).wire = s.wire := rfl
@[simp] theorem set64_taken (lo hi : Field) (v i : Nat) : (s.set64 lo hi v i).taken = s.taken := rfl
@[simp] theorem set64_freeCount (lo hi : Field) (v i : Nat) : (s.set64 lo hi v i).freeCount = s.freeCount := rfl
@[simp] theorem set64_pending (lo hi : Field) (v i : Nat) : (s.set64 lo hi v i).pending = s.pending := rfl

@[simp] theorem setSig_tick (i : Nat) (v : Word) : (s.setSig i v).tick = s.tick := rfl
@[simp] theorem setSig_lanes (i : Nat) (v : Word) : (s.setSig i v).lanes = s.lanes := rfl
@[simp] theorem setSig_bond (i : Nat) (v : Word) : (s.setSig i v).bond = s.bond := rfl
@[simp] theorem setSig_links (i : Nat) (v : Word) : (s.setSig i v).links = s.links := rfl
@[simp] theorem setSig_cells (i : Nat) (v : Word) : (s.setSig i v).cells = s.cells := rfl
@[simp] theorem setSig_inputs (i : Nat) (v : Word) : (s.setSig i v).inputs = s.inputs := rfl
@[simp] theorem setSig_obs (i : Nat) (v : Word) : (s.setSig i v).obs = s.obs := rfl
@[simp] theorem setSig_orders (i : Nat) (v : Word) : (s.setSig i v).orders = s.orders := rfl
@[simp] theorem setSig_arms (i : Nat) (v : Word) : (s.setSig i v).arms = s.arms := rfl
@[simp] theorem setSig_plan (i : Nat) (v : Word) : (s.setSig i v).plan = s.plan := rfl
@[simp] theorem setSig_ctxs (i : Nat) (v : Word) : (s.setSig i v).ctxs = s.ctxs := rfl
@[simp] theorem setSig_chans (i : Nat) (v : Word) : (s.setSig i v).chans = s.chans := rfl
@[simp] theorem setSig_streams (i : Nat) (v : Word) : (s.setSig i v).streams = s.streams := rfl
@[simp] theorem setSig_vit (i : Nat) (v : Word) : (s.setSig i v).vit = s.vit := rfl
@[simp] theorem setSig_cur (i : Nat) (v : Word) : (s.setSig i v).cur = s.cur := rfl
@[simp] theorem setSig_twin (i : Nat) (v : Word) : (s.setSig i v).twin = s.twin := rfl
@[simp] theorem setSig_stn (i : Nat) (v : Word) : (s.setSig i v).stn = s.stn := rfl
@[simp] theorem setSig_img (i : Nat) (v : Word) : (s.setSig i v).img = s.img := rfl
@[simp] theorem setSig_clk (i : Nat) (v : Word) : (s.setSig i v).clk = s.clk := rfl
@[simp] theorem setSig_boot (i : Nat) (v : Word) : (s.setSig i v).boot = s.boot := rfl
@[simp] theorem setSig_fuse (i : Nat) (v : Word) : (s.setSig i v).fuse = s.fuse := rfl
@[simp] theorem setSig_kept (i : Nat) (v : Word) : (s.setSig i v).kept = s.kept := rfl
@[simp] theorem setSig_dbg (i : Nat) (v : Word) : (s.setSig i v).dbg = s.dbg := rfl
@[simp] theorem setSig_paths (i : Nat) (v : Word) : (s.setSig i v).paths = s.paths := rfl
@[simp] theorem setSig_chks (i : Nat) (v : Word) : (s.setSig i v).chks = s.chks := rfl
@[simp] theorem setSig_sched (i : Nat) (v : Word) : (s.setSig i v).sched = s.sched := rfl
@[simp] theorem setSig_pwr (i : Nat) (v : Word) : (s.setSig i v).pwr = s.pwr := rfl
@[simp] theorem setSig_wire (i : Nat) (v : Word) : (s.setSig i v).wire = s.wire := rfl
@[simp] theorem setSig_taken (i : Nat) (v : Word) : (s.setSig i v).taken = s.taken := rfl
@[simp] theorem setSig_freeCount (i : Nat) (v : Word) : (s.setSig i v).freeCount = s.freeCount := rfl
@[simp] theorem setSig_pending (i : Nat) (v : Word) : (s.setSig i v).pending = s.pending := rfl

@[simp] theorem setSigOk_tick (i : Nat) (b : Bool) : (s.setSigOk i b).tick = s.tick := rfl
@[simp] theorem setSigOk_lanes (i : Nat) (b : Bool) : (s.setSigOk i b).lanes = s.lanes := rfl
@[simp] theorem setSigOk_bond (i : Nat) (b : Bool) : (s.setSigOk i b).bond = s.bond := rfl
@[simp] theorem setSigOk_links (i : Nat) (b : Bool) : (s.setSigOk i b).links = s.links := rfl
@[simp] theorem setSigOk_cells (i : Nat) (b : Bool) : (s.setSigOk i b).cells = s.cells := rfl
@[simp] theorem setSigOk_inputs (i : Nat) (b : Bool) : (s.setSigOk i b).inputs = s.inputs := rfl
@[simp] theorem setSigOk_obs (i : Nat) (b : Bool) : (s.setSigOk i b).obs = s.obs := rfl
@[simp] theorem setSigOk_orders (i : Nat) (b : Bool) : (s.setSigOk i b).orders = s.orders := rfl
@[simp] theorem setSigOk_arms (i : Nat) (b : Bool) : (s.setSigOk i b).arms = s.arms := rfl
@[simp] theorem setSigOk_plan (i : Nat) (b : Bool) : (s.setSigOk i b).plan = s.plan := rfl
@[simp] theorem setSigOk_ctxs (i : Nat) (b : Bool) : (s.setSigOk i b).ctxs = s.ctxs := rfl
@[simp] theorem setSigOk_chans (i : Nat) (b : Bool) : (s.setSigOk i b).chans = s.chans := rfl
@[simp] theorem setSigOk_streams (i : Nat) (b : Bool) : (s.setSigOk i b).streams = s.streams := rfl
@[simp] theorem setSigOk_vit (i : Nat) (b : Bool) : (s.setSigOk i b).vit = s.vit := rfl
@[simp] theorem setSigOk_cur (i : Nat) (b : Bool) : (s.setSigOk i b).cur = s.cur := rfl
@[simp] theorem setSigOk_twin (i : Nat) (b : Bool) : (s.setSigOk i b).twin = s.twin := rfl
@[simp] theorem setSigOk_stn (i : Nat) (b : Bool) : (s.setSigOk i b).stn = s.stn := rfl
@[simp] theorem setSigOk_img (i : Nat) (b : Bool) : (s.setSigOk i b).img = s.img := rfl
@[simp] theorem setSigOk_clk (i : Nat) (b : Bool) : (s.setSigOk i b).clk = s.clk := rfl
@[simp] theorem setSigOk_boot (i : Nat) (b : Bool) : (s.setSigOk i b).boot = s.boot := rfl
@[simp] theorem setSigOk_fuse (i : Nat) (b : Bool) : (s.setSigOk i b).fuse = s.fuse := rfl
@[simp] theorem setSigOk_kept (i : Nat) (b : Bool) : (s.setSigOk i b).kept = s.kept := rfl
@[simp] theorem setSigOk_dbg (i : Nat) (b : Bool) : (s.setSigOk i b).dbg = s.dbg := rfl
@[simp] theorem setSigOk_paths (i : Nat) (b : Bool) : (s.setSigOk i b).paths = s.paths := rfl
@[simp] theorem setSigOk_chks (i : Nat) (b : Bool) : (s.setSigOk i b).chks = s.chks := rfl
@[simp] theorem setSigOk_sched (i : Nat) (b : Bool) : (s.setSigOk i b).sched = s.sched := rfl
@[simp] theorem setSigOk_pwr (i : Nat) (b : Bool) : (s.setSigOk i b).pwr = s.pwr := rfl
@[simp] theorem setSigOk_wire (i : Nat) (b : Bool) : (s.setSigOk i b).wire = s.wire := rfl
@[simp] theorem setSigOk_taken (i : Nat) (b : Bool) : (s.setSigOk i b).taken = s.taken := rfl
@[simp] theorem setSigOk_freeCount (i : Nat) (b : Bool) : (s.setSigOk i b).freeCount = s.freeCount := rfl
@[simp] theorem setSigOk_pending (i : Nat) (b : Bool) : (s.setSigOk i b).pending = s.pending := rfl

@[simp] theorem setLane_regs (k : Nat) (x : LaneState) : (s.setLane k x).regs = s.regs := rfl
@[simp] theorem setLane_tick (k : Nat) (x : LaneState) : (s.setLane k x).tick = s.tick := rfl
@[simp] theorem setLane_lanes (k : Nat) (x : LaneState) : (s.setLane k x).lanes = AMap.put (fun _ => {}) s.lanes k x := rfl
@[simp] theorem setLane_bond (k : Nat) (x : LaneState) : (s.setLane k x).bond = s.bond := rfl
@[simp] theorem setLane_links (k : Nat) (x : LaneState) : (s.setLane k x).links = s.links := rfl
@[simp] theorem setLane_cells (k : Nat) (x : LaneState) : (s.setLane k x).cells = s.cells := rfl
@[simp] theorem setLane_inputs (k : Nat) (x : LaneState) : (s.setLane k x).inputs = s.inputs := rfl
@[simp] theorem setLane_obs (k : Nat) (x : LaneState) : (s.setLane k x).obs = s.obs := rfl
@[simp] theorem setLane_orders (k : Nat) (x : LaneState) : (s.setLane k x).orders = s.orders := rfl
@[simp] theorem setLane_arms (k : Nat) (x : LaneState) : (s.setLane k x).arms = s.arms := rfl
@[simp] theorem setLane_plan (k : Nat) (x : LaneState) : (s.setLane k x).plan = s.plan := rfl
@[simp] theorem setLane_ctxs (k : Nat) (x : LaneState) : (s.setLane k x).ctxs = s.ctxs := rfl
@[simp] theorem setLane_chans (k : Nat) (x : LaneState) : (s.setLane k x).chans = s.chans := rfl
@[simp] theorem setLane_streams (k : Nat) (x : LaneState) : (s.setLane k x).streams = s.streams := rfl
@[simp] theorem setLane_vit (k : Nat) (x : LaneState) : (s.setLane k x).vit = s.vit := rfl
@[simp] theorem setLane_cur (k : Nat) (x : LaneState) : (s.setLane k x).cur = s.cur := rfl
@[simp] theorem setLane_twin (k : Nat) (x : LaneState) : (s.setLane k x).twin = s.twin := rfl
@[simp] theorem setLane_stn (k : Nat) (x : LaneState) : (s.setLane k x).stn = s.stn := rfl
@[simp] theorem setLane_img (k : Nat) (x : LaneState) : (s.setLane k x).img = s.img := rfl
@[simp] theorem setLane_clk (k : Nat) (x : LaneState) : (s.setLane k x).clk = s.clk := rfl
@[simp] theorem setLane_boot (k : Nat) (x : LaneState) : (s.setLane k x).boot = s.boot := rfl
@[simp] theorem setLane_fuse (k : Nat) (x : LaneState) : (s.setLane k x).fuse = s.fuse := rfl
@[simp] theorem setLane_kept (k : Nat) (x : LaneState) : (s.setLane k x).kept = s.kept := rfl
@[simp] theorem setLane_dbg (k : Nat) (x : LaneState) : (s.setLane k x).dbg = s.dbg := rfl
@[simp] theorem setLane_paths (k : Nat) (x : LaneState) : (s.setLane k x).paths = s.paths := rfl
@[simp] theorem setLane_chks (k : Nat) (x : LaneState) : (s.setLane k x).chks = s.chks := rfl
@[simp] theorem setLane_sched (k : Nat) (x : LaneState) : (s.setLane k x).sched = s.sched := rfl
@[simp] theorem setLane_pwr (k : Nat) (x : LaneState) : (s.setLane k x).pwr = s.pwr := rfl
@[simp] theorem setLane_wire (k : Nat) (x : LaneState) : (s.setLane k x).wire = s.wire := rfl
@[simp] theorem setLane_taken (k : Nat) (x : LaneState) : (s.setLane k x).taken = s.taken := rfl
@[simp] theorem setLane_freeCount (k : Nat) (x : LaneState) : (s.setLane k x).freeCount = s.freeCount := rfl
@[simp] theorem setLane_pending (k : Nat) (x : LaneState) : (s.setLane k x).pending = s.pending := rfl

@[simp] theorem setLink_regs (k : Nat) (x : LinkState) : (s.setLink k x).regs = s.regs := rfl
@[simp] theorem setLink_tick (k : Nat) (x : LinkState) : (s.setLink k x).tick = s.tick := rfl
@[simp] theorem setLink_lanes (k : Nat) (x : LinkState) : (s.setLink k x).lanes = s.lanes := rfl
@[simp] theorem setLink_bond (k : Nat) (x : LinkState) : (s.setLink k x).bond = s.bond := rfl
@[simp] theorem setLink_links (k : Nat) (x : LinkState) : (s.setLink k x).links = AMap.put (fun _ => {}) s.links k x := rfl
@[simp] theorem setLink_cells (k : Nat) (x : LinkState) : (s.setLink k x).cells = s.cells := rfl
@[simp] theorem setLink_inputs (k : Nat) (x : LinkState) : (s.setLink k x).inputs = s.inputs := rfl
@[simp] theorem setLink_obs (k : Nat) (x : LinkState) : (s.setLink k x).obs = s.obs := rfl
@[simp] theorem setLink_orders (k : Nat) (x : LinkState) : (s.setLink k x).orders = s.orders := rfl
@[simp] theorem setLink_arms (k : Nat) (x : LinkState) : (s.setLink k x).arms = s.arms := rfl
@[simp] theorem setLink_plan (k : Nat) (x : LinkState) : (s.setLink k x).plan = s.plan := rfl
@[simp] theorem setLink_ctxs (k : Nat) (x : LinkState) : (s.setLink k x).ctxs = s.ctxs := rfl
@[simp] theorem setLink_chans (k : Nat) (x : LinkState) : (s.setLink k x).chans = s.chans := rfl
@[simp] theorem setLink_streams (k : Nat) (x : LinkState) : (s.setLink k x).streams = s.streams := rfl
@[simp] theorem setLink_vit (k : Nat) (x : LinkState) : (s.setLink k x).vit = s.vit := rfl
@[simp] theorem setLink_cur (k : Nat) (x : LinkState) : (s.setLink k x).cur = s.cur := rfl
@[simp] theorem setLink_twin (k : Nat) (x : LinkState) : (s.setLink k x).twin = s.twin := rfl
@[simp] theorem setLink_stn (k : Nat) (x : LinkState) : (s.setLink k x).stn = s.stn := rfl
@[simp] theorem setLink_img (k : Nat) (x : LinkState) : (s.setLink k x).img = s.img := rfl
@[simp] theorem setLink_clk (k : Nat) (x : LinkState) : (s.setLink k x).clk = s.clk := rfl
@[simp] theorem setLink_boot (k : Nat) (x : LinkState) : (s.setLink k x).boot = s.boot := rfl
@[simp] theorem setLink_fuse (k : Nat) (x : LinkState) : (s.setLink k x).fuse = s.fuse := rfl
@[simp] theorem setLink_kept (k : Nat) (x : LinkState) : (s.setLink k x).kept = s.kept := rfl
@[simp] theorem setLink_dbg (k : Nat) (x : LinkState) : (s.setLink k x).dbg = s.dbg := rfl
@[simp] theorem setLink_paths (k : Nat) (x : LinkState) : (s.setLink k x).paths = s.paths := rfl
@[simp] theorem setLink_chks (k : Nat) (x : LinkState) : (s.setLink k x).chks = s.chks := rfl
@[simp] theorem setLink_sched (k : Nat) (x : LinkState) : (s.setLink k x).sched = s.sched := rfl
@[simp] theorem setLink_pwr (k : Nat) (x : LinkState) : (s.setLink k x).pwr = s.pwr := rfl
@[simp] theorem setLink_wire (k : Nat) (x : LinkState) : (s.setLink k x).wire = s.wire := rfl
@[simp] theorem setLink_taken (k : Nat) (x : LinkState) : (s.setLink k x).taken = s.taken := rfl
@[simp] theorem setLink_freeCount (k : Nat) (x : LinkState) : (s.setLink k x).freeCount = s.freeCount := rfl
@[simp] theorem setLink_pending (k : Nat) (x : LinkState) : (s.setLink k x).pending = s.pending := rfl

@[simp] theorem setCell_regs (k : Nat) (x : CellLink) : (s.setCell k x).regs = s.regs := rfl
@[simp] theorem setCell_tick (k : Nat) (x : CellLink) : (s.setCell k x).tick = s.tick := rfl
@[simp] theorem setCell_lanes (k : Nat) (x : CellLink) : (s.setCell k x).lanes = s.lanes := rfl
@[simp] theorem setCell_bond (k : Nat) (x : CellLink) : (s.setCell k x).bond = s.bond := rfl
@[simp] theorem setCell_links (k : Nat) (x : CellLink) : (s.setCell k x).links = s.links := rfl
@[simp] theorem setCell_cells (k : Nat) (x : CellLink) : (s.setCell k x).cells = AMap.put (fun _ => {}) s.cells k x := rfl
@[simp] theorem setCell_inputs (k : Nat) (x : CellLink) : (s.setCell k x).inputs = s.inputs := rfl
@[simp] theorem setCell_obs (k : Nat) (x : CellLink) : (s.setCell k x).obs = s.obs := rfl
@[simp] theorem setCell_orders (k : Nat) (x : CellLink) : (s.setCell k x).orders = s.orders := rfl
@[simp] theorem setCell_arms (k : Nat) (x : CellLink) : (s.setCell k x).arms = s.arms := rfl
@[simp] theorem setCell_plan (k : Nat) (x : CellLink) : (s.setCell k x).plan = s.plan := rfl
@[simp] theorem setCell_ctxs (k : Nat) (x : CellLink) : (s.setCell k x).ctxs = s.ctxs := rfl
@[simp] theorem setCell_chans (k : Nat) (x : CellLink) : (s.setCell k x).chans = s.chans := rfl
@[simp] theorem setCell_streams (k : Nat) (x : CellLink) : (s.setCell k x).streams = s.streams := rfl
@[simp] theorem setCell_vit (k : Nat) (x : CellLink) : (s.setCell k x).vit = s.vit := rfl
@[simp] theorem setCell_cur (k : Nat) (x : CellLink) : (s.setCell k x).cur = s.cur := rfl
@[simp] theorem setCell_twin (k : Nat) (x : CellLink) : (s.setCell k x).twin = s.twin := rfl
@[simp] theorem setCell_stn (k : Nat) (x : CellLink) : (s.setCell k x).stn = s.stn := rfl
@[simp] theorem setCell_img (k : Nat) (x : CellLink) : (s.setCell k x).img = s.img := rfl
@[simp] theorem setCell_clk (k : Nat) (x : CellLink) : (s.setCell k x).clk = s.clk := rfl
@[simp] theorem setCell_boot (k : Nat) (x : CellLink) : (s.setCell k x).boot = s.boot := rfl
@[simp] theorem setCell_fuse (k : Nat) (x : CellLink) : (s.setCell k x).fuse = s.fuse := rfl
@[simp] theorem setCell_kept (k : Nat) (x : CellLink) : (s.setCell k x).kept = s.kept := rfl
@[simp] theorem setCell_dbg (k : Nat) (x : CellLink) : (s.setCell k x).dbg = s.dbg := rfl
@[simp] theorem setCell_paths (k : Nat) (x : CellLink) : (s.setCell k x).paths = s.paths := rfl
@[simp] theorem setCell_chks (k : Nat) (x : CellLink) : (s.setCell k x).chks = s.chks := rfl
@[simp] theorem setCell_sched (k : Nat) (x : CellLink) : (s.setCell k x).sched = s.sched := rfl
@[simp] theorem setCell_pwr (k : Nat) (x : CellLink) : (s.setCell k x).pwr = s.pwr := rfl
@[simp] theorem setCell_wire (k : Nat) (x : CellLink) : (s.setCell k x).wire = s.wire := rfl
@[simp] theorem setCell_taken (k : Nat) (x : CellLink) : (s.setCell k x).taken = s.taken := rfl
@[simp] theorem setCell_freeCount (k : Nat) (x : CellLink) : (s.setCell k x).freeCount = s.freeCount := rfl
@[simp] theorem setCell_pending (k : Nat) (x : CellLink) : (s.setCell k x).pending = s.pending := rfl

@[simp] theorem setInput_regs (k : Nat) (x : CellInput) : (s.setInput k x).regs = s.regs := rfl
@[simp] theorem setInput_tick (k : Nat) (x : CellInput) : (s.setInput k x).tick = s.tick := rfl
@[simp] theorem setInput_lanes (k : Nat) (x : CellInput) : (s.setInput k x).lanes = s.lanes := rfl
@[simp] theorem setInput_bond (k : Nat) (x : CellInput) : (s.setInput k x).bond = s.bond := rfl
@[simp] theorem setInput_links (k : Nat) (x : CellInput) : (s.setInput k x).links = s.links := rfl
@[simp] theorem setInput_cells (k : Nat) (x : CellInput) : (s.setInput k x).cells = s.cells := rfl
@[simp] theorem setInput_inputs (k : Nat) (x : CellInput) : (s.setInput k x).inputs = AMap.put (fun _ => {}) s.inputs k x := rfl
@[simp] theorem setInput_obs (k : Nat) (x : CellInput) : (s.setInput k x).obs = s.obs := rfl
@[simp] theorem setInput_orders (k : Nat) (x : CellInput) : (s.setInput k x).orders = s.orders := rfl
@[simp] theorem setInput_arms (k : Nat) (x : CellInput) : (s.setInput k x).arms = s.arms := rfl
@[simp] theorem setInput_plan (k : Nat) (x : CellInput) : (s.setInput k x).plan = s.plan := rfl
@[simp] theorem setInput_ctxs (k : Nat) (x : CellInput) : (s.setInput k x).ctxs = s.ctxs := rfl
@[simp] theorem setInput_chans (k : Nat) (x : CellInput) : (s.setInput k x).chans = s.chans := rfl
@[simp] theorem setInput_streams (k : Nat) (x : CellInput) : (s.setInput k x).streams = s.streams := rfl
@[simp] theorem setInput_vit (k : Nat) (x : CellInput) : (s.setInput k x).vit = s.vit := rfl
@[simp] theorem setInput_cur (k : Nat) (x : CellInput) : (s.setInput k x).cur = s.cur := rfl
@[simp] theorem setInput_twin (k : Nat) (x : CellInput) : (s.setInput k x).twin = s.twin := rfl
@[simp] theorem setInput_stn (k : Nat) (x : CellInput) : (s.setInput k x).stn = s.stn := rfl
@[simp] theorem setInput_img (k : Nat) (x : CellInput) : (s.setInput k x).img = s.img := rfl
@[simp] theorem setInput_clk (k : Nat) (x : CellInput) : (s.setInput k x).clk = s.clk := rfl
@[simp] theorem setInput_boot (k : Nat) (x : CellInput) : (s.setInput k x).boot = s.boot := rfl
@[simp] theorem setInput_fuse (k : Nat) (x : CellInput) : (s.setInput k x).fuse = s.fuse := rfl
@[simp] theorem setInput_kept (k : Nat) (x : CellInput) : (s.setInput k x).kept = s.kept := rfl
@[simp] theorem setInput_dbg (k : Nat) (x : CellInput) : (s.setInput k x).dbg = s.dbg := rfl
@[simp] theorem setInput_paths (k : Nat) (x : CellInput) : (s.setInput k x).paths = s.paths := rfl
@[simp] theorem setInput_chks (k : Nat) (x : CellInput) : (s.setInput k x).chks = s.chks := rfl
@[simp] theorem setInput_sched (k : Nat) (x : CellInput) : (s.setInput k x).sched = s.sched := rfl
@[simp] theorem setInput_pwr (k : Nat) (x : CellInput) : (s.setInput k x).pwr = s.pwr := rfl
@[simp] theorem setInput_wire (k : Nat) (x : CellInput) : (s.setInput k x).wire = s.wire := rfl
@[simp] theorem setInput_taken (k : Nat) (x : CellInput) : (s.setInput k x).taken = s.taken := rfl
@[simp] theorem setInput_freeCount (k : Nat) (x : CellInput) : (s.setInput k x).freeCount = s.freeCount := rfl
@[simp] theorem setInput_pending (k : Nat) (x : CellInput) : (s.setInput k x).pending = s.pending := rfl

@[simp] theorem setInst_regs (k : Nat) (x : ObsInst) : (s.setInst k x).regs = s.regs := rfl
@[simp] theorem setInst_tick (k : Nat) (x : ObsInst) : (s.setInst k x).tick = s.tick := rfl
@[simp] theorem setInst_lanes (k : Nat) (x : ObsInst) : (s.setInst k x).lanes = s.lanes := rfl
@[simp] theorem setInst_bond (k : Nat) (x : ObsInst) : (s.setInst k x).bond = s.bond := rfl
@[simp] theorem setInst_links (k : Nat) (x : ObsInst) : (s.setInst k x).links = s.links := rfl
@[simp] theorem setInst_cells (k : Nat) (x : ObsInst) : (s.setInst k x).cells = s.cells := rfl
@[simp] theorem setInst_inputs (k : Nat) (x : ObsInst) : (s.setInst k x).inputs = s.inputs := rfl
@[simp] theorem setInst_obs (k : Nat) (x : ObsInst) : (s.setInst k x).obs = AMap.put (fun _ => {}) s.obs k x := rfl
@[simp] theorem setInst_orders (k : Nat) (x : ObsInst) : (s.setInst k x).orders = s.orders := rfl
@[simp] theorem setInst_arms (k : Nat) (x : ObsInst) : (s.setInst k x).arms = s.arms := rfl
@[simp] theorem setInst_plan (k : Nat) (x : ObsInst) : (s.setInst k x).plan = s.plan := rfl
@[simp] theorem setInst_ctxs (k : Nat) (x : ObsInst) : (s.setInst k x).ctxs = s.ctxs := rfl
@[simp] theorem setInst_chans (k : Nat) (x : ObsInst) : (s.setInst k x).chans = s.chans := rfl
@[simp] theorem setInst_streams (k : Nat) (x : ObsInst) : (s.setInst k x).streams = s.streams := rfl
@[simp] theorem setInst_vit (k : Nat) (x : ObsInst) : (s.setInst k x).vit = s.vit := rfl
@[simp] theorem setInst_cur (k : Nat) (x : ObsInst) : (s.setInst k x).cur = s.cur := rfl
@[simp] theorem setInst_twin (k : Nat) (x : ObsInst) : (s.setInst k x).twin = s.twin := rfl
@[simp] theorem setInst_stn (k : Nat) (x : ObsInst) : (s.setInst k x).stn = s.stn := rfl
@[simp] theorem setInst_img (k : Nat) (x : ObsInst) : (s.setInst k x).img = s.img := rfl
@[simp] theorem setInst_clk (k : Nat) (x : ObsInst) : (s.setInst k x).clk = s.clk := rfl
@[simp] theorem setInst_boot (k : Nat) (x : ObsInst) : (s.setInst k x).boot = s.boot := rfl
@[simp] theorem setInst_fuse (k : Nat) (x : ObsInst) : (s.setInst k x).fuse = s.fuse := rfl
@[simp] theorem setInst_kept (k : Nat) (x : ObsInst) : (s.setInst k x).kept = s.kept := rfl
@[simp] theorem setInst_dbg (k : Nat) (x : ObsInst) : (s.setInst k x).dbg = s.dbg := rfl
@[simp] theorem setInst_paths (k : Nat) (x : ObsInst) : (s.setInst k x).paths = s.paths := rfl
@[simp] theorem setInst_chks (k : Nat) (x : ObsInst) : (s.setInst k x).chks = s.chks := rfl
@[simp] theorem setInst_sched (k : Nat) (x : ObsInst) : (s.setInst k x).sched = s.sched := rfl
@[simp] theorem setInst_pwr (k : Nat) (x : ObsInst) : (s.setInst k x).pwr = s.pwr := rfl
@[simp] theorem setInst_wire (k : Nat) (x : ObsInst) : (s.setInst k x).wire = s.wire := rfl
@[simp] theorem setInst_taken (k : Nat) (x : ObsInst) : (s.setInst k x).taken = s.taken := rfl
@[simp] theorem setInst_freeCount (k : Nat) (x : ObsInst) : (s.setInst k x).freeCount = s.freeCount := rfl
@[simp] theorem setInst_pending (k : Nat) (x : ObsInst) : (s.setInst k x).pending = s.pending := rfl

@[simp] theorem setOrd_regs (k : Nat) (x : CellOrders) : (s.setOrd k x).regs = s.regs := rfl
@[simp] theorem setOrd_tick (k : Nat) (x : CellOrders) : (s.setOrd k x).tick = s.tick := rfl
@[simp] theorem setOrd_lanes (k : Nat) (x : CellOrders) : (s.setOrd k x).lanes = s.lanes := rfl
@[simp] theorem setOrd_bond (k : Nat) (x : CellOrders) : (s.setOrd k x).bond = s.bond := rfl
@[simp] theorem setOrd_links (k : Nat) (x : CellOrders) : (s.setOrd k x).links = s.links := rfl
@[simp] theorem setOrd_cells (k : Nat) (x : CellOrders) : (s.setOrd k x).cells = s.cells := rfl
@[simp] theorem setOrd_inputs (k : Nat) (x : CellOrders) : (s.setOrd k x).inputs = s.inputs := rfl
@[simp] theorem setOrd_obs (k : Nat) (x : CellOrders) : (s.setOrd k x).obs = s.obs := rfl
@[simp] theorem setOrd_orders (k : Nat) (x : CellOrders) : (s.setOrd k x).orders = AMap.put (fun _ => {}) s.orders k x := rfl
@[simp] theorem setOrd_arms (k : Nat) (x : CellOrders) : (s.setOrd k x).arms = s.arms := rfl
@[simp] theorem setOrd_plan (k : Nat) (x : CellOrders) : (s.setOrd k x).plan = s.plan := rfl
@[simp] theorem setOrd_ctxs (k : Nat) (x : CellOrders) : (s.setOrd k x).ctxs = s.ctxs := rfl
@[simp] theorem setOrd_chans (k : Nat) (x : CellOrders) : (s.setOrd k x).chans = s.chans := rfl
@[simp] theorem setOrd_streams (k : Nat) (x : CellOrders) : (s.setOrd k x).streams = s.streams := rfl
@[simp] theorem setOrd_vit (k : Nat) (x : CellOrders) : (s.setOrd k x).vit = s.vit := rfl
@[simp] theorem setOrd_cur (k : Nat) (x : CellOrders) : (s.setOrd k x).cur = s.cur := rfl
@[simp] theorem setOrd_twin (k : Nat) (x : CellOrders) : (s.setOrd k x).twin = s.twin := rfl
@[simp] theorem setOrd_stn (k : Nat) (x : CellOrders) : (s.setOrd k x).stn = s.stn := rfl
@[simp] theorem setOrd_img (k : Nat) (x : CellOrders) : (s.setOrd k x).img = s.img := rfl
@[simp] theorem setOrd_clk (k : Nat) (x : CellOrders) : (s.setOrd k x).clk = s.clk := rfl
@[simp] theorem setOrd_boot (k : Nat) (x : CellOrders) : (s.setOrd k x).boot = s.boot := rfl
@[simp] theorem setOrd_fuse (k : Nat) (x : CellOrders) : (s.setOrd k x).fuse = s.fuse := rfl
@[simp] theorem setOrd_kept (k : Nat) (x : CellOrders) : (s.setOrd k x).kept = s.kept := rfl
@[simp] theorem setOrd_dbg (k : Nat) (x : CellOrders) : (s.setOrd k x).dbg = s.dbg := rfl
@[simp] theorem setOrd_paths (k : Nat) (x : CellOrders) : (s.setOrd k x).paths = s.paths := rfl
@[simp] theorem setOrd_chks (k : Nat) (x : CellOrders) : (s.setOrd k x).chks = s.chks := rfl
@[simp] theorem setOrd_sched (k : Nat) (x : CellOrders) : (s.setOrd k x).sched = s.sched := rfl
@[simp] theorem setOrd_pwr (k : Nat) (x : CellOrders) : (s.setOrd k x).pwr = s.pwr := rfl
@[simp] theorem setOrd_wire (k : Nat) (x : CellOrders) : (s.setOrd k x).wire = s.wire := rfl
@[simp] theorem setOrd_taken (k : Nat) (x : CellOrders) : (s.setOrd k x).taken = s.taken := rfl
@[simp] theorem setOrd_freeCount (k : Nat) (x : CellOrders) : (s.setOrd k x).freeCount = s.freeCount := rfl
@[simp] theorem setOrd_pending (k : Nat) (x : CellOrders) : (s.setOrd k x).pending = s.pending := rfl

@[simp] theorem setArm_regs (k : Nat) (x : ArmState) : (s.setArm k x).regs = s.regs := rfl
@[simp] theorem setArm_tick (k : Nat) (x : ArmState) : (s.setArm k x).tick = s.tick := rfl
@[simp] theorem setArm_lanes (k : Nat) (x : ArmState) : (s.setArm k x).lanes = s.lanes := rfl
@[simp] theorem setArm_bond (k : Nat) (x : ArmState) : (s.setArm k x).bond = s.bond := rfl
@[simp] theorem setArm_links (k : Nat) (x : ArmState) : (s.setArm k x).links = s.links := rfl
@[simp] theorem setArm_cells (k : Nat) (x : ArmState) : (s.setArm k x).cells = s.cells := rfl
@[simp] theorem setArm_inputs (k : Nat) (x : ArmState) : (s.setArm k x).inputs = s.inputs := rfl
@[simp] theorem setArm_obs (k : Nat) (x : ArmState) : (s.setArm k x).obs = s.obs := rfl
@[simp] theorem setArm_orders (k : Nat) (x : ArmState) : (s.setArm k x).orders = s.orders := rfl
@[simp] theorem setArm_arms (k : Nat) (x : ArmState) : (s.setArm k x).arms = AMap.put (fun _ => {}) s.arms k x := rfl
@[simp] theorem setArm_plan (k : Nat) (x : ArmState) : (s.setArm k x).plan = s.plan := rfl
@[simp] theorem setArm_ctxs (k : Nat) (x : ArmState) : (s.setArm k x).ctxs = s.ctxs := rfl
@[simp] theorem setArm_chans (k : Nat) (x : ArmState) : (s.setArm k x).chans = s.chans := rfl
@[simp] theorem setArm_streams (k : Nat) (x : ArmState) : (s.setArm k x).streams = s.streams := rfl
@[simp] theorem setArm_vit (k : Nat) (x : ArmState) : (s.setArm k x).vit = s.vit := rfl
@[simp] theorem setArm_cur (k : Nat) (x : ArmState) : (s.setArm k x).cur = s.cur := rfl
@[simp] theorem setArm_twin (k : Nat) (x : ArmState) : (s.setArm k x).twin = s.twin := rfl
@[simp] theorem setArm_stn (k : Nat) (x : ArmState) : (s.setArm k x).stn = s.stn := rfl
@[simp] theorem setArm_img (k : Nat) (x : ArmState) : (s.setArm k x).img = s.img := rfl
@[simp] theorem setArm_clk (k : Nat) (x : ArmState) : (s.setArm k x).clk = s.clk := rfl
@[simp] theorem setArm_boot (k : Nat) (x : ArmState) : (s.setArm k x).boot = s.boot := rfl
@[simp] theorem setArm_fuse (k : Nat) (x : ArmState) : (s.setArm k x).fuse = s.fuse := rfl
@[simp] theorem setArm_kept (k : Nat) (x : ArmState) : (s.setArm k x).kept = s.kept := rfl
@[simp] theorem setArm_dbg (k : Nat) (x : ArmState) : (s.setArm k x).dbg = s.dbg := rfl
@[simp] theorem setArm_paths (k : Nat) (x : ArmState) : (s.setArm k x).paths = s.paths := rfl
@[simp] theorem setArm_chks (k : Nat) (x : ArmState) : (s.setArm k x).chks = s.chks := rfl
@[simp] theorem setArm_sched (k : Nat) (x : ArmState) : (s.setArm k x).sched = s.sched := rfl
@[simp] theorem setArm_pwr (k : Nat) (x : ArmState) : (s.setArm k x).pwr = s.pwr := rfl
@[simp] theorem setArm_wire (k : Nat) (x : ArmState) : (s.setArm k x).wire = s.wire := rfl
@[simp] theorem setArm_taken (k : Nat) (x : ArmState) : (s.setArm k x).taken = s.taken := rfl
@[simp] theorem setArm_freeCount (k : Nat) (x : ArmState) : (s.setArm k x).freeCount = s.freeCount := rfl
@[simp] theorem setArm_pending (k : Nat) (x : ArmState) : (s.setArm k x).pending = s.pending := rfl

@[simp] theorem setEnt_regs (k : Nat) (x : Ent) : (s.setEnt k x).regs = s.regs := rfl
@[simp] theorem setEnt_tick (k : Nat) (x : Ent) : (s.setEnt k x).tick = s.tick := rfl
@[simp] theorem setEnt_lanes (k : Nat) (x : Ent) : (s.setEnt k x).lanes = s.lanes := rfl
@[simp] theorem setEnt_bond (k : Nat) (x : Ent) : (s.setEnt k x).bond = s.bond := rfl
@[simp] theorem setEnt_links (k : Nat) (x : Ent) : (s.setEnt k x).links = s.links := rfl
@[simp] theorem setEnt_cells (k : Nat) (x : Ent) : (s.setEnt k x).cells = s.cells := rfl
@[simp] theorem setEnt_inputs (k : Nat) (x : Ent) : (s.setEnt k x).inputs = s.inputs := rfl
@[simp] theorem setEnt_obs (k : Nat) (x : Ent) : (s.setEnt k x).obs = s.obs := rfl
@[simp] theorem setEnt_orders (k : Nat) (x : Ent) : (s.setEnt k x).orders = s.orders := rfl
@[simp] theorem setEnt_arms (k : Nat) (x : Ent) : (s.setEnt k x).arms = s.arms := rfl
@[simp] theorem setEnt_plan (k : Nat) (x : Ent) : (s.setEnt k x).plan = AMap.put (fun _ => {}) s.plan k x := rfl
@[simp] theorem setEnt_ctxs (k : Nat) (x : Ent) : (s.setEnt k x).ctxs = s.ctxs := rfl
@[simp] theorem setEnt_chans (k : Nat) (x : Ent) : (s.setEnt k x).chans = s.chans := rfl
@[simp] theorem setEnt_streams (k : Nat) (x : Ent) : (s.setEnt k x).streams = s.streams := rfl
@[simp] theorem setEnt_vit (k : Nat) (x : Ent) : (s.setEnt k x).vit = s.vit := rfl
@[simp] theorem setEnt_cur (k : Nat) (x : Ent) : (s.setEnt k x).cur = s.cur := rfl
@[simp] theorem setEnt_twin (k : Nat) (x : Ent) : (s.setEnt k x).twin = s.twin := rfl
@[simp] theorem setEnt_stn (k : Nat) (x : Ent) : (s.setEnt k x).stn = s.stn := rfl
@[simp] theorem setEnt_img (k : Nat) (x : Ent) : (s.setEnt k x).img = s.img := rfl
@[simp] theorem setEnt_clk (k : Nat) (x : Ent) : (s.setEnt k x).clk = s.clk := rfl
@[simp] theorem setEnt_boot (k : Nat) (x : Ent) : (s.setEnt k x).boot = s.boot := rfl
@[simp] theorem setEnt_fuse (k : Nat) (x : Ent) : (s.setEnt k x).fuse = s.fuse := rfl
@[simp] theorem setEnt_kept (k : Nat) (x : Ent) : (s.setEnt k x).kept = s.kept := rfl
@[simp] theorem setEnt_dbg (k : Nat) (x : Ent) : (s.setEnt k x).dbg = s.dbg := rfl
@[simp] theorem setEnt_paths (k : Nat) (x : Ent) : (s.setEnt k x).paths = s.paths := rfl
@[simp] theorem setEnt_chks (k : Nat) (x : Ent) : (s.setEnt k x).chks = s.chks := rfl
@[simp] theorem setEnt_sched (k : Nat) (x : Ent) : (s.setEnt k x).sched = s.sched := rfl
@[simp] theorem setEnt_pwr (k : Nat) (x : Ent) : (s.setEnt k x).pwr = s.pwr := rfl
@[simp] theorem setEnt_wire (k : Nat) (x : Ent) : (s.setEnt k x).wire = s.wire := rfl
@[simp] theorem setEnt_taken (k : Nat) (x : Ent) : (s.setEnt k x).taken = s.taken := rfl
@[simp] theorem setEnt_freeCount (k : Nat) (x : Ent) : (s.setEnt k x).freeCount = s.freeCount := rfl
@[simp] theorem setEnt_pending (k : Nat) (x : Ent) : (s.setEnt k x).pending = s.pending := rfl

@[simp] theorem setCtx_regs (k : Nat) (x : CtxState) : (s.setCtx k x).regs = s.regs := rfl
@[simp] theorem setCtx_tick (k : Nat) (x : CtxState) : (s.setCtx k x).tick = s.tick := rfl
@[simp] theorem setCtx_lanes (k : Nat) (x : CtxState) : (s.setCtx k x).lanes = s.lanes := rfl
@[simp] theorem setCtx_bond (k : Nat) (x : CtxState) : (s.setCtx k x).bond = s.bond := rfl
@[simp] theorem setCtx_links (k : Nat) (x : CtxState) : (s.setCtx k x).links = s.links := rfl
@[simp] theorem setCtx_cells (k : Nat) (x : CtxState) : (s.setCtx k x).cells = s.cells := rfl
@[simp] theorem setCtx_inputs (k : Nat) (x : CtxState) : (s.setCtx k x).inputs = s.inputs := rfl
@[simp] theorem setCtx_obs (k : Nat) (x : CtxState) : (s.setCtx k x).obs = s.obs := rfl
@[simp] theorem setCtx_orders (k : Nat) (x : CtxState) : (s.setCtx k x).orders = s.orders := rfl
@[simp] theorem setCtx_arms (k : Nat) (x : CtxState) : (s.setCtx k x).arms = s.arms := rfl
@[simp] theorem setCtx_plan (k : Nat) (x : CtxState) : (s.setCtx k x).plan = s.plan := rfl
@[simp] theorem setCtx_ctxs (k : Nat) (x : CtxState) : (s.setCtx k x).ctxs = AMap.put (fun _ => {}) s.ctxs k x := rfl
@[simp] theorem setCtx_chans (k : Nat) (x : CtxState) : (s.setCtx k x).chans = s.chans := rfl
@[simp] theorem setCtx_streams (k : Nat) (x : CtxState) : (s.setCtx k x).streams = s.streams := rfl
@[simp] theorem setCtx_vit (k : Nat) (x : CtxState) : (s.setCtx k x).vit = s.vit := rfl
@[simp] theorem setCtx_cur (k : Nat) (x : CtxState) : (s.setCtx k x).cur = s.cur := rfl
@[simp] theorem setCtx_twin (k : Nat) (x : CtxState) : (s.setCtx k x).twin = s.twin := rfl
@[simp] theorem setCtx_stn (k : Nat) (x : CtxState) : (s.setCtx k x).stn = s.stn := rfl
@[simp] theorem setCtx_img (k : Nat) (x : CtxState) : (s.setCtx k x).img = s.img := rfl
@[simp] theorem setCtx_clk (k : Nat) (x : CtxState) : (s.setCtx k x).clk = s.clk := rfl
@[simp] theorem setCtx_boot (k : Nat) (x : CtxState) : (s.setCtx k x).boot = s.boot := rfl
@[simp] theorem setCtx_fuse (k : Nat) (x : CtxState) : (s.setCtx k x).fuse = s.fuse := rfl
@[simp] theorem setCtx_kept (k : Nat) (x : CtxState) : (s.setCtx k x).kept = s.kept := rfl
@[simp] theorem setCtx_dbg (k : Nat) (x : CtxState) : (s.setCtx k x).dbg = s.dbg := rfl
@[simp] theorem setCtx_paths (k : Nat) (x : CtxState) : (s.setCtx k x).paths = s.paths := rfl
@[simp] theorem setCtx_chks (k : Nat) (x : CtxState) : (s.setCtx k x).chks = s.chks := rfl
@[simp] theorem setCtx_sched (k : Nat) (x : CtxState) : (s.setCtx k x).sched = s.sched := rfl
@[simp] theorem setCtx_pwr (k : Nat) (x : CtxState) : (s.setCtx k x).pwr = s.pwr := rfl
@[simp] theorem setCtx_wire (k : Nat) (x : CtxState) : (s.setCtx k x).wire = s.wire := rfl
@[simp] theorem setCtx_taken (k : Nat) (x : CtxState) : (s.setCtx k x).taken = s.taken := rfl
@[simp] theorem setCtx_freeCount (k : Nat) (x : CtxState) : (s.setCtx k x).freeCount = s.freeCount := rfl
@[simp] theorem setCtx_pending (k : Nat) (x : CtxState) : (s.setCtx k x).pending = s.pending := rfl

@[simp] theorem setChan_regs (k : Nat) (x : Chan) : (s.setChan k x).regs = s.regs := rfl
@[simp] theorem setChan_tick (k : Nat) (x : Chan) : (s.setChan k x).tick = s.tick := rfl
@[simp] theorem setChan_lanes (k : Nat) (x : Chan) : (s.setChan k x).lanes = s.lanes := rfl
@[simp] theorem setChan_bond (k : Nat) (x : Chan) : (s.setChan k x).bond = s.bond := rfl
@[simp] theorem setChan_links (k : Nat) (x : Chan) : (s.setChan k x).links = s.links := rfl
@[simp] theorem setChan_cells (k : Nat) (x : Chan) : (s.setChan k x).cells = s.cells := rfl
@[simp] theorem setChan_inputs (k : Nat) (x : Chan) : (s.setChan k x).inputs = s.inputs := rfl
@[simp] theorem setChan_obs (k : Nat) (x : Chan) : (s.setChan k x).obs = s.obs := rfl
@[simp] theorem setChan_orders (k : Nat) (x : Chan) : (s.setChan k x).orders = s.orders := rfl
@[simp] theorem setChan_arms (k : Nat) (x : Chan) : (s.setChan k x).arms = s.arms := rfl
@[simp] theorem setChan_plan (k : Nat) (x : Chan) : (s.setChan k x).plan = s.plan := rfl
@[simp] theorem setChan_ctxs (k : Nat) (x : Chan) : (s.setChan k x).ctxs = s.ctxs := rfl
@[simp] theorem setChan_chans (k : Nat) (x : Chan) : (s.setChan k x).chans = AMap.put (fun _ => {}) s.chans k x := rfl
@[simp] theorem setChan_streams (k : Nat) (x : Chan) : (s.setChan k x).streams = s.streams := rfl
@[simp] theorem setChan_vit (k : Nat) (x : Chan) : (s.setChan k x).vit = s.vit := rfl
@[simp] theorem setChan_cur (k : Nat) (x : Chan) : (s.setChan k x).cur = s.cur := rfl
@[simp] theorem setChan_twin (k : Nat) (x : Chan) : (s.setChan k x).twin = s.twin := rfl
@[simp] theorem setChan_stn (k : Nat) (x : Chan) : (s.setChan k x).stn = s.stn := rfl
@[simp] theorem setChan_img (k : Nat) (x : Chan) : (s.setChan k x).img = s.img := rfl
@[simp] theorem setChan_clk (k : Nat) (x : Chan) : (s.setChan k x).clk = s.clk := rfl
@[simp] theorem setChan_boot (k : Nat) (x : Chan) : (s.setChan k x).boot = s.boot := rfl
@[simp] theorem setChan_fuse (k : Nat) (x : Chan) : (s.setChan k x).fuse = s.fuse := rfl
@[simp] theorem setChan_kept (k : Nat) (x : Chan) : (s.setChan k x).kept = s.kept := rfl
@[simp] theorem setChan_dbg (k : Nat) (x : Chan) : (s.setChan k x).dbg = s.dbg := rfl
@[simp] theorem setChan_paths (k : Nat) (x : Chan) : (s.setChan k x).paths = s.paths := rfl
@[simp] theorem setChan_chks (k : Nat) (x : Chan) : (s.setChan k x).chks = s.chks := rfl
@[simp] theorem setChan_sched (k : Nat) (x : Chan) : (s.setChan k x).sched = s.sched := rfl
@[simp] theorem setChan_pwr (k : Nat) (x : Chan) : (s.setChan k x).pwr = s.pwr := rfl
@[simp] theorem setChan_wire (k : Nat) (x : Chan) : (s.setChan k x).wire = s.wire := rfl
@[simp] theorem setChan_taken (k : Nat) (x : Chan) : (s.setChan k x).taken = s.taken := rfl
@[simp] theorem setChan_freeCount (k : Nat) (x : Chan) : (s.setChan k x).freeCount = s.freeCount := rfl
@[simp] theorem setChan_pending (k : Nat) (x : Chan) : (s.setChan k x).pending = s.pending := rfl

@[simp] theorem setStream_regs (k : Nat) (x : StreamIn) : (s.setStream k x).regs = s.regs := rfl
@[simp] theorem setStream_tick (k : Nat) (x : StreamIn) : (s.setStream k x).tick = s.tick := rfl
@[simp] theorem setStream_lanes (k : Nat) (x : StreamIn) : (s.setStream k x).lanes = s.lanes := rfl
@[simp] theorem setStream_bond (k : Nat) (x : StreamIn) : (s.setStream k x).bond = s.bond := rfl
@[simp] theorem setStream_links (k : Nat) (x : StreamIn) : (s.setStream k x).links = s.links := rfl
@[simp] theorem setStream_cells (k : Nat) (x : StreamIn) : (s.setStream k x).cells = s.cells := rfl
@[simp] theorem setStream_inputs (k : Nat) (x : StreamIn) : (s.setStream k x).inputs = s.inputs := rfl
@[simp] theorem setStream_obs (k : Nat) (x : StreamIn) : (s.setStream k x).obs = s.obs := rfl
@[simp] theorem setStream_orders (k : Nat) (x : StreamIn) : (s.setStream k x).orders = s.orders := rfl
@[simp] theorem setStream_arms (k : Nat) (x : StreamIn) : (s.setStream k x).arms = s.arms := rfl
@[simp] theorem setStream_plan (k : Nat) (x : StreamIn) : (s.setStream k x).plan = s.plan := rfl
@[simp] theorem setStream_ctxs (k : Nat) (x : StreamIn) : (s.setStream k x).ctxs = s.ctxs := rfl
@[simp] theorem setStream_chans (k : Nat) (x : StreamIn) : (s.setStream k x).chans = s.chans := rfl
@[simp] theorem setStream_streams (k : Nat) (x : StreamIn) : (s.setStream k x).streams = AMap.put (fun _ => {}) s.streams k x := rfl
@[simp] theorem setStream_vit (k : Nat) (x : StreamIn) : (s.setStream k x).vit = s.vit := rfl
@[simp] theorem setStream_cur (k : Nat) (x : StreamIn) : (s.setStream k x).cur = s.cur := rfl
@[simp] theorem setStream_twin (k : Nat) (x : StreamIn) : (s.setStream k x).twin = s.twin := rfl
@[simp] theorem setStream_stn (k : Nat) (x : StreamIn) : (s.setStream k x).stn = s.stn := rfl
@[simp] theorem setStream_img (k : Nat) (x : StreamIn) : (s.setStream k x).img = s.img := rfl
@[simp] theorem setStream_clk (k : Nat) (x : StreamIn) : (s.setStream k x).clk = s.clk := rfl
@[simp] theorem setStream_boot (k : Nat) (x : StreamIn) : (s.setStream k x).boot = s.boot := rfl
@[simp] theorem setStream_fuse (k : Nat) (x : StreamIn) : (s.setStream k x).fuse = s.fuse := rfl
@[simp] theorem setStream_kept (k : Nat) (x : StreamIn) : (s.setStream k x).kept = s.kept := rfl
@[simp] theorem setStream_dbg (k : Nat) (x : StreamIn) : (s.setStream k x).dbg = s.dbg := rfl
@[simp] theorem setStream_paths (k : Nat) (x : StreamIn) : (s.setStream k x).paths = s.paths := rfl
@[simp] theorem setStream_chks (k : Nat) (x : StreamIn) : (s.setStream k x).chks = s.chks := rfl
@[simp] theorem setStream_sched (k : Nat) (x : StreamIn) : (s.setStream k x).sched = s.sched := rfl
@[simp] theorem setStream_pwr (k : Nat) (x : StreamIn) : (s.setStream k x).pwr = s.pwr := rfl
@[simp] theorem setStream_wire (k : Nat) (x : StreamIn) : (s.setStream k x).wire = s.wire := rfl
@[simp] theorem setStream_taken (k : Nat) (x : StreamIn) : (s.setStream k x).taken = s.taken := rfl
@[simp] theorem setStream_freeCount (k : Nat) (x : StreamIn) : (s.setStream k x).freeCount = s.freeCount := rfl
@[simp] theorem setStream_pending (k : Nat) (x : StreamIn) : (s.setStream k x).pending = s.pending := rfl

@[simp] theorem setPath_regs (k : Nat) (x : PathState) : (s.setPath k x).regs = s.regs := rfl
@[simp] theorem setPath_tick (k : Nat) (x : PathState) : (s.setPath k x).tick = s.tick := rfl
@[simp] theorem setPath_lanes (k : Nat) (x : PathState) : (s.setPath k x).lanes = s.lanes := rfl
@[simp] theorem setPath_bond (k : Nat) (x : PathState) : (s.setPath k x).bond = s.bond := rfl
@[simp] theorem setPath_links (k : Nat) (x : PathState) : (s.setPath k x).links = s.links := rfl
@[simp] theorem setPath_cells (k : Nat) (x : PathState) : (s.setPath k x).cells = s.cells := rfl
@[simp] theorem setPath_inputs (k : Nat) (x : PathState) : (s.setPath k x).inputs = s.inputs := rfl
@[simp] theorem setPath_obs (k : Nat) (x : PathState) : (s.setPath k x).obs = s.obs := rfl
@[simp] theorem setPath_orders (k : Nat) (x : PathState) : (s.setPath k x).orders = s.orders := rfl
@[simp] theorem setPath_arms (k : Nat) (x : PathState) : (s.setPath k x).arms = s.arms := rfl
@[simp] theorem setPath_plan (k : Nat) (x : PathState) : (s.setPath k x).plan = s.plan := rfl
@[simp] theorem setPath_ctxs (k : Nat) (x : PathState) : (s.setPath k x).ctxs = s.ctxs := rfl
@[simp] theorem setPath_chans (k : Nat) (x : PathState) : (s.setPath k x).chans = s.chans := rfl
@[simp] theorem setPath_streams (k : Nat) (x : PathState) : (s.setPath k x).streams = s.streams := rfl
@[simp] theorem setPath_vit (k : Nat) (x : PathState) : (s.setPath k x).vit = s.vit := rfl
@[simp] theorem setPath_cur (k : Nat) (x : PathState) : (s.setPath k x).cur = s.cur := rfl
@[simp] theorem setPath_twin (k : Nat) (x : PathState) : (s.setPath k x).twin = s.twin := rfl
@[simp] theorem setPath_stn (k : Nat) (x : PathState) : (s.setPath k x).stn = s.stn := rfl
@[simp] theorem setPath_img (k : Nat) (x : PathState) : (s.setPath k x).img = s.img := rfl
@[simp] theorem setPath_clk (k : Nat) (x : PathState) : (s.setPath k x).clk = s.clk := rfl
@[simp] theorem setPath_boot (k : Nat) (x : PathState) : (s.setPath k x).boot = s.boot := rfl
@[simp] theorem setPath_fuse (k : Nat) (x : PathState) : (s.setPath k x).fuse = s.fuse := rfl
@[simp] theorem setPath_kept (k : Nat) (x : PathState) : (s.setPath k x).kept = s.kept := rfl
@[simp] theorem setPath_dbg (k : Nat) (x : PathState) : (s.setPath k x).dbg = s.dbg := rfl
@[simp] theorem setPath_paths (k : Nat) (x : PathState) : (s.setPath k x).paths = AMap.put (fun _ => {}) s.paths k x := rfl
@[simp] theorem setPath_chks (k : Nat) (x : PathState) : (s.setPath k x).chks = s.chks := rfl
@[simp] theorem setPath_sched (k : Nat) (x : PathState) : (s.setPath k x).sched = s.sched := rfl
@[simp] theorem setPath_pwr (k : Nat) (x : PathState) : (s.setPath k x).pwr = s.pwr := rfl
@[simp] theorem setPath_wire (k : Nat) (x : PathState) : (s.setPath k x).wire = s.wire := rfl
@[simp] theorem setPath_taken (k : Nat) (x : PathState) : (s.setPath k x).taken = s.taken := rfl
@[simp] theorem setPath_freeCount (k : Nat) (x : PathState) : (s.setPath k x).freeCount = s.freeCount := rfl
@[simp] theorem setPath_pending (k : Nat) (x : PathState) : (s.setPath k x).pending = s.pending := rfl

@[simp] theorem setChk_regs (k : Nat) (x : ChkUnit) : (s.setChk k x).regs = s.regs := rfl
@[simp] theorem setChk_tick (k : Nat) (x : ChkUnit) : (s.setChk k x).tick = s.tick := rfl
@[simp] theorem setChk_lanes (k : Nat) (x : ChkUnit) : (s.setChk k x).lanes = s.lanes := rfl
@[simp] theorem setChk_bond (k : Nat) (x : ChkUnit) : (s.setChk k x).bond = s.bond := rfl
@[simp] theorem setChk_links (k : Nat) (x : ChkUnit) : (s.setChk k x).links = s.links := rfl
@[simp] theorem setChk_cells (k : Nat) (x : ChkUnit) : (s.setChk k x).cells = s.cells := rfl
@[simp] theorem setChk_inputs (k : Nat) (x : ChkUnit) : (s.setChk k x).inputs = s.inputs := rfl
@[simp] theorem setChk_obs (k : Nat) (x : ChkUnit) : (s.setChk k x).obs = s.obs := rfl
@[simp] theorem setChk_orders (k : Nat) (x : ChkUnit) : (s.setChk k x).orders = s.orders := rfl
@[simp] theorem setChk_arms (k : Nat) (x : ChkUnit) : (s.setChk k x).arms = s.arms := rfl
@[simp] theorem setChk_plan (k : Nat) (x : ChkUnit) : (s.setChk k x).plan = s.plan := rfl
@[simp] theorem setChk_ctxs (k : Nat) (x : ChkUnit) : (s.setChk k x).ctxs = s.ctxs := rfl
@[simp] theorem setChk_chans (k : Nat) (x : ChkUnit) : (s.setChk k x).chans = s.chans := rfl
@[simp] theorem setChk_streams (k : Nat) (x : ChkUnit) : (s.setChk k x).streams = s.streams := rfl
@[simp] theorem setChk_vit (k : Nat) (x : ChkUnit) : (s.setChk k x).vit = s.vit := rfl
@[simp] theorem setChk_cur (k : Nat) (x : ChkUnit) : (s.setChk k x).cur = s.cur := rfl
@[simp] theorem setChk_twin (k : Nat) (x : ChkUnit) : (s.setChk k x).twin = s.twin := rfl
@[simp] theorem setChk_stn (k : Nat) (x : ChkUnit) : (s.setChk k x).stn = s.stn := rfl
@[simp] theorem setChk_img (k : Nat) (x : ChkUnit) : (s.setChk k x).img = s.img := rfl
@[simp] theorem setChk_clk (k : Nat) (x : ChkUnit) : (s.setChk k x).clk = s.clk := rfl
@[simp] theorem setChk_boot (k : Nat) (x : ChkUnit) : (s.setChk k x).boot = s.boot := rfl
@[simp] theorem setChk_fuse (k : Nat) (x : ChkUnit) : (s.setChk k x).fuse = s.fuse := rfl
@[simp] theorem setChk_kept (k : Nat) (x : ChkUnit) : (s.setChk k x).kept = s.kept := rfl
@[simp] theorem setChk_dbg (k : Nat) (x : ChkUnit) : (s.setChk k x).dbg = s.dbg := rfl
@[simp] theorem setChk_paths (k : Nat) (x : ChkUnit) : (s.setChk k x).paths = s.paths := rfl
@[simp] theorem setChk_chks (k : Nat) (x : ChkUnit) : (s.setChk k x).chks = AMap.put (fun _ => {}) s.chks k x := rfl
@[simp] theorem setChk_sched (k : Nat) (x : ChkUnit) : (s.setChk k x).sched = s.sched := rfl
@[simp] theorem setChk_pwr (k : Nat) (x : ChkUnit) : (s.setChk k x).pwr = s.pwr := rfl
@[simp] theorem setChk_wire (k : Nat) (x : ChkUnit) : (s.setChk k x).wire = s.wire := rfl
@[simp] theorem setChk_taken (k : Nat) (x : ChkUnit) : (s.setChk k x).taken = s.taken := rfl
@[simp] theorem setChk_freeCount (k : Nat) (x : ChkUnit) : (s.setChk k x).freeCount = s.freeCount := rfl
@[simp] theorem setChk_pending (k : Nat) (x : ChkUnit) : (s.setChk k x).pending = s.pending := rfl

@[simp] theorem setCap_regs (k : Nat) (x : Cap) : (s.setCap k x).regs = s.regs := rfl
@[simp] theorem setCap_tick (k : Nat) (x : Cap) : (s.setCap k x).tick = s.tick := rfl
@[simp] theorem setCap_lanes (k : Nat) (x : Cap) : (s.setCap k x).lanes = s.lanes := rfl
@[simp] theorem setCap_bond (k : Nat) (x : Cap) : (s.setCap k x).bond = s.bond := rfl
@[simp] theorem setCap_links (k : Nat) (x : Cap) : (s.setCap k x).links = s.links := rfl
@[simp] theorem setCap_cells (k : Nat) (x : Cap) : (s.setCap k x).cells = s.cells := rfl
@[simp] theorem setCap_inputs (k : Nat) (x : Cap) : (s.setCap k x).inputs = s.inputs := rfl
@[simp] theorem setCap_obs (k : Nat) (x : Cap) : (s.setCap k x).obs = s.obs := rfl
@[simp] theorem setCap_orders (k : Nat) (x : Cap) : (s.setCap k x).orders = s.orders := rfl
@[simp] theorem setCap_arms (k : Nat) (x : Cap) : (s.setCap k x).arms = s.arms := rfl
@[simp] theorem setCap_plan (k : Nat) (x : Cap) : (s.setCap k x).plan = s.plan := rfl
@[simp] theorem setCap_ctxs (k : Nat) (x : Cap) : (s.setCap k x).ctxs = s.ctxs := rfl
@[simp] theorem setCap_chans (k : Nat) (x : Cap) : (s.setCap k x).chans = s.chans := rfl
@[simp] theorem setCap_streams (k : Nat) (x : Cap) : (s.setCap k x).streams = s.streams := rfl
@[simp] theorem setCap_cur (k : Nat) (x : Cap) : (s.setCap k x).cur = s.cur := rfl
@[simp] theorem setCap_twin (k : Nat) (x : Cap) : (s.setCap k x).twin = s.twin := rfl
@[simp] theorem setCap_stn (k : Nat) (x : Cap) : (s.setCap k x).stn = s.stn := rfl
@[simp] theorem setCap_img (k : Nat) (x : Cap) : (s.setCap k x).img = s.img := rfl
@[simp] theorem setCap_clk (k : Nat) (x : Cap) : (s.setCap k x).clk = s.clk := rfl
@[simp] theorem setCap_boot (k : Nat) (x : Cap) : (s.setCap k x).boot = s.boot := rfl
@[simp] theorem setCap_fuse (k : Nat) (x : Cap) : (s.setCap k x).fuse = s.fuse := rfl
@[simp] theorem setCap_kept (k : Nat) (x : Cap) : (s.setCap k x).kept = s.kept := rfl
@[simp] theorem setCap_dbg (k : Nat) (x : Cap) : (s.setCap k x).dbg = s.dbg := rfl
@[simp] theorem setCap_paths (k : Nat) (x : Cap) : (s.setCap k x).paths = s.paths := rfl
@[simp] theorem setCap_chks (k : Nat) (x : Cap) : (s.setCap k x).chks = s.chks := rfl
@[simp] theorem setCap_sched (k : Nat) (x : Cap) : (s.setCap k x).sched = s.sched := rfl
@[simp] theorem setCap_pwr (k : Nat) (x : Cap) : (s.setCap k x).pwr = s.pwr := rfl
@[simp] theorem setCap_wire (k : Nat) (x : Cap) : (s.setCap k x).wire = s.wire := rfl
@[simp] theorem setCap_taken (k : Nat) (x : Cap) : (s.setCap k x).taken = s.taken := rfl
@[simp] theorem setCap_freeCount (k : Nat) (x : Cap) : (s.setCap k x).freeCount = s.freeCount := rfl
@[simp] theorem setCap_pending (k : Nat) (x : Cap) : (s.setCap k x).pending = s.pending := rfl

@[simp] theorem setUnit_regs (k : Nat) (x : TrigUnit) : (s.setUnit k x).regs = s.regs := rfl
@[simp] theorem setUnit_tick (k : Nat) (x : TrigUnit) : (s.setUnit k x).tick = s.tick := rfl
@[simp] theorem setUnit_lanes (k : Nat) (x : TrigUnit) : (s.setUnit k x).lanes = s.lanes := rfl
@[simp] theorem setUnit_bond (k : Nat) (x : TrigUnit) : (s.setUnit k x).bond = s.bond := rfl
@[simp] theorem setUnit_links (k : Nat) (x : TrigUnit) : (s.setUnit k x).links = s.links := rfl
@[simp] theorem setUnit_cells (k : Nat) (x : TrigUnit) : (s.setUnit k x).cells = s.cells := rfl
@[simp] theorem setUnit_inputs (k : Nat) (x : TrigUnit) : (s.setUnit k x).inputs = s.inputs := rfl
@[simp] theorem setUnit_obs (k : Nat) (x : TrigUnit) : (s.setUnit k x).obs = s.obs := rfl
@[simp] theorem setUnit_orders (k : Nat) (x : TrigUnit) : (s.setUnit k x).orders = s.orders := rfl
@[simp] theorem setUnit_arms (k : Nat) (x : TrigUnit) : (s.setUnit k x).arms = s.arms := rfl
@[simp] theorem setUnit_plan (k : Nat) (x : TrigUnit) : (s.setUnit k x).plan = s.plan := rfl
@[simp] theorem setUnit_ctxs (k : Nat) (x : TrigUnit) : (s.setUnit k x).ctxs = s.ctxs := rfl
@[simp] theorem setUnit_chans (k : Nat) (x : TrigUnit) : (s.setUnit k x).chans = s.chans := rfl
@[simp] theorem setUnit_streams (k : Nat) (x : TrigUnit) : (s.setUnit k x).streams = s.streams := rfl
@[simp] theorem setUnit_cur (k : Nat) (x : TrigUnit) : (s.setUnit k x).cur = s.cur := rfl
@[simp] theorem setUnit_twin (k : Nat) (x : TrigUnit) : (s.setUnit k x).twin = s.twin := rfl
@[simp] theorem setUnit_stn (k : Nat) (x : TrigUnit) : (s.setUnit k x).stn = s.stn := rfl
@[simp] theorem setUnit_img (k : Nat) (x : TrigUnit) : (s.setUnit k x).img = s.img := rfl
@[simp] theorem setUnit_clk (k : Nat) (x : TrigUnit) : (s.setUnit k x).clk = s.clk := rfl
@[simp] theorem setUnit_boot (k : Nat) (x : TrigUnit) : (s.setUnit k x).boot = s.boot := rfl
@[simp] theorem setUnit_fuse (k : Nat) (x : TrigUnit) : (s.setUnit k x).fuse = s.fuse := rfl
@[simp] theorem setUnit_kept (k : Nat) (x : TrigUnit) : (s.setUnit k x).kept = s.kept := rfl
@[simp] theorem setUnit_dbg (k : Nat) (x : TrigUnit) : (s.setUnit k x).dbg = s.dbg := rfl
@[simp] theorem setUnit_paths (k : Nat) (x : TrigUnit) : (s.setUnit k x).paths = s.paths := rfl
@[simp] theorem setUnit_chks (k : Nat) (x : TrigUnit) : (s.setUnit k x).chks = s.chks := rfl
@[simp] theorem setUnit_sched (k : Nat) (x : TrigUnit) : (s.setUnit k x).sched = s.sched := rfl
@[simp] theorem setUnit_pwr (k : Nat) (x : TrigUnit) : (s.setUnit k x).pwr = s.pwr := rfl
@[simp] theorem setUnit_wire (k : Nat) (x : TrigUnit) : (s.setUnit k x).wire = s.wire := rfl
@[simp] theorem setUnit_taken (k : Nat) (x : TrigUnit) : (s.setUnit k x).taken = s.taken := rfl
@[simp] theorem setUnit_freeCount (k : Nat) (x : TrigUnit) : (s.setUnit k x).freeCount = s.freeCount := rfl
@[simp] theorem setUnit_pending (k : Nat) (x : TrigUnit) : (s.setUnit k x).pending = s.pending := rfl

@[simp] theorem setDirRec_regs (k : Nat) (x : Option Rec) : (s.setDirRec k x).regs = s.regs := rfl
@[simp] theorem setDirRec_tick (k : Nat) (x : Option Rec) : (s.setDirRec k x).tick = s.tick := rfl
@[simp] theorem setDirRec_lanes (k : Nat) (x : Option Rec) : (s.setDirRec k x).lanes = s.lanes := rfl
@[simp] theorem setDirRec_bond (k : Nat) (x : Option Rec) : (s.setDirRec k x).bond = s.bond := rfl
@[simp] theorem setDirRec_links (k : Nat) (x : Option Rec) : (s.setDirRec k x).links = s.links := rfl
@[simp] theorem setDirRec_cells (k : Nat) (x : Option Rec) : (s.setDirRec k x).cells = s.cells := rfl
@[simp] theorem setDirRec_inputs (k : Nat) (x : Option Rec) : (s.setDirRec k x).inputs = s.inputs := rfl
@[simp] theorem setDirRec_obs (k : Nat) (x : Option Rec) : (s.setDirRec k x).obs = s.obs := rfl
@[simp] theorem setDirRec_orders (k : Nat) (x : Option Rec) : (s.setDirRec k x).orders = s.orders := rfl
@[simp] theorem setDirRec_arms (k : Nat) (x : Option Rec) : (s.setDirRec k x).arms = s.arms := rfl
@[simp] theorem setDirRec_plan (k : Nat) (x : Option Rec) : (s.setDirRec k x).plan = s.plan := rfl
@[simp] theorem setDirRec_ctxs (k : Nat) (x : Option Rec) : (s.setDirRec k x).ctxs = s.ctxs := rfl
@[simp] theorem setDirRec_chans (k : Nat) (x : Option Rec) : (s.setDirRec k x).chans = s.chans := rfl
@[simp] theorem setDirRec_streams (k : Nat) (x : Option Rec) : (s.setDirRec k x).streams = s.streams := rfl
@[simp] theorem setDirRec_cur (k : Nat) (x : Option Rec) : (s.setDirRec k x).cur = s.cur := rfl
@[simp] theorem setDirRec_twin (k : Nat) (x : Option Rec) : (s.setDirRec k x).twin = s.twin := rfl
@[simp] theorem setDirRec_stn (k : Nat) (x : Option Rec) : (s.setDirRec k x).stn = s.stn := rfl
@[simp] theorem setDirRec_img (k : Nat) (x : Option Rec) : (s.setDirRec k x).img = s.img := rfl
@[simp] theorem setDirRec_clk (k : Nat) (x : Option Rec) : (s.setDirRec k x).clk = s.clk := rfl
@[simp] theorem setDirRec_boot (k : Nat) (x : Option Rec) : (s.setDirRec k x).boot = s.boot := rfl
@[simp] theorem setDirRec_fuse (k : Nat) (x : Option Rec) : (s.setDirRec k x).fuse = s.fuse := rfl
@[simp] theorem setDirRec_kept (k : Nat) (x : Option Rec) : (s.setDirRec k x).kept = s.kept := rfl
@[simp] theorem setDirRec_dbg (k : Nat) (x : Option Rec) : (s.setDirRec k x).dbg = s.dbg := rfl
@[simp] theorem setDirRec_paths (k : Nat) (x : Option Rec) : (s.setDirRec k x).paths = s.paths := rfl
@[simp] theorem setDirRec_chks (k : Nat) (x : Option Rec) : (s.setDirRec k x).chks = s.chks := rfl
@[simp] theorem setDirRec_sched (k : Nat) (x : Option Rec) : (s.setDirRec k x).sched = s.sched := rfl
@[simp] theorem setDirRec_pwr (k : Nat) (x : Option Rec) : (s.setDirRec k x).pwr = s.pwr := rfl
@[simp] theorem setDirRec_wire (k : Nat) (x : Option Rec) : (s.setDirRec k x).wire = s.wire := rfl
@[simp] theorem setDirRec_taken (k : Nat) (x : Option Rec) : (s.setDirRec k x).taken = s.taken := rfl
@[simp] theorem setDirRec_freeCount (k : Nat) (x : Option Rec) : (s.setDirRec k x).freeCount = s.freeCount := rfl
@[simp] theorem setDirRec_pending (k : Nat) (x : Option Rec) : (s.setDirRec k x).pending = s.pending := rfl

@[simp] theorem setCore_regs (k : Nat) (x : CoreState) : (s.setCore k x).regs = s.regs := rfl
@[simp] theorem setCore_tick (k : Nat) (x : CoreState) : (s.setCore k x).tick = s.tick := rfl
@[simp] theorem setCore_lanes (k : Nat) (x : CoreState) : (s.setCore k x).lanes = s.lanes := rfl
@[simp] theorem setCore_bond (k : Nat) (x : CoreState) : (s.setCore k x).bond = s.bond := rfl
@[simp] theorem setCore_links (k : Nat) (x : CoreState) : (s.setCore k x).links = s.links := rfl
@[simp] theorem setCore_cells (k : Nat) (x : CoreState) : (s.setCore k x).cells = s.cells := rfl
@[simp] theorem setCore_inputs (k : Nat) (x : CoreState) : (s.setCore k x).inputs = s.inputs := rfl
@[simp] theorem setCore_obs (k : Nat) (x : CoreState) : (s.setCore k x).obs = s.obs := rfl
@[simp] theorem setCore_orders (k : Nat) (x : CoreState) : (s.setCore k x).orders = s.orders := rfl
@[simp] theorem setCore_arms (k : Nat) (x : CoreState) : (s.setCore k x).arms = s.arms := rfl
@[simp] theorem setCore_plan (k : Nat) (x : CoreState) : (s.setCore k x).plan = s.plan := rfl
@[simp] theorem setCore_ctxs (k : Nat) (x : CoreState) : (s.setCore k x).ctxs = s.ctxs := rfl
@[simp] theorem setCore_chans (k : Nat) (x : CoreState) : (s.setCore k x).chans = s.chans := rfl
@[simp] theorem setCore_streams (k : Nat) (x : CoreState) : (s.setCore k x).streams = s.streams := rfl
@[simp] theorem setCore_vit (k : Nat) (x : CoreState) : (s.setCore k x).vit = s.vit := rfl
@[simp] theorem setCore_cur (k : Nat) (x : CoreState) : (s.setCore k x).cur = s.cur := rfl
@[simp] theorem setCore_twin (k : Nat) (x : CoreState) : (s.setCore k x).twin = s.twin := rfl
@[simp] theorem setCore_stn (k : Nat) (x : CoreState) : (s.setCore k x).stn = s.stn := rfl
@[simp] theorem setCore_img (k : Nat) (x : CoreState) : (s.setCore k x).img = s.img := rfl
@[simp] theorem setCore_clk (k : Nat) (x : CoreState) : (s.setCore k x).clk = s.clk := rfl
@[simp] theorem setCore_boot (k : Nat) (x : CoreState) : (s.setCore k x).boot = s.boot := rfl
@[simp] theorem setCore_fuse (k : Nat) (x : CoreState) : (s.setCore k x).fuse = s.fuse := rfl
@[simp] theorem setCore_kept (k : Nat) (x : CoreState) : (s.setCore k x).kept = s.kept := rfl
@[simp] theorem setCore_dbg (k : Nat) (x : CoreState) : (s.setCore k x).dbg = s.dbg := rfl
@[simp] theorem setCore_paths (k : Nat) (x : CoreState) : (s.setCore k x).paths = s.paths := rfl
@[simp] theorem setCore_chks (k : Nat) (x : CoreState) : (s.setCore k x).chks = s.chks := rfl
@[simp] theorem setCore_pwr (k : Nat) (x : CoreState) : (s.setCore k x).pwr = s.pwr := rfl
@[simp] theorem setCore_wire (k : Nat) (x : CoreState) : (s.setCore k x).wire = s.wire := rfl
@[simp] theorem setCore_taken (k : Nat) (x : CoreState) : (s.setCore k x).taken = s.taken := rfl
@[simp] theorem setCore_freeCount (k : Nat) (x : CoreState) : (s.setCore k x).freeCount = s.freeCount := rfl
@[simp] theorem setCore_pending (k : Nat) (x : CoreState) : (s.setCore k x).pending = s.pending := rfl

@[simp] theorem emit_regs (w : Wire) : (s.emit w).regs = s.regs := rfl
@[simp] theorem emit_tick (w : Wire) : (s.emit w).tick = s.tick := rfl
@[simp] theorem emit_lanes (w : Wire) : (s.emit w).lanes = s.lanes := rfl
@[simp] theorem emit_bond (w : Wire) : (s.emit w).bond = s.bond := rfl
@[simp] theorem emit_links (w : Wire) : (s.emit w).links = s.links := rfl
@[simp] theorem emit_cells (w : Wire) : (s.emit w).cells = s.cells := rfl
@[simp] theorem emit_inputs (w : Wire) : (s.emit w).inputs = s.inputs := rfl
@[simp] theorem emit_obs (w : Wire) : (s.emit w).obs = s.obs := rfl
@[simp] theorem emit_orders (w : Wire) : (s.emit w).orders = s.orders := rfl
@[simp] theorem emit_arms (w : Wire) : (s.emit w).arms = s.arms := rfl
@[simp] theorem emit_plan (w : Wire) : (s.emit w).plan = s.plan := rfl
@[simp] theorem emit_ctxs (w : Wire) : (s.emit w).ctxs = s.ctxs := rfl
@[simp] theorem emit_chans (w : Wire) : (s.emit w).chans = s.chans := rfl
@[simp] theorem emit_streams (w : Wire) : (s.emit w).streams = s.streams := rfl
@[simp] theorem emit_vit (w : Wire) : (s.emit w).vit = s.vit := rfl
@[simp] theorem emit_cur (w : Wire) : (s.emit w).cur = s.cur := rfl
@[simp] theorem emit_twin (w : Wire) : (s.emit w).twin = s.twin := rfl
@[simp] theorem emit_stn (w : Wire) : (s.emit w).stn = s.stn := rfl
@[simp] theorem emit_img (w : Wire) : (s.emit w).img = s.img := rfl
@[simp] theorem emit_clk (w : Wire) : (s.emit w).clk = s.clk := rfl
@[simp] theorem emit_boot (w : Wire) : (s.emit w).boot = s.boot := rfl
@[simp] theorem emit_fuse (w : Wire) : (s.emit w).fuse = s.fuse := rfl
@[simp] theorem emit_kept (w : Wire) : (s.emit w).kept = s.kept := rfl
@[simp] theorem emit_dbg (w : Wire) : (s.emit w).dbg = s.dbg := rfl
@[simp] theorem emit_paths (w : Wire) : (s.emit w).paths = s.paths := rfl
@[simp] theorem emit_chks (w : Wire) : (s.emit w).chks = s.chks := rfl
@[simp] theorem emit_sched (w : Wire) : (s.emit w).sched = s.sched := rfl
@[simp] theorem emit_pwr (w : Wire) : (s.emit w).pwr = s.pwr := rfl
@[simp] theorem emit_wire (w : Wire) : (s.emit w).wire = s.wire ++ [w] := rfl
@[simp] theorem emit_taken (w : Wire) : (s.emit w).taken = s.taken := rfl
@[simp] theorem emit_freeCount (w : Wire) : (s.emit w).freeCount = s.freeCount := rfl
@[simp] theorem emit_pending (w : Wire) : (s.emit w).pending = s.pending := rfl

-- A part read after it was written

theorem lane_setLane (k j : Nat) (x : LaneState) (h : AMap.wf (fun _ => {}) s.lanes = true) :
    (s.setLane k x).lane j = if j = k then x else s.lane j := AMap.read_put _ s.lanes k x j h
theorem link_setLink (k j : Nat) (x : LinkState) (h : AMap.wf (fun _ => {}) s.links = true) :
    (s.setLink k x).link j = if j = k then x else s.link j := AMap.read_put _ s.links k x j h
theorem cell_setCell (k j : Nat) (x : CellLink) (h : AMap.wf (fun _ => {}) s.cells = true) :
    (s.setCell k x).cell j = if j = k then x else s.cell j := AMap.read_put _ s.cells k x j h
theorem input_setInput (k j : Nat) (x : CellInput) (h : AMap.wf (fun _ => {}) s.inputs = true) :
    (s.setInput k x).input j = if j = k then x else s.input j := AMap.read_put _ s.inputs k x j h
theorem inst_setInst (k j : Nat) (x : ObsInst) (h : AMap.wf (fun _ => {}) s.obs = true) :
    (s.setInst k x).inst j = if j = k then x else s.inst j := AMap.read_put _ s.obs k x j h
theorem ord_setOrd (k j : Nat) (x : CellOrders) (h : AMap.wf (fun _ => {}) s.orders = true) :
    (s.setOrd k x).ord j = if j = k then x else s.ord j := AMap.read_put _ s.orders k x j h
theorem arm_setArm (k j : Nat) (x : ArmState) (h : AMap.wf (fun _ => {}) s.arms = true) :
    (s.setArm k x).arm j = if j = k then x else s.arm j := AMap.read_put _ s.arms k x j h
theorem ent_setEnt (k j : Nat) (x : Ent) (h : AMap.wf (fun _ => {}) s.plan = true) :
    (s.setEnt k x).ent j = if j = k then x else s.ent j := AMap.read_put _ s.plan k x j h
theorem ctx_setCtx (k j : Nat) (x : CtxState) (h : AMap.wf (fun _ => {}) s.ctxs = true) :
    (s.setCtx k x).ctx j = if j = k then x else s.ctx j := AMap.read_put _ s.ctxs k x j h
theorem chan_setChan (k j : Nat) (x : Chan) (h : AMap.wf (fun _ => {}) s.chans = true) :
    (s.setChan k x).chan j = if j = k then x else s.chan j := AMap.read_put _ s.chans k x j h
theorem stream_setStream (k j : Nat) (x : StreamIn) (h : AMap.wf (fun _ => {}) s.streams = true) :
    (s.setStream k x).stream j = if j = k then x else s.stream j := AMap.read_put _ s.streams k x j h
theorem path_setPath (k j : Nat) (x : PathState) (h : AMap.wf (fun _ => {}) s.paths = true) :
    (s.setPath k x).path j = if j = k then x else s.path j := AMap.read_put _ s.paths k x j h
theorem chk_setChk (k j : Nat) (x : ChkUnit) (h : AMap.wf (fun _ => {}) s.chks = true) :
    (s.setChk k x).chk j = if j = k then x else s.chk j := AMap.read_put _ s.chks k x j h

-- Registers

@[simp] theorem reg_setReg (a b : Nat) (w : Word) (h : AMap.wf resetWord s.regs = true) :
    (s.setReg a w).reg b = if b = a then w else s.reg b := AMap.read_put _ s.regs a w b h

theorem setReg_wf (a : Nat) (w : Word) (h : AMap.wf resetWord s.regs = true) :
    AMap.wf resetWord (s.setReg a w).regs = true := AMap.put_wf _ s.regs a w h

theorem set_wf (f : Field) (v i j : Nat) (h : AMap.wf resetWord s.regs = true) :
    AMap.wf resetWord (s.set f v i j).regs = true := setReg_wf s _ _ h

/-- Setting a field leaves every other register word. -/
theorem reg_set_other (f : Field) (v i j a : Nat) (h : AMap.wf resetWord s.regs = true) (ha : a ≠ f.addr i j) :
    (s.set f v i j).reg a = s.reg a := by
  unfold set
  rw [reg_setReg s _ _ _ h, if_neg ha]

theorem reg_set_same (f : Field) (v i j : Nat) (h : AMap.wf resetWord s.regs = true) :
    (s.set f v i j).reg (f.addr i j) = f.inWord (s.reg (f.addr i j)) v := by
  unfold set
  rw [reg_setReg s _ _ _ h, if_pos rfl]

/-- Replacing a field of a word leaves the numbers below and above it. -/
theorem bits_withBits (x hi lo v : Nat) : bits (withBits x hi lo v) hi lo = v % 2 ^ (hi + 1 - lo) := by
  unfold withBits
  simp only [bits]
  have hp : 0 < 2 ^ lo := Nat.two_pow_pos lo
  have hx : x / 2 ^ lo % 2 ^ (hi + 1 - lo) * 2 ^ lo ≤ x := by
    calc x / 2 ^ lo % 2 ^ (hi + 1 - lo) * 2 ^ lo ≤ x / 2 ^ lo * 2 ^ lo :=
          Nat.mul_le_mul_right _ (Nat.mod_le _ _)
      _ ≤ x := Nat.div_mul_le_self x _
  obtain ⟨q, r, hr, hqr⟩ : ∃ q r, r < 2 ^ lo ∧ x = q * 2 ^ lo + r :=
    ⟨x / 2 ^ lo, x % 2 ^ lo, Nat.mod_lt _ hp, (Nat.div_add_mod' x _).symm⟩
  subst hqr
  have hdiv : ∀ a, (a * 2 ^ lo + r) / 2 ^ lo = a := by
    intro a
    rw [Nat.add_comm, Nat.add_mul_div_right _ _ hp, Nat.div_eq_of_lt hr, Nat.zero_add]
  have hw : q - q % 2 ^ (hi + 1 - lo) = 2 ^ (hi + 1 - lo) * (q / 2 ^ (hi + 1 - lo)) := by
    have := Nat.div_add_mod q (2 ^ (hi + 1 - lo))
    omega
  have hq : q % 2 ^ (hi + 1 - lo) ≤ q := Nat.mod_le _ _
  have hb : q * 2 ^ lo + r - (q * 2 ^ lo + r) / 2 ^ lo % 2 ^ (hi + 1 - lo) * 2 ^ lo + v % 2 ^ (hi + 1 - lo) * 2 ^ lo
      = (q - q % 2 ^ (hi + 1 - lo) + v % 2 ^ (hi + 1 - lo)) * 2 ^ lo + r := by
    rw [hdiv, Nat.add_mul, Nat.sub_mul]
    have : q % 2 ^ (hi + 1 - lo) * 2 ^ lo ≤ q * 2 ^ lo := Nat.mul_le_mul_right _ hq
    omega
  rw [hb, hdiv, hw, Nat.mul_add_mod, Nat.mod_mod]

/-- A field reads what was stored in it, in the width it has. -/
theorem ofWord_inWord (f : Field) (w : Word) (v : Nat) (hl : f.lo ≤ f.hi) (hh : f.hi < 32) :
    f.ofWord (f.inWord w v) = v % 2 ^ (f.hi + 1 - f.lo) := by
  unfold Field.ofWord Field.inWord
  have hlt : withBits w.toNat f.hi f.lo v < 2 ^ 32 := by
    have hw := w.isLt
    unfold withBits bits
    have hp : 2 ^ 32 = 2 ^ (f.hi + 1) * 2 ^ (31 - f.hi) := by rw [← Nat.pow_add]; congr 1; omega
    have hp2 : 2 ^ (f.hi + 1) = 2 ^ (f.hi + 1 - f.lo) * 2 ^ f.lo := by rw [← Nat.pow_add]; congr 1; omega
    generalize 2 ^ (f.hi + 1 - f.lo) = m at *
    have hlo : 0 < 2 ^ f.lo := Nat.two_pow_pos _
    generalize 2 ^ f.lo = l at *
    generalize 2 ^ (31 - f.hi) = c at *
    generalize w.toNat = x at *
    have hm : 0 < m := by
      rcases Nat.eq_zero_or_pos m with h0 | h0
      · subst h0; simp at hp2
      · exact h0
    have e1 : x / l = m * (x / l / m) + x / l % m := (Nat.div_add_mod _ _).symm
    have e2 : x = l * (x / l) + x % l := (Nat.div_add_mod _ _).symm
    have hxl := Nat.mod_lt x hlo
    have hvm := Nat.mod_lt v hm
    have hc : x / l / m < c := by
      rw [Nat.div_div_eq_div_mul, Nat.div_lt_iff_lt_mul (Nat.mul_pos hlo hm), Nat.mul_comm l m, ← hp2, Nat.mul_comm, ← hp]
      exact hw
    generalize x / l / m = q at *
    generalize x / l % m = r at *
    generalize x / l = y at *
    subst e1
    have e3 : x - r * l = l * (m * q) + x % l := by
      have : l * (m * q + r) = l * (m * q) + r * l := by rw [Nat.mul_add, Nat.mul_comm l r]
      omega
    rw [e3, hp, hp2]
    have h1 : v % m * l ≤ (m - 1) * l := Nat.mul_le_mul_right _ (by omega)
    have h2 : (m - 1) * l + l = m * l := by
      rw [← Nat.succ_mul, Nat.succ_eq_add_one, Nat.sub_add_cancel hm]
    have h3 : l * (m * q) + m * l ≤ m * l * c := by
      have e4 : l * (m * q) + m * l = m * l * (q + 1) := by
        rw [Nat.mul_succ, Nat.mul_comm m l, Nat.mul_assoc]
      rw [e4]
      exact Nat.mul_le_mul_left _ hc
    omega
  rw [BitVec.toNat_ofNat, Nat.mod_eq_of_lt hlt, bits_withBits]

/-- Every field of the register tables lies within its word. -/
theorem get_set_same (f : Field) (v i j : Nat) (h : AMap.wf resetWord s.regs = true) (hl : f.lo ≤ f.hi) (hh : f.hi < 32) :
    (s.set f v i j).get f i j = v % 2 ^ (f.hi + 1 - f.lo) := by
  unfold get
  rw [reg_set_same s f v i j h, ofWord_inWord f _ v hl hh]

/-- A field of another register word keeps its value. -/
theorem get_set_other (f g : Field) (v i j i' j' : Nat) (h : AMap.wf resetWord s.regs = true)
    (ha : g.addr i' j' ≠ f.addr i j) : (s.set f v i j).get g i' j' = s.get g i' j' := by
  unfold get
  rw [reg_set_other s f v i j _ h ha]

end Sys2Proof.Machine.State
end

