-- ==== Sys2Proof/Laws/Effects.lean ====
section
/-!
SUPPORT. What the field updates do, said once: a field written into a word changes its own bits only, and
every register operation made of field updates sets the fields it names and nothing else.
-/

namespace Sys2Proof.Machine

-- One lemma after another: a thread each would be many.
set_option Elab.async false

/-- The bits of a number with a field replaced. -/
theorem testBit_withBits (x hi lo v n : Nat) :
    (withBits x hi lo v).testBit n
      = if lo ≤ n ∧ n < lo + (hi + 1 - lo) then v.testBit (n - lo) else x.testBit n := by
  unfold withBits bits
  generalize hi + 1 - lo = m
  have h1 : x - x / 2 ^ lo % 2 ^ m * 2 ^ lo = (x / 2 ^ lo / 2 ^ m * 2 ^ m) * 2 ^ lo + x % 2 ^ lo := by
    have e1 := Nat.div_add_mod x (2 ^ lo)
    have e2 := Nat.div_add_mod (x / 2 ^ lo) (2 ^ m)
    generalize x % 2 ^ lo = r at *
    generalize x / 2 ^ lo = y at *
    generalize y % 2 ^ m = z at *
    have : x = y / 2 ^ m * 2 ^ m * 2 ^ lo + z * 2 ^ lo + r := by
      rw [← e1, ← Nat.add_mul, Nat.mul_comm (2 ^ lo), Nat.mul_comm (y / 2 ^ m)]
      rw [e2]
    omega
  rw [h1]
  have h2 : x / 2 ^ lo / 2 ^ m * 2 ^ m * 2 ^ lo + x % 2 ^ lo + v % 2 ^ m * 2 ^ lo
      = 2 ^ lo * (2 ^ m * (x / 2 ^ lo / 2 ^ m) + v % 2 ^ m) + x % 2 ^ lo := by
    rw [Nat.mul_add, Nat.mul_comm (2 ^ m), Nat.mul_comm (2 ^ lo), Nat.mul_comm (2 ^ lo)]
    omega
  rw [h2, Nat.testBit_two_pow_mul_add _ (Nat.mod_lt _ (Nat.two_pow_pos lo))]
  split
  · rename_i h
    rw [Nat.testBit_mod_two_pow, if_neg (by omega)]
    simp [h]
  · rename_i h
    rw [Nat.testBit_two_pow_mul_add _ (Nat.mod_lt _ (Nat.two_pow_pos m)), Nat.testBit_mod_two_pow, Nat.testBit_div_two_pow,
      Nat.testBit_div_two_pow]
    by_cases hn : n - lo < m
    · rw [if_pos hn, if_pos (by omega)]; simp [hn]
    · rw [if_neg hn, if_neg (by omega)]
      congr 1
      omega

/-- The bits of a field's value. -/
theorem testBit_bits (x hi lo n : Nat) : (bits x hi lo).testBit n = (decide (n < hi + 1 - lo) && x.testBit (lo + n)) := by
  unfold bits
  rw [Nat.testBit_mod_two_pow, Nat.testBit_div_two_pow, Nat.add_comm lo n]

theorem withBits_lt (x hi lo v : Nat) (hx : x < 2 ^ 32) (hh : hi < 32) : withBits x hi lo v < 2 ^ 32 := by
  apply Nat.lt_pow_two_of_testBit
  intro n hn
  rw [testBit_withBits]
  split
  · omega
  · exact Nat.testBit_lt_two_pow (Nat.lt_of_lt_of_le hx (Nat.pow_le_pow_right (by decide) hn))

/-- A field that shares no bit with the one replaced keeps its value. -/
theorem bits_withBits_other (x hi lo v hi' lo' : Nat) (h : hi < lo' ∨ hi' < lo) :
    bits (withBits x hi lo v) hi' lo' = bits x hi' lo' := by
  apply Nat.eq_of_testBit_eq
  intro n
  rw [testBit_bits, testBit_bits, testBit_withBits]
  by_cases hn : n < hi' + 1 - lo'
  · rw [if_neg (by omega)]
  · simp [hn]

/-- Restoring a field's own value changes nothing. -/
theorem withBits_bits (x hi lo : Nat) : withBits x hi lo (bits x hi lo) = x := by
  apply Nat.eq_of_testBit_eq
  intro n
  rw [testBit_withBits]
  split
  · rename_i h
    rw [testBit_bits]
    have : lo + (n - lo) = n := by omega
    simp [this, show n - lo < hi + 1 - lo by omega]
  · rfl

theorem toNat_inWord (f : Field) (w : Word) (v : Nat) (hh : f.hi < 32) :
    (f.inWord w v).toNat = withBits w.toNat f.hi f.lo v := by
  unfold Field.inWord
  rw [BitVec.toNat_ofNat, Nat.mod_eq_of_lt (withBits_lt _ _ _ _ w.isLt hh)]

theorem ofWord_inWord_other (f g : Field) (w : Word) (v : Nat) (hh : f.hi < 32) (h : f.hi < g.lo ∨ g.hi < f.lo) :
    g.ofWord (f.inWord w v) = g.ofWord w := by
  unfold Field.ofWord
  rw [toNat_inWord f w v hh, bits_withBits_other _ _ _ _ _ _ h]

theorem inWord_ofWord (f : Field) (w : Word) (_hh : f.hi < 32) : f.inWord w (f.ofWord w) = w := by
  unfold Field.inWord Field.ofWord
  rw [withBits_bits, BitVec.ofNat_toNat, BitVec.setWidth_eq]

/-- A field that is the whole word. -/
theorem inWord_whole (w v : Word) {b s1 s2 : Nat} : (⟨b, s1, s2, 31, 0⟩ : Field).inWord w v.toNat = v := by
  apply BitVec.eq_of_toNat_eq
  rw [toNat_inWord _ _ _ (show 31 < 32 by decide)]
  apply Nat.eq_of_testBit_eq
  intro n
  rw [testBit_withBits]
  dsimp only
  split
  · rfl
  · rename_i h
    rw [Nat.testBit_lt_two_pow (Nat.lt_of_lt_of_le w.isLt (Nat.pow_le_pow_right (by decide) (by omega))),
      Nat.testBit_lt_two_pow (Nat.lt_of_lt_of_le v.isLt (Nat.pow_le_pow_right (by decide) (by omega)))]

namespace State

variable {s t : State}

theorem reg_set (f : Field) (v i j a : Nat) (h : AMap.wf resetWord s.regs = true) :
    (s.set f v i j).reg a = if a = f.addr i j then f.inWord (s.reg a) v else s.reg a := by
  unfold set
  rw [reg_setReg s _ _ _ h]
  split
  · rename_i h; rw [h]
  · rfl

theorem wordWith_append (a : Nat) (w : Word) (l m : List (Field × Nat × Nat)) :
    wordWith a w (l ++ m) = wordWith a (wordWith a w l) m := List.foldl_append

theorem fieldsOnly_refl (s : State) : s.fieldsOnly [] s := ⟨fun _ => rfl, rfl⟩

/-- One more field written. -/
theorem fieldsOnly_set {l : List (Field × Nat × Nat)} (h : s.fieldsOnly l t) (f : Field) (v i : Nat)
    (hw : AMap.wf resetWord t.regs = true) : s.fieldsOnly (l ++ [(f, i, v)]) (t.set f v i) := by
  refine ⟨fun a => ?_, h.2⟩
  rw [wordWith_append, ← h.1 a, reg_set f v i 0 a hw]
  rfl

theorem fieldsOnly_trans {u : State} {l m : List (Field × Nat × Nat)} (h : s.fieldsOnly l t) (k : t.fieldsOnly m u) :
    s.fieldsOnly (l ++ m) u := by
  refine ⟨fun a => ?_, ?_⟩
  · rw [wordWith_append, ← h.1 a]; exact k.1 a
  · have h2 := h.2
    have k2 := k.2
    rw [← h2, ← k2]

theorem fieldsOnly_one (s : State) (f : Field) (v i : Nat) (hw : AMap.wf resetWord s.regs = true) :
    s.fieldsOnly [(f, i, v)] (s.set f v i) := fieldsOnly_set (fieldsOnly_refl s) f v i hw

theorem clearAll_wf (fs : List Field) (i : Nat) (s : State) (hw : AMap.wf resetWord s.regs = true) :
    AMap.wf resetWord (s.clearAll fs i).regs = true := by
  unfold clearAll
  induction fs generalizing s with
  | nil => exact hw
  | cons f fs ih => exact ih _ (set_wf s f 0 i 0 hw)

/-- Fields cleared at one index. -/
theorem fieldsOnly_clearAll (fs : List Field) (i : Nat) (s : State) (hw : AMap.wf resetWord s.regs = true) :
    s.fieldsOnly (fs.map fun f => (f, i, 0)) (s.clearAll fs i) := by
  unfold clearAll
  induction fs generalizing s with
  | nil => exact fieldsOnly_refl s
  | cons f fs ih => exact fieldsOnly_trans (fieldsOnly_one s f 0 i hw) (ih _ (set_wf s f 0 i 0 hw))

/-- A fold of such updates. -/
theorem fieldsOnly_each {α : Type} (l : List α) (g : State → α → State) (e : α → List (Field × Nat × Nat)) (s : State)
    (hw : AMap.wf resetWord s.regs = true)
    (hg : ∀ s x, AMap.wf resetWord s.regs = true → AMap.wf resetWord (g s x).regs = true ∧ s.fieldsOnly (e x) (g s x)) :
    AMap.wf resetWord (s.each l g).regs = true ∧ s.fieldsOnly (l.flatMap e) (s.each l g) := by
  unfold each
  induction l generalizing s with
  | nil => exact ⟨hw, fieldsOnly_refl s⟩
  | cons x l ih =>
    have h1 := hg s x hw
    have h2 := ih _ h1.1
    exact ⟨h2.1, fieldsOnly_trans h1.2 h2.2⟩

end State

end Sys2Proof.Machine
end

