-- ==== Sys2Proof/Laws/Access.lean ====
section
/-!
SUPPORT. Which register an address names, and what a management write that nothing refuses does.
-/

namespace Sys2Proof.Machine

-- One lemma after another: a thread each would be many.
set_option Elab.async false

/-- Element i, j of a register array is read back from its address. -/
def RegDesc.own (d : RegDesc) : Bool :=
  (d.s1 = 0 && d.n1 = 1 && d.s2 = 0 && d.n2 = 1) || (d.s1 ≠ 0 && d.s2 = 0 && d.n2 = 1)
    || (d.s1 ≠ 0 && d.s2 ≠ 0 && decide (d.s2 * d.n2 ≤ d.s1))

/-- The inner step of an array. -/
def RegDesc.pace (e : RegDesc) : Nat := if e.s2 = 0 then e.s1 else e.s2

/-- No element of d has the address of an element of e: the arrays lie apart, or run in step. -/
def RegDesc.apart (e d : RegDesc) : Bool :=
  decide (e.base + e.s1 * (e.n1 - 1) + e.s2 * (e.n2 - 1) < d.base)
  || decide (d.base + d.s1 * (d.n1 - 1) + d.s2 * (d.n2 - 1) < e.base)
  || decide (e.s1 % e.pace = 0 ∧ e.s2 % e.pace = 0 ∧ d.s1 % e.pace = 0 ∧ d.s2 % e.pace = 0 ∧ e.base % e.pace ≠ d.base % e.pace)
  || (e.s1 = d.s1 && (decide (e.base + e.s2 * (e.n2 - 1) < d.base ∧ d.base + d.s2 * (d.n2 - 1) < e.base + e.s1)
      || decide (d.base + d.s2 * (d.n2 - 1) < e.base ∧ e.base + e.s2 * (e.n2 - 1) < d.base + d.s1)))
  || decide (e.s1 = d.s1 ∧ e.s2 = d.s2 ∧ e.n2 = d.n2 ∧ e.base ≠ d.base ∧ e.base < d.base + d.s2 ∧ d.base < e.base + e.s2
      ∧ e.s2 * (e.n2 - 1) + (e.base - d.base) + (d.base - e.base) < e.s1)

theorem RegDesc.elem_own {d : RegDesc} (h : d.own = true) (i j : Nat) (hi : i < d.n1) (hj : j < d.n2) :
    d.elem (d.base + d.s1 * i + d.s2 * j) = some (i, j) := by
  unfold RegDesc.elem
  rw [if_neg (by omega)]
  simp only [RegDesc.own, Bool.or_eq_true, Bool.and_eq_true, decide_eq_true_eq] at h
  have e : d.base + d.s1 * i + d.s2 * j - d.base = d.s1 * i + d.s2 * j := by omega
  rw [e]
  rcases h with (⟨⟨⟨h1, h2⟩, h3⟩, h4⟩ | ⟨⟨h1, h3⟩, h4⟩) | ⟨⟨h1, h3⟩, h5⟩
  · have : i = 0 := by omega
    have : j = 0 := by omega
    simp [*]
  · have : j = 0 := by omega
    subst this
    have hs : 0 < d.s1 := by simp at h1; omega
    simp only [h3, Nat.add_zero, Nat.mul_zero]
    simp at h1
    simp [h1, hi, Nat.mul_div_cancel_left _ hs, Nat.mul_comm i, h4]
  · simp at h1 h3
    have hs : 0 < d.s1 := by omega
    have hs2 : 0 < d.s2 := by omega
    have hlt : d.s2 * j < d.s1 := by
      have : d.s2 * (j + 1) ≤ d.s2 * d.n2 := Nat.mul_le_mul_left _ hj
      rw [Nat.mul_succ] at this
      omega
    have hd : (d.s1 * i + d.s2 * j) / d.s1 = i := by
      rw [Nat.mul_add_div hs, Nat.div_eq_of_lt hlt, Nat.add_zero]
    simp only [h1, h3, if_false, hd]
    have e2 : d.s1 * i + d.s2 * j - i * d.s1 = d.s2 * j := by rw [Nat.mul_comm i]; omega
    rw [e2, Nat.mul_div_cancel_left _ hs2]
    simp [hi, hj, Nat.mul_comm]

theorem RegDesc.elem_lt {e : RegDesc} {a i j : Nat} (h : e.elem a = some (i, j)) :
    i < e.n1 ∧ j < e.n2 ∧ a = e.base + e.s1 * i + e.s2 * j := by
  unfold RegDesc.elem at h
  by_cases hlt : a < e.base
  · rw [if_pos hlt] at h
    exact (Option.some_ne_none _ h.symm).elim
  · rw [if_neg hlt] at h
    dsimp only at h
    have hle : (if e.s1 = 0 then 0 else (a - e.base) / e.s1) * e.s1 ≤ a - e.base := by
      split
      · omega
      · exact Nat.div_mul_le_self _ _
    generalize (if e.s1 = 0 then 0 else (a - e.base) / e.s1) = q at h hle
    generalize (if e.s2 = 0 then 0 else (a - e.base - q * e.s1) / e.s2) = r at h
    split at h
    · rename_i hc
      simp only [Bool.and_eq_true, decide_eq_true_eq] at hc
      obtain ⟨⟨hr, hi⟩, hj⟩ := hc
      simp only [Option.some.injEq, Prod.mk.injEq] at h
      obtain ⟨rfl, rfl⟩ := h
      refine ⟨hi, hj, ?_⟩
      rw [Nat.mul_comm e.s1, Nat.mul_comm e.s2]
      omega
    · exact (Option.some_ne_none _ h.symm).elim

theorem RegDesc.elem_apart {e d : RegDesc} (h : e.apart d = true) (i j : Nat) (hi : i < d.n1) (hj : j < d.n2) :
    e.elem (d.base + d.s1 * i + d.s2 * j) = none := by
  cases hx : e.elem (d.base + d.s1 * i + d.s2 * j) with
  | none => rfl
  | some x =>
    exfalso
    obtain ⟨i', j'⟩ := x
    obtain ⟨h1, h2, h3⟩ := RegDesc.elem_lt hx
    have m1 : e.s1 * i' ≤ e.s1 * (e.n1 - 1) := Nat.mul_le_mul_left _ (by omega)
    have m2 : e.s2 * j' ≤ e.s2 * (e.n2 - 1) := Nat.mul_le_mul_left _ (by omega)
    have m3 : d.s1 * i ≤ d.s1 * (d.n1 - 1) := Nat.mul_le_mul_left _ (by omega)
    have m4 : d.s2 * j ≤ d.s2 * (d.n2 - 1) := Nat.mul_le_mul_left _ (by omega)
    simp only [RegDesc.apart, Bool.or_eq_true, Bool.and_eq_true, decide_eq_true_eq] at h
    rcases h with (((h | h) | ⟨p1, p2, p3, p4, h⟩) | ⟨e1, h⟩) | ⟨e1, e2, e3, q1, q2, q3, q4⟩
    · omega
    · omega
    · apply h
      have l : (e.base + e.s1 * i' + e.s2 * j') % e.pace = e.base % e.pace := by
        rw [Nat.add_mod, Nat.add_mod e.base, Nat.mul_mod, p1, Nat.mul_mod e.s2, p2]
        simp
      have r : (d.base + d.s1 * i + d.s2 * j) % e.pace = d.base % e.pace := by
        rw [Nat.add_mod, Nat.add_mod d.base, Nat.mul_mod, p3, Nat.mul_mod d.s2, p4]
        simp
      rw [← l, ← r, h3]
    · rw [← e1] at h3
      rcases Nat.lt_trichotomy i i' with hi' | hi' | hi'
      · have : e.s1 * (i + 1) ≤ e.s1 * i' := Nat.mul_le_mul_left _ hi'
        rw [Nat.mul_succ] at this
        omega
      · subst hi'; omega
      · have : e.s1 * (i' + 1) ≤ e.s1 * i := Nat.mul_le_mul_left _ hi'
        rw [Nat.mul_succ] at this
        omega
    · rw [← e1, ← e2] at h3
      rw [← e2] at q2 m4
      rw [← e3] at m4
      rcases Nat.lt_trichotomy i i' with hi' | hi' | hi'
      · have : e.s1 * (i + 1) ≤ e.s1 * i' := Nat.mul_le_mul_left _ hi'
        rw [Nat.mul_succ] at this
        omega
      · subst hi'
        rcases Nat.lt_trichotomy j j' with hj' | hj' | hj'
        · have : e.s2 * (j + 1) ≤ e.s2 * j' := Nat.mul_le_mul_left _ hj'
          rw [Nat.mul_succ] at this
          omega
        · subst hj'; omega
        · have : e.s2 * (j' + 1) ≤ e.s2 * j := Nat.mul_le_mul_left _ hj'
          rw [Nat.mul_succ] at this
          omega
      · have : e.s1 * (i' + 1) ≤ e.s1 * i := Nat.mul_le_mul_left _ hi'
        rw [Nat.mul_succ] at this
        omega

/-- Row n of a table whose rows lie apart is the one its elements' addresses name. -/
theorem find_elem {l : List RegDesc} (hp : l.Pairwise fun e d => e.apart d = true) (ho : ∀ d ∈ l, d.own = true)
    {d : RegDesc} (hd : d ∈ l) (i j : Nat) (hi : i < d.n1) (hj : j < d.n2) :
    (l.findSome? fun x => (x.elem (d.base + d.s1 * i + d.s2 * j)).map fun ij => (x, ij)) = some (d, i, j) := by
  induction l with
  | nil => simp at hd
  | cons e l ih =>
    rw [List.findSome?_cons]
    rcases List.mem_cons.mp hd with rfl | hd
    · rw [RegDesc.elem_own (ho _ (by simp)) i j hi hj]
      rfl
    · rw [RegDesc.elem_apart ((List.pairwise_cons.mp hp).1 d hd) i j hi hj]
      exact ih (List.pairwise_cons.mp hp).2 (fun d hd => ho d (by simp [hd])) hd

theorem table_global : regTable_global.Pairwise (fun e d => e.apart d = true) ∧ ∀ d ∈ regTable_global, d.own = true := by decide
theorem table_tick : regTable_tick.Pairwise (fun e d => e.apart d = true) ∧ ∀ d ∈ regTable_tick, d.own = true := by decide
theorem table_lane : regTable_lane.Pairwise (fun e d => e.apart d = true) ∧ ∀ d ∈ regTable_lane, d.own = true := by decide
theorem table_link : regTable_link.Pairwise (fun e d => e.apart d = true) ∧ ∀ d ∈ regTable_link, d.own = true := by decide
theorem table_catalogue : regTable_catalogue.Pairwise (fun e d => e.apart d = true) ∧ ∀ d ∈ regTable_catalogue, d.own = true := by decide
theorem table_measure : regTable_measure.Pairwise (fun e d => e.apart d = true) ∧ ∀ d ∈ regTable_measure, d.own = true := by decide
theorem table_observer : regTable_observer.Pairwise (fun e d => e.apart d = true) ∧ ∀ d ∈ regTable_observer, d.own = true := by decide
theorem table_select : regTable_select.Pairwise (fun e d => e.apart d = true) ∧ ∀ d ∈ regTable_select, d.own = true := by decide
theorem table_edge : regTable_edge.Pairwise (fun e d => e.apart d = true) ∧ ∀ d ∈ regTable_edge, d.own = true := by decide
theorem table_loop : regTable_loop.Pairwise (fun e d => e.apart d = true) ∧ ∀ d ∈ regTable_loop, d.own = true := by decide
theorem table_twin : regTable_twin.Pairwise (fun e d => e.apart d = true) ∧ ∀ d ∈ regTable_twin, d.own = true := by decide
theorem table_station : regTable_station.Pairwise (fun e d => e.apart d = true) ∧ ∀ d ∈ regTable_station, d.own = true := by decide
theorem table_time : regTable_time.Pairwise (fun e d => e.apart d = true) ∧ ∀ d ∈ regTable_time, d.own = true := by decide

theorem table_record : regTable_record.Pairwise (fun e d => e.apart d = true) ∧ ∀ d ∈ regTable_record, d.own = true := by decide
theorem table_curator : regTable_curator.Pairwise (fun e d => e.apart d = true) ∧ ∀ d ∈ regTable_curator, d.own = true := by decide
theorem table_boot : regTable_boot.Pairwise (fun e d => e.apart d = true) ∧ ∀ d ∈ regTable_boot, d.own = true := by decide
theorem table_check : regTable_check.Pairwise (fun e d => e.apart d = true) ∧ ∀ d ∈ regTable_check, d.own = true := by decide
theorem table_sched : regTable_sched.Pairwise (fun e d => e.apart d = true) ∧ ∀ d ∈ regTable_sched, d.own = true := by decide

/-- The register an address names, by its row in the table of the address's window. -/
theorem regAt_elem {l : List RegDesc} (hl : l.Pairwise (fun e d => e.apart d = true) ∧ ∀ d ∈ l, d.own = true)
    {a : Nat} (ht : regTableAt a = l) (d : RegDesc) (n i j : Nat) (hd : l[n]? = some d) (hi : i < d.n1) (hj : j < d.n2)
    (ha : a = d.base + d.s1 * i + d.s2 * j) : regAt a = some (d, i, j) := by
  unfold regAt
  rw [ht, ha]
  exact find_elem hl.1 hl.2 (List.mem_of_getElem? hd) i j hi hj

/-- The register a field of a row stands in. -/
theorem regAt_field {l : List RegDesc} (hl : l.Pairwise (fun e d => e.apart d = true) ∧ ∀ d ∈ l, d.own = true)
    (f : Field) (n i : Nat) {d : RegDesc} (hd : l[n]? = some d) (hb : f.base = d.base ∧ f.s1 = d.s1) (hi : i < d.n1) (hj : 0 < d.n2)
    (ht : regTableAt (f.addr i) = l) : regAt (f.addr i) = some (d, i, 0) :=
  regAt_elem hl ht d n i 0 hd hi hj (by unfold Field.addr; rw [hb.1, hb.2]; rfl)

/-- Every field of a row within its word, no two sharing a bit. -/
def RegDesc.tidy (d : RegDesc) : Bool :=
  d.fields.all (fun f => decide (f.lo ≤ f.hi ∧ f.hi < 32))
    && decide (d.fields.Pairwise fun f g => f.hi < g.lo ∨ g.hi < f.lo)

namespace FieldDesc

theorem toNat_put (f : FieldDesc) (w : Word) (v : Nat) (hh : f.hi < 32) : (f.put w v).toNat = withBits w.toNat f.hi f.lo v := by
  unfold put
  rw [BitVec.toNat_ofNat, Nat.mod_eq_of_lt (withBits_lt _ _ _ _ w.isLt hh)]

theorem val_put (f : FieldDesc) (w : Word) (v : Nat) (hh : f.hi < 32) : f.val (f.put w v) = v % 2 ^ (f.hi + 1 - f.lo) := by
  unfold val
  rw [toNat_put f w v hh, State.bits_withBits]

theorem val_put_other (f g : FieldDesc) (w : Word) (v : Nat) (hh : f.hi < 32) (h : f.hi < g.lo ∨ g.hi < f.lo) :
    g.val (f.put w v) = g.val w := by
  unfold val
  rw [toNat_put f w v hh, bits_withBits_other _ _ _ _ _ _ h]

theorem put_val (f : FieldDesc) (w : Word) : f.put w (f.val w) = w := by
  unfold put val
  rw [withBits_bits, BitVec.ofNat_toNat, BitVec.setWidth_eq]

theorem val_lt (f : FieldDesc) (w : Word) : f.val w < 2 ^ (f.hi + 1 - f.lo) := by
  unfold val bits
  exact Nat.mod_lt _ (Nat.two_pow_pos _)

end FieldDesc

namespace State

/-- The word of a write of one field: the row's RW fields restated, its other fields 0. -/
def restated (d : RegDesc) (old : Word) : Word :=
  d.fields.foldl (fun w x => if x.access = .rw then x.put w (x.val old) else w) 0

theorem val_zero (x : FieldDesc) : x.val 0 = 0 := by simp [FieldDesc.val, bits]

/-- A fold that writes fields apart from x leaves x. -/
theorem val_foldl_other (l : List FieldDesc) (g : Word → FieldDesc → Nat) (q : FieldDesc → Bool) (x : FieldDesc) (w : Word)
    (h : ∀ f ∈ l, f.hi < 32 ∧ (f.hi < x.lo ∨ x.hi < f.lo)) :
    x.val (l.foldl (fun w f => if q f then f.put w (g w f) else w) w) = x.val w := by
  induction l generalizing w with
  | nil => rfl
  | cons f l ih =>
    rw [List.foldl_cons, ih _ fun f hf => h f (by simp [hf])]
    split
    · exact f.val_put_other x w _ (h f (by simp)).1 (h f (by simp)).2
    · rfl

theorem val_restated {d : RegDesc} (ht : d.tidy = true) (old : Word) {x : FieldDesc} (hx : x ∈ d.fields) :
    x.val (restated d old) = if x.access = .rw then x.val old else 0 := by
  simp only [RegDesc.tidy, Bool.and_eq_true, List.all_eq_true, decide_eq_true_eq] at ht
  unfold restated
  obtain ⟨hw, hp⟩ := ht
  have key : ∀ (l : List FieldDesc) (w : Word), (∀ f ∈ l, f.lo ≤ f.hi ∧ f.hi < 32) →
      (l.Pairwise fun f g => f.hi < g.lo ∨ g.hi < f.lo) → x ∈ l →
      x.val (l.foldl (fun w f => if f.access = .rw then f.put w (f.val old) else w) w)
        = if x.access = .rw then x.val old else x.val w := by
    intro l
    induction l with
    | nil => intro w _ _ h; simp at h
    | cons f l ih =>
      intro w hw hp hm
      have hf := hw f (by simp)
      obtain ⟨hpf, hpl⟩ := List.pairwise_cons.mp hp
      rw [List.foldl_cons]
      by_cases hfx : f = x
      · subst hfx
        have := val_foldl_other l (fun _ y => y.val old) (fun y => decide (y.access = .rw)) f
          (if f.access = .rw then f.put w (f.val old) else w)
          (fun g hg => ⟨(hw g (by simp [hg])).2, (hpf g hg).symm⟩)
        simp only [decide_eq_true_eq] at this
        rw [this]
        split
        · rw [f.val_put _ _ hf.2, Nat.mod_eq_of_lt (f.val_lt old)]
        · rfl
      · have hm' : x ∈ l := by
          rcases List.mem_cons.mp hm with h | h
          · exact absurd h.symm hfx
          · exact h
        rw [ih _ (fun g hg => hw g (by simp [hg])) hpl hm']
        split
        · rfl
        · split
          · exact f.val_put_other x w _ hf.2 (hpf x hm')
          · rfl
  rw [key d.fields 0 hw hp hx, val_zero]

/-- Two words that agree on a row's stored fields store the same. -/
theorem storedWord_same {d : RegDesc} (old new : Word)
    (h : ∀ x ∈ d.fields, (x.access = .rw → x.val new = x.val old) ∧ (x.access = .w1c ∨ x.access = .w1s → x.val new = 0)) :
    storedWord d old new = old := by
  unfold storedWord
  have key : ∀ (l : List FieldDesc), (∀ x ∈ l, (x.access = .rw → x.val new = x.val old)
      ∧ (x.access = .w1c ∨ x.access = .w1s → x.val new = 0)) →
      l.foldl (fun w f => match f.access with
        | .rw => f.put w (f.val new)
        | .w1c => f.put w (f.val old - Nat.land (f.val old) (f.val new))
        | .w1s => f.put w (Nat.lor (f.val old) (f.val new))
        | .ro | .roh | .wo => w) old = old := by
    intro l
    induction l with
    | nil => intro _; rfl
    | cons f l ih =>
      intro hl
      rw [List.foldl_cons]
      have hf := hl f (by simp)
      have e : (match f.access with
        | .rw => f.put old (f.val new)
        | .w1c => f.put old (f.val old - Nat.land (f.val old) (f.val new))
        | .w1s => f.put old (Nat.lor (f.val old) (f.val new))
        | .ro | .roh | .wo => old) = old := by
        cases ha : f.access <;> simp only
        · rw [hf.1 ha, f.put_val]
        · rw [hf.2 (.inl ha)]
          have : Nat.land (f.val old) 0 = 0 := Nat.and_zero _
          rw [this, Nat.sub_zero, f.put_val]
        · rw [hf.2 (.inr ha)]
          have : Nat.lor (f.val old) 0 = f.val old := Nat.or_zero _
          rw [this, f.put_val]
      rw [e]
      exact ih fun x hx => hl x (by simp [hx])
  exact key d.fields h

/-- Storing what is there changes nothing. -/
theorem put_read {α : Type} [DecidableEq α] (d : Nat → α) (m : AMap α) (k : Nat) (h : AMap.wf d m = true) :
    AMap.put d m k (AMap.read d m k) = m := by
  induction m with
  | nil => simp [AMap.put, AMap.read]
  | cons e t ih =>
    obtain ⟨k', v'⟩ := e
    simp only [AMap.wf, Bool.and_eq_true, AMap.above, List.all_eq_true, decide_eq_true_eq] at h
    obtain ⟨⟨hv', hab⟩, ht⟩ := h
    have miss : ∀ (l : AMap α), (∀ x ∈ l, k' < x.1) → ∀ n, n ≤ k' → AMap.read d l n = d n := by
      intro l
      induction l with
      | nil => intro _ n _; rfl
      | cons e l ihl =>
        intro hl n hn
        have h1 := hl e (by simp)
        simp only [AMap.read, if_neg (show n ≠ e.1 by omega)]
        exact ihl (fun x hx => hl x (by simp [hx])) n hn
    unfold AMap.put
    by_cases hk : k = k'
    · subst hk
      simp [AMap.read, hv']
    · simp only [AMap.read, if_neg hk]
      by_cases hlt : k < k'
      · rw [if_pos hlt, if_pos (miss t hab k (by omega))]
      · rw [if_neg hlt, ih ht]

theorem setReg_reg (s : State) (a : Nat) (h : AMap.wf resetWord s.regs = true) : s.setReg a (s.reg a) = s := by
  unfold setReg reg
  rw [put_read resetWord s.regs a h]

theorem pairwise_of_ne {α : Type} {r : α → α → Prop} (hs : ∀ a b, r a b → r b a) {l : List α} (h : l.Pairwise r) {x y : α}
    (hx : x ∈ l) (hy : y ∈ l) (hne : x ≠ y) : r x y := by
  induction l with
  | nil => simp at hx
  | cons e l ih =>
    obtain ⟨h1, h2⟩ := List.pairwise_cons.mp h
    rcases List.mem_cons.mp hx with rfl | hx' <;> rcases List.mem_cons.mp hy with rfl | hy'
    · exact absurd rfl hne
    · exact h1 y hy'
    · exact hs _ _ (h1 x hx')
    · exact ih h2 hx' hy'

theorem tidy_apart {d : RegDesc} (ht : d.tidy = true) {x y : FieldDesc} (hx : x ∈ d.fields) (hy : y ∈ d.fields) (h : x.lo ≠ y.lo) :
    x.hi < y.lo ∨ y.hi < x.lo := by
  simp only [RegDesc.tidy, Bool.and_eq_true, List.all_eq_true, decide_eq_true_eq] at ht
  exact pairwise_of_ne (fun _ _ h => h.symm) ht.2 hx hy (fun e => h (by rw [e]))

theorem tidy_fit {d : RegDesc} (ht : d.tidy = true) {x : FieldDesc} (hx : x ∈ d.fields) : x.lo ≤ x.hi ∧ x.hi < 32 := by
  simp only [RegDesc.tidy, Bool.and_eq_true, List.all_eq_true, decide_eq_true_eq] at ht
  exact ht.1 x hx

theorem tidy_same {d : RegDesc} (ht : d.tidy = true) {x y : FieldDesc} (hx : x ∈ d.fields) (hy : y ∈ d.fields) (h : x.lo = y.lo) :
    x = y := by
  refine Classical.byContradiction fun hne => ?_
  have h1 := tidy_fit ht hx
  have h2 := tidy_fit ht hy
  simp only [RegDesc.tidy, Bool.and_eq_true, List.all_eq_true, decide_eq_true_eq] at ht
  have := pairwise_of_ne (fun _ _ h => h.symm) ht.2 hx hy hne
  omega

/-- The fields of the word a write of one field sends. -/
theorem val_oneField {d : RegDesc} (ht : d.tidy = true) (old : Word) (v : Nat) (f : Field) {y x : FieldDesc} (hy : y ∈ d.fields)
    (hhi : y.hi = f.hi) (hlo : y.lo = f.lo) (hx : x ∈ d.fields) :
    x.val (f.inWord (restated d old) v)
      = if x.lo = f.lo then v % 2 ^ (f.hi + 1 - f.lo) else if x.access = .rw then x.val old else 0 := by
  have hfy := tidy_fit ht hy
  have hin : f.inWord (restated d old) v = y.put (restated d old) v := by
    unfold Field.inWord FieldDesc.put
    rw [hhi, hlo]
  rw [hin]
  split
  · rename_i h
    have hxy : x = y := tidy_same ht hx hy (by omega)
    rw [hxy, y.val_put _ _ hfy.2, hhi, hlo]
  · rename_i h
    rw [y.val_put_other x _ _ hfy.2 (tidy_apart ht hy hx (by omega)), val_restated ht old hx]

/-- What the word of a write of one field counts as writing (R10): the field, where it is a command or its
value differs, and the command fields of several bits. -/
theorem writtenFields_oneField {d : RegDesc} (ht : d.tidy = true) (hs : isStaged d = false) (old : Word) (v : Nat) (f : Field)
    {y : FieldDesc} (hy : y ∈ d.fields) (hhi : y.hi = f.hi) (hlo : y.lo = f.lo) :
    writtenFields d old (f.inWord (restated d old) v)
      = d.fields.filter fun x => (x.lo == f.lo && (match x.access with
          | .ro | .roh => false
          | .rw => x.val old != v % 2 ^ (f.hi + 1 - f.lo)
          | .w1c | .w1s => v % 2 ^ (f.hi + 1 - f.lo) != 0
          | .wo => v % 2 ^ (f.hi + 1 - f.lo) != 0)) || (x.access == .wo && x.hi != x.lo) := by
  unfold writtenFields
  apply List.filter_congr
  intro x hx
  rw [hs, Bool.false_or]
  unfold FieldDesc.written
  rw [val_oneField ht old v f hy hhi hlo hx]
  by_cases h : x.lo = f.lo
  · rw [if_pos h, h, beq_self_eq_true, Bool.true_and]
    cases x.access <;> simp [Bool.or_comm]
  · rw [if_neg h]
    have : (x.lo == f.lo) = false := by simpa using h
    rw [this, Bool.false_and, Bool.false_or]
    cases x.access <;> simp

theorem storedWord_oneField {d : RegDesc} (ht : d.tidy = true) (old : Word) (v : Nat) (f : Field) {y : FieldDesc} (hy : y ∈ d.fields)
    (hhi : y.hi = f.hi) (hlo : y.lo = f.lo) (ha : y.access = .wo) : storedWord d old (f.inWord (restated d old) v) = old := by
  apply storedWord_same
  intro x hx
  rw [val_oneField ht old v f hy hhi hlo hx]
  have hxy : x.lo = f.lo → x = y := fun h => tidy_same ht hx hy (by omega)
  by_cases h : x.lo = f.lo
  · have := hxy h
    subst this
    simp [ha]
  · rw [if_neg h]
    exact ⟨fun e => if_pos e, fun e => if_neg (by rcases e with e | e <;> simp [e])⟩

theorem mayWrite_of {s : State} {p : Nat} (a : Nat) (hp : p < 12 ∨ s.level = 2) : s.mayWrite p a = true := by
  unfold mayWrite
  rcases hp with h | h <;> simp [h]

/-- A management write whose path, alignment and address pass comes down to the register's write. -/
theorem mgmtWrite_word {s : State} {p a : Nat} {new : Word} {adc : Option (List (BitVec 16) × Bool)} {d : RegDesc} {i j : Nat}
    (hp : s.mayWrite p a = true) (h4 : a % 4 = 0) (hm : a < 0x5A0000) (hc : isCoef a = false)
    (hx : ¬((a = 0x540018 ∨ a = 0x54001C ∨ a = 0x540020) ∧ s.get F.TIME_SERVO.SOURCE = 2))
    (hr : regAt a = some (d, i, j)) (hl : isLoRw a = false) (hh : isLoRw (a - 4) = false) :
    s.mgmtWrite p a new adc = ((s.writeWord d i a new adc).1,
      (s.writeWord d i a new adc).2.setPath p { (s.writeWord d i a new adc).2.path p with last := (s.writeWord d i a new adc).1 }) := by
  have e : s.writeAt p a new adc = s.writeWord d i a new adc := by
    unfold writeAt
    rw [if_neg (by simp [hc]), if_neg hx, hr]
    simp [hl, hh]
  unfold mgmtWrite
  rw [if_neg (by omega), hp, if_neg (by simp), if_neg (by simp [mapped]; omega), e]

/-- A register whose elements use every field keeps words as they are. -/
theorem kept_plain {d : RegDesc} {i : Nat} {old w : Word} (h : d.base ≠ 0x20000) : d.kept i old w = w := if_neg h

/-- A word stored as it was stays as it was. -/
theorem kept_same {d : RegDesc} {i : Nat} {w : Word} : d.kept i w w = w := by
  unfold RegDesc.kept
  split
  · ext j hj
    simp
    cases w[j] <;> cases (laneUnused i)[j] <;> rfl
  · rfl

/-- A write that nothing refuses stores its word and acts. -/
theorem writeWord_accepted {s : State} {d : RegDesc} {i a : Nat} {new : Word} {adc : Option (List (BitVec 16) × Bool)}
    (hf : (writtenFields d (s.reg a) new).isEmpty = false)
    (hst : isUnlock d = true ∨ s.fieldStatus d (writtenFields d (s.reg a) new) new = stOk)
    (ho : s.ownRefusal d i (s.reg a) new = none) :
    s.writeWord d i a new adc
      = (stOk, ((s.setReg a (d.kept i (s.reg a) (storedWord d (s.reg a) new))).act d i (s.reg a) new adc).stored d i a (s.reg a)) := by
  unfold writeWord
  rw [if_neg (by simp [hf])]
  have : (if isUnlock d = true then stOk else s.fieldStatus d (writtenFields d (s.reg a) new) new) = stOk := by
    rcases hst with h | h
    · rw [if_pos h]
    · split
      · rfl
      · exact h
  rw [this, if_neg (by simp), ho]

theorem wroteField_mgmt {s : State} {p : Nat} {f : Field} {v i : Nat} {adc : Option (List (BitVec 16) × Bool)} {d : RegDesc} {k j : Nat}
    (hr : regAt (f.addr i) = some (d, k, j)) :
    s.wroteField p f v i adc = (s.mgmtWrite p (f.addr i) (f.inWord (restated d (s.reg (f.addr i))) v) adc).2 := by
  unfold wroteField
  dsimp only
  rw [hr]
  rfl

/-- A command field written by a path that may write, where lock, twin mode, range and the register's own
rule refuse nothing: the register keeps its word, the command acts, STATUS is OK. -/
theorem wroteField_wo {s : State} {p : Nat} {f : Field} {v i : Nat} {adc : Option (List (BitVec 16) × Bool)} {d : RegDesc}
    {y : FieldDesc} {k j : Nat} (hw : AMap.wf resetWord s.regs = true) (hp : p < 12 ∨ s.level = 2)
    (h4 : f.addr i % 4 = 0) (hm : f.addr i < 0x5A0000) (hc : isCoef (f.addr i) = false)
    (hx : f.addr i < 0x540018 ∨ 0x540020 < f.addr i)
    (hr : regAt (f.addr i) = some (d, k, j)) (hl : isLoRw (f.addr i) = false) (hh : isLoRw (f.addr i - 4) = false)
    (ht : d.tidy = true) (hs : isStaged d = false) (hy : y ∈ d.fields) (hhi : y.hi = f.hi) (hlo : y.lo = f.lo)
    (ha : y.access = .wo) {fs : List FieldDesc}
    (hfs : (d.fields.filter fun x => (x.lo == f.lo && (match x.access with
          | .ro | .roh => false
          | .rw => x.val (s.reg (f.addr i)) != v % 2 ^ (f.hi + 1 - f.lo)
          | .w1c | .w1s => v % 2 ^ (f.hi + 1 - f.lo) != 0
          | .wo => v % 2 ^ (f.hi + 1 - f.lo) != 0)) || (x.access == .wo && x.hi != x.lo)) = fs)
    (hne : fs.isEmpty = false)
    (hst : isUnlock d = true ∨ s.fieldStatus d fs (f.inWord (restated d (s.reg (f.addr i))) v) = stOk)
    (ho : s.ownRefusal d k (s.reg (f.addr i)) (f.inWord (restated d (s.reg (f.addr i))) v) = none) {t : State}
    (ha : (s.act d k (s.reg (f.addr i)) (f.inWord (restated d (s.reg (f.addr i))) v) adc).stored d k (f.addr i) (s.reg (f.addr i)) = t) :
    s.wroteField p f v i adc = t.setPath p { t.path p with last := 0 } := by
  rw [wroteField_mgmt hr, mgmtWrite_word (mayWrite_of _ hp) h4 hm hc (by omega) hr hl hh]
  have hfs' := writtenFields_oneField ht hs (s.reg (f.addr i)) v f hy hhi hlo
  rw [hfs] at hfs'
  have hwo := writeWord_accepted (adc := adc) (s := s) (d := d) (i := k) (a := f.addr i)
    (new := f.inWord (restated d (s.reg (f.addr i))) v) (by rw [hfs']; exact hne) (by rw [hfs']; exact hst) ho
  rw [storedWord_oneField ht _ v f hy hhi hlo (by assumption), kept_same, setReg_reg s _ hw, ha] at hwo
  rw [hwo]
  rfl

theorem inSafetySet_outside {a : Nat} (h : a < 0x510000 ∨ 0x570000 ≤ a) : State.inSafetySet a = false := by
  have key : State.safetySet.all (fun m => decide (0x510000 ≤ m.1 ∧ m.1 < 0x570000)) = true := by decide
  unfold State.inSafetySet
  rw [List.any_eq_false]
  intro m hm e
  have := List.all_eq_true.mp key m hm
  simp only [decide_eq_true_eq] at this e
  omega

/-- Most registers do nothing besides when they are stored. -/
theorem stored_plain {s : State} {d : RegDesc} {i a : Nat} {old : Word}
    (hb : ([0x98400, 0x510000, 0xC0008, 0x550400, 0x550600, 0x540024, 0x550800] : List Nat).contains d.base = false)
    (hs : State.inSafetySet a = false) : s.stored d i a old = s := by
  simp only [List.contains_cons, List.contains_nil, Bool.or_false, Bool.or_eq_false_iff, beq_eq_false_iff_ne, ne_eq] at hb
  unfold stored
  dsimp only
  rw [if_neg (by simp [hs]), if_neg hb.1, if_neg hb.2.1, if_neg hb.2.2.1, if_neg (by omega), if_neg hb.2.2.2.2.2.2, if_neg hb.2.2.2.2.2.1]

theorem fieldStatus_any {s : State} {p : Nat} {d : RegDesc} {fs : List FieldDesc} {new : Word} (h : s.admits p .any)
    (hf : ∀ f ∈ fs, f.lock = .any ∧ f.inRange (f.val new) = true) (hd : d.base ≠ F.CAT_ENTRY_W3.WEAR.base)
    (hl : isLoopReg d = false ∨ s.twinShut = false) : s.fieldStatus d fs new = stOk := by
  unfold fieldStatus
  dsimp only
  rw [if_neg, if_neg, if_neg]
  · simp only [List.any_eq_true, not_exists, not_and, Bool.not_eq_true', Bool.not_eq_false]
    exact fun f hf' => (hf f hf').2
  · simp only [Bool.and_eq_true, Bool.or_eq_true, decide_eq_true_eq, List.any_eq_true, not_and, not_or, not_exists, bne_iff_ne, ne_eq, Decidable.not_not]
    exact fun ht => ⟨⟨hd, by rcases hl with h | h <;> simp_all⟩, fun f hf' => (hf f hf').1⟩
  · simp only [List.any_eq_true, not_exists, not_and, Bool.not_eq_true', Bool.not_eq_false]
    intro f hf'
    rw [(hf f hf').1]
    exact h.2.1

/-- The same for any lock code, which the twin mode and the life-cycle state then leave open. -/
theorem fieldStatus_lock {s : State} {p : Nat} {l : Lock} {d : RegDesc} {fs : List FieldDesc} {new : Word} (h : s.admits p l)
    (hl : l ≠ .any) (hf : ∀ f ∈ fs, f.lock = l ∧ f.inRange (f.val new) = true) : s.fieldStatus d fs new = stOk := by
  have ht := h.2.2.resolve_left hl
  unfold fieldStatus
  dsimp only
  rw [if_neg, if_neg, if_neg]
  · simp only [List.any_eq_true, not_exists, not_and, Bool.not_eq_true', Bool.not_eq_false]
    exact fun f hf' => (hf f hf').2
  · simp [ht]
  · simp only [List.any_eq_true, not_exists, not_and, Bool.not_eq_true', Bool.not_eq_false]
    intro f hf'
    rw [(hf f hf').1]
    exact h.2.1

/-- The command bit of a word acts. -/
theorem ifBit_one (s : State) (f : Field) (w : Word) (g : State → State) (hl : f.lo = f.hi) (hh : f.hi < 32) :
    s.ifBit f (f.inWord w 1) g = g s := by
  unfold ifBit
  rw [if_pos]
  rw [State.ofWord_inWord f w 1 (by omega) hh, hl]
  simp

/-- The other command bits of a word that writes one field do not. -/
theorem ifBit_none (s : State) {d : RegDesc} (ht : d.tidy = true) (old : Word) (v : Nat) (f : Field) {y x : FieldDesc} (hy : y ∈ d.fields)
    (hhi : y.hi = f.hi) (hlo : y.lo = f.lo) (hx : x ∈ d.fields) (h : Field) (hhx : x.hi = h.hi) (hlx : x.lo = h.lo) (hne : h.lo ≠ f.lo)
    (ha : x.access ≠ .rw) (g : State → State) : s.ifBit h (f.inWord (restated d old) v) g = s := by
  unfold ifBit
  have e := val_oneField ht old v f hy hhi hlo hx
  rw [if_neg (by omega), if_neg ha] at e
  have : h.ofWord (f.inWord (restated d old) v) = 0 := by
    unfold Field.ofWord
    unfold FieldDesc.val at e
    rw [hhx, hlx] at e
    exact e
  rw [if_neg (by omega)]

/-- The row has this field, with this access code. -/
def rowHas (d : RegDesc) (f : Field) (c : Access) : Bool :=
  d.fields.any fun x => x.hi == f.hi && x.lo == f.lo && x.access == c

theorem has_elim {d : RegDesc} {f : Field} {c : Access} (h : rowHas d f c = true) :
    ∃ x ∈ d.fields, x.hi = f.hi ∧ x.lo = f.lo ∧ x.access = c := by
  unfold rowHas at h
  obtain ⟨x, hx, e⟩ := List.any_eq_true.mp h
  simp only [Bool.and_eq_true, beq_iff_eq] at e
  exact ⟨x, hx, e.1.1, e.1.2, e.2⟩

theorem ifBit_other (s : State) {d : RegDesc} (old : Word) (v : Nat) (f h : Field) (g : State → State)
    (ht : d.tidy = true) (hf : rowHas d f .wo = true) (hh : rowHas d h .wo = true) (hne : h.lo ≠ f.lo) :
    s.ifBit h (f.inWord (restated d old) v) g = s := by
  obtain ⟨y, hy, y1, y2, _⟩ := has_elim hf
  obtain ⟨x, hx, x1, x2, x3⟩ := has_elim hh
  exact ifBit_none s ht old v f hy y1 y2 hx h x1 x2 hne (by rw [x3]; decide) g

theorem noLo {a : Nat} (h : a < 0x540000 ∨ 0x551004 ≤ a) : isLoRw a = false ∧ isLoRw (a - 4) = false := by
  constructor <;> simp [isLoRw] <;> omega

theorem ofWord_same (f : Field) (w : Word) (v : Nat) (h : f.lo ≤ f.hi ∧ f.hi < 32) :
    f.ofWord (f.inWord w v) = v % 2 ^ (f.hi + 1 - f.lo) := State.ofWord_inWord f w v h.1 h.2

theorem ofWord_other {d : RegDesc} (old : Word) (v : Nat) (f h : Field) {c : Access}
    (ht : d.tidy = true ∧ rowHas d f c = true ∧ rowHas d h .wo = true ∧ h.lo ≠ f.lo) : h.ofWord (f.inWord (restated d old) v) = 0 := by
  obtain ⟨ht, hf, hh, hne⟩ := ht
  obtain ⟨y, hy, y1, y2, _⟩ := has_elim hf
  obtain ⟨x, hx, x1, x2, x3⟩ := has_elim hh
  have e := val_oneField ht old v f hy y1 y2 hx
  rw [if_neg (by omega), if_neg (by rw [x3]; decide)] at e
  unfold Field.ofWord
  unfold FieldDesc.val at e
  rw [← x1, ← x2]
  exact e

/-- A stored field of the word that writes another keeps its value. -/
theorem ofWord_kept {d : RegDesc} (old : Word) (v : Nat) (f h : Field) {c : Access}
    (ht : d.tidy = true ∧ rowHas d f c = true ∧ rowHas d h .rw = true ∧ h.lo ≠ f.lo) :
    h.ofWord (f.inWord (restated d old) v) = h.ofWord old := by
  obtain ⟨ht, hf, hh, hne⟩ := ht
  obtain ⟨y, hy, y1, y2, _⟩ := has_elim hf
  obtain ⟨x, hx, x1, x2, x3⟩ := has_elim hh
  have e := val_oneField ht old v f hy y1 y2 hx
  rw [if_neg (by omega), if_pos x3] at e
  unfold Field.ofWord
  unfold FieldDesc.val at e
  rw [← x1, ← x2]
  exact e

/-- A command, not shut out and refused by no rule of its register: it acts, the register keeps its word,
STATUS is OK. -/
theorem command {s : State} {p : Nat} (f : Field) (v i : Nat) {l : Lock} {adc : Option (List (BitVec 16) × Bool)}
    {tab : List RegDesc} (n : Nat) {d : RegDesc} {t : State}
    (hw : AMap.wf resetWord s.regs = true) (ha : s.admits p l)
    (hl : tab.Pairwise (fun e d => e.apart d = true) ∧ ∀ d ∈ tab, d.own = true) (hd : tab[n]? = some d)
    (hb : (f.base = d.base ∧ f.s1 = d.s1) ∧ 0 < d.n2) (hi : i < d.n1) (htab : regTableAt (f.addr i) = tab)
    (hadr : f.addr i % 4 = 0 ∧ f.addr i < 0x5A0000 ∧ (f.addr i < 0x100000 ∨ 0x500000 ≤ f.addr i)
      ∧ (f.addr i < 0x540018 ∨ 0x540020 < f.addr i))
    (hlo : isLoRw (f.addr i) = false ∧ isLoRw (f.addr i - 4) = false)
    (hrow : d.tidy = true ∧ isStaged d = false ∧ rowHas d f .wo = true ∧ d.base ≠ F.CAT_ENTRY_W3.WEAR.base
      ∧ (d.fields.all fun x => !(x.lo == f.lo || (x.access == .wo && x.hi != x.lo)) || (x.lock == l && x.range == [])) = true)
    (hv : f.hi ≠ f.lo ∨ v % 2 = 1)
    (ho : s.ownRefusal d i (s.reg (f.addr i)) (f.inWord (restated d (s.reg (f.addr i))) v) = none)
    (hst : (s.act d i (s.reg (f.addr i)) (f.inWord (restated d (s.reg (f.addr i))) v) adc).stored d i (f.addr i) (s.reg (f.addr i)) = t)
    (hloop : l = .any → isLoopReg d = false ∨ s.twinShut = false := by
      intro h; first | exact absurd h (by decide) | exact .inl (by decide)) :
    s.wroteField p f v i adc = t.okOn p := by
  obtain ⟨ht, hs, hf, hwear, hlk⟩ := hrow
  obtain ⟨y, hy, y1, y2, y3⟩ := has_elim hf
  have hyf := tidy_fit ht hy
  have hr := regAt_field hl f n i hd hb.1 hi hb.2 htab
  have hfs : (d.fields.filter fun x => (x.lo == f.lo && (match x.access with
          | .ro | .roh => false
          | .rw => x.val (s.reg (f.addr i)) != v % 2 ^ (f.hi + 1 - f.lo)
          | .w1c | .w1s => v % 2 ^ (f.hi + 1 - f.lo) != 0
          | .wo => v % 2 ^ (f.hi + 1 - f.lo) != 0)) || (x.access == .wo && x.hi != x.lo))
      = d.fields.filter fun x => x.lo == f.lo || (x.access == .wo && x.hi != x.lo) := by
    apply List.filter_congr
    intro x hx
    by_cases hxl : x.lo = f.lo
    · have : x = y := tidy_same ht hx hy (by omega)
      subst this
      rw [y3, hxl, beq_self_eq_true, Bool.true_and, Bool.true_or]
      rcases hv with h | h
      · simp [show x.hi ≠ f.lo by omega]
      · by_cases hm : x.hi = f.lo
        · have : f.hi + 1 - f.lo = 1 := by omega
          rw [this]
          simp [h]
        · simp [hm]
    · have : (x.lo == f.lo) = false := by simpa using hxl
      rw [this, Bool.false_and, Bool.false_or]
  refine wroteField_wo (y := y) hw ha.1 hadr.1 hadr.2.1 (by simp [isCoef]; omega) (by omega) hr hlo.1 hlo.2 ht hs hy y1 y2 y3 hfs
    ?_ (.inr ?_) ho hst
  · rw [Bool.eq_false_iff, ne_eq, List.isEmpty_iff, List.filter_eq_nil_iff]
    intro h
    exact h y hy (by simp [y2])
  · have hfl : ∀ x ∈ d.fields.filter (fun x => x.lo == f.lo || (x.access == .wo && x.hi != x.lo)),
        x.lock = l ∧ x.inRange (x.val (f.inWord (restated d (s.reg (f.addr i))) v)) = true := by
      intro x hx
      rw [List.mem_filter] at hx
      have := List.all_eq_true.mp hlk x hx.1
      rw [hx.2] at this
      simp only [Bool.not_true, Bool.false_or, Bool.and_eq_true, beq_iff_eq] at this
      exact ⟨this.1, by unfold FieldDesc.inRange; simp [this.2]⟩
    by_cases hany : l = .any
    · subst hany
      exact fieldStatus_any ha hfl hwear (hloop rfl)
    · exact fieldStatus_lock ha hany hfl

/-- How one field of a row enters the stored word. -/
def storeField (old new w : Word) (f : FieldDesc) : Word :=
  match f.access with
  | .rw => f.put w (f.val new)
  | .w1c => f.put w (f.val old - Nat.land (f.val old) (f.val new))
  | .w1s => f.put w (Nat.lor (f.val old) (f.val new))
  | .ro | .roh | .wo => w

theorem storedWord_eq (d : RegDesc) (old new : Word) : storedWord d old new = d.fields.foldl (storeField old new) old := rfl

theorem storeField_same {old new w : Word} {f : FieldDesc} (h1 : f.access = .rw → f.val new = f.val w)
    (h2 : f.access = .w1c ∨ f.access = .w1s → f.val new = 0 ∧ f.val old = f.val w) : storeField old new w f = w := by
  unfold storeField
  cases ha : f.access <;> simp only
  · rw [h1 ha, f.put_val]
  · obtain ⟨e1, e2⟩ := h2 (.inl ha)
    have : Nat.land (f.val w) 0 = 0 := Nat.and_zero _
    rw [e1, e2, this, Nat.sub_zero, f.put_val]
  · obtain ⟨e1, e2⟩ := h2 (.inr ha)
    have : Nat.lor (f.val w) 0 = f.val w := Nat.or_zero _
    rw [e1, e2, this, f.put_val]

theorem storeFields_same {old new w : Word} (l : List FieldDesc)
    (h : ∀ f ∈ l, (f.access = .rw → f.val new = f.val w) ∧ (f.access = .w1c ∨ f.access = .w1s → f.val new = 0 ∧ f.val old = f.val w)) :
    l.foldl (storeField old new) w = w := by
  induction l with
  | nil => rfl
  | cons f l ih =>
    rw [List.foldl_cons, storeField_same (h f (by simp)).1 (h f (by simp)).2]
    exact ih fun x hx => h x (by simp [hx])

/-- What the word of a write of one field stores. -/
theorem storedWord_field {d : RegDesc} (ht : d.tidy = true) (old : Word) (v : Nat) (f : Field) {y : FieldDesc} (hy : y ∈ d.fields)
    (hhi : y.hi = f.hi) (hlo : y.lo = f.lo) :
    storedWord d old (f.inWord (restated d old) v) = storeField old (f.inWord (restated d old) v) old y := by
  have hyf := tidy_fit ht hy
  have hval : ∀ x ∈ d.fields, x.lo ≠ f.lo → x.val (f.inWord (restated d old) v) = if x.access = .rw then x.val old else 0 := by
    intro x hx h
    rw [val_oneField ht old v f hy hhi hlo hx, if_neg h]
  obtain ⟨l1, l2, hl⟩ := List.append_of_mem hy
  have hp : (l1 ++ y :: l2).Pairwise fun f g => f.hi < g.lo ∨ g.hi < f.lo := by
    rw [← hl]
    simp only [RegDesc.tidy, Bool.and_eq_true, decide_eq_true_eq] at ht
    exact ht.2
  have hap : ∀ x ∈ l1 ++ l2, x ∈ d.fields ∧ (x.hi < y.lo ∨ y.hi < x.lo) ∧ x.lo ≠ f.lo := by
    intro x hx
    have hxd : x ∈ d.fields := by
      rw [hl]
      rcases List.mem_append.mp hx with h | h <;> simp [h]
    have hxf := tidy_fit ht hxd
    have hxy : x.hi < y.lo ∨ y.hi < x.lo := by
      rw [List.pairwise_append, List.pairwise_cons] at hp
      rcases List.mem_append.mp hx with h | h
      · exact hp.2.2 x h y (by simp)
      · exact (hp.2.1.1 x h).symm
    exact ⟨hxd, hxy, by omega⟩
  generalize f.inWord (restated d old) v = new at *
  rw [storedWord_eq, hl, List.foldl_append, List.foldl_cons]
  have h1 : l1.foldl (storeField old new) old = old := by
    apply storeFields_same
    intro x hx
    have hx' := hap x (by simp [hx])
    rw [hval x hx'.1 hx'.2.2]
    exact ⟨fun e => if_pos e, fun e => ⟨if_neg (by rcases e with e | e <;> simp [e]), rfl⟩⟩
  rw [h1]
  apply storeFields_same
  intro x hx
  have hx' := hap x (by simp [hx])
  rw [hval x hx'.1 hx'.2.2]
  have hk : x.val (storeField old new old y) = x.val old := by
    unfold storeField
    split
    all_goals first | rfl | exact y.val_put_other x _ _ hyf.2 hx'.2.1.symm
  rw [hk]
  exact ⟨fun e => if_pos e, fun e => ⟨if_neg (by rcases e with e | e <;> simp [e]), rfl⟩⟩

/-- A stored field written with a new value. -/
theorem store {s : State} {p : Nat} (f : Field) (v i : Nat) {l : Lock} {adc : Option (List (BitVec 16) × Bool)}
    {tab : List RegDesc} (n : Nat) {d : RegDesc} {t : State}
    (ha : s.admits p l)
    (hl : tab.Pairwise (fun e d => e.apart d = true) ∧ ∀ d ∈ tab, d.own = true) (hd : tab[n]? = some d)
    (hb : (f.base = d.base ∧ f.s1 = d.s1) ∧ 0 < d.n2) (hi : i < d.n1) (htab : regTableAt (f.addr i) = tab)
    (hadr : f.addr i % 4 = 0 ∧ f.addr i < 0x5A0000 ∧ (f.addr i < 0x100000 ∨ 0x500000 ≤ f.addr i)
      ∧ (f.addr i < 0x540018 ∨ 0x540020 < f.addr i))
    (hlo : isLoRw (f.addr i) = false ∧ isLoRw (f.addr i - 4) = false)
    (hrow : d.tidy = true ∧ isStaged d = false ∧ rowHas d f .rw = true ∧ (d.fields.all fun x => x.access != .wo || x.hi == x.lo)
      ∧ (d.fields.all fun x => x.lo != f.lo || x.lock == l) = true)
    (hwear : l = .any → d.base ≠ F.CAT_ENTRY_W3.WEAR.base)
    (hv : v % 2 ^ (f.hi + 1 - f.lo) ≠ s.get f i)
    (hrg : ∀ x ∈ d.fields, x.lo = f.lo → x.inRange (v % 2 ^ (f.hi + 1 - f.lo)) = true)
    (ho : s.ownRefusal d i (s.reg (f.addr i)) (f.inWord (restated d (s.reg (f.addr i))) v) = none)
    (hst : ((s.set f v i).act d i (s.reg (f.addr i)) (f.inWord (restated d (s.reg (f.addr i))) v) adc).stored d i (f.addr i) (s.reg (f.addr i)) = t)
    (hk : d.kept i (s.reg (f.addr i)) (f.inWord (s.reg (f.addr i)) v) = f.inWord (s.reg (f.addr i)) v := by exact kept_plain (by decide))
    (hloop : l = .any → isLoopReg d = false ∨ s.twinShut = false := by
      intro h; first | exact absurd h (by decide) | exact .inl (by decide)) :
    s.wroteField p f v i adc = t.okOn p := by
  obtain ⟨ht, hs, hf, hwo, hlk⟩ := hrow
  obtain ⟨y, hy, y1, y2, y3⟩ := has_elim hf
  have hyf := tidy_fit ht hy
  have hr := regAt_field hl f n i hd hb.1 hi hb.2 htab
  have hyv : y.val (s.reg (f.addr i)) = s.get f i := by
    unfold FieldDesc.val get Field.ofWord
    rw [y1, y2]
  have hfs := writtenFields_oneField ht hs (s.reg (f.addr i)) v f hy y1 y2
  have hfs2 : writtenFields d (s.reg (f.addr i)) (f.inWord (restated d (s.reg (f.addr i))) v) = d.fields.filter fun x => x.lo == f.lo := by
    rw [hfs]
    apply List.filter_congr
    intro x hx
    have h1 := List.all_eq_true.mp hwo x hx
    by_cases hxl : x.lo = f.lo
    · have : x = y := tidy_same ht hx hy (by omega)
      subst this
      rw [y3, hxl, beq_self_eq_true, Bool.true_and]
      simp [hyv, Ne.symm hv]
    · have : (x.lo == f.lo) = false := by simpa using hxl
      rw [this, Bool.false_and, Bool.false_or]
      simp only [Bool.or_eq_true, bne_iff_ne, ne_eq, beq_iff_eq] at h1
      cases hxa : x.access <;> simp_all
  have hsw : storedWord d (s.reg (f.addr i)) (f.inWord (restated d (s.reg (f.addr i))) v) = f.inWord (s.reg (f.addr i)) v := by
    rw [storedWord_field ht _ v f hy y1 y2]
    unfold storeField
    rw [y3]
    simp only
    rw [val_oneField ht _ v f hy y1 y2 hy, if_pos y2]
    unfold FieldDesc.put Field.inWord withBits
    rw [y1, y2, Nat.mod_mod]
  rw [wroteField_mgmt hr, mgmtWrite_word (mayWrite_of _ ha.1) hadr.1 hadr.2.1 (by simp [isCoef]; omega) (by omega) hr hlo.1 hlo.2]
  have hfl : ∀ x ∈ d.fields.filter (fun x => x.lo == f.lo),
      x.lock = l ∧ x.inRange (x.val (f.inWord (restated d (s.reg (f.addr i))) v)) = true := by
    intro x hx
    rw [List.mem_filter, beq_iff_eq] at hx
    have h1 := List.all_eq_true.mp hlk x hx.1
    rw [hx.2] at h1
    rw [val_oneField ht _ v f hy y1 y2 hx.1, if_pos hx.2]
    exact ⟨by simpa using h1, hrg x hx.1 hx.2⟩
  have hw := writeWord_accepted (adc := adc) (s := s) (d := d) (i := i) (a := f.addr i)
    (new := f.inWord (restated d (s.reg (f.addr i))) v)
    (by
      rw [hfs2, Bool.eq_false_iff, ne_eq, List.isEmpty_iff, List.filter_eq_nil_iff]
      intro h
      exact h y hy (by simp [y2]))
    (.inr (by
      rw [hfs2]
      by_cases hany : l = .any
      · subst hany
        exact fieldStatus_any ha hfl (hwear rfl) (hloop rfl)
      · exact fieldStatus_lock ha hany hfl)) ho
  rw [hsw, hk] at hw
  have : s.setReg (f.addr i) (f.inWord (s.reg (f.addr i)) v) = s.set f v i := rfl
  rw [this, hst] at hw
  rw [hw]
  rfl

/-- A stored field written with the value it has: nothing changes and STATUS is OK. -/
theorem store_same {s : State} {p : Nat} (f : Field) (v i : Nat) {adc : Option (List (BitVec 16) × Bool)}
    {tab : List RegDesc} (n : Nat) {d : RegDesc} (hp : p < 12 ∨ s.level = 2)
    (hl : tab.Pairwise (fun e d => e.apart d = true) ∧ ∀ d ∈ tab, d.own = true) (hd : tab[n]? = some d)
    (hb : (f.base = d.base ∧ f.s1 = d.s1) ∧ 0 < d.n2) (hi : i < d.n1) (htab : regTableAt (f.addr i) = tab)
    (hadr : f.addr i % 4 = 0 ∧ f.addr i < 0x5A0000 ∧ (f.addr i < 0x100000 ∨ 0x500000 ≤ f.addr i)
      ∧ (f.addr i < 0x540018 ∨ 0x540020 < f.addr i))
    (hlo : isLoRw (f.addr i) = false ∧ isLoRw (f.addr i - 4) = false)
    (hrow : d.tidy = true ∧ isStaged d = false ∧ rowHas d f .rw = true ∧ (d.fields.all fun x => x.access != .wo || x.hi == x.lo) = true)
    (hv : v % 2 ^ (f.hi + 1 - f.lo) = s.get f i) :
    s.wroteField p f v i adc = s.okOn p := by
  obtain ⟨ht, hs, hf, hwo⟩ := hrow
  obtain ⟨y, hy, y1, y2, y3⟩ := has_elim hf
  have hr := regAt_field hl f n i hd hb.1 hi hb.2 htab
  have hyv : y.val (s.reg (f.addr i)) = s.get f i := by
    unfold FieldDesc.val get Field.ofWord
    rw [y1, y2]
  have hfs := writtenFields_oneField ht hs (s.reg (f.addr i)) v f hy y1 y2
  have hfs2 : writtenFields d (s.reg (f.addr i)) (f.inWord (restated d (s.reg (f.addr i))) v) = [] := by
    rw [hfs, List.filter_eq_nil_iff]
    intro x hx
    have h1 := List.all_eq_true.mp hwo x hx
    by_cases hxl : x.lo = f.lo
    · have : x = y := tidy_same ht hx hy (by omega)
      subst this
      rw [y3, hyv, hv]
      simp
    · have : (x.lo == f.lo) = false := by simpa using hxl
      rw [this, Bool.false_and, Bool.false_or]
      simp only [Bool.or_eq_true, bne_iff_ne, ne_eq, beq_iff_eq] at h1
      cases hxa : x.access <;> simp_all
  rw [wroteField_mgmt hr, mgmtWrite_word (mayWrite_of _ hp) hadr.1 hadr.2.1 (by simp [isCoef]; omega) (by omega) hr hlo.1 hlo.2]
  have : s.writeWord d i (f.addr i) (f.inWord (restated d (s.reg (f.addr i))) v) adc = (stOk, s) := by
    unfold writeWord
    rw [if_pos (by rw [hfs2]; rfl)]
  rw [this]
  rfl

/-- Storing a field's own value changes nothing. -/
theorem set_get {s : State} (f : Field) (v i : Nat) (hw : AMap.wf resetWord s.regs = true) (hh : f.hi < 32)
    (hv : v % 2 ^ (f.hi + 1 - f.lo) = s.get f i) : s.set f v i = s := by
  have e : f.inWord (s.reg (f.addr i)) v = s.reg (f.addr i) := by
    have h1 : f.inWord (s.reg (f.addr i)) v = f.inWord (s.reg (f.addr i)) (s.get f i) := by
      unfold Field.inWord withBits
      rw [← hv, Nat.mod_mod]
    rw [h1]
    exact inWord_ofWord f _ hh
  unfold set
  rw [e, setReg_reg s _ hw]

/-- A word written to a register of command fields: nothing is stored. -/
theorem storedWord_commands {d : RegDesc} (old new : Word) (h : (d.fields.all fun x => x.access == .wo || x.access == .ro || x.access == .roh) = true) :
    storedWord d old new = old := by
  apply storedWord_same
  intro x hx
  have := List.all_eq_true.mp h x hx
  constructor
  · intro e; rw [e] at this; exact absurd this (by decide)
  · intro e; rcases e with e | e <;> (rw [e] at this; exact absurd this (by decide))

theorem commandWord {s : State} {p : Nat} (a : Nat) (new : Word) {tab : List RegDesc} (n : Nat) {d : RegDesc} {t : State}
    (hw : AMap.wf resetWord s.regs = true)
    (hl : tab.Pairwise (fun e d => e.apart d = true) ∧ ∀ d ∈ tab, d.own = true) (hd : tab[n]? = some d)
    (htab : regTableAt a = tab)
    (hadr : a = d.base ∧ 0 < d.n1 ∧ 0 < d.n2 ∧ a % 4 = 0 ∧ a < 0x5A0000 ∧ (a < 0x100000 ∨ 0x500000 ≤ a) ∧ (a < 0x540018 ∨ 0x540020 < a))
    (hlo : isLoRw a = false ∧ isLoRw (a - 4) = false)
    (hrow : (d.fields.all fun x => x.access == .wo || x.access == .ro || x.access == .roh)
      ∧ (d.fields.any fun x => x.access == .wo && x.hi != x.lo) = true)
    (hp : s.mayWrite p a = true)
    (hst : isUnlock d = true ∨ (s.admits p .any ∧ (d.base ≠ F.CAT_ENTRY_W3.WEAR.base ∧ isLoopReg d = false)
      ∧ ∀ x ∈ d.fields, x.access = .wo → x.lock = .any ∧ x.inRange (x.val new) = true))
    (ho : s.ownRefusal d 0 (s.reg a) new = none)
    (ht : (s.act d 0 (s.reg a) new none).stored d 0 a (s.reg a) = t) :
    s.wrote p a new = t.okOn p := by
  have hr : regAt a = some (d, 0, 0) := regAt_elem hl htab d n 0 0 hd hadr.2.1 hadr.2.2.1 (by rw [Nat.mul_zero, Nat.mul_zero]; exact hadr.1)
  have hwo : ∀ x ∈ writtenFields d (s.reg a) new, x ∈ d.fields ∧ (isStaged d = false → x.access = .wo) := by
    intro x hx
    unfold writtenFields at hx
    rw [List.mem_filter] at hx
    refine ⟨hx.1, fun hs => ?_⟩
    have h1 := List.all_eq_true.mp hrow.1 x hx.1
    have h2 := hx.2
    rw [hs, Bool.false_or] at h2
    unfold FieldDesc.written at h2
    cases hxa : x.access <;> simp_all
  have hww := writeWord_accepted (adc := none) (s := s) (d := d) (i := 0) (a := a) (new := new)
    (by
      obtain ⟨y, hy, e⟩ := List.any_eq_true.mp hrow.2
      simp only [Bool.and_eq_true, beq_iff_eq, bne_iff_ne, ne_eq] at e
      rw [Bool.eq_false_iff, ne_eq, List.isEmpty_iff]
      unfold writtenFields
      rw [List.filter_eq_nil_iff]
      intro h
      exact h y hy (by unfold FieldDesc.written; simp [e.1, e.2]))
    (by
      rcases hst with h | ⟨h1, h2, h3⟩
      · exact .inl h
      · refine .inr (fieldStatus_any h1 (fun x hx => ?_) h2.1 (.inl h2.2))
        have hx' := hwo x hx
        refine h3 x hx'.1 (hx'.2 ?_)
        have hb := hadr.1
        cases hs : isStaged d with
        | false => rfl
        | true =>
          exfalso
          have h1 := List.all_eq_true.mp hrow.1
          have hmem := List.mem_of_getElem? hd
          simp only [isStaged, decide_eq_true_eq] at hs
          have ht : tab = regTable_tick := by
            rw [← htab, hb]
            unfold regTableAt
            repeat (first | rw [if_neg (by omega)] | rw [if_pos (by omega)])
          subst ht
          have hall : (regTable_tick.all fun d => !isStaged d || d.fields.any fun x => x.access == .rw) = true := by decide
          have := List.all_eq_true.mp hall d hmem
          simp only [isStaged, hs, decide_true, Bool.not_true, Bool.false_or, and_self] at this
          obtain ⟨z, hz, e⟩ := List.any_eq_true.mp this
          have hz1 := h1 z hz
          rw [beq_iff_eq] at e
          rw [e] at hz1
          exact absurd hz1 (by decide))
    ho
  rw [storedWord_commands _ _ hrow.1, kept_same, setReg_reg s _ hw, ht] at hww
  unfold wrote
  rw [mgmtWrite_word hp hadr.2.2.2.1 hadr.2.2.2.2.1 (by simp [isCoef]; omega) (by omega) hr hlo.1 hlo.2, hww]
  rfl

end State

end Sys2Proof.Machine
end

