-- ==== Sys2Proof/Laws/Acts.lean ====
section
/-!
SUPPORT. What a word written to each command register causes, by the register's base address, and which
rule of its own may refuse it.
-/

namespace Sys2Proof.Machine.State

-- One lemma after another: a thread each would be many.
set_option Elab.async false

variable {s : State} {d : RegDesc} {i : Nat} {old new : Word} {adc : Option (List (BitVec 16) × Bool)}

/-- A register that commands nothing. -/
theorem act_none (h : (tickCmds ++ loopCmds ++ safeCmds).contains d.base = false) : s.act d i old new adc = s := by
  simp only [List.contains_append, Bool.or_eq_false_iff] at h
  unfold act
  rw [h.1.1, h.1.2, h.2]
  rfl

/-- Registers with a rule of their own. -/
def ownRules : List Nat :=
  [0x78440, 0xC0004, 0x550100, 0x554000, 0x20000, F.CAT_ENTRY_W3.WEAR.base, F.ADC_CTRL.CAL_START.base, 0xB0010, 0xB0014, 0xB0018, 0xB001C,
   F.TICK_COMMIT.COMMIT.base, F.EDGE_HALT.HALT_REQ.base, 0xC0000, 0xC0008, 0xC0030, F.SIG_VALUE.VALUE.base,
   F.TIME_STEP.VALUE.base, F.TIME_SET.VALUE.base, F.REC_CMD.OP.base, F.SAFE_CMD.SBK_REQ.base, F.TRIP_STATUS.LATCH.base,
   F.FB_STATUS.DISCREP.base, F.LC_CMD.ARM.base, F.NVM_CMD.OP.base, F.CHK_CTRL.POLY.base, F.CHK_DATA.VALUE.base, F.CHK_ADDR.VALUE.base]

/-- Registers whose range is no range of one field. -/
def restRules : List Nat := [0x78440, 0x20000, 0x550100, 0x554000, 0xC0004]

theorem rangeRest_plain {w : Word} (h : restRules.contains d.base = false) : s.rangeRest d i w = true := by
  simp only [restRules, List.contains_cons, List.contains_nil, Bool.or_false, Bool.or_eq_false_iff, beq_eq_false_iff_ne, ne_eq] at h
  unfold rangeRest
  rw [if_neg h.1, if_neg h.2.1, if_neg h.2.2.1, if_neg h.2.2.2.1, if_neg h.2.2.2.2]

theorem own_none (h : ownRules.contains d.base = false) (hs : isStaged d = false) : s.ownRefusal d i old new = none := by
  simp only [ownRules, List.contains_cons, List.contains_nil, Bool.or_false, Bool.or_eq_false_iff, beq_eq_false_iff_ne, ne_eq] at h
  unfold ownRefusal rangeRest
  simp [h, hs]

/-- A word of CHK_CTRL that moves no stored field and commands neither INIT, START nor FINISH. -/
theorem refuseChk_quiet {n : Nat} (h : d.base = F.CHK_CTRL.POLY.base) (h1 : F.CHK_CTRL.POLY.ofWord new = s.get F.CHK_CTRL.POLY n)
    (h2 : F.CHK_CTRL.MODE.ofWord new = s.get F.CHK_CTRL.MODE n) (h3 : F.CHK_CTRL.SRC.ofWord new = s.get F.CHK_CTRL.SRC n)
    (h4 : F.CHK_CTRL.FINISH.ofWord new = 0) (h5 : F.CHK_CTRL.START.ofWord new = 0) (h6 : F.CHK_CTRL.INIT.ofWord new = 0) :
    s.refuseChk d n new = none := by
  unfold refuseChk
  rw [h, if_neg (by decide)]
  simp [h1, h2, h3, h4, h5, h6, show ¬F.CHK_CTRL.POLY.base = F.CHK_DATA.VALUE.base by decide]


theorem act_laneCtrl (h : d.base = 0x20000) : s.act d i old new adc = ((((if F.LANE_CTRL.ENABLE.ofWord new = F.LANE_CTRL.ENABLE.ofWord old then s
      else s.enableWrite i (F.LANE_CTRL.ENABLE.ofWord new = 1)).presetWrite i old new).ifBit F.LANE_CTRL.RETRAIN new fun s => s.retrain i).ifBit
      F.LANE_CTRL.BIT_SLIP new fun s => s.bitSlip i) := by
  unfold act actTick isStaged
  rw [h]
  dsimp only
  repeat (first | rw [if_pos (show List.contains _ _ = true by decide)] | rw [if_neg (show ¬List.contains _ _ = true by decide)])
  repeat rw [if_neg (by decide)]
  try (first | rw [if_pos rfl] | rfl)

theorem act_laneCntClr (h : d.base = F.LANE_CNT_CLR.CNT_CLR.base) : s.act d i old new adc = (s.ifBit F.LANE_CNT_CLR.CNT_CLR new fun s => s.laneCntClear i) := by
  unfold act actTick isStaged
  rw [h]
  dsimp only
  repeat (first | rw [if_pos (show List.contains _ _ = true by decide)] | rw [if_neg (show ¬List.contains _ _ = true by decide)])
  repeat rw [if_neg (by decide)]
  try (first | rw [if_pos rfl] | rfl)

theorem act_linkCntClr (h : d.base = F.LINK_CNT_CLR.CNT_CLR.base) : s.act d i old new adc = (s.ifBit F.LINK_CNT_CLR.CNT_CLR new fun s => s.linkCntClear i) := by
  unfold act actTick isStaged
  rw [h]
  dsimp only
  repeat (first | rw [if_pos (show List.contains _ _ = true by decide)] | rw [if_neg (show ¬List.contains _ _ = true by decide)])
  repeat rw [if_neg (by decide)]
  try (first | rw [if_pos rfl] | rfl)

theorem act_catCtrl (h : d.base = F.CAT_CTRL.CNT_CLR.base) : s.act d i old new adc = ((s.ifBit F.CAT_CTRL.CNT_CLR new catCntClear).ifBit F.CAT_CTRL.REDISCOVER new runAll) := by
  unfold act actTick isStaged
  rw [h]
  dsimp only
  repeat (first | rw [if_pos (show List.contains _ _ = true by decide)] | rw [if_neg (show ¬List.contains _ _ = true by decide)])
  repeat rw [if_neg (by decide)]
  try (first | rw [if_pos rfl] | rfl)

theorem act_obsCmd (h : d.base = F.OBS_CMD.CNT_CLR.base) : s.act d i old new adc = (s.ifBit F.OBS_CMD.CNT_CLR new obsCntClear) := by
  unfold act actTick isStaged
  rw [h]
  dsimp only
  repeat (first | rw [if_pos (show List.contains _ _ = true by decide)] | rw [if_neg (show ¬List.contains _ _ = true by decide)])
  repeat rw [if_neg (by decide)]
  try (first | rw [if_pos rfl] | rfl)

theorem act_selCmd (h : d.base = F.SEL_CMD.CNT_CLR.base) : s.act d i old new adc = (s.ifBit F.SEL_CMD.CNT_CLR new selCntClear) := by
  unfold act actTick isStaged
  rw [h]
  dsimp only
  repeat (first | rw [if_pos (show List.contains _ _ = true by decide)] | rw [if_neg (show ¬List.contains _ _ = true by decide)])
  repeat rw [if_neg (by decide)]
  try (first | rw [if_pos rfl] | rfl)

theorem act_edgeCmd (h : d.base = F.EDGE_CMD.CNT_CLR.base) : s.act d i old new adc = (s.ifBit F.EDGE_CMD.CNT_CLR new edgeCntClear) := by
  unfold act actTick isStaged
  rw [h]
  dsimp only
  repeat (first | rw [if_pos (show List.contains _ _ = true by decide)] | rw [if_neg (show ¬List.contains _ _ = true by decide)])
  repeat rw [if_neg (by decide)]
  try (first | rw [if_pos rfl] | rfl)

theorem act_commit (h : d.base = F.TICK_COMMIT.COMMIT.base) : s.act d i old new adc = ((s.ifBit F.TICK_COMMIT.COMMIT new fun s => (s.commit false (s.tickNo + 2)).2).ifBit F.TICK_COMMIT.DISCARD new fun s => s.discard.getD s) := by
  unfold act actTick isStaged
  rw [h]
  dsimp only
  repeat (first | rw [if_pos (show List.contains _ _ = true by decide)] | rw [if_neg (show ¬List.contains _ _ = true by decide)])
  repeat rw [if_neg (by decide)]
  try (first | rw [if_pos rfl] | rfl)

theorem act_overrun (h : d.base = F.OVERRUN_STATUS.OVERRUN_CLR.base) : s.act d i old new adc = (s.ifBit F.OVERRUN_STATUS.OVERRUN_CLR new fun s => s.clearAll [F.OVERRUN_CNT.COUNT, F.OVERRUN_STATUS.LATE_MAX]) := by
  unfold act actTick isStaged
  rw [h]
  dsimp only
  repeat (first | rw [if_pos (show List.contains _ _ = true by decide)] | rw [if_neg (show ¬List.contains _ _ = true by decide)])
  repeat rw [if_neg (by decide)]
  try (first | rw [if_pos rfl] | rfl)

theorem act_halt (h : d.base = F.EDGE_HALT.HALT_REQ.base) : s.act d i old new adc = ((s.ifBit F.EDGE_HALT.HALT_REQ new haltRequest).ifBit F.EDGE_HALT.RESUME new resume) := by
  unfold act actTick isStaged
  rw [h]
  dsimp only
  repeat (first | rw [if_pos (show List.contains _ _ = true by decide)] | rw [if_neg (show ¬List.contains _ _ = true by decide)])
  repeat rw [if_neg (by decide)]
  try (first | rw [if_pos rfl] | rfl)

theorem act_adcCtrl (h : d.base = F.ADC_CTRL.CNT_CLR.base) : s.act d i old new adc = (((s.ifBit F.ADC_CTRL.CNT_CLR new adcCntClear).ifBit F.ADC_CTRL.CAL_START new calStart).ifBit F.ADC_CTRL.URGENT new fun s => s.urgentWith adc) := by
  unfold act actTick isStaged
  rw [h]
  dsimp only
  repeat (first | rw [if_pos (show List.contains _ _ = true by decide)] | rw [if_neg (show ¬List.contains _ _ = true by decide)])
  repeat rw [if_neg (by decide)]
  try (first | rw [if_pos rfl] | rfl)

theorem act_ctxCtrl (h : d.base = 0xC0000) : s.act d i old new adc = if F.CTX_CTRL.MODE.ofWord new = F.CTX_CTRL.MODE.ofWord old then s
      else (s.set F.CTX_CTRL.MODE (F.CTX_CTRL.MODE.ofWord old) i).ctxAsk i
        (if F.CTX_CTRL.MODE.ofWord old = 2 ∧ F.CTX_CTRL.MODE.ofWord new = 1 then .promote else .mode (F.CTX_CTRL.MODE.ofWord new)) := by
  unfold act actLoop
  rw [h]
  dsimp only
  repeat (first | rw [if_pos (show List.contains _ _ = true by decide)] | rw [if_neg (show ¬List.contains _ _ = true by decide)])
  repeat rw [if_neg (by decide)]
  try (first | rw [if_pos rfl] | rfl)

theorem act_ctxCmd (h : d.base = 0xC0030) : s.act d i old new adc = (((((s.ifBit F.CTX_CMD.CNT_CLR new fun s => s.ctxCntClear i).ifBit F.CTX_CMD.FAULT_RESET new fun s => s.ctxAsk i .faultReset).ifBit F.CTX_CMD.SEAL new fun s => s.sealBlock i).ifBit F.CTX_CMD.INJ_STOP new fun s => s.injStop i).ifBit F.CTX_CMD.INJ_START new fun s => (s.injStart i (s.tickNo + 2)).getD s) := by
  unfold act actLoop
  rw [h]
  dsimp only
  repeat (first | rw [if_pos (show List.contains _ _ = true by decide)] | rw [if_neg (show ¬List.contains _ _ = true by decide)])
  repeat rw [if_neg (by decide)]
  try (first | rw [if_pos rfl] | rfl)

theorem act_loopCmd (h : d.base = F.LOOP_CMD.CNT_CLR.base) : s.act d i old new adc = (s.ifBit F.LOOP_CMD.CNT_CLR new loopCntClear) := by
  unfold act actLoop
  rw [h]
  dsimp only
  repeat (first | rw [if_pos (show List.contains _ _ = true by decide)] | rw [if_neg (show ¬List.contains _ _ = true by decide)])
  repeat rw [if_neg (by decide)]
  try (first | rw [if_pos rfl] | rfl)

theorem act_twinCmd (h : d.base = F.TWIN_CMD.CNT_CLR.base) : s.act d i old new adc = (((s.ifBit F.TWIN_CMD.CNT_CLR new twinCntClear).ifBit F.TWIN_CMD.WITHDRAW new fun s => s.withdraw 13).ifBit F.TWIN_CMD.REJOIN_NOW new rejoinRetry) := by
  unfold act actLoop
  rw [h]
  dsimp only
  repeat (first | rw [if_pos (show List.contains _ _ = true by decide)] | rw [if_neg (show ¬List.contains _ _ = true by decide)])
  repeat rw [if_neg (by decide)]
  try (first | rw [if_pos rfl] | rfl)

theorem act_stnCtrl2 (h : d.base = F.STN_CTRL2.CNT_CLR.base) : s.act d i old new adc = (s.ifBit F.STN_CTRL2.CNT_CLR new stnCntClear) := by
  unfold act actLoop
  rw [h]
  dsimp only
  repeat (first | rw [if_pos (show List.contains _ _ = true by decide)] | rw [if_neg (show ¬List.contains _ _ = true by decide)])
  repeat rw [if_neg (by decide)]
  try (first | rw [if_pos rfl] | rfl)

theorem act_timeStatus (h : d.base = F.TIME_STATUS.CNT_CLR.base) : s.act d i old new adc = (s.ifBit F.TIME_STATUS.CNT_CLR new timeCntClear) := by
  unfold act actLoop
  rw [h]
  dsimp only
  repeat (first | rw [if_pos (show List.contains _ _ = true by decide)] | rw [if_neg (show ¬List.contains _ _ = true by decide)])
  repeat rw [if_neg (by decide)]
  try (first | rw [if_pos rfl] | rfl)

theorem act_timeStep (h : d.base = F.TIME_STEP.VALUE.base) : s.act d i old new adc = s.timeStep (toSigned 32 new.toNat) false := by
  unfold act actLoop
  rw [h]
  dsimp only
  repeat (first | rw [if_pos (show List.contains _ _ = true by decide)] | rw [if_neg (show ¬List.contains _ _ = true by decide)])
  repeat rw [if_neg (by decide)]
  try (first | rw [if_pos rfl] | rfl)

theorem act_timeSet (h : d.base = F.TIME_SET.VALUE.base) : s.act d i old new adc = s.timeSet new.toNat := by
  unfold act actLoop
  rw [h]
  dsimp only
  repeat (first | rw [if_pos (show List.contains _ _ = true by decide)] | rw [if_neg (show ¬List.contains _ _ = true by decide)])
  repeat rw [if_neg (by decide)]
  try (first | rw [if_pos rfl] | rfl)

theorem act_recCtrl (h : d.base = F.REC_CTRL.CNT_CLR.base) : s.act d i old new adc = (s.ifBit F.REC_CTRL.CNT_CLR new recCntClear) := by
  unfold act actLoop
  rw [h]
  dsimp only
  repeat (first | rw [if_pos (show List.contains _ _ = true by decide)] | rw [if_neg (show ¬List.contains _ _ = true by decide)])
  repeat rw [if_neg (by decide)]
  try (first | rw [if_pos rfl] | rfl)

theorem act_recWinSel (h : d.base = F.REC_WIN_SEL.DIR.base) : s.act d i old new adc = s.windowSelect (F.REC_WIN_SEL.DIR.ofWord new) (F.REC_WIN_SEL.OFFSET.ofWord new) := by
  unfold act actLoop
  rw [h]
  dsimp only
  repeat (first | rw [if_pos (show List.contains _ _ = true by decide)] | rw [if_neg (show ¬List.contains _ _ = true by decide)])
  repeat rw [if_neg (by decide)]
  try (first | rw [if_pos rfl] | rfl)

theorem act_recCmd (h : d.base = F.REC_CMD.OP.base) : s.act d i old new adc = (s.recOp (F.REC_CMD.OP.ofWord new) (F.REC_CMD.UNIT.ofWord new) (F.REC_CMD.ARG.ofWord new)
      ((s.absNs - s.tick.absT) * 32 + s.now.frac.toNat / 2048)).getD s := by
  unfold act actLoop
  rw [h]
  dsimp only
  repeat (first | rw [if_pos (show List.contains _ _ = true by decide)] | rw [if_neg (show ¬List.contains _ _ = true by decide)])
  repeat rw [if_neg (by decide)]
  try (first | rw [if_pos rfl] | rfl)

theorem act_safeCmd (h : d.base = F.SAFE_CMD.SBK_REQ.base) : s.act d i old new adc = ((((((s.ifBit F.SAFE_CMD.SBK_CLR new sbkClear).ifBit F.SAFE_CMD.SBK_REQ new fun s => s.requestSbk 5).ifBit
      F.SAFE_CMD.ILP_REQ new ilpRequest).ifBit F.SAFE_CMD.ILP_DROP new dropIlp).each (List.range 4) fun s o =>
        if bits (F.SAFE_CMD.SOP_CLR.ofWord new) o o = 1 then s.sopClear o else s).ifBit F.SAFE_CMD.CNT_CLR new safeCntClear) := by
  unfold act actSafe
  rw [h]
  dsimp only
  repeat (first | rw [if_pos (show List.contains _ _ = true by decide)] | rw [if_neg (show ¬List.contains _ _ = true by decide)])
  repeat rw [if_neg (by decide)]
  try (first | rw [if_pos rfl] | rfl)

theorem act_safeConfirm (h : d.base = F.SAFE_CONFIRM.CONFIRM.base) : s.act d i old new adc = s.setB F.SAFE_STATUS.CONFIRMED (s.reg F.SAFE_CHECK.CHECK.base = s.reg F.SAFE_CONFIRM.CONFIRM.base) := by
  unfold act actSafe
  rw [h]
  dsimp only
  repeat (first | rw [if_pos (show List.contains _ _ = true by decide)] | rw [if_neg (show ¬List.contains _ _ = true by decide)])
  repeat rw [if_neg (by decide)]
  try (first | rw [if_pos rfl] | rfl)

theorem act_lcCmd (h : d.base = F.LC_CMD.ARM.base) : s.act d i old new adc = ((s.ifBit F.LC_CMD.ARM new fun s => s.lcArm (F.LC_CMD.TARGET.ofWord new)).ifBit F.LC_CMD.COMMIT new fun s => s.lcCommit (F.LC_CMD.TARGET.ofWord new)) := by
  unfold act actSafe
  rw [h]
  dsimp only
  repeat (first | rw [if_pos (show List.contains _ _ = true by decide)] | rw [if_neg (show ¬List.contains _ _ = true by decide)])
  repeat rw [if_neg (by decide)]
  try (first | rw [if_pos rfl] | rfl)

theorem act_dbgCmd (h : d.base = F.DBG_CMD.VERIFY.base) : s.act d i old new adc = ((s.ifBit F.DBG_CMD.RELOCK new dbgRelock).ifBit F.DBG_CMD.VERIFY new fun s => s.dbgVerify (F.DBG_CMD.REQ_LEVEL.ofWord new)) := by
  unfold act actSafe
  rw [h]
  dsimp only
  repeat (first | rw [if_pos (show List.contains _ _ = true by decide)] | rw [if_neg (show ¬List.contains _ _ = true by decide)])
  repeat rw [if_neg (by decide)]
  try (first | rw [if_pos rfl] | rfl)

theorem act_nvmCmd (h : d.base = F.NVM_CMD.OP.base) : s.act d i old new adc = (s.nvmCommand (F.NVM_CMD.OP.ofWord new) (F.NVM_CMD.BLOCK.ofWord new)).getD s := by
  unfold act actSafe
  rw [h]
  dsimp only
  repeat (first | rw [if_pos (show List.contains _ _ = true by decide)] | rw [if_neg (show ¬List.contains _ _ = true by decide)])
  repeat rw [if_neg (by decide)]
  try (first | rw [if_pos rfl] | rfl)

theorem act_integCmd (h : d.base = F.INTEG_CMD.CNT_CLR.base) : s.act d i old new adc = (s.ifBit F.INTEG_CMD.CNT_CLR new integCntClear) := by
  unfold act actSafe
  rw [h]
  dsimp only
  repeat (first | rw [if_pos (show List.contains _ _ = true by decide)] | rw [if_neg (show ¬List.contains _ _ = true by decide)])
  repeat rw [if_neg (by decide)]
  try (first | rw [if_pos rfl] | rfl)

theorem act_chkCtrl (h : d.base = F.CHK_CTRL.POLY.base) : s.act d i old new adc = ((((s.ifBit F.CHK_CTRL.INIT new fun s => s.chkInit i).ifBit F.CHK_CTRL.START new fun s => (s.chkStart i).getD (s.chkRefuse i)).ifBit F.CHK_CTRL.FINISH new fun s => (s.chkFinish i).getD (s.chkRefuse i)).ifBit F.CHK_CTRL.ABORT new fun s => s.chkAbort i) := by
  unfold act actSafe
  rw [h]
  dsimp only
  repeat (first | rw [if_pos (show List.contains _ _ = true by decide)] | rw [if_neg (show ¬List.contains _ _ = true by decide)])
  repeat rw [if_neg (by decide)]
  try (first | rw [if_pos rfl] | rfl)

theorem act_chkData (h : d.base = F.CHK_DATA.VALUE.base) : s.act d i old new adc = (s.chkData i new).getD s := by
  unfold act actSafe
  rw [h]
  dsimp only
  repeat (first | rw [if_pos (show List.contains _ _ = true by decide)] | rw [if_neg (show ¬List.contains _ _ = true by decide)])
  repeat rw [if_neg (by decide)]
  try (first | rw [if_pos rfl] | rfl)

theorem act_chkCmd (h : d.base = F.CHK_CMD.CNT_CLR.base) : s.act d i old new adc = (s.ifBit F.CHK_CMD.CNT_CLR new fun s => s.chkCntClear i) := by
  unfold act actSafe
  rw [h]
  dsimp only
  repeat (first | rw [if_pos (show List.contains _ _ = true by decide)] | rw [if_neg (show ¬List.contains _ _ = true by decide)])
  repeat rw [if_neg (by decide)]
  try (first | rw [if_pos rfl] | rfl)

theorem act_schedCmd (h : d.base = F.SCHED_CMD.CNT_CLR.base) : s.act d i old new adc = ((s.ifBit F.SCHED_CMD.CNT_CLR new schedCntClear).ifBit F.SCHED_CMD.PEAK_CLR new fun s => s.set F.SCHED_STATUS.POOL_PEAK (s.get F.SCHED_STATUS.POOL_USED)) := by
  unfold act actSafe
  rw [h]
  dsimp only
  repeat (first | rw [if_pos (show List.contains _ _ = true by decide)] | rw [if_neg (show ¬List.contains _ _ = true by decide)])
  repeat rw [if_neg (by decide)]
  try (first | rw [if_pos rfl] | rfl)

theorem act_clkCmd (h : d.base = F.CLK_CMD.CNT_CLR.base) : s.act d i old new adc = (s.ifBit F.CLK_CMD.CNT_CLR new clkCntClear) := by
  unfold act actSafe
  rw [h]
  dsimp only
  repeat (first | rw [if_pos (show List.contains _ _ = true by decide)] | rw [if_neg (show ¬List.contains _ _ = true by decide)])
  repeat rw [if_neg (by decide)]
  try (first | rw [if_pos rfl] | rfl)

theorem own_laneCtrl (h : d.base = 0x20000) (hs : storedWord d old new = old) :
    s.ownRefusal d i old new = if (s.laneStops i new && s.laneBusy i || s.lanePower i new && s.huskNow i) = true
      then some (stRefused, s.refuseLane i) else none := by
  unfold ownRefusal isStaged
  rw [hs, h, if_neg (by simp)]
  repeat rw [if_neg (by decide)]
  try (first | rw [if_pos rfl] | rw [if_pos (by decide)] | rfl)

theorem own_wear (h : d.base = F.CAT_ENTRY_W3.WEAR.base) : s.ownRefusal d i old new = if s.mode ≠ 0 ∧ s.mode ≠ 3 then some (stTwin, s) else if (s.arm (s.cellArm i)).deblocked = true then some (stRefused, s) else none := by
  have hr : s.rangeRest d i (storedWord d old new) = true := rangeRest_plain (by rw [h]; decide)
  unfold ownRefusal isStaged
  rw [hr, h, if_neg (show ¬(decide (_ ≠ _) && !true) = true by simp)]
  repeat rw [if_neg (by decide)]
  try (first | rw [if_pos rfl] | rw [if_pos (by decide)] | rfl)

theorem own_adcCtrl (h : d.base = F.ADC_CTRL.CAL_START.base) : s.ownRefusal d i old new = if (decide (F.ADC_CTRL.CAL_START.ofWord new = 1) && !s.calRunning && s.anyDeblocked) = true then some (stRefused, s.calStart) else none := by
  have hr : s.rangeRest d i (storedWord d old new) = true := rangeRest_plain (by rw [h]; decide)
  unfold ownRefusal isStaged
  rw [hr, h, if_neg (show ¬(decide (_ ≠ _) && !true) = true by simp)]
  repeat rw [if_neg (by decide)]
  try (first | rw [if_pos rfl] | rw [if_pos (by decide)] | rfl)

theorem own_commit (h : d.base = F.TICK_COMMIT.COMMIT.base) : s.ownRefusal d i old new = s.refuseTick d new := by
  have hr : s.rangeRest d i (storedWord d old new) = true := rangeRest_plain (by rw [h]; decide)
  unfold ownRefusal isStaged
  rw [hr, h, if_neg (show ¬(decide (_ ≠ _) && !true) = true by simp)]
  repeat rw [if_neg (by decide)]
  try (first | rw [if_pos rfl] | rw [if_pos (by decide)] | rfl)

theorem own_halt (h : d.base = F.EDGE_HALT.HALT_REQ.base) : s.ownRefusal d i old new = if (decide (F.EDGE_HALT.HALT_REQ.ofWord new = 1) && decide (s.mode ≠ 0) && decide (s.mode ≠ 3)) = true then some (stRefused, s.haltRequest) else none := by
  have hr : s.rangeRest d i (storedWord d old new) = true := rangeRest_plain (by rw [h]; decide)
  unfold ownRefusal isStaged
  rw [hr, h, if_neg (show ¬(decide (_ ≠ _) && !true) = true by simp)]
  repeat rw [if_neg (by decide)]
  try (first | rw [if_pos rfl] | rw [if_pos (by decide)] | rfl)

theorem own_ctxCtrl (h : d.base = 0xC0000) : s.ownRefusal d i old new = s.refuseCtx d i new := by
  have hr : s.rangeRest d i (storedWord d old new) = true := rangeRest_plain (by rw [h]; decide)
  unfold ownRefusal isStaged
  rw [hr, h, if_neg (show ¬(decide (_ ≠ _) && !true) = true by simp)]
  repeat rw [if_neg (by decide)]
  try (first | rw [if_pos rfl] | rw [if_pos (by decide)] | rfl)

theorem own_ctxCmd (h : d.base = 0xC0030) : s.ownRefusal d i old new = s.refuseCtx d i new := by
  have hr : s.rangeRest d i (storedWord d old new) = true := rangeRest_plain (by rw [h]; decide)
  unfold ownRefusal isStaged
  rw [hr, h, if_neg (show ¬(decide (_ ≠ _) && !true) = true by simp)]
  repeat rw [if_neg (by decide)]
  try (first | rw [if_pos rfl] | rw [if_pos (by decide)] | rfl)

theorem own_sig (h : d.base = F.SIG_VALUE.VALUE.base) : s.ownRefusal d i old new = if s.sigKind i ≠ 1 then some (stRefused, s) else if s.mode ≠ 0 ∧ s.mode ≠ 3 then some (stTwin, s) else none := by
  have hr : s.rangeRest d i (storedWord d old new) = true := rangeRest_plain (by rw [h]; decide)
  unfold ownRefusal isStaged
  rw [hr, h, if_neg (show ¬(decide (_ ≠ _) && !true) = true by simp)]
  repeat rw [if_neg (by decide)]
  try (first | rw [if_pos rfl] | rw [if_pos (by decide)] | rfl)

theorem own_timeStep (h : d.base = F.TIME_STEP.VALUE.base) : s.ownRefusal d i old new = s.refuseTime d new := by
  have hr : s.rangeRest d i (storedWord d old new) = true := rangeRest_plain (by rw [h]; decide)
  unfold ownRefusal isStaged
  rw [hr, h, if_neg (show ¬(decide (_ ≠ _) && !true) = true by simp)]
  repeat rw [if_neg (by decide)]
  try (first | rw [if_pos rfl] | rw [if_pos (by decide)] | rfl)

theorem own_timeSet (h : d.base = F.TIME_SET.VALUE.base) : s.ownRefusal d i old new = s.refuseTime d new := by
  have hr : s.rangeRest d i (storedWord d old new) = true := rangeRest_plain (by rw [h]; decide)
  unfold ownRefusal isStaged
  rw [hr, h, if_neg (show ¬(decide (_ ≠ _) && !true) = true by simp)]
  repeat rw [if_neg (by decide)]
  try (first | rw [if_pos rfl] | rw [if_pos (by decide)] | rfl)

theorem own_recCmd (h : d.base = F.REC_CMD.OP.base) : s.ownRefusal d i old new = s.refuseRec new := by
  have hr : s.rangeRest d i (storedWord d old new) = true := rangeRest_plain (by rw [h]; decide)
  unfold ownRefusal isStaged
  rw [hr, h, if_neg (show ¬(decide (_ ≠ _) && !true) = true by simp)]
  repeat rw [if_neg (by decide)]
  try (first | rw [if_pos rfl] | rw [if_pos (by decide)] | rfl)

theorem own_safeCmd (h : d.base = F.SAFE_CMD.SBK_REQ.base) : s.ownRefusal d i old new = s.refuseSafe d new := by
  have hr : s.rangeRest d i (storedWord d old new) = true := rangeRest_plain (by rw [h]; decide)
  unfold ownRefusal isStaged
  rw [hr, h, if_neg (show ¬(decide (_ ≠ _) && !true) = true by simp)]
  repeat rw [if_neg (by decide)]
  try (first | rw [if_pos rfl] | rw [if_pos (by decide)] | rfl)

theorem own_tripStatus (h : d.base = F.TRIP_STATUS.LATCH.base) : s.ownRefusal d i old new = s.refuseSafe d new := by
  have hr : s.rangeRest d i (storedWord d old new) = true := rangeRest_plain (by rw [h]; decide)
  unfold ownRefusal isStaged
  rw [hr, h, if_neg (show ¬(decide (_ ≠ _) && !true) = true by simp)]
  repeat rw [if_neg (by decide)]
  try (first | rw [if_pos rfl] | rw [if_pos (by decide)] | rfl)

theorem own_fbStatus (h : d.base = F.FB_STATUS.DISCREP.base) : s.ownRefusal d i old new = s.refuseSafe d new := by
  have hr : s.rangeRest d i (storedWord d old new) = true := rangeRest_plain (by rw [h]; decide)
  unfold ownRefusal isStaged
  rw [hr, h, if_neg (show ¬(decide (_ ≠ _) && !true) = true by simp)]
  repeat rw [if_neg (by decide)]
  try (first | rw [if_pos rfl] | rw [if_pos (by decide)] | rfl)

theorem own_lcCmd (h : d.base = F.LC_CMD.ARM.base) : s.ownRefusal d i old new = s.refuseBoot d new := by
  have hr : s.rangeRest d i (storedWord d old new) = true := rangeRest_plain (by rw [h]; decide)
  unfold ownRefusal isStaged
  rw [hr, h, if_neg (show ¬(decide (_ ≠ _) && !true) = true by simp)]
  repeat rw [if_neg (by decide)]
  try (first | rw [if_pos rfl] | rw [if_pos (by decide)] | rfl)

theorem own_nvmCmd (h : d.base = F.NVM_CMD.OP.base) : s.ownRefusal d i old new = s.refuseBoot d new := by
  have hr : s.rangeRest d i (storedWord d old new) = true := rangeRest_plain (by rw [h]; decide)
  unfold ownRefusal isStaged
  rw [hr, h, if_neg (show ¬(decide (_ ≠ _) && !true) = true by simp)]
  repeat rw [if_neg (by decide)]
  try (first | rw [if_pos rfl] | rw [if_pos (by decide)] | rfl)

theorem own_chkCtrl (h : d.base = F.CHK_CTRL.POLY.base) : s.ownRefusal d i old new = s.refuseChk d i new := by
  have hr : s.rangeRest d i (storedWord d old new) = true := rangeRest_plain (by rw [h]; decide)
  unfold ownRefusal isStaged
  rw [hr, h, if_neg (show ¬(decide (_ ≠ _) && !true) = true by simp)]
  repeat rw [if_neg (by decide)]
  try (first | rw [if_pos rfl] | rw [if_pos (by decide)] | rfl)

theorem own_chkData (h : d.base = F.CHK_DATA.VALUE.base) : s.ownRefusal d i old new = s.refuseChk d i new := by
  have hr : s.rangeRest d i (storedWord d old new) = true := rangeRest_plain (by rw [h]; decide)
  unfold ownRefusal isStaged
  rw [hr, h, if_neg (show ¬(decide (_ ≠ _) && !true) = true by simp)]
  repeat rw [if_neg (by decide)]
  try (first | rw [if_pos rfl] | rw [if_pos (by decide)] | rfl)

end Sys2Proof.Machine.State
end

