-- ==== Sys2Proof/Laws/Commands.lean ====
section
/-!
SUPPORT. Each command of the register tables, written by a path that nothing shuts out: what the write comes
down to.
-/

namespace Sys2Proof.Machine.State

-- One lemma after another: a thread each would be many.
set_option Elab.async false

variable {s : State} {p : Nat}

theorem overrunClr_does (hw : AMap.wf resetWord s.regs = true) (ha : s.admits p .any) :
    s.wroteField p F.OVERRUN_STATUS.OVERRUN_CLR 1 = (s.clearAll [F.OVERRUN_CNT.COUNT, F.OVERRUN_STATUS.LATE_MAX]).okOn p := by
  refine command _ _ _ 22 hw ha table_tick rfl (by decide) (by decide) rfl (by decide) (by decide) (by decide) (by decide) ?_ ?_
  · rw [own_none (by decide) (by decide)]
  · rw [stored_plain (by decide) (by decide), act_overrun rfl]
    repeat (first | rw [ifBit_one _ _ _ _ rfl (by decide)] | rw [ifBit_other _ _ _ _ _ _ (by decide) (by decide) (by decide) (by decide)])

theorem linkCntClr_does (k : Nat) (hk : k < 64) (hw : AMap.wf resetWord s.regs = true) (ha : s.admits p .any) :
    s.wroteField p F.LINK_CNT_CLR.CNT_CLR 1 k = (s.linkCntClear k).okOn p := by
  have ea : F.LINK_CNT_CLR.CNT_CLR.addr k = 0x40020 + 256 * k := by simp [Field.addr, F.LINK_CNT_CLR.CNT_CLR]
  refine command _ _ _ 8 hw ha table_link rfl (by decide) hk (by rw [ea]; unfold regTableAt; repeat (first | rw [if_neg (by omega)] | rw [if_pos (by omega)])) (by omega) (noLo (by omega)) (by decide) (by decide) ?_ ?_
  · rw [own_none (by decide) (by decide)]
  · rw [stored_plain (by decide) (inSafetySet_outside (by omega)), act_linkCntClr rfl]
    repeat (first | rw [ifBit_one _ _ _ _ rfl (by decide)] | rw [ifBit_other _ _ _ _ _ _ (by decide) (by decide) (by decide) (by decide)])

theorem catCntClr_does (hw : AMap.wf resetWord s.regs = true) (ha : s.admits p .any) :
    s.wroteField p F.CAT_CTRL.CNT_CLR 1 = (s.catCntClear).okOn p := by
  refine command _ _ _ 8 hw ha table_catalogue rfl (by decide) (by decide) rfl (by decide) (by decide) (by decide) (by decide) ?_ ?_
  · rw [own_none (by decide) (by decide)]
  · rw [stored_plain (by decide) (by decide), act_catCtrl rfl]
    repeat (first | rw [ifBit_one _ _ _ _ rfl (by decide)] | rw [ifBit_other _ _ _ _ _ _ (by decide) (by decide) (by decide) (by decide)])

theorem catRediscover_does (hw : AMap.wf resetWord s.regs = true) (ha : s.admits p .any) :
    s.wroteField p F.CAT_CTRL.REDISCOVER 1 = (s.runAll).okOn p := by
  refine command _ _ _ 8 hw ha table_catalogue rfl (by decide) (by decide) rfl (by decide) (by decide) (by decide) (by decide) ?_ ?_
  · rw [own_none (by decide) (by decide)]
  · rw [stored_plain (by decide) (by decide), act_catCtrl rfl]
    repeat (first | rw [ifBit_one _ _ _ _ rfl (by decide)] | rw [ifBit_other _ _ _ _ _ _ (by decide) (by decide) (by decide) (by decide)])

theorem laneCntClr_does (l : Nat) (hl : l < 72) (hw : AMap.wf resetWord s.regs = true) (ha : s.admits p .any) :
    s.wroteField p F.LANE_CNT_CLR.CNT_CLR 1 l = (s.laneCntClear l).okOn p := by
  have ea : F.LANE_CNT_CLR.CNT_CLR.addr l = 0x2001C + 256 * l := by simp [Field.addr, F.LANE_CNT_CLR.CNT_CLR]
  refine command _ _ _ 6 hw ha table_lane rfl (by decide) hl (by rw [ea]; unfold regTableAt; repeat (first | rw [if_neg (by omega)] | rw [if_pos (by omega)])) (by omega) (noLo (by omega)) (by decide) (by decide) ?_ ?_
  · rw [own_none (by decide) (by decide)]
  · rw [stored_plain (by decide) (inSafetySet_outside (by omega)), act_laneCntClr rfl]
    repeat (first | rw [ifBit_one _ _ _ _ rfl (by decide)] | rw [ifBit_other _ _ _ _ _ _ (by decide) (by decide) (by decide) (by decide)])

theorem urgent_does (hw : AMap.wf resetWord s.regs = true) (ha : s.admits p .any) (codes : List (BitVec 16)) (busy : Bool) :
    s.wroteField p F.ADC_CTRL.URGENT 1 0 (some (codes, busy)) = (s.urgent codes busy).okOn p := by
  refine command _ _ _ 8 hw ha table_measure rfl (by decide) (by decide) rfl (by decide) (by decide) (by decide) (by decide) ?_ ?_
  · rw [own_adcCtrl rfl, ofWord_other (c := .wo) _ _ _ F.ADC_CTRL.CAL_START (by decide)]
    rfl
  · rw [stored_plain (by decide) (by decide), act_adcCtrl rfl]
    repeat (first | rw [ifBit_one _ _ _ _ rfl (by decide)] | rw [ifBit_other _ _ _ _ _ _ (by decide) (by decide) (by decide) (by decide)])
    rfl

theorem calStart_does (hw : AMap.wf resetWord s.regs = true) (ha : s.admits p .any) (hb : s.calRunning = true ∨ s.anyDeblocked = false) :
    s.wroteField p F.ADC_CTRL.CAL_START 1 = (s.calStart).okOn p := by
  refine command _ _ _ 8 hw ha table_measure rfl (by decide) (by decide) rfl (by decide) (by decide) (by decide) (by decide) ?_ ?_
  · rw [own_adcCtrl rfl, if_neg (by rcases hb with h | h <;> simp [h])]
  · rw [stored_plain (by decide) (by decide), act_adcCtrl rfl]
    repeat (first | rw [ifBit_one _ _ _ _ rfl (by decide)] | rw [ifBit_other _ _ _ _ _ _ (by decide) (by decide) (by decide) (by decide)])

theorem adcCntClr_does (hw : AMap.wf resetWord s.regs = true) (ha : s.admits p .any) :
    s.wroteField p F.ADC_CTRL.CNT_CLR 1 = (s.adcCntClear).okOn p := by
  refine command _ _ _ 8 hw ha table_measure rfl (by decide) (by decide) rfl (by decide) (by decide) (by decide) (by decide) ?_ ?_
  · rw [own_adcCtrl rfl, ofWord_other (c := .wo) _ _ _ F.ADC_CTRL.CAL_START (by decide)]
    rfl
  · rw [stored_plain (by decide) (by decide), act_adcCtrl rfl]
    repeat (first | rw [ifBit_one _ _ _ _ rfl (by decide)] | rw [ifBit_other _ _ _ _ _ _ (by decide) (by decide) (by decide) (by decide)])

theorem obsCntClr_does (hw : AMap.wf resetWord s.regs = true) (ha : s.admits p .any) :
    s.wroteField p F.OBS_CMD.CNT_CLR 1 = (s.obsCntClear).okOn p := by
  refine command _ _ _ 12 hw ha table_observer rfl (by decide) (by decide) rfl (by decide) (by decide) (by decide) (by decide) ?_ ?_
  · rw [own_none (by decide) (by decide)]
  · rw [stored_plain (by decide) (by decide), act_obsCmd rfl]
    repeat (first | rw [ifBit_one _ _ _ _ rfl (by decide)] | rw [ifBit_other _ _ _ _ _ _ (by decide) (by decide) (by decide) (by decide)])

theorem selCntClr_does (hw : AMap.wf resetWord s.regs = true) (ha : s.admits p .any) :
    s.wroteField p F.SEL_CMD.CNT_CLR 1 = (s.selCntClear).okOn p := by
  refine command _ _ _ 14 hw ha table_select rfl (by decide) (by decide) rfl (by decide) (by decide) (by decide) (by decide) ?_ ?_
  · rw [own_none (by decide) (by decide)]
  · rw [stored_plain (by decide) (by decide), act_selCmd rfl]
    repeat (first | rw [ifBit_one _ _ _ _ rfl (by decide)] | rw [ifBit_other _ _ _ _ _ _ (by decide) (by decide) (by decide) (by decide)])

theorem edgeCntClr_does (hw : AMap.wf resetWord s.regs = true) (ha : s.admits p .any) :
    s.wroteField p F.EDGE_CMD.CNT_CLR 1 = (s.edgeCntClear).okOn p := by
  refine command _ _ _ 8 hw ha table_edge rfl (by decide) (by decide) rfl (by decide) (by decide) (by decide) (by decide) ?_ ?_
  · rw [own_none (by decide) (by decide)]
  · rw [stored_plain (by decide) (by decide), act_edgeCmd rfl]
    repeat (first | rw [ifBit_one _ _ _ _ rfl (by decide)] | rw [ifBit_other _ _ _ _ _ _ (by decide) (by decide) (by decide) (by decide)])

theorem haltReq_does (hw : AMap.wf resetWord s.regs = true) (ha : s.admits p .cfg) (hm : s.mode = 0 ∨ s.mode = 3) :
    s.wroteField p F.EDGE_HALT.HALT_REQ 1 = (s.haltRequest).okOn p := by
  refine command _ _ _ 6 hw ha table_edge rfl (by decide) (by decide) rfl (by decide) (by decide) (by decide) (by decide) ?_ ?_
  · rw [own_halt rfl, if_neg (by rcases hm with h | h <;> simp [h])]
  · rw [stored_plain (by decide) (by decide), act_halt rfl]
    repeat (first | rw [ifBit_one _ _ _ _ rfl (by decide)] | rw [ifBit_other _ _ _ _ _ _ (by decide) (by decide) (by decide) (by decide)])

theorem resume_does (hw : AMap.wf resetWord s.regs = true) (ha : s.admits p .cfg) :
    s.wroteField p F.EDGE_HALT.RESUME 1 = (s.resume).okOn p := by
  refine command _ _ _ 6 hw ha table_edge rfl (by decide) (by decide) rfl (by decide) (by decide) (by decide) (by decide) ?_ ?_
  · rw [own_halt rfl, ofWord_other (c := .wo) _ _ _ F.EDGE_HALT.HALT_REQ (by decide)]
    rfl
  · rw [stored_plain (by decide) (by decide), act_halt rfl]
    repeat (first | rw [ifBit_one _ _ _ _ rfl (by decide)] | rw [ifBit_other _ _ _ _ _ _ (by decide) (by decide) (by decide) (by decide)])

theorem injStart_does (c : Nat) (hc : c < 192) (hw : AMap.wf resetWord s.regs = true) (ha : s.admits p .live) (hj : (s.injStart c 0).isSome = true) :
    s.wroteField p F.CTX_CMD.INJ_START 1 c = ((s.injStart c (s.tickNo + 2)).getD s).okOn p := by
  have ea : F.CTX_CMD.INJ_START.addr c = 0xC0030 + 512 * c := by simp [Field.addr, F.CTX_CMD.INJ_START]
  refine command _ _ _ 12 hw ha table_loop rfl (by decide) hc (by rw [ea]; unfold regTableAt; repeat (first | rw [if_neg (by omega)] | rw [if_pos (by omega)])) (by omega) (noLo (by omega)) (by decide) (by decide) ?_ ?_
  · rw [own_ctxCmd rfl]
    unfold refuseCtx
    rw [if_neg (by decide), if_neg (by decide), if_neg (by cases h : s.injStart c 0 <;> simp_all)]
  · rw [stored_plain (by decide) (inSafetySet_outside (by omega)), act_ctxCmd rfl]
    repeat (first | rw [ifBit_one _ _ _ _ rfl (by decide)] | rw [ifBit_other _ _ _ _ _ _ (by decide) (by decide) (by decide) (by decide)])

theorem injStop_does (c : Nat) (hc : c < 192) (hw : AMap.wf resetWord s.regs = true) (ha : s.admits p .live) :
    s.wroteField p F.CTX_CMD.INJ_STOP 1 c = (s.injStop c).okOn p := by
  have ea : F.CTX_CMD.INJ_STOP.addr c = 0xC0030 + 512 * c := by simp [Field.addr, F.CTX_CMD.INJ_STOP]
  refine command _ _ _ 12 hw ha table_loop rfl (by decide) hc (by rw [ea]; unfold regTableAt; repeat (first | rw [if_neg (by omega)] | rw [if_pos (by omega)])) (by omega) (noLo (by omega)) (by decide) (by decide) ?_ ?_
  · rw [own_ctxCmd rfl]
    unfold refuseCtx
    rw [if_neg (by decide), if_neg (by decide), ofWord_other (c := .wo) _ _ _ F.CTX_CMD.INJ_START (by decide)]
    rfl
  · rw [stored_plain (by decide) (inSafetySet_outside (by omega)), act_ctxCmd rfl]
    repeat (first | rw [ifBit_one _ _ _ _ rfl (by decide)] | rw [ifBit_other _ _ _ _ _ _ (by decide) (by decide) (by decide) (by decide)])

theorem seal_does (c : Nat) (hc : c < 192) (hw : AMap.wf resetWord s.regs = true) (ha : s.admits p .cfg) :
    s.wroteField p F.CTX_CMD.SEAL 1 c = (s.sealBlock c).okOn p := by
  have ea : F.CTX_CMD.SEAL.addr c = 0xC0030 + 512 * c := by simp [Field.addr, F.CTX_CMD.SEAL]
  refine command _ _ _ 12 hw ha table_loop rfl (by decide) hc (by rw [ea]; unfold regTableAt; repeat (first | rw [if_neg (by omega)] | rw [if_pos (by omega)])) (by omega) (noLo (by omega)) (by decide) (by decide) ?_ ?_
  · rw [own_ctxCmd rfl]
    unfold refuseCtx
    rw [if_neg (by decide), if_neg (by decide), ofWord_other (c := .wo) _ _ _ F.CTX_CMD.INJ_START (by decide)]
    rfl
  · rw [stored_plain (by decide) (inSafetySet_outside (by omega)), act_ctxCmd rfl]
    repeat (first | rw [ifBit_one _ _ _ _ rfl (by decide)] | rw [ifBit_other _ _ _ _ _ _ (by decide) (by decide) (by decide) (by decide)])

theorem faultReset_does (c : Nat) (hc : c < 192) (hw : AMap.wf resetWord s.regs = true) (ha : s.admits p .live) :
    s.wroteField p F.CTX_CMD.FAULT_RESET 1 c = (s.ctxAsk c .faultReset).okOn p := by
  have ea : F.CTX_CMD.FAULT_RESET.addr c = 0xC0030 + 512 * c := by simp [Field.addr, F.CTX_CMD.FAULT_RESET]
  refine command _ _ _ 12 hw ha table_loop rfl (by decide) hc (by rw [ea]; unfold regTableAt; repeat (first | rw [if_neg (by omega)] | rw [if_pos (by omega)])) (by omega) (noLo (by omega)) (by decide) (by decide) ?_ ?_
  · rw [own_ctxCmd rfl]
    unfold refuseCtx
    rw [if_neg (by decide), if_neg (by decide), ofWord_other (c := .wo) _ _ _ F.CTX_CMD.INJ_START (by decide)]
    rfl
  · rw [stored_plain (by decide) (inSafetySet_outside (by omega)), act_ctxCmd rfl]
    repeat (first | rw [ifBit_one _ _ _ _ rfl (by decide)] | rw [ifBit_other _ _ _ _ _ _ (by decide) (by decide) (by decide) (by decide)])

theorem ctxCntClr_does (c : Nat) (hc : c < 192) (hw : AMap.wf resetWord s.regs = true) (ha : s.admits p .any) (hs : s.twinShut = false) :
    s.wroteField p F.CTX_CMD.CNT_CLR 1 c = (s.ctxCntClear c).okOn p := by
  have ea : F.CTX_CMD.CNT_CLR.addr c = 0xC0030 + 512 * c := by simp [Field.addr, F.CTX_CMD.CNT_CLR]
  refine command _ _ _ 12 hw ha table_loop rfl (by decide) hc (by rw [ea]; unfold regTableAt; repeat (first | rw [if_neg (by omega)] | rw [if_pos (by omega)])) (by omega) (noLo (by omega)) (by decide) (by decide) ?_ ?_ (fun _ => .inr hs)
  · rw [own_ctxCmd rfl]
    unfold refuseCtx
    rw [if_neg (by decide), if_neg (by decide), ofWord_other (c := .wo) _ _ _ F.CTX_CMD.INJ_START (by decide)]
    rfl
  · rw [stored_plain (by decide) (inSafetySet_outside (by omega)), act_ctxCmd rfl]
    repeat (first | rw [ifBit_one _ _ _ _ rfl (by decide)] | rw [ifBit_other _ _ _ _ _ _ (by decide) (by decide) (by decide) (by decide)])

theorem loopCntClr_does (hw : AMap.wf resetWord s.regs = true) (ha : s.admits p .any) (hs : s.twinShut = false) :
    s.wroteField p F.LOOP_CMD.CNT_CLR 1 = (s.loopCntClear).okOn p := by
  refine command _ _ _ 28 hw ha table_loop rfl (by decide) (by decide) rfl (by decide) (by decide) (by decide) (by decide) ?_ ?_ (fun _ => .inr hs)
  · rw [own_none (by decide) (by decide)]
  · rw [stored_plain (by decide) (by decide), act_loopCmd rfl]
    repeat (first | rw [ifBit_one _ _ _ _ rfl (by decide)] | rw [ifBit_other _ _ _ _ _ _ (by decide) (by decide) (by decide) (by decide)])

theorem withdraw_does (hw : AMap.wf resetWord s.regs = true) (ha : s.admits p .any) :
    s.wroteField p F.TWIN_CMD.WITHDRAW 1 = (s.withdraw 13).okOn p := by
  refine command _ _ _ 2 hw ha table_twin rfl (by decide) (by decide) rfl (by decide) (by decide) (by decide) (by decide) ?_ ?_
  · rw [own_none (by decide) (by decide)]
  · rw [stored_plain (by decide) (by decide), act_twinCmd rfl]
    repeat (first | rw [ifBit_one _ _ _ _ rfl (by decide)] | rw [ifBit_other _ _ _ _ _ _ (by decide) (by decide) (by decide) (by decide)])

theorem rejoinNow_does (hw : AMap.wf resetWord s.regs = true) (ha : s.admits p .any) :
    s.wroteField p F.TWIN_CMD.REJOIN_NOW 1 = (s.rejoinRetry).okOn p := by
  refine command _ _ _ 2 hw ha table_twin rfl (by decide) (by decide) rfl (by decide) (by decide) (by decide) (by decide) ?_ ?_
  · rw [own_none (by decide) (by decide)]
  · rw [stored_plain (by decide) (by decide), act_twinCmd rfl]
    repeat (first | rw [ifBit_one _ _ _ _ rfl (by decide)] | rw [ifBit_other _ _ _ _ _ _ (by decide) (by decide) (by decide) (by decide)])

theorem twinCntClr_does (hw : AMap.wf resetWord s.regs = true) (ha : s.admits p .any) :
    s.wroteField p F.TWIN_CMD.CNT_CLR 1 = (s.twinCntClear).okOn p := by
  refine command _ _ _ 2 hw ha table_twin rfl (by decide) (by decide) rfl (by decide) (by decide) (by decide) (by decide) ?_ ?_
  · rw [own_none (by decide) (by decide)]
  · rw [stored_plain (by decide) (by decide), act_twinCmd rfl]
    repeat (first | rw [ifBit_one _ _ _ _ rfl (by decide)] | rw [ifBit_other _ _ _ _ _ _ (by decide) (by decide) (by decide) (by decide)])

theorem stnCntClr_does (hw : AMap.wf resetWord s.regs = true) (ha : s.admits p .any) :
    s.wroteField p F.STN_CTRL2.CNT_CLR 1 = (s.stnCntClear).okOn p := by
  refine command _ _ _ 12 hw ha table_station rfl (by decide) (by decide) rfl (by decide) (by decide) (by decide) (by decide) ?_ ?_
  · rw [own_none (by decide) (by decide)]
  · rw [stored_plain (by decide) (by decide), act_stnCtrl2 rfl]
    repeat (first | rw [ifBit_one _ _ _ _ rfl (by decide)] | rw [ifBit_other _ _ _ _ _ _ (by decide) (by decide) (by decide) (by decide)])

theorem timeCntClr_does (hw : AMap.wf resetWord s.regs = true) (ha : s.admits p .any) :
    s.wroteField p F.TIME_STATUS.CNT_CLR 1 = (s.timeCntClear).okOn p := by
  refine command _ _ _ 11 hw ha table_time rfl (by decide) (by decide) rfl (by decide) (by decide) (by decide) (by decide) ?_ ?_
  · rw [own_none (by decide) (by decide)]
  · rw [stored_plain (by decide) (by decide), act_timeStatus rfl]
    repeat (first | rw [ifBit_one _ _ _ _ rfl (by decide)] | rw [ifBit_other _ _ _ _ _ _ (by decide) (by decide) (by decide) (by decide)])

theorem recCntClr_does (hw : AMap.wf resetWord s.regs = true) (ha : s.admits p .any) :
    s.wroteField p F.REC_CTRL.CNT_CLR 1 = (s.recCntClear).okOn p := by
  refine command _ _ _ 0 hw ha table_record rfl (by decide) (by decide) rfl (by decide) (by decide) (by decide) (by decide) ?_ ?_
  · rw [own_none (by decide) (by decide)]
  · rw [stored_plain (by decide) (by decide), act_recCtrl rfl]
    repeat (first | rw [ifBit_one _ _ _ _ rfl (by decide)] | rw [ifBit_other _ _ _ _ _ _ (by decide) (by decide) (by decide) (by decide)])

theorem sbkReq_does (hw : AMap.wf resetWord s.regs = true) (ha : s.admits p .any) :
    s.wroteField p F.SAFE_CMD.SBK_REQ 1 = (s.requestSbk 5).okOn p := by
  refine command _ _ _ 1 hw ha table_curator rfl (by decide) (by decide) rfl (by decide) (by decide) (by decide) (by decide) ?_ ?_
  · rw [own_safeCmd rfl]
    unfold refuseSafe
    rw [if_pos (by decide), ofWord_other (c := .wo) _ _ _ F.SAFE_CMD.SBK_CLR (by decide), ofWord_other (c := .wo) _ _ _ F.SAFE_CMD.SOP_CLR (by decide)]
    simp [bits]
  · rw [stored_plain (by decide) (by decide), act_safeCmd rfl]
    rw [ofWord_other (c := .wo) _ _ _ F.SAFE_CMD.SOP_CLR (by decide)]
    simp only [List.range, List.range.loop, each, List.foldl_cons, List.foldl_nil, show ∀ o, bits 0 o o = 0 from fun o => by simp [bits],
      if_neg (show ¬(0 : Nat) = 1 by decide)]
    repeat (first | rw [ifBit_one _ _ _ _ rfl (by decide)] | rw [ifBit_other _ _ _ _ _ _ (by decide) (by decide) (by decide) (by decide)])

theorem sbkClr_does (hw : AMap.wf resetWord s.regs = true) (ha : s.admits p .any) (hh : s.sbkHolds = false) :
    s.wroteField p F.SAFE_CMD.SBK_CLR 1 = (s.sbkClear).okOn p := by
  refine command _ _ _ 1 hw ha table_curator rfl (by decide) (by decide) rfl (by decide) (by decide) (by decide) (by decide) ?_ ?_
  · rw [own_safeCmd rfl]
    unfold refuseSafe
    rw [if_pos (by decide), ofWord_other (c := .wo) _ _ _ F.SAFE_CMD.SOP_CLR (by decide), hh]
    simp [bits]
  · rw [stored_plain (by decide) (by decide), act_safeCmd rfl]
    rw [ofWord_other (c := .wo) _ _ _ F.SAFE_CMD.SOP_CLR (by decide)]
    simp only [List.range, List.range.loop, each, List.foldl_cons, List.foldl_nil, show ∀ o, bits 0 o o = 0 from fun o => by simp [bits],
      if_neg (show ¬(0 : Nat) = 1 by decide)]
    repeat (first | rw [ifBit_one _ _ _ _ rfl (by decide)] | rw [ifBit_other _ _ _ _ _ _ (by decide) (by decide) (by decide) (by decide)])

theorem ilpReq_does (hw : AMap.wf resetWord s.regs = true) (ha : s.admits p .any) :
    s.wroteField p F.SAFE_CMD.ILP_REQ 1 = (s.ilpRequest).okOn p := by
  refine command _ _ _ 1 hw ha table_curator rfl (by decide) (by decide) rfl (by decide) (by decide) (by decide) (by decide) ?_ ?_
  · rw [own_safeCmd rfl]
    unfold refuseSafe
    rw [if_pos (by decide), ofWord_other (c := .wo) _ _ _ F.SAFE_CMD.SBK_CLR (by decide), ofWord_other (c := .wo) _ _ _ F.SAFE_CMD.SOP_CLR (by decide)]
    simp [bits]
  · rw [stored_plain (by decide) (by decide), act_safeCmd rfl]
    rw [ofWord_other (c := .wo) _ _ _ F.SAFE_CMD.SOP_CLR (by decide)]
    simp only [List.range, List.range.loop, each, List.foldl_cons, List.foldl_nil, show ∀ o, bits 0 o o = 0 from fun o => by simp [bits],
      if_neg (show ¬(0 : Nat) = 1 by decide)]
    repeat (first | rw [ifBit_one _ _ _ _ rfl (by decide)] | rw [ifBit_other _ _ _ _ _ _ (by decide) (by decide) (by decide) (by decide)])

theorem ilpDrop_does (hw : AMap.wf resetWord s.regs = true) (ha : s.admits p .any) :
    s.wroteField p F.SAFE_CMD.ILP_DROP 1 = (s.dropIlp).okOn p := by
  refine command _ _ _ 1 hw ha table_curator rfl (by decide) (by decide) rfl (by decide) (by decide) (by decide) (by decide) ?_ ?_
  · rw [own_safeCmd rfl]
    unfold refuseSafe
    rw [if_pos (by decide), ofWord_other (c := .wo) _ _ _ F.SAFE_CMD.SBK_CLR (by decide), ofWord_other (c := .wo) _ _ _ F.SAFE_CMD.SOP_CLR (by decide)]
    simp [bits]
  · rw [stored_plain (by decide) (by decide), act_safeCmd rfl]
    rw [ofWord_other (c := .wo) _ _ _ F.SAFE_CMD.SOP_CLR (by decide)]
    simp only [List.range, List.range.loop, each, List.foldl_cons, List.foldl_nil, show ∀ o, bits 0 o o = 0 from fun o => by simp [bits],
      if_neg (show ¬(0 : Nat) = 1 by decide)]
    repeat (first | rw [ifBit_one _ _ _ _ rfl (by decide)] | rw [ifBit_other _ _ _ _ _ _ (by decide) (by decide) (by decide) (by decide)])

theorem safeCntClr_does (hw : AMap.wf resetWord s.regs = true) (ha : s.admits p .any) :
    s.wroteField p F.SAFE_CMD.CNT_CLR 1 = (s.safeCntClear).okOn p := by
  refine command _ _ _ 1 hw ha table_curator rfl (by decide) (by decide) rfl (by decide) (by decide) (by decide) (by decide) ?_ ?_
  · rw [own_safeCmd rfl]
    unfold refuseSafe
    rw [if_pos (by decide), ofWord_other (c := .wo) _ _ _ F.SAFE_CMD.SBK_CLR (by decide), ofWord_other (c := .wo) _ _ _ F.SAFE_CMD.SOP_CLR (by decide)]
    simp [bits]
  · rw [stored_plain (by decide) (by decide), act_safeCmd rfl]
    rw [ofWord_other (c := .wo) _ _ _ F.SAFE_CMD.SOP_CLR (by decide)]
    simp only [List.range, List.range.loop, each, List.foldl_cons, List.foldl_nil, show ∀ o, bits 0 o o = 0 from fun o => by simp [bits],
      if_neg (show ¬(0 : Nat) = 1 by decide)]
    repeat (first | rw [ifBit_one _ _ _ _ rfl (by decide)] | rw [ifBit_other _ _ _ _ _ _ (by decide) (by decide) (by decide) (by decide)])

theorem sopClr_does (hw : AMap.wf resetWord s.regs = true) (ha : s.admits p .any) (mask : BitVec 4) (hh : ∀ o, o < 4 → bits mask.toNat o o = 1 → s.releaseHolds o = false) :
    s.wroteField p F.SAFE_CMD.SOP_CLR mask.toNat = (s.each ((List.range 4).filter fun o => bits mask.toNat o o = 1) fun s o => s.sopClear o).okOn p := by
  refine command _ _ _ 1 hw ha table_curator rfl (by decide) (by decide) rfl (by decide) (by decide) (by decide) (.inl (by decide)) ?_ ?_
  · rw [own_safeCmd rfl]
    unfold refuseSafe
    rw [if_pos (by decide), ofWord_other (c := .wo) _ _ _ F.SAFE_CMD.SBK_CLR (by decide), ofWord_same _ _ _ (by decide), if_neg (by simp), if_neg]
    simp only [List.any_eq_true, not_exists, not_and, List.mem_range, Bool.and_eq_true, decide_eq_true_eq]
    intro o ho hb
    rw [hh o ho (by rw [← hb]; exact congrArg (fun x => bits x o o) (Nat.mod_eq_of_lt mask.isLt).symm)]
    decide
  · rw [stored_plain (by decide) (by decide), act_safeCmd rfl]
    rw [ofWord_same F.SAFE_CMD.SOP_CLR _ _ (by decide), show mask.toNat % 2 ^ (F.SAFE_CMD.SOP_CLR.hi + 1 - F.SAFE_CMD.SOP_CLR.lo) = mask.toNat
      from Nat.mod_eq_of_lt mask.isLt]
    repeat (first | rw [ifBit_one _ _ _ _ rfl (by decide)] | rw [ifBit_other _ _ _ _ _ _ (by decide) (by decide) (by decide) (by decide)])
    unfold each
    rw [List.foldl_filter]
    simp only [decide_eq_true_eq]

theorem chkInit_does (n : Nat) (hn : n < 4) (hw : AMap.wf resetWord s.regs = true) (ha : s.admits p .any) (hb : s.chkBusy n = false) :
    s.wroteField p F.CHK_CTRL.INIT 1 n = (s.chkInit n).okOn p := by
  have ea : F.CHK_CTRL.INIT.addr n = 0x580100 + 64 * n := by simp [Field.addr, F.CHK_CTRL.INIT]
  refine command _ _ _ 6 hw ha table_check rfl (by decide) hn (by rw [ea]; unfold regTableAt; repeat (first | rw [if_neg (by omega)] | rw [if_pos (by omega)])) (by omega) (noLo (by omega)) (by decide) (by decide) ?_ ?_
  · rw [own_chkCtrl rfl]
    unfold refuseChk
    rw [if_neg (by decide), if_pos (by simp [hb])]
  · rw [stored_plain (by decide) (inSafetySet_outside (by omega)), act_chkCtrl rfl]
    repeat (first | rw [ifBit_one _ _ _ _ rfl (by decide)] | rw [ifBit_other _ _ _ _ _ _ (by decide) (by decide) (by decide) (by decide)])

theorem chkStart_does (n : Nat) (hn : n < 4) (hw : AMap.wf resetWord s.regs = true) (ha : s.admits p .any) (hb : s.chkBusy n = false) :
    s.wroteField p F.CHK_CTRL.START 1 n = ((s.chkStart n).getD (s.chkRefuse n)).okOn p := by
  have ea : F.CHK_CTRL.START.addr n = 0x580100 + 64 * n := by simp [Field.addr, F.CHK_CTRL.START]
  refine command _ _ _ 6 hw ha table_check rfl (by decide) hn (by rw [ea]; unfold regTableAt; repeat (first | rw [if_neg (by omega)] | rw [if_pos (by omega)])) (by omega) (noLo (by omega)) (by decide) (by decide) ?_ ?_
  · rw [own_chkCtrl rfl]
    unfold refuseChk
    rw [if_neg (by decide), if_pos (by simp [hb])]
  · rw [stored_plain (by decide) (inSafetySet_outside (by omega)), act_chkCtrl rfl]
    repeat (first | rw [ifBit_one _ _ _ _ rfl (by decide)] | rw [ifBit_other _ _ _ _ _ _ (by decide) (by decide) (by decide) (by decide)])

theorem chkFinish_does (n : Nat) (hn : n < 4) (hw : AMap.wf resetWord s.regs = true) (ha : s.admits p .any) (hb : s.chkBusy n = false) :
    s.wroteField p F.CHK_CTRL.FINISH 1 n = ((s.chkFinish n).getD (s.chkRefuse n)).okOn p := by
  have ea : F.CHK_CTRL.FINISH.addr n = 0x580100 + 64 * n := by simp [Field.addr, F.CHK_CTRL.FINISH]
  refine command _ _ _ 6 hw ha table_check rfl (by decide) hn (by rw [ea]; unfold regTableAt; repeat (first | rw [if_neg (by omega)] | rw [if_pos (by omega)])) (by omega) (noLo (by omega)) (by decide) (by decide) ?_ ?_
  · rw [own_chkCtrl rfl]
    unfold refuseChk
    rw [if_neg (by decide), if_pos (by simp [hb])]
  · rw [stored_plain (by decide) (inSafetySet_outside (by omega)), act_chkCtrl rfl]
    repeat (first | rw [ifBit_one _ _ _ _ rfl (by decide)] | rw [ifBit_other _ _ _ _ _ _ (by decide) (by decide) (by decide) (by decide)])

theorem chkAbort_does (n : Nat) (hn : n < 4) (hw : AMap.wf resetWord s.regs = true) (ha : s.admits p .any) :
    s.wroteField p F.CHK_CTRL.ABORT 1 n = (s.chkAbort n).okOn p := by
  have ea : F.CHK_CTRL.ABORT.addr n = 0x580100 + 64 * n := by simp [Field.addr, F.CHK_CTRL.ABORT]
  refine command _ _ _ 6 hw ha table_check rfl (by decide) hn (by rw [ea]; unfold regTableAt; repeat (first | rw [if_neg (by omega)] | rw [if_pos (by omega)])) (by omega) (noLo (by omega)) (by decide) (by decide) ?_ ?_
  · rw [own_chkCtrl rfl]
    exact refuseChk_quiet rfl (ofWord_kept (c := .wo) _ _ _ _ (by decide)) (ofWord_kept (c := .wo) _ _ _ _ (by decide))
      (ofWord_kept (c := .wo) _ _ _ _ (by decide)) (ofWord_other (c := .wo) _ _ _ _ (by decide))
      (ofWord_other (c := .wo) _ _ _ _ (by decide)) (ofWord_other (c := .wo) _ _ _ _ (by decide))
  · rw [stored_plain (by decide) (inSafetySet_outside (by omega)), act_chkCtrl rfl]
    repeat (first | rw [ifBit_one _ _ _ _ rfl (by decide)] | rw [ifBit_other _ _ _ _ _ _ (by decide) (by decide) (by decide) (by decide)])

theorem chkDataWrite_does (n : Nat) (hn : n < 4) (hw : AMap.wf resetWord s.regs = true) (ha : s.admits p .any) (value : Word) (hb : s.chkBusy n = false) :
    s.wroteField p F.CHK_DATA.VALUE value.toNat n = ((s.chkData n value).getD s).okOn p := by
  have ea : F.CHK_DATA.VALUE.addr n = 0x580104 + 64 * n := by simp [Field.addr, F.CHK_DATA.VALUE]
  refine command _ _ _ 7 hw ha table_check rfl (by decide) hn (by rw [ea]; unfold regTableAt; repeat (first | rw [if_neg (by omega)] | rw [if_pos (by omega)])) (by omega) (noLo (by omega)) (by decide) (.inl (by decide)) ?_ ?_
  · rw [own_chkData rfl]
    unfold refuseChk
    rw [if_neg (by decide), if_pos (by simp [hb])]
  · rw [stored_plain (by decide) (inSafetySet_outside (by omega)), act_chkData rfl]
    rw [show F.CHK_DATA.VALUE.inWord (restated _ (s.reg (F.CHK_DATA.VALUE.addr n))) value.toNat = value from inWord_whole _ _]
    repeat (first | rw [ifBit_one _ _ _ _ rfl (by decide)] | rw [ifBit_other _ _ _ _ _ _ (by decide) (by decide) (by decide) (by decide)])

theorem chkCntClr_does (n : Nat) (hn : n < 4) (hw : AMap.wf resetWord s.regs = true) (ha : s.admits p .any) :
    s.wroteField p F.CHK_CMD.CNT_CLR 1 n = (s.chkCntClear n).okOn p := by
  have ea : F.CHK_CMD.CNT_CLR.addr n = 0x580120 + 64 * n := by simp [Field.addr, F.CHK_CMD.CNT_CLR]
  refine command _ _ _ 14 hw ha table_check rfl (by decide) hn (by rw [ea]; unfold regTableAt; repeat (first | rw [if_neg (by omega)] | rw [if_pos (by omega)])) (by omega) (noLo (by omega)) (by decide) (by decide) ?_ ?_
  · rw [own_none (by decide) (by decide)]
  · rw [stored_plain (by decide) (inSafetySet_outside (by omega)), act_chkCmd rfl]
    repeat (first | rw [ifBit_one _ _ _ _ rfl (by decide)] | rw [ifBit_other _ _ _ _ _ _ (by decide) (by decide) (by decide) (by decide)])

theorem integCntClr_does (hw : AMap.wf resetWord s.regs = true) (ha : s.admits p .any) :
    s.wroteField p F.INTEG_CMD.CNT_CLR 1 = (s.integCntClear).okOn p := by
  refine command _ _ _ 5 hw ha table_check rfl (by decide) (by decide) rfl (by decide) (by decide) (by decide) (by decide) ?_ ?_
  · rw [own_none (by decide) (by decide)]
  · rw [stored_plain (by decide) (by decide), act_integCmd rfl]
    repeat (first | rw [ifBit_one _ _ _ _ rfl (by decide)] | rw [ifBit_other _ _ _ _ _ _ (by decide) (by decide) (by decide) (by decide)])

theorem schedCntClr_does (hw : AMap.wf resetWord s.regs = true) (ha : s.admits p .any) :
    s.wroteField p F.SCHED_CMD.CNT_CLR 1 = (s.schedCntClear).okOn p := by
  refine command _ _ _ 13 hw ha table_sched rfl (by decide) (by decide) rfl (by decide) (by decide) (by decide) (by decide) ?_ ?_
  · rw [own_none (by decide) (by decide)]
  · rw [stored_plain (by decide) (by decide), act_schedCmd rfl]
    repeat (first | rw [ifBit_one _ _ _ _ rfl (by decide)] | rw [ifBit_other _ _ _ _ _ _ (by decide) (by decide) (by decide) (by decide)])

theorem peakClr_does (hw : AMap.wf resetWord s.regs = true) (ha : s.admits p .any) :
    s.wroteField p F.SCHED_CMD.PEAK_CLR 1 = (s.set F.SCHED_STATUS.POOL_PEAK (s.get F.SCHED_STATUS.POOL_USED)).okOn p := by
  refine command _ _ _ 13 hw ha table_sched rfl (by decide) (by decide) rfl (by decide) (by decide) (by decide) (by decide) ?_ ?_
  · rw [own_none (by decide) (by decide)]
  · rw [stored_plain (by decide) (by decide), act_schedCmd rfl]
    repeat (first | rw [ifBit_one _ _ _ _ rfl (by decide)] | rw [ifBit_other _ _ _ _ _ _ (by decide) (by decide) (by decide) (by decide)])

theorem clkCntClr_does (hw : AMap.wf resetWord s.regs = true) (ha : s.admits p .any) :
    s.wroteField p F.CLK_CMD.CNT_CLR 1 = (s.clkCntClear).okOn p := by
  refine command _ _ _ 4 hw ha table_sched rfl (by decide) (by decide) rfl (by decide) (by decide) (by decide) (by decide) ?_ ?_
  · rw [own_none (by decide) (by decide)]
  · rw [stored_plain (by decide) (by decide), act_clkCmd rfl]
    repeat (first | rw [ifBit_one _ _ _ _ rfl (by decide)] | rw [ifBit_other _ _ _ _ _ _ (by decide) (by decide) (by decide) (by decide)])

/-- A command bit of LANE_CTRL asks for no power state, no preset and leaves what is stored. -/
theorem laneCtrl_command {d : RegDesc} (l v : Nat) (f : Field) (hd : regTable_lane[0]? = some d) (hf : rowHas d f .wo = true)
    (hn : ∀ g ∈ [F.LANE_CTRL.TX_PWR_REQ, F.LANE_CTRL.RX_PWR_REQ, F.LANE_CTRL.ENABLE, F.LANE_CTRL.TAP_MODE, F.LANE_CTRL.PRESET],
      ∀ w, g.ofWord (f.inWord (restated d w) v) = g.ofWord w) :
    let w := f.inWord (restated d (s.reg (0x20000 + 256 * l))) v
    storedWord d (s.reg (0x20000 + 256 * l)) w = s.reg (0x20000 + 256 * l) ∧ s.lanePower l w = false
      ∧ s.presetWrite l (s.reg (0x20000 + 256 * l)) w = s := by
  obtain ⟨y, hy, y1, y2, y3⟩ := has_elim hf
  have ht : d.tidy = true := by cases hd; decide
  have hg : ∀ g ∈ [F.LANE_CTRL.TX_PWR_REQ, F.LANE_CTRL.RX_PWR_REQ], s.get g l = g.ofWord (s.reg (0x20000 + 256 * l)) := by
    intro g hg
    simp only [List.mem_cons, List.not_mem_nil, or_false] at hg
    rcases hg with rfl | rfl <;> rfl
  refine ⟨storedWord_oneField ht _ v f hy y1 y2 y3, ?_, ?_⟩
  · unfold lanePower
    rw [hn F.LANE_CTRL.TX_PWR_REQ (by simp), hn F.LANE_CTRL.RX_PWR_REQ (by simp), hg F.LANE_CTRL.TX_PWR_REQ (by simp),
      hg F.LANE_CTRL.RX_PWR_REQ (by simp)]
    simp
  · unfold presetWrite
    rw [hn F.LANE_CTRL.TAP_MODE (by simp), hn F.LANE_CTRL.PRESET (by simp), if_neg]
    simp
    omega

theorem retrain_does (l : Nat) (hl : l < 72) (hw : AMap.wf resetWord s.regs = true) (ha : s.admits p .any) (hb : s.laneBusy l = false) :
    s.wroteField p F.LANE_CTRL.RETRAIN 1 l = (s.retrain l).okOn p := by
  have ea : F.LANE_CTRL.RETRAIN.addr l = 0x20000 + 256 * l := by simp [Field.addr, F.LANE_CTRL.RETRAIN]
  have hk := laneCtrl_command (s := s) (d := _) l 1 F.LANE_CTRL.RETRAIN rfl (by decide) (by
    intro g hg w
    simp only [List.mem_cons, List.not_mem_nil, or_false] at hg
    rcases hg with rfl | rfl | rfl | rfl | rfl <;> exact ofWord_kept (c := .wo) _ _ _ _ (by decide))
  refine command _ _ _ 0 hw ha table_lane rfl (by decide) hl (by rw [ea]; unfold regTableAt; repeat (first | rw [if_neg (by omega)] | rw [if_pos (by omega)])) (by omega) (noLo (by omega)) (by decide) (by decide) ?_ ?_
  · rw [ea, own_laneCtrl rfl hk.1, hk.2.1, hb, Bool.and_false]
    rfl
  · rw [stored_plain (by decide) (inSafetySet_outside (by omega)), act_laneCtrl rfl, ea]
    rw [ofWord_kept (c := .wo) _ _ _ F.LANE_CTRL.ENABLE (by decide), if_pos rfl, hk.2.2]
    repeat (first | rw [ifBit_one _ _ _ _ rfl (by decide)] | rw [ifBit_other _ _ _ _ _ _ (by decide) (by decide) (by decide) (by decide)])

theorem bitSlip_does (l : Nat) (hl : l < 72) (hw : AMap.wf resetWord s.regs = true) (ha : s.admits p .any) :
    s.wroteField p F.LANE_CTRL.BIT_SLIP 1 l = (s.bitSlip l).okOn p := by
  have ea : F.LANE_CTRL.BIT_SLIP.addr l = 0x20000 + 256 * l := by simp [Field.addr, F.LANE_CTRL.BIT_SLIP]
  have hk := laneCtrl_command (s := s) (d := _) l 1 F.LANE_CTRL.BIT_SLIP rfl (by decide) (by
    intro g hg w
    simp only [List.mem_cons, List.not_mem_nil, or_false] at hg
    rcases hg with rfl | rfl | rfl | rfl | rfl <;> exact ofWord_kept (c := .wo) _ _ _ _ (by decide))
  refine command _ _ _ 0 hw ha table_lane rfl (by decide) hl (by rw [ea]; unfold regTableAt; repeat (first | rw [if_neg (by omega)] | rw [if_pos (by omega)])) (by omega) (noLo (by omega)) (by decide) (by decide) ?_ ?_
  · rw [ea, own_laneCtrl rfl hk.1, hk.2.1, if_neg]
    unfold laneStops
    dsimp only
    rw [ofWord_kept (c := .wo) _ _ _ F.LANE_CTRL.TX_PWR_REQ (by decide), ofWord_kept (c := .wo) _ _ _ F.LANE_CTRL.RX_PWR_REQ (by decide), ofWord_kept (c := .wo) _ _ _ F.LANE_CTRL.ENABLE (by decide), ofWord_other (c := .wo) _ _ _ F.LANE_CTRL.RETRAIN (by decide)]
    simp [get, Field.addr, F.LANE_CTRL.TX_PWR_REQ, F.LANE_CTRL.RX_PWR_REQ, F.LANE_CTRL.ENABLE]
  · rw [stored_plain (by decide) (inSafetySet_outside (by omega)), act_laneCtrl rfl, ea]
    rw [ofWord_kept (c := .wo) _ _ _ F.LANE_CTRL.ENABLE (by decide), if_pos rfl, hk.2.2]
    repeat (first | rw [ifBit_one _ _ _ _ rfl (by decide)] | rw [ifBit_other _ _ _ _ _ _ (by decide) (by decide) (by decide) (by decide)])

theorem commit_does (hw : AMap.wf resetWord s.regs = true) (ha : s.admits p .live) (hr : (s.commit false (s.tickNo + 2)).1 = 0) :
    s.wroteField p F.TICK_COMMIT.COMMIT 1 = ((s.commit false (s.tickNo + 2)).2).okOn p := by
  refine command _ _ _ 8 hw ha table_tick rfl (by decide) (by decide) rfl (by decide) (by decide) (by decide) (by decide) ?_ ?_
  · rw [own_commit rfl]
    unfold refuseTick
    rw [if_neg (by decide)]
    dsimp only
    rw [ofWord_other (c := .wo) _ _ _ F.TICK_COMMIT.DISCARD (by decide)]
    simp [hr]
  · rw [stored_plain (by decide) (by decide), act_commit rfl]
    repeat (first | rw [ifBit_one _ _ _ _ rfl (by decide)] | rw [ifBit_other _ _ _ _ _ _ (by decide) (by decide) (by decide) (by decide)])

theorem discard_does (hw : AMap.wf resetWord s.regs = true) (ha : s.admits p .live) (hp : s.flag F.TICK_STAGE.PENDING = false) :
    s.wroteField p F.TICK_COMMIT.DISCARD 1 = (s.discard.getD s).okOn p := by
  refine command _ _ _ 8 hw ha table_tick rfl (by decide) (by decide) rfl (by decide) (by decide) (by decide) (by decide) ?_ ?_
  · rw [own_commit rfl]
    unfold refuseTick
    rw [if_neg (by decide)]
    dsimp only
    rw [ofWord_other (c := .wo) _ _ _ F.TICK_COMMIT.COMMIT (by decide)]
    simp [hp]
  · rw [stored_plain (by decide) (by decide), act_commit rfl]
    repeat (first | rw [ifBit_one _ _ _ _ rfl (by decide)] | rw [ifBit_other _ _ _ _ _ _ (by decide) (by decide) (by decide) (by decide)])

end Sys2Proof.Machine.State
end

