-- ==== Sys2Proof/Laws/Keeps.lean ====
section
/-!
SUPPORT. The relation Keeps: it is a preorder, every named update of the state is in it, and it goes through
conditionals, pairs and folds. The lemma `f_keeps` of an operation f says what f can do to the queue, the
fuses and the tables.
-/

namespace Sys2Proof.Machine

-- One lemma after another: a thread each would be many.
set_option Elab.async false

theorem Fuses.grown_refl (a : Fuses) : a.grown a := ⟨List.prefix_refl _, List.prefix_refl _, id⟩

theorem Fuses.grown_trans {a b c : Fuses} (h : a.grown b) (k : b.grown c) : a.grown c :=
  ⟨h.1.trans k.1, h.2.1.trans k.2.1, fun x => k.2.2 (h.2.2 x)⟩

theorem Keeps.refl (s : State) : Keeps s s := ⟨rfl, Fuses.grown_refl _, id⟩

theorem Keeps.trans {s t u : State} (h : Keeps s t) (k : Keeps t u) : Keeps s u :=
  ⟨k.1.trans h.1, Fuses.grown_trans h.2.1 k.2.1, fun x => k.2.2 (h.2.2 x)⟩

/-- An update of parts that hold no table, no fuse and no waiting command. -/
theorem Keeps.parts {s0 s : State} {tick : TickState} {bond vit cur twin stn img clk boot kept dbg sched pwr wire taken freeCount}
    (h : Keeps s0 s) (hu : tick.undo = s.tick.undo) (hb : boot.burning = s.boot.burning) :
    Keeps s0 (State.mk s.regs tick s.lanes bond s.links s.cells s.inputs s.obs s.orders s.arms s.plan s.ctxs s.chans
      s.streams vit cur twin stn img clk boot s.fuse kept dbg s.paths s.chks sched pwr wire taken freeCount s.pending) := by
  refine ⟨h.1, h.2.1, fun x => ?_⟩
  have := h.2.2 x
  unfold State.sound State.canonical State.fuseRoom at *
  simp only [hu, hb]
  exact this

/-- An update of one table by a canonical one. -/
theorem Keeps.of_canonical {s0 s t : State} (h : Keeps s0 s) (hp : t.pending = s.pending) (hf : t.fuse = s.fuse)
    (hb : t.boot.burning = s.boot.burning) (hc : s.canonical → t.canonical) : Keeps s0 t := by
  refine ⟨hp.trans h.1, hf ▸ h.2.1, fun x => ⟨hc (h.2.2 x).1, ?_⟩⟩
  have := (h.2.2 x).2
  unfold State.fuseRoom at *
  rw [hf, hb]
  exact this

/-- The same where what an abandoned stage would give back goes. -/
theorem Keeps.dropUndo {s0 s : State} {tick : TickState} {bond vit cur twin stn img clk boot kept dbg sched pwr wire taken freeCount}
    (h : Keeps s0 s) (hu : tick.undo = none) (hb : boot.burning = s.boot.burning) :
    Keeps s0 (State.mk s.regs tick s.lanes bond s.links s.cells s.inputs s.obs s.orders s.arms s.plan s.ctxs s.chans
      s.streams vit cur twin stn img clk boot s.fuse kept dbg s.paths s.chks sched pwr wire taken freeCount s.pending) :=
  h.of_canonical rfl rfl hb fun ⟨h0, h1, h2, h3, h4, h5, h6, h7, h8, h9, h10, h11, h12, h13, _⟩ =>
    ⟨h0, h1, h2, h3, h4, h5, h6, h7, h8, h9, h10, h11, h12, h13,
      fun u hu' => (Option.some_ne_none u (hu'.symm.trans hu)).elim⟩

/-- The same where the tick's inputs are dropped and what an abandoned stage would give back may go. -/
theorem Keeps.cleared {s0 s : State} {tick : TickState} {bond vit cur twin stn img clk boot kept dbg sched pwr wire taken freeCount}
    (h : Keeps s0 s) (hu : tick.undo = none ∨ tick.undo = s.tick.undo) (hb : boot.burning = s.boot.burning) :
    Keeps s0 (State.mk s.regs tick s.lanes bond s.links s.cells [] s.obs s.orders s.arms s.plan s.ctxs s.chans
      s.streams vit cur twin stn img clk boot s.fuse kept dbg s.paths s.chks sched pwr wire taken freeCount s.pending) := by
  refine h.of_canonical rfl rfl hb fun ⟨h0, h1, h2, h3, _, h5, h6, h7, h8, h9, h10, h11, h12, h13, h14⟩ =>
    ⟨h0, h1, h2, h3, rfl, h5, h6, h7, h8, h9, h10, h11, h12, h13, fun u hu' => ?_⟩
  rcases hu with hu | hu
  · exact absurd (hu'.symm.trans hu) (Option.some_ne_none u)
  · exact h14 u (hu.symm.trans hu')

theorem Keeps.ite {s0 : State} {c : Prop} [Decidable c] {a b : State} (ha : Keeps s0 a) (hb : Keeps s0 b) :
    Keeps s0 (if c then a else b) := by split <;> assumption

theorem Keeps.ite2 {α : Type} {s0 : State} {c : Prop} [Decidable c] {a b : α × State} (ha : Keeps s0 a.2) (hb : Keeps s0 b.2) :
    Keeps s0 (if c then a else b).2 := by split <;> assumption

theorem Keeps.ite3 {α β : Type} {s0 : State} {c : Prop} [Decidable c] {a b : α × β × State} (ha : Keeps s0 a.2.2)
    (hb : Keeps s0 b.2.2) : Keeps s0 (if c then a else b).2.2 := by split <;> assumption

theorem Keeps.ite4 {α β γ : Type} {s0 : State} {c : Prop} [Decidable c] {a b : α × β × γ × State} (ha : Keeps s0 a.2.2.2)
    (hb : Keeps s0 b.2.2.2) : Keeps s0 (if c then a else b).2.2.2 := by split <;> assumption

theorem Keeps.mk2 {α : Type} {s0 s : State} {a : α} (h : Keeps s0 s) : Keeps s0 (a, s).2 := h
theorem Keeps.mk3 {α β : Type} {s0 : State} {a : α} {p : β × State} (h : Keeps s0 p.2) : Keeps s0 (a, p).2.2 := h
theorem Keeps.mk4 {α β γ : Type} {s0 : State} {a : α} {p : β × γ × State} (h : Keeps s0 p.2.2) : Keeps s0 (a, p).2.2.2 := h

/-- Keeps for an operation that may answer no state. -/
def KeepsO (s0 : State) (o : Option State) : Prop := ∀ t, o = some t → Keeps s0 t

/-- Keeps for an operation that may answer no value with a state. -/
def KeepsP {α : Type} (s0 : State) (o : Option (α × State)) : Prop := ∀ t, o = some t → Keeps s0 t.2

/-- Keeps for an operation that may answer a refusal in place of a state. -/
def KeepsS {β : Type} (s0 : State) (o : State ⊕ β) : Prop := ∀ t, o = .inl t → Keeps s0 t

/-- Keeps for a command's meaning: it completes, with a state that keeps what the operations keep. -/
def KeepsN (s0 : State) (o : Host.Outcome State Fault Refusal) : Prop := ∃ t, o = .next t ∧ Keeps s0 t

theorem KeepsN.next {s0 s : State} (h : Keeps s0 s) : KeepsN s0 (.next s) := ⟨s, rfl, h⟩

theorem KeepsN.ite {s0 : State} {c : Prop} [Decidable c] {a b : Host.Outcome State Fault Refusal} (ha : KeepsN s0 a)
    (hb : KeepsN s0 b) : KeepsN s0 (if c then a else b) := by split <;> assumption

theorem KeepsO.get {s0 t : State} {o : Option State} (h : KeepsO s0 o) (e : o = some t) : Keeps s0 t := h t e
theorem KeepsP.get {α : Type} {s0 t : State} {o : Option (α × State)} {a : α} (h : KeepsP s0 o) (e : o = some (a, t)) : Keeps s0 t :=
  h _ e
theorem KeepsS.get {β : Type} {s0 t : State} {o : State ⊕ β} (h : KeepsS s0 o) (e : o = .inl t) : Keeps s0 t := h t e
theorem KeepsO.none {s0 : State} : KeepsO s0 none := fun t e => (Option.some_ne_none t e.symm).elim
theorem KeepsO.some {s0 s : State} (h : Keeps s0 s) : KeepsO s0 (some s) := fun _ e => Option.some.inj e ▸ h
theorem KeepsP.none {α : Type} {s0 : State} : KeepsP (α := α) s0 none := fun t e => (Option.some_ne_none t e.symm).elim
theorem KeepsP.some {α : Type} {s0 : State} {p : α × State} (h : Keeps s0 p.2) : KeepsP s0 (some p) :=
  fun _ e => Option.some.inj e ▸ h
theorem KeepsS.inr {β : Type} {s0 : State} {b : β} : KeepsS s0 (.inr b) := fun _ e => (Sum.inr_ne_inl e).elim
theorem KeepsS.inl {β : Type} {s0 s : State} (h : Keeps s0 s) : KeepsS (β := β) s0 (.inl s) := fun _ e => Sum.inl.inj e ▸ h

theorem KeepsO.ite {s0 : State} {c : Prop} [Decidable c] {a b : Option State} (ha : KeepsO s0 a) (hb : KeepsO s0 b) :
    KeepsO s0 (if c then a else b) := by split <;> assumption

theorem KeepsP.ite {α : Type} {s0 : State} {c : Prop} [Decidable c] {a b : Option (α × State)} (ha : KeepsP s0 a)
    (hb : KeepsP s0 b) : KeepsP s0 (if c then a else b) := by split <;> assumption

theorem KeepsS.ite {β : Type} {s0 : State} {c : Prop} [Decidable c] {a b : State ⊕ β} (ha : KeepsS s0 a) (hb : KeepsS s0 b) :
    KeepsS s0 (if c then a else b) := by split <;> assumption

theorem Keeps.foldl {α : Type} {s0 s : State} {l : List α} {f : State → α → State} (h : Keeps s0 s)
    (hf : ∀ s x, Keeps s0 s → Keeps s0 (f s x)) : Keeps s0 (l.foldl f s) := by
  induction l generalizing s with
  | nil => exact h
  | cons x l ih => exact ih (hf s x h)

theorem Keeps.foldl1 {α β : Type} {s0 : State} {l : List α} {f : State × β → α → State × β} {p : State × β}
    (h : Keeps s0 p.1) (hf : ∀ p x, Keeps s0 p.1 → Keeps s0 (f p x).1) : Keeps s0 (l.foldl f p).1 := by
  induction l generalizing p with
  | nil => exact h
  | cons x l ih => exact ih (hf p x h)

theorem Keeps.foldl2 {α β : Type} {s0 : State} {l : List α} {f : β × State → α → β × State} {p : β × State}
    (h : Keeps s0 p.2) (hf : ∀ p x, Keeps s0 p.2 → Keeps s0 (f p x).2) : Keeps s0 (l.foldl f p).2 := by
  induction l generalizing p with
  | nil => exact h
  | cons x l ih => exact ih (hf p x h)

theorem Keeps.each {α : Type} {s0 s : State} {l : List α} {f : State → α → State} (h : Keeps s0 s)
    (hf : ∀ s x, Keeps s0 s → Keeps s0 (f s x)) : Keeps s0 (s.each l f) := Keeps.foldl h hf

theorem Keeps.getD {s0 s : State} {o : Option State} (ho : KeepsO s0 o) (h : Keeps s0 s) :
    Keeps s0 (o.getD s) := by
  cases o with
  | none => exact h
  | some t => exact ho t rfl

namespace State

theorem canonical_setReg {s : State} {a : Nat} {w : Word} (h : s.canonical) : (s.setReg a w).canonical :=
  ⟨AMap.put_wf _ _ _ _ h.1, h.2⟩

theorem setReg_keeps {s0 s : State} {a : Nat} {w : Word} (h : Keeps s0 s) : Keeps s0 (s.setReg a w) :=
  h.of_canonical rfl rfl rfl canonical_setReg
theorem set_keeps {s0 s : State} {f : Field} {v i j : Nat} (h : Keeps s0 s) : Keeps s0 (s.set f v i j) := setReg_keeps h
theorem setB_keeps {s0 s : State} {f : Field} {b : Bool} {i j : Nat} (h : Keeps s0 s) : Keeps s0 (s.setB f b i j) := setReg_keeps h
theorem bump_keeps {s0 s : State} {f : Field} {n i j : Nat} (h : Keeps s0 s) : Keeps s0 (s.bump f n i j) := setReg_keeps h
theorem setBit_keeps {s0 s : State} {f : Field} {b : Nat} {v : Bool} {i : Nat} (h : Keeps s0 s) : Keeps s0 (s.setBit f b v i) :=
  setReg_keeps h
theorem setSig_keeps {s0 s : State} {i : Nat} {v : Word} (h : Keeps s0 s) : Keeps s0 (s.setSig i v) := setReg_keeps h

theorem setLane_keeps {s0 s : State} {k : Nat} {x : LaneState} (h : Keeps s0 s) : Keeps s0 (s.setLane k x) :=
  h.of_canonical rfl rfl rfl fun ⟨h0, h1, h2, h3, h4, h5, h6, h7, h8, h9, h10, h11, h12, h13, h14⟩ =>
    ⟨h0, AMap.put_wf _ _ _ _ h1, h2, h3, h4, h5, h6, h7, h8, h9, h10, h11, h12, h13, h14⟩
theorem setLink_keeps {s0 s : State} {k : Nat} {x : LinkState} (h : Keeps s0 s) : Keeps s0 (s.setLink k x) :=
  h.of_canonical rfl rfl rfl fun ⟨h0, h1, h2, h3, h4, h5, h6, h7, h8, h9, h10, h11, h12, h13, h14⟩ =>
    ⟨h0, h1, AMap.put_wf _ _ _ _ h2, h3, h4, h5, h6, h7, h8, h9, h10, h11, h12, h13, h14⟩
theorem setCell_keeps {s0 s : State} {k : Nat} {x : CellLink} (h : Keeps s0 s) : Keeps s0 (s.setCell k x) :=
  h.of_canonical rfl rfl rfl fun ⟨h0, h1, h2, h3, h4, h5, h6, h7, h8, h9, h10, h11, h12, h13, h14⟩ =>
    ⟨h0, h1, h2, AMap.put_wf _ _ _ _ h3, h4, h5, h6, h7, h8, h9, h10, h11, h12, h13, h14⟩
theorem setInput_keeps {s0 s : State} {k : Nat} {x : CellInput} (h : Keeps s0 s) : Keeps s0 (s.setInput k x) :=
  h.of_canonical rfl rfl rfl fun ⟨h0, h1, h2, h3, h4, h5, h6, h7, h8, h9, h10, h11, h12, h13, h14⟩ =>
    ⟨h0, h1, h2, h3, AMap.put_wf _ _ _ _ h4, h5, h6, h7, h8, h9, h10, h11, h12, h13, h14⟩
theorem setInst_keeps {s0 s : State} {k : Nat} {x : ObsInst} (h : Keeps s0 s) : Keeps s0 (s.setInst k x) :=
  h.of_canonical rfl rfl rfl fun ⟨h0, h1, h2, h3, h4, h5, h6, h7, h8, h9, h10, h11, h12, h13, h14⟩ =>
    ⟨h0, h1, h2, h3, h4, AMap.put_wf _ _ _ _ h5, h6, h7, h8, h9, h10, h11, h12, h13, h14⟩
theorem setOrd_keeps {s0 s : State} {k : Nat} {x : CellOrders} (h : Keeps s0 s) : Keeps s0 (s.setOrd k x) :=
  h.of_canonical rfl rfl rfl fun ⟨h0, h1, h2, h3, h4, h5, h6, h7, h8, h9, h10, h11, h12, h13, h14⟩ =>
    ⟨h0, h1, h2, h3, h4, h5, AMap.put_wf _ _ _ _ h6, h7, h8, h9, h10, h11, h12, h13, h14⟩
theorem setArm_keeps {s0 s : State} {k : Nat} {x : ArmState} (h : Keeps s0 s) : Keeps s0 (s.setArm k x) :=
  h.of_canonical rfl rfl rfl fun ⟨h0, h1, h2, h3, h4, h5, h6, h7, h8, h9, h10, h11, h12, h13, h14⟩ =>
    ⟨h0, h1, h2, h3, h4, h5, h6, AMap.put_wf _ _ _ _ h7, h8, h9, h10, h11, h12, h13, h14⟩
theorem setEnt_keeps {s0 s : State} {k : Nat} {x : Ent} (h : Keeps s0 s) : Keeps s0 (s.setEnt k x) :=
  h.of_canonical rfl rfl rfl fun ⟨h0, h1, h2, h3, h4, h5, h6, h7, h8, h9, h10, h11, h12, h13, h14⟩ =>
    ⟨h0, h1, h2, h3, h4, h5, h6, h7, AMap.put_wf _ _ _ _ h8, h9, h10, h11, h12, h13, h14⟩
theorem setCtx_keeps {s0 s : State} {k : Nat} {x : CtxState} (h : Keeps s0 s) : Keeps s0 (s.setCtx k x) :=
  h.of_canonical rfl rfl rfl fun ⟨h0, h1, h2, h3, h4, h5, h6, h7, h8, h9, h10, h11, h12, h13, h14⟩ =>
    ⟨h0, h1, h2, h3, h4, h5, h6, h7, h8, AMap.put_wf _ _ _ _ h9, h10, h11, h12, h13, h14⟩
theorem setChan_keeps {s0 s : State} {k : Nat} {x : Chan} (h : Keeps s0 s) : Keeps s0 (s.setChan k x) :=
  h.of_canonical rfl rfl rfl fun ⟨h0, h1, h2, h3, h4, h5, h6, h7, h8, h9, h10, h11, h12, h13, h14⟩ =>
    ⟨h0, h1, h2, h3, h4, h5, h6, h7, h8, h9, AMap.put_wf _ _ _ _ h10, h11, h12, h13, h14⟩
theorem setStream_keeps {s0 s : State} {k : Nat} {x : StreamIn} (h : Keeps s0 s) : Keeps s0 (s.setStream k x) :=
  h.of_canonical rfl rfl rfl fun ⟨h0, h1, h2, h3, h4, h5, h6, h7, h8, h9, h10, h11, h12, h13, h14⟩ =>
    ⟨h0, h1, h2, h3, h4, h5, h6, h7, h8, h9, h10, AMap.put_wf _ _ _ _ h11, h12, h13, h14⟩
theorem setPath_keeps {s0 s : State} {k : Nat} {x : PathState} (h : Keeps s0 s) : Keeps s0 (s.setPath k x) :=
  h.of_canonical rfl rfl rfl fun ⟨h0, h1, h2, h3, h4, h5, h6, h7, h8, h9, h10, h11, h12, h13, h14⟩ =>
    ⟨h0, h1, h2, h3, h4, h5, h6, h7, h8, h9, h10, h11, AMap.put_wf _ _ _ _ h12, h13, h14⟩
theorem setChk_keeps {s0 s : State} {k : Nat} {x : ChkUnit} (h : Keeps s0 s) : Keeps s0 (s.setChk k x) :=
  h.of_canonical rfl rfl rfl fun ⟨h0, h1, h2, h3, h4, h5, h6, h7, h8, h9, h10, h11, h12, h13, h14⟩ =>
    ⟨h0, h1, h2, h3, h4, h5, h6, h7, h8, h9, h10, h11, h12, AMap.put_wf _ _ _ _ h13, h14⟩
theorem emit_keeps {s0 s : State} {w : Wire} (h : Keeps s0 s) : Keeps s0 (s.emit w) := Keeps.parts h rfl rfl
theorem setCap_keeps {s0 s : State} {k : Nat} {x : Cap} (h : Keeps s0 s) : Keeps s0 (s.setCap k x) := Keeps.parts h rfl rfl
theorem setUnit_keeps {s0 s : State} {k : Nat} {x : TrigUnit} (h : Keeps s0 s) : Keeps s0 (s.setUnit k x) := Keeps.parts h rfl rfl
theorem setDirRec_keeps {s0 s : State} {k : Nat} {x : Option Rec} (h : Keeps s0 s) : Keeps s0 (s.setDirRec k x) := Keeps.parts h rfl rfl
theorem setCore_keeps {s0 s : State} {k : Nat} {x : CoreState} (h : Keeps s0 s) : Keeps s0 (s.setCore k x) := Keeps.parts h rfl rfl
theorem free_keeps {s0 s : State} (h : Keeps s0 s) : Keeps s0 s.free.2 := Keeps.parts h rfl rfl

end State

end Sys2Proof.Machine
end

