-- ==== Sys2Proof/Laws/KeepsOps.lean ====
section
/-!
SUPPORT. What the operations of Machine/Ops.lean do to the queue, the fuses and the tables.
-/

namespace Sys2Proof.Machine

theorem State.clearAll_keeps {s0} {a1} {a2} {a3} (g1 : Keeps s0 a1) : Keeps s0 (State.clearAll a1 a2 a3) := by
  unfold State.clearAll
  refine Keeps.foldl ?_ fun s1 x2 h3 => ?_
  · exact g1
  · refine State.set_keeps ?_
    exact h3

theorem State.set64_keeps {s0} {a1} {a2} {a3} {a4} {a5} (g1 : Keeps s0 a1) : Keeps s0 (State.set64 a1 a2 a3 a4 a5) := by
  unfold State.set64
  refine State.set_keeps ?_
  refine State.set_keeps ?_
  exact g1

theorem State.localCause_keeps {s0} {a1} (g1 : Keeps s0 a1) : Keeps s0 (State.localCause a1) := by
  unfold State.localCause
  refine Keeps.parts ?_ rfl rfl
  exact g1

theorem State.setSigOk_keeps {s0} {a1} {a2} {a3} (g1 : Keeps s0 a1) : Keeps s0 (State.setSigOk a1 a2 a3) := by
  unfold State.setSigOk
  refine State.setBit_keeps ?_
  exact g1

end Sys2Proof.Machine
end

