-- ==== Sys2Proof/Laws/KeepsBudget.lean ====
section
/-!
SUPPORT. What the operations of Machine/Budget.lean do to the queue, the fuses and the tables.
-/

namespace Sys2Proof.Machine

theorem State.storeWindow_keeps {s0} {a1} (g1 : Keeps s0 a1) : Keeps s0 (State.storeWindow a1) := by
  unfold State.storeWindow
  refine State.set_keeps ?_
  exact g1

theorem State.storeMargins_keeps {s0} {a1} {a2} (g1 : Keeps s0 a1) : Keeps s0 (State.storeMargins a1 a2) := by
  unfold State.storeMargins
  extract_lets -underBinder -merge -useContext +onlyGivenNames v1
  have h2 : ∀ x3 x5 x6, Keeps s0 x3 → Keeps s0 (v1 x3 x5 x6) := by
    intro x3 x5 x6 h4
    dsimp -zeta only [v1]
    split
    · refine State.set_keeps ?_
      exact h4
    · exact h4
  clear_value v1
  refine h2 _ _ _ ?_
  refine h2 _ _ _ ?_
  refine h2 _ _ _ ?_
  exact g1

theorem State.storeBudget_keeps {s0} {a1} {a2} (g1 : Keeps s0 a1) : Keeps s0 (State.storeBudget a1 a2) := by
  unfold State.storeBudget
  refine State.set_keeps ?_
  refine State.set_keeps ?_
  refine State.set_keeps ?_
  refine State.set_keeps ?_
  refine State.storeMargins_keeps ?_
  exact g1

theorem State.storeSchedule_keeps {s0} {a1} {a2} (g1 : Keeps s0 a1) : Keeps s0 (State.storeSchedule a1 a2) := by
  unfold State.storeSchedule
  extract_lets -underBinder -merge -useContext +onlyGivenNames v1
  clear_value v1
  extract_lets -underBinder -merge -useContext +onlyGivenNames v2
  clear_value v2
  extract_lets -underBinder -merge -useContext +onlyGivenNames v3
  have h4 : Keeps s0 v3 := by
    refine State.setB_keeps ?_
    refine State.set_keeps ?_
    exact g1
  clear_value v3
  extract_lets -underBinder -merge -useContext +onlyGivenNames v5
  clear_value v5
  extract_lets -underBinder -merge -useContext +onlyGivenNames v6
  have h7 : Keeps s0 v6 := by
    refine State.setLink_keeps ?_
    exact h4
  clear_value v6
  refine Keeps.each ?_ fun s8 x9 h10 => ?_
  · exact h7
  · extract_lets -underBinder -merge -useContext +onlyGivenNames v11
    clear_value v11
    extract_lets -underBinder -merge -useContext +onlyGivenNames v12
    clear_value v12
    extract_lets -underBinder -merge -useContext +onlyGivenNames v13
    clear_value v13
    refine State.setCell_keeps ?_
    exact h10

end Sys2Proof.Machine
end

