-- ==== Sys2Proof/Laws/KeepsVitrine.lean ====
section
/-!
SUPPORT. What the operations of Machine/Vitrine.lean do to the queue, the fuses and the tables.
-/

namespace Sys2Proof.Machine

theorem State.noteEvent_keeps {s0} {a1} {a2} {a3} (g1 : Keeps s0 a1) : Keeps s0 (State.noteEvent a1 a2 a3) := by
  unfold State.noteEvent
  refine Keeps.parts ?_ rfl rfl
  exact g1

theorem State.noteTick_keeps {s0} {a1} {a2} {a3} (g1 : Keeps s0 a1) : Keeps s0 (State.noteTick a1 a2 a3) := by
  unfold State.noteTick
  refine Keeps.parts ?_ rfl rfl
  exact g1

theorem State.noteLevel_keeps {s0} {a1} {a2} {a3} (g1 : Keeps s0 a1) : Keeps s0 (State.noteLevel a1 a2 a3) := by
  unfold State.noteLevel
  refine Keeps.parts ?_ rfl rfl
  exact g1

theorem State.countDir_keeps {s0} {a1} (g1 : Keeps s0 a1) : Keeps s0 (State.countDir a1) := by
  unfold State.countDir
  refine State.set_keeps ?_
  exact g1

theorem State.setDirState_keeps {s0} {a1} {a2} {a3} (g1 : Keeps s0 a1) : Keeps s0 (State.setDirState a1 a2 a3) := by
  unfold State.setDirState
  refine State.countDir_keeps ?_
  refine State.set_keeps ?_
  exact g1

theorem State.putRec_keeps {s0} {a1} {a2} {a3} {a4} (g1 : Keeps s0 a1) : Keeps s0 (State.putRec a1 a2 a3 a4) := by
  unfold State.putRec
  refine State.set_keeps ?_
  refine State.set_keeps ?_
  refine State.set_keeps ?_
  refine State.setDirRec_keeps ?_
  exact g1

theorem State.closeRec_keeps {s0} {a1} {a2} {a3} {a4} {a5} (g1 : Keeps s0 a1) : Keeps s0 (State.closeRec a1 a2 a3 a4 a5) := by
  unfold State.closeRec
  split
  · exact g1
  · extract_lets -underBinder -merge -useContext +onlyGivenNames v1
    clear_value v1
    extract_lets -underBinder -merge -useContext +onlyGivenNames v2
    clear_value v2
    extract_lets -underBinder -merge -useContext +onlyGivenNames v3
    clear_value v3
    extract_lets -underBinder -merge -useContext +onlyGivenNames v4
    have h5 : Keeps s0 v4 := by
      refine State.setDirState_keeps ?_
      refine State.putRec_keeps ?_
      exact g1
    clear_value v4
    refine Keeps.ite ?_ ?_
    · refine State.bump_keeps ?_
      exact h5
    · exact h5

theorem State.freeze_keeps {s0} {a1} (g1 : Keeps s0 a1) : Keeps s0 (State.freeze a1) := by
  unfold State.freeze
  refine Keeps.ite ?_ ?_
  · exact g1
  · extract_lets -underBinder -merge -useContext +onlyGivenNames v1
    have h2 : Keeps s0 v1 := by
      refine State.setB_keeps ?_
      refine State.setB_keeps ?_
      exact g1
    clear_value v1
    extract_lets -underBinder -merge -useContext +onlyGivenNames v3
    have h4 : Keeps s0 v3 := by
      refine State.setB_keeps ?_
      exact h2
    clear_value v3
    extract_lets -underBinder -merge -useContext +onlyGivenNames v5
    have h6 : Keeps s0 v5 := by
      refine Keeps.each ?_ fun s7 x8 h9 => ?_
      · exact h4
      · refine State.closeRec_keeps ?_
        exact h9
    clear_value v5
    refine Keeps.each ?_ fun s10 x11 h12 => ?_
    · exact h6
    · refine Keeps.ite ?_ ?_
      · exact h12
      · refine State.set_keeps ?_
        refine State.setCap_keeps ?_
        exact h12

theorem State.unfreeze_keeps {s0} {a1} (g1 : Keeps s0 a1) : Keeps s0 (State.unfreeze a1) := by
  unfold State.unfreeze
  refine State.setB_keeps ?_
  refine State.setB_keeps ?_
  exact g1

end Sys2Proof.Machine
end

