-- ==== Sys2Proof/Laws/KeepsCurator.lean ====
section
/-!
SUPPORT. What the operations of Machine/Curator.lean do to the queue, the fuses and the tables.
-/

namespace Sys2Proof.Machine

theorem State.safeLog_keeps {s0} {a1} {a2} {a3} {a4} {a5} {a6} {a7} (g1 : Keeps s0 a1) : Keeps s0 (State.safeLog a1 a2 a3 a4 a5 a6 a7) := by
  unfold State.safeLog
  extract_lets -underBinder -merge -useContext +onlyGivenNames v1
  clear_value v1
  extract_lets -underBinder -merge -useContext +onlyGivenNames v2
  clear_value v2
  extract_lets -underBinder -merge -useContext +onlyGivenNames v3
  have h4 : Keeps s0 v3 := by
    refine Keeps.ite ?_ ?_
    · refine State.bump_keeps ?_
      exact g1
    · refine Keeps.parts ?_ rfl rfl
      exact g1
  clear_value v3
  extract_lets -underBinder -merge -useContext +onlyGivenNames v5
  have h6 : Keeps s0 v5 := by
    refine State.set_keeps ?_
    exact h4
  clear_value v5
  extract_lets -underBinder -merge -useContext +onlyGivenNames v7
  have h8 : Keeps s0 v7 := by
    refine State.set_keeps ?_
    refine State.set_keeps ?_
    refine State.set_keeps ?_
    exact h6
  clear_value v7
  extract_lets -underBinder -merge -useContext +onlyGivenNames v9
  have h10 : Keeps s0 v9 := by
    refine State.set_keeps ?_
    refine State.set_keeps ?_
    refine State.set_keeps ?_
    exact h8
  clear_value v9
  refine State.set_keeps ?_
  exact h10

theorem State.huskOn_keeps {s0} {a1} {a2} {a3} (g1 : Keeps s0 a1) : Keeps s0 (State.huskOn a1 a2 a3) := by
  unfold State.huskOn
  refine Keeps.ite ?_ ?_
  · exact g1
  · refine Keeps.each ?_ fun s1 x2 h3 => ?_
    · exact g1
    · refine Keeps.ite ?_ ?_
      · extract_lets -underBinder -merge -useContext +onlyGivenNames v4
        have h5 : Keeps s0 v4 := by
          refine State.emit_keeps ?_
          refine State.set_keeps ?_
          exact h3
        clear_value v4
        refine Keeps.ite ?_ ?_
        · exact h5
        · refine State.setLane_keeps ?_
          exact h5
      · exact h3

theorem State.force_keeps {s0} {a1} (g1 : Keeps s0 a1) : Keeps s0 (State.force a1) := by
  unfold State.force
  refine Keeps.ite ?_ ?_
  · exact g1
  · refine State.huskOn_keeps ?_
    refine State.bump_keeps ?_
    refine State.setB_keeps ?_
    exact g1

theorem State.release_keeps {s0} {a1} {a2} (g1 : Keeps s0 a1) : Keeps s0 (State.release a1 a2) := by
  unfold State.release
  refine Keeps.each ?_ fun s1 x2 h3 => ?_
  · exact g1
  · refine State.setBit_keeps ?_
    exact h3

theorem State.refreshOk_keeps {s0} {a1} (g1 : Keeps s0 a1) : Keeps s0 (State.refreshOk a1) := by
  unfold State.refreshOk
  refine State.setB_keeps ?_
  exact g1

theorem State.dropIlp_keeps {s0} {a1} (g1 : Keeps s0 a1) : Keeps s0 (State.dropIlp a1) := by
  unfold State.dropIlp
  refine State.setB_keeps ?_
  refine Keeps.parts ?_ rfl rfl
  exact g1

theorem State.checkIlp_keeps {s0} {a1} (g1 : Keeps s0 a1) : Keeps s0 (State.checkIlp a1) := by
  unfold State.checkIlp
  refine Keeps.ite ?_ ?_
  · refine State.dropIlp_keeps ?_
    exact g1
  · exact g1

theorem State.recordSbk_keeps {s0} {a1} {a2} (g1 : Keeps s0 a1) : Keeps s0 (State.recordSbk a1 a2) := by
  unfold State.recordSbk
  extract_lets -underBinder -merge -useContext +onlyGivenNames v1
  have h2 : Keeps s0 v1 := by
    refine State.setBit_keeps ?_
    exact g1
  clear_value v1
  extract_lets -underBinder -merge -useContext +onlyGivenNames v3
  have h4 : Keeps s0 v3 := by
    refine State.force_keeps ?_
    refine State.bump_keeps ?_
    refine State.setB_keeps ?_
    exact h2
  clear_value v3
  extract_lets -underBinder -merge -useContext +onlyGivenNames v5
  clear_value v5
  extract_lets -underBinder -merge -useContext +onlyGivenNames v6
  have h7 : Keeps s0 v6 := by
    refine Keeps.parts ?_ rfl rfl
    exact h4
  clear_value v6
  extract_lets -underBinder -merge -useContext +onlyGivenNames v8
  have h9 : Keeps s0 v8 := by
    refine Keeps.ite ?_ ?_
    · exact h2
    · refine Keeps.ite ?_ ?_
      · refine State.freeze_keeps ?_
        exact h7
      · exact h7
  clear_value v8
  refine State.checkIlp_keeps ?_
  refine State.refreshOk_keeps ?_
  refine State.release_keeps ?_
  exact h9

theorem State.requestSbk_keeps {s0} {a1} {a2} (g1 : Keeps s0 a1) : Keeps s0 (State.requestSbk a1 a2) := by
  unfold State.requestSbk
  refine State.recordSbk_keeps ?_
  refine State.safeLog_keeps ?_
  exact g1

theorem State.curatorFault_keeps {s0} {a1} {a2} {a3} (g1 : Keeps s0 a1) : Keeps s0 (State.curatorFault a1 a2 a3) := by
  unfold State.curatorFault
  extract_lets -underBinder -merge -useContext +onlyGivenNames v1
  have h2 : Keeps s0 v1 := by
    refine State.safeLog_keeps ?_
    exact g1
  clear_value v1
  extract_lets -underBinder -merge -useContext +onlyGivenNames v3
  have h4 : Keeps s0 v3 := by
    refine Keeps.ite ?_ ?_
    · exact h2
    · refine State.set_keeps ?_
      exact h2
  clear_value v3
  extract_lets -underBinder -merge -useContext +onlyGivenNames v5
  clear_value v5
  extract_lets -underBinder -merge -useContext +onlyGivenNames v6
  have h7 : Keeps s0 v6 := by
    refine Keeps.parts ?_ rfl rfl
    exact h4
  clear_value v6
  extract_lets -underBinder -merge -useContext +onlyGivenNames v8
  have h9 : Keeps s0 v8 := by
    refine Keeps.ite ?_ ?_
    · refine State.release_keeps ?_
      exact h7
    · exact h7
  clear_value v8
  refine Keeps.ite ?_ ?_
  · refine State.checkIlp_keeps ?_
    exact h9
  · refine State.recordSbk_keeps ?_
    exact h9

theorem State.tripActive_keeps {s0} {a1} {a2} {a3} (g1 : Keeps s0 a1) : Keeps s0 (State.tripActive a1 a2 a3) := by
  unfold State.tripActive
  extract_lets -underBinder -merge -useContext +onlyGivenNames v1
  have h2 : Keeps s0 v1 := by
    refine State.noteLevel_keeps ?_
    exact g1
  clear_value v1
  refine Keeps.ite ?_ ?_
  · exact h2
  · extract_lets -underBinder -merge -useContext +onlyGivenNames v3
    have h4 : Keeps s0 v3 := by
      refine State.setBit_keeps ?_
      exact h2
    clear_value v3
    refine Keeps.ite ?_ ?_
    · exact h4
    · extract_lets -underBinder -merge -useContext +onlyGivenNames v5
      have h6 : Keeps s0 v5 := by
        refine State.safeLog_keeps ?_
        refine State.setBit_keeps ?_
        exact h4
      clear_value v5
      extract_lets -underBinder -merge -useContext +onlyGivenNames v7
      have h8 : Keeps s0 v7 := by
        refine State.release_keeps ?_
        exact h6
      clear_value v7
      refine Keeps.ite ?_ ?_
      · refine State.recordSbk_keeps ?_
        exact h8
      · refine State.checkIlp_keeps ?_
        exact h8

theorem State.comparator_keeps {s0} {a1} {a2} {a3} (g1 : Keeps s0 a1) : Keeps s0 (State.comparator a1 a2 a3) := by
  unfold State.comparator
  extract_lets -underBinder -merge -useContext +onlyGivenNames v1
  have h2 : Keeps s0 v1 := by
    refine State.noteLevel_keeps ?_
    exact g1
  clear_value v1
  refine Keeps.ite ?_ ?_
  · refine State.recordSbk_keeps ?_
    refine State.safeLog_keeps ?_
    exact h2
  · exact h2

theorem State.recheck_keeps {s0} {a1} (g1 : Keeps s0 a1) : Keeps s0 (State.recheck a1) := by
  unfold State.recheck
  extract_lets -underBinder -merge -useContext +onlyGivenNames v1
  have h2 : Keeps s0 v1 := by
    refine State.setReg_keeps ?_
    exact g1
  clear_value v1
  refine State.setB_keeps ?_
  exact h2

theorem State.sbkClear_keeps {s0} {a1} (g1 : Keeps s0 a1) : Keeps s0 (State.sbkClear a1) := by
  unfold State.sbkClear
  refine Keeps.ite ?_ ?_
  · refine State.setB_keeps ?_
    exact g1
  · extract_lets -underBinder -merge -useContext +onlyGivenNames v1
    have h2 : Keeps s0 v1 := by
      refine State.set_keeps ?_
      refine State.setB_keeps ?_
      exact g1
    clear_value v1
    extract_lets -underBinder -merge -useContext +onlyGivenNames v3
    have h4 : Keeps s0 v3 := by
      refine State.setB_keeps ?_
      exact h2
    clear_value v3
    refine State.refreshOk_keeps ?_
    refine State.unfreeze_keeps ?_
    exact h4

theorem State.sopClear_keeps {s0} {a1} {a2} (g1 : Keeps s0 a1) : Keeps s0 (State.sopClear a1 a2) := by
  unfold State.sopClear
  refine Keeps.ite ?_ ?_
  · exact g1
  · refine State.checkIlp_keeps ?_
    refine State.setBit_keeps ?_
    exact g1

theorem State.ilpRequest_keeps {s0} {a1} (g1 : Keeps s0 a1) : Keeps s0 (State.ilpRequest a1) := by
  unfold State.ilpRequest
  refine Keeps.parts ?_ rfl rfl
  exact g1

theorem State.safeCntClear_keeps {s0} {a1} (g1 : Keeps s0 a1) : Keeps s0 (State.safeCntClear a1) := by
  unfold State.safeCntClear
  refine State.clearAll_keeps ?_
  exact g1

theorem State.oscFailure_keeps {s0} {a1} (g1 : Keeps s0 a1) : Keeps s0 (State.oscFailure a1) := by
  unfold State.oscFailure
  refine Keeps.ite ?_ ?_
  · exact g1
  · extract_lets -underBinder -merge -useContext +onlyGivenNames v1
    clear_value v1
    extract_lets -underBinder -merge -useContext +onlyGivenNames v2
    have h3 : Keeps s0 v2 := by
      refine State.force_keeps ?_
      refine Keeps.parts ?_ rfl rfl
      exact g1
    clear_value v2
    refine State.refreshOk_keeps ?_
    refine State.freeze_keeps ?_
    refine State.curatorFault_keeps ?_
    exact h3

theorem execTripInputActive_keeps {s0} {a1} {a2} {a3} (g3 : Keeps s0 a3) : KeepsN s0 (execTripInputActive a1 a2 a3) := by
  unfold execTripInputActive
  refine KeepsN.next ?_
  refine State.tripActive_keeps ?_
  exact g3

theorem execTripInputInactive_keeps {s0} {a1} {a2} (g2 : Keeps s0 a2) : KeepsN s0 (execTripInputInactive a1 a2) := by
  unfold execTripInputInactive
  refine KeepsN.next ?_
  refine Keeps.ite ?_ ?_
  · exact g2
  · refine State.setBit_keeps ?_
    exact g2

theorem execTripPairFault_keeps {s0} {a1} {a2} {a3} (g3 : Keeps s0 a3) : KeepsN s0 (execTripPairFault a1 a2 a3) := by
  unfold execTripPairFault
  refine KeepsN.next ?_
  refine Keeps.ite ?_ ?_
  · exact g3
  · refine State.tripActive_keeps ?_
    refine State.curatorFault_keeps ?_
    refine State.setBit_keeps ?_
    exact g3

theorem execTripSelfTest_keeps {s0} {a1} {a2} {a3} {a4} (g4 : Keeps s0 a4) : KeepsN s0 (execTripSelfTest a1 a2 a3 a4) := by
  unfold execTripSelfTest
  refine KeepsN.next ?_
  refine Keeps.ite ?_ ?_
  · exact g4
  · refine State.tripActive_keeps ?_
    refine State.curatorFault_keeps ?_
    refine State.setBit_keeps ?_
    exact g4

theorem execFbLevelChange_keeps {s0} {a1} {a2} {a3} (g3 : Keeps s0 a3) : KeepsN s0 (execFbLevelChange a1 a2 a3) := by
  unfold execFbLevelChange
  refine KeepsN.next ?_
  refine State.setBit_keeps ?_
  refine Keeps.ite ?_ ?_
  · refine State.noteLevel_keeps ?_
    exact g3
  · exact g3

theorem execFeedbackDiscrepancy_keeps {s0} {a1} {a2} {a3} (g3 : Keeps s0 a3) : KeepsN s0 (execFeedbackDiscrepancy a1 a2 a3) := by
  unfold execFeedbackDiscrepancy
  refine KeepsN.next ?_
  refine Keeps.ite ?_ ?_
  · exact g3
  · extract_lets -underBinder -merge -useContext +onlyGivenNames v1
    have h2 : Keeps s0 v1 := by
      refine State.safeLog_keeps ?_
      refine State.setBit_keeps ?_
      exact g3
    clear_value v1
    refine State.recordSbk_keeps ?_
    refine Keeps.ite ?_ ?_
    · refine State.release_keeps ?_
      exact h2
    · exact h2

theorem execIlpGrant_keeps {s0} {a1} (g1 : Keeps s0 a1) : KeepsN s0 (execIlpGrant a1) := by
  unfold execIlpGrant
  refine KeepsN.next ?_
  refine Keeps.ite ?_ ?_
  · refine State.setB_keeps ?_
    exact g1
  · exact g1

theorem execIlpKickAged_keeps {s0} {a1} (g1 : Keeps s0 a1) : KeepsN s0 (execIlpKickAged a1) := by
  unfold execIlpKickAged
  refine KeepsN.next ?_
  split
  · refine State.checkIlp_keeps ?_
    refine Keeps.parts ?_ rfl rfl
    exact g1
  · exact g1

theorem execWatchdogExpiry_keeps {s0} {a1} (g1 : Keeps s0 a1) : KeepsN s0 (execWatchdogExpiry a1) := by
  unfold execWatchdogExpiry
  refine KeepsN.next ?_
  refine Keeps.ite ?_ ?_
  · exact g1
  · extract_lets -underBinder -merge -useContext +onlyGivenNames v1
    clear_value v1
    extract_lets -underBinder -merge -useContext +onlyGivenNames v2
    have h3 : Keeps s0 v2 := by
      refine Keeps.parts ?_ rfl rfl
      exact g1
    clear_value v2
    extract_lets -underBinder -merge -useContext +onlyGivenNames v4
    clear_value v4
    extract_lets -underBinder -merge -useContext +onlyGivenNames v5
    have h6 : Keeps s0 v5 := by
      refine State.safeLog_keeps ?_
      exact h3
    clear_value v5
    extract_lets -underBinder -merge -useContext +onlyGivenNames v7
    have h8 : Keeps s0 v7 := by
      refine Keeps.ite ?_ ?_
      · refine State.setB_keeps ?_
        exact h6
      · refine State.recordSbk_keeps ?_
        exact h6
    clear_value v7
    refine State.refreshOk_keeps ?_
    refine State.freeze_keeps ?_
    exact h8

theorem execSafeClockCheck_keeps {s0} {a1} {a2} (g2 : Keeps s0 a2) : KeepsN s0 (execSafeClockCheck a1 a2) := by
  unfold execSafeClockCheck
  refine KeepsN.next ?_
  refine Keeps.ite ?_ ?_
  · refine State.oscFailure_keeps ?_
    exact g2
  · exact g2

theorem execOutputReadbackFault_keeps {s0} {a1} {a2} (g2 : Keeps s0 a2) : KeepsN s0 (execOutputReadbackFault a1 a2) := by
  unfold execOutputReadbackFault
  refine KeepsN.next ?_
  refine State.curatorFault_keeps ?_
  exact g2

theorem execForceRailMismatch_keeps {s0} {a1} (g1 : Keeps s0 a1) : KeepsN s0 (execForceRailMismatch a1) := by
  unfold execForceRailMismatch
  refine KeepsN.next ?_
  refine State.force_keeps ?_
  refine State.curatorFault_keeps ?_
  exact g1

theorem execCuratorParityFault_keeps {s0} {a1} (g1 : Keeps s0 a1) : KeepsN s0 (execCuratorParityFault a1) := by
  unfold execCuratorParityFault
  refine KeepsN.next ?_
  refine State.curatorFault_keeps ?_
  exact g1

end Sys2Proof.Machine
end

