-- ==== Sys2Proof/Laws/KeepsCat.lean ====
section
/-!
SUPPORT. What the operations of Machine/Cat.lean do to the queue, the fuses and the tables.
-/

namespace Sys2Proof.Machine

theorem State.dropInst_keeps {s0} {a1} {a2} (g1 : Keeps s0 a1) : Keeps s0 (State.dropInst a1 a2) := by
  unfold State.dropInst
  extract_lets -underBinder -merge -useContext +onlyGivenNames v1
  have h2 : Keeps s0 v1 := by
    refine State.setInst_keeps ?_
    exact g1
  clear_value v1
  refine State.set_keeps ?_
  refine State.clearAll_keeps ?_
  exact h2

theorem State.setSvc_keeps {s0} {a1} {a2} {a3} (g1 : Keeps s0 a1) : Keeps s0 (State.setSvc a1 a2 a3) := by
  unfold State.setSvc
  extract_lets -underBinder -merge -useContext +onlyGivenNames v1
  clear_value v1
  refine Keeps.ite ?_ ?_
  · exact g1
  · extract_lets -underBinder -merge -useContext +onlyGivenNames v2
    clear_value v2
    extract_lets -underBinder -merge -useContext +onlyGivenNames v3
    have h4 : Keeps s0 v3 := by
      refine State.set_keeps ?_
      exact g1
    clear_value v3
    extract_lets -underBinder -merge -useContext +onlyGivenNames v5
    have h6 : Keeps s0 v5 := by
      refine Keeps.ite ?_ ?_
      · refine State.set_keeps ?_
        refine State.bump_keeps ?_
        exact h4
      · exact h4
    clear_value v5
    extract_lets -underBinder -merge -useContext +onlyGivenNames v7
    have h8 : Keeps s0 v7 := by
      refine Keeps.ite ?_ ?_
      · refine State.bump_keeps ?_
        exact h6
      · exact h6
    clear_value v7
    extract_lets -underBinder -merge -useContext +onlyGivenNames v9
    clear_value v9
    extract_lets -underBinder -merge -useContext +onlyGivenNames v10
    have h11 : Keeps s0 v10 := by
      refine Keeps.ite ?_ ?_
      · refine State.setArm_keeps ?_
        refine State.set_keeps ?_
        exact h8
      · exact h8
    clear_value v10
    extract_lets -underBinder -merge -useContext +onlyGivenNames v12
    clear_value v12
    extract_lets -underBinder -merge -useContext +onlyGivenNames v13
    have h14 : Keeps s0 v13 := by
      refine Keeps.ite ?_ ?_
      · refine State.setArm_keeps ?_
        exact h11
      · exact h11
    clear_value v13
    extract_lets -underBinder -merge -useContext +onlyGivenNames v15
    clear_value v15
    extract_lets -underBinder -merge -useContext +onlyGivenNames v16
    clear_value v16
    extract_lets -underBinder -merge -useContext +onlyGivenNames v17
    clear_value v17
    extract_lets -underBinder -merge -useContext +onlyGivenNames v18
    have h19 : Keeps s0 v18 := by
      refine Keeps.ite ?_ ?_
      · refine State.setCell_keeps ?_
        exact h14
      · refine Keeps.ite ?_ ?_
        · exact h11
        · refine Keeps.ite ?_ ?_
          · refine State.setCell_keeps ?_
            exact h11
          · refine State.setCell_keeps ?_
            exact h11
    clear_value v18
    refine Keeps.ite ?_ ?_
    · refine State.dropInst_keeps ?_
      exact h19
    · exact h19

theorem State.setReasons_keeps {s0} {a1} {a2} {a3} (g1 : Keeps s0 a1) : Keeps s0 (State.setReasons a1 a2 a3) := by
  unfold State.setReasons
  refine State.set_keeps ?_
  refine State.setCell_keeps ?_
  exact g1

theorem State.startFull_keeps {s0} {a1} {a2} (g1 : Keeps s0 a1) : Keeps s0 (State.startFull a1 a2) := by
  unfold State.startFull
  extract_lets -underBinder -merge -useContext +onlyGivenNames v1
  have h2 : Keeps s0 v1 := by
    refine State.setReasons_keeps ?_
    exact g1
  clear_value v1
  extract_lets -underBinder -merge -useContext +onlyGivenNames v3
  have h4 : Keeps s0 v3 := by
    refine State.setSvc_keeps ?_
    exact h2
  clear_value v3
  extract_lets -underBinder -merge -useContext +onlyGivenNames v5
  clear_value v5
  extract_lets -underBinder -merge -useContext +onlyGivenNames v6
  clear_value v6
  extract_lets -underBinder -merge -useContext +onlyGivenNames v7
  have h8 : Keeps s0 v7 := by
    refine State.setLink_keeps ?_
    exact h4
  clear_value v7
  refine State.setCell_keeps ?_
  exact h8

theorem State.tryAdmit_keeps {s0} {a1} {a2} {a3} (g1 : Keeps s0 a1) : Keeps s0 (State.tryAdmit a1 a2 a3) := by
  unfold State.tryAdmit
  extract_lets -underBinder -merge -useContext +onlyGivenNames v1
  clear_value v1
  extract_lets -underBinder -merge -useContext +onlyGivenNames v2
  clear_value v2
  refine Keeps.ite ?_ ?_
  · exact g1
  · refine Keeps.ite ?_ ?_
    · refine Keeps.ite ?_ ?_
      · refine State.startFull_keeps ?_
        exact g1
      · exact g1
    · refine Keeps.ite ?_ ?_
      · refine State.setCell_keeps ?_
        refine State.setSvc_keeps ?_
        exact g1
      · exact g1

theorem State.catArise_keeps {s0} {a1} {a2} {a3} (g1 : Keeps s0 a1) : Keeps s0 (State.catArise a1 a2 a3) := by
  unfold State.catArise
  refine Keeps.ite ?_ ?_
  · exact g1
  · extract_lets -underBinder -merge -useContext +onlyGivenNames v1
    have h2 : Keeps s0 v1 := by
      refine State.setReasons_keeps ?_
      exact g1
    clear_value v1
    refine Keeps.ite ?_ ?_
    · refine State.setSvc_keeps ?_
      exact h2
    · refine Keeps.ite ?_ ?_
      · refine State.setSvc_keeps ?_
        exact h2
      · exact h2

theorem State.catClear_keeps {s0} {a1} {a2} {a3} (g1 : Keeps s0 a1) : Keeps s0 (State.catClear a1 a2 a3) := by
  unfold State.catClear
  refine Keeps.ite ?_ ?_
  · exact g1
  · extract_lets -underBinder -merge -useContext +onlyGivenNames v1
    have h2 : Keeps s0 v1 := by
      refine State.setReasons_keeps ?_
      exact g1
    clear_value v1
    extract_lets -underBinder -merge -useContext +onlyGivenNames v3
    clear_value v3
    extract_lets -underBinder -merge -useContext +onlyGivenNames v4
    have h5 : Keeps s0 v4 := by
      refine State.setCell_keeps ?_
      exact h2
    clear_value v4
    refine State.tryAdmit_keeps ?_
    exact h5

theorem State.catReached_keeps {s0} {a1} {a2} (g1 : Keeps s0 a1) : Keeps s0 (State.catReached a1 a2) := by
  unfold State.catReached
  refine Keeps.ite ?_ ?_
  · exact g1
  · extract_lets -underBinder -merge -useContext +onlyGivenNames v1
    have h2 : Keeps s0 v1 := by
      refine State.setSvc_keeps ?_
      exact g1
    clear_value v1
    extract_lets -underBinder -merge -useContext +onlyGivenNames v3
    clear_value v3
    refine Keeps.ite ?_ ?_
    · refine State.setSvc_keeps ?_
      exact h2
    · refine State.tryAdmit_keeps ?_
      exact h2

theorem State.catArmBlocked_keeps {s0} {a1} {a2} (g1 : Keeps s0 a1) : Keeps s0 (State.catArmBlocked a1 a2) := by
  unfold State.catArmBlocked
  refine Keeps.each ?_ fun s1 x2 h3 => ?_
  · exact g1
  · refine State.tryAdmit_keeps ?_
    exact h3

theorem State.catArmDeblocked_keeps {s0} {a1} {a2} (g1 : Keeps s0 a1) : Keeps s0 (State.catArmDeblocked a1 a2) := by
  unfold State.catArmDeblocked
  refine Keeps.each ?_ fun s1 x2 h3 => ?_
  · exact g1
  · refine Keeps.ite ?_ ?_
    · refine State.setSvc_keeps ?_
      exact h3
    · exact h3

theorem State.applyReason_keeps {s0} {a1} {a2} {a3} {a4} (g1 : Keeps s0 a1) : Keeps s0 (State.applyReason a1 a2 a3 a4) := by
  unfold State.applyReason
  refine Keeps.ite ?_ ?_
  · refine State.catArise_keeps ?_
    exact g1
  · refine State.catClear_keeps ?_
    exact g1

theorem State.addChange_keeps {s0} {a1} {a2} {a3} (g1 : Keeps s0 a1) : Keeps s0 (State.addChange a1 a2 a3) := by
  unfold State.addChange
  extract_lets -underBinder -merge -useContext +onlyGivenNames v1
  clear_value v1
  extract_lets -underBinder -merge -useContext +onlyGivenNames v2
  clear_value v2
  refine Keeps.parts ?_ rfl rfl
  exact g1

theorem State.sendEvt_keeps {s0} {a1} {a2} (g1 : Keeps s0 a1) : Keeps s0 (State.sendEvt a1 a2) := by
  unfold State.sendEvt
  extract_lets -underBinder -merge -useContext +onlyGivenNames v1
  clear_value v1
  extract_lets -underBinder -merge -useContext +onlyGivenNames v2
  clear_value v2
  refine State.emit_keeps ?_
  refine Keeps.parts ?_ rfl rfl
  exact g1

theorem State.proposeWith_keeps {s0} {a1} {a2} {a3} (g1 : Keeps s0 a1) (g3 : ∀ y1, Keeps s0 y1 → Keeps s0 (a3 y1)) : Keeps s0 (State.proposeWith a1 a2 a3) := by
  unfold State.proposeWith
  refine Keeps.ite ?_ ?_
  · extract_lets -underBinder -merge -useContext +onlyGivenNames v1
    clear_value v1
    refine State.sendEvt_keeps ?_
    refine State.addChange_keeps ?_
    exact g1
  · refine g3 _ ?_
    exact g1

theorem State.proposeReason_keeps {s0} {a1} {a2} {a3} {a4} (g1 : Keeps s0 a1) : Keeps s0 (State.proposeReason a1 a2 a3 a4) := by
  unfold State.proposeReason
  refine State.proposeWith_keeps ?_ ?_
  · exact g1
  · intro x1 h2
    refine State.applyReason_keeps ?_
    exact h2

theorem State.refreshVersion_keeps {s0} {a1} {a2} (g1 : Keeps s0 a1) : Keeps s0 (State.refreshVersion a1 a2) := by
  unfold State.refreshVersion
  extract_lets -underBinder -merge -useContext +onlyGivenNames v1
  clear_value v1
  extract_lets -underBinder -merge -useContext +onlyGivenNames v2
  clear_value v2
  extract_lets -underBinder -merge -useContext +onlyGivenNames v3
  clear_value v3
  refine State.set_keeps ?_
  exact g1

theorem State.checkLate_keeps {s0} {a1} {a2} (g1 : Keeps s0 a1) : Keeps s0 (State.checkLate a1 a2) := by
  unfold State.checkLate
  extract_lets -underBinder -merge -useContext +onlyGivenNames v1
  clear_value v1
  extract_lets -underBinder -merge -useContext +onlyGivenNames v2
  clear_value v2
  extract_lets -underBinder -merge -useContext +onlyGivenNames v3
  clear_value v3
  extract_lets -underBinder -merge -useContext +onlyGivenNames v4
  extract_lets -underBinder -merge -useContext +onlyGivenNames v5
  have h6 : Keeps s0 v5 := by
    refine Keeps.ite ?_ ?_
    · refine State.setB_keeps ?_
      exact g1
    · exact g1
  clear_value v5
  refine Keeps.each ?_ fun s7 x8 h9 => ?_
  · exact h6
  · extract_lets -underBinder -merge -useContext +onlyGivenNames v10
    clear_value v10
    extract_lets -underBinder -merge -useContext +onlyGivenNames v11
    clear_value v11
    extract_lets -underBinder -merge -useContext +onlyGivenNames v12
    clear_value v12
    extract_lets -underBinder -merge -useContext +onlyGivenNames v13
    clear_value v13
    refine Keeps.ite ?_ ?_
    · extract_lets -underBinder -merge -useContext +onlyGivenNames v14
      have h15 : Keeps s0 v14 := by
        refine State.setCell_keeps ?_
        exact h9
      clear_value v14
      refine Keeps.ite ?_ ?_
      · exact h15
      · refine State.proposeReason_keeps ?_
        exact h15
    · refine Keeps.ite ?_ ?_
      · refine State.proposeReason_keeps ?_
        refine State.setCell_keeps ?_
        exact h9
      · exact h9

theorem State.storeAnnounced_keeps {s0} {a1} {a2} {a3} (g1 : Keeps s0 a1) : Keeps s0 (State.storeAnnounced a1 a2 a3) := by
  unfold State.storeAnnounced
  extract_lets -underBinder -merge -useContext +onlyGivenNames v1
  clear_value v1
  extract_lets -underBinder -merge -useContext +onlyGivenNames v2
  clear_value v2
  extract_lets -underBinder -merge -useContext +onlyGivenNames v3
  clear_value v3
  extract_lets -underBinder -merge -useContext +onlyGivenNames v4
  clear_value v4
  extract_lets -underBinder -merge -useContext +onlyGivenNames v5
  clear_value v5
  extract_lets -underBinder -merge -useContext +onlyGivenNames v6
  have h7 : Keeps s0 v6 := by
    refine State.setB_keeps ?_
    refine State.setB_keeps ?_
    exact g1
  clear_value v6
  split
  · exact h7
  · extract_lets -underBinder -merge -useContext +onlyGivenNames v8
    clear_value v8
    extract_lets -underBinder -merge -useContext +onlyGivenNames v9
    clear_value v9
    extract_lets -underBinder -merge -useContext +onlyGivenNames v10
    clear_value v10
    extract_lets -underBinder -merge -useContext +onlyGivenNames v11
    have h12 : Keeps s0 v11 := by
      refine State.set_keeps ?_
      refine State.set_keeps ?_
      refine State.set_keeps ?_
      exact h7
    clear_value v11
    refine State.set_keeps ?_
    refine State.set_keeps ?_
    exact h12

theorem State.landPosition_keeps {s0} {a1} {a2} {a3} {a4} {a5} {a6} (g1 : Keeps s0 a1) : Keeps s0 (State.landPosition a1 a2 a3 a4 a5 a6) := by
  unfold State.landPosition
  extract_lets -underBinder -merge -useContext +onlyGivenNames v1
  clear_value v1
  extract_lets -underBinder -merge -useContext +onlyGivenNames v2
  clear_value v2
  extract_lets -underBinder -merge -useContext +onlyGivenNames v3
  clear_value v3
  extract_lets -underBinder -merge -useContext +onlyGivenNames v4
  clear_value v4
  extract_lets -underBinder -merge -useContext +onlyGivenNames v5
  clear_value v5
  extract_lets -underBinder -merge -useContext +onlyGivenNames v6
  clear_value v6
  extract_lets -underBinder -merge -useContext +onlyGivenNames v7
  clear_value v7
  extract_lets -underBinder -merge -useContext +onlyGivenNames v8
  extract_lets -underBinder -merge -useContext +onlyGivenNames v9
  clear_value v9
  extract_lets -underBinder -merge -useContext +onlyGivenNames v10
  clear_value v10
  extract_lets -underBinder -merge -useContext +onlyGivenNames v11
  have h12 : Keeps s0 v11 := by
    refine Keeps.ite ?_ ?_
    · refine State.catClear_keeps ?_
      refine State.catClear_keeps ?_
      refine State.catClear_keeps ?_
      exact g1
    · exact g1
  clear_value v11
  extract_lets -underBinder -merge -useContext +onlyGivenNames v13
  have h14 : Keeps s0 v13 := by
    refine Keeps.ite ?_ ?_
    · refine State.catClear_keeps ?_
      exact h12
    · exact h12
  clear_value v13
  extract_lets -underBinder -merge -useContext +onlyGivenNames v15
  clear_value v15
  extract_lets -underBinder -merge -useContext +onlyGivenNames v16
  have h17 : Keeps s0 v16 := by
    refine Keeps.ite ?_ ?_
    · refine State.catArise_keeps ?_
      exact h14
    · refine Keeps.ite ?_ ?_
      · refine State.catClear_keeps ?_
        exact h14
      · exact h14
  clear_value v16
  extract_lets -underBinder -merge -useContext +onlyGivenNames v18
  have h19 : Keeps s0 v18 := by
    refine Keeps.ite ?_ ?_
    · refine State.catArise_keeps ?_
      exact h17
    · refine Keeps.ite ?_ ?_
      · refine State.catClear_keeps ?_
        exact h17
      · exact h17
  clear_value v18
  extract_lets -underBinder -merge -useContext +onlyGivenNames v20
  have h21 : Keeps s0 v20 := by
    refine Keeps.ite ?_ ?_
    · refine State.catReached_keeps ?_
      exact h19
    · exact h19
  clear_value v20
  extract_lets -underBinder -merge -useContext +onlyGivenNames v22
  have h23 : Keeps s0 v22 := by
    refine Keeps.ite ?_ ?_
    · refine State.catArise_keeps ?_
      exact h21
    · refine Keeps.ite ?_ ?_
      · refine State.catClear_keeps ?_
        exact h21
      · exact h21
  clear_value v22
  extract_lets -underBinder -merge -useContext +onlyGivenNames v24
  have h25 : Keeps s0 v24 := by
    unfold v24
    split
    · refine Keeps.ite ?_ ?_
      · refine State.catArise_keeps ?_
        exact h23
      · exact h23
    · exact h23
  clear_value v24
  refine Keeps.ite ?_ ?_
  · refine State.catReached_keeps ?_
    exact h25
  · exact h25

theorem State.storeMaxLat_keeps {s0} {a1} {a2} {a3} (g1 : Keeps s0 a1) : Keeps s0 (State.storeMaxLat a1 a2 a3) := by
  unfold State.storeMaxLat
  extract_lets -underBinder -merge -useContext +onlyGivenNames v1
  clear_value v1
  split
  · refine State.set_keeps ?_
    refine State.set_keeps ?_
    exact g1
  · refine State.set_keeps ?_
    refine State.set_keeps ?_
    exact g1

theorem State.startMeasure_keeps {s0} {a1} {a2} (g1 : Keeps s0 a1) : Keeps s0 (State.startMeasure a1 a2) := by
  unfold State.startMeasure
  extract_lets -underBinder -merge -useContext +onlyGivenNames v1
  clear_value v1
  extract_lets -underBinder -merge -useContext +onlyGivenNames v2
  have h3 : Keeps s0 v2 := by
    refine State.setLink_keeps ?_
    exact g1
  clear_value v2
  refine Keeps.each ?_ fun s4 x5 h6 => ?_
  · exact h3
  · refine State.setCell_keeps ?_
    exact h6

theorem State.landDisc_keeps {s0} {a1} {a2} {a3} {a4} (g1 : Keeps s0 a1) : Keeps s0 (State.landDisc a1 a2 a3 a4) := by
  unfold State.landDisc
  extract_lets -underBinder -merge -useContext +onlyGivenNames v1
  have h2 : Keeps s0 v1 := by
    exact g1
  clear_value v1
  extract_lets -underBinder -merge -useContext +onlyGivenNames v3
  clear_value v3
  extract_lets -underBinder -merge -useContext +onlyGivenNames v4
  have h5 : Keeps s0 v4 := by
    refine State.setLink_keeps ?_
    exact g1
  clear_value v4
  extract_lets -underBinder -merge -useContext +onlyGivenNames v6
  have h7 : Keeps s0 v6 := by
    refine State.refreshVersion_keeps ?_
    exact h5
  clear_value v6
  split
  · extract_lets -underBinder -merge -useContext +onlyGivenNames v8
    have h9 : Keeps s0 v8 := by
      refine State.set_keeps ?_
      exact h7
    clear_value v8
    extract_lets -underBinder -merge -useContext +onlyGivenNames v10
    have h11 : Keeps s0 v10 := by
      refine State.set_keeps ?_
      refine State.setB_keeps ?_
      exact h9
    clear_value v10
    extract_lets -underBinder -merge -useContext +onlyGivenNames v12
    have h13 : Keeps s0 v12 := by
      unfold v12
      split
      · refine State.set_keeps ?_
        exact h11
      · refine State.set_keeps ?_
        exact h11
    clear_value v12
    extract_lets -underBinder -merge -useContext +onlyGivenNames v14
    have h15 : Keeps s0 v14 := by
      refine State.set_keeps ?_
      exact h13
    clear_value v14
    extract_lets -underBinder -merge -useContext +onlyGivenNames v16
    clear_value v16
    extract_lets -underBinder -merge -useContext +onlyGivenNames v17
    have h18 : Keeps s0 v17 := by
      refine Keeps.each ?_ fun s19 x20 h21 => ?_
      · exact h15
      · refine State.storeAnnounced_keeps ?_
        exact h21
    clear_value v17
    extract_lets -underBinder -merge -useContext +onlyGivenNames v22
    have h23 : Keeps s0 v22 := by
      refine Keeps.each ?_ fun s24 x25 h26 => ?_
      · exact h18
      · refine State.landPosition_keeps ?_
        exact h26
    clear_value v22
    extract_lets -underBinder -merge -useContext +onlyGivenNames v27
    have h28 : Keeps s0 v27 := by
      refine State.storeMaxLat_keeps ?_
      exact h23
    clear_value v27
    refine Keeps.ite ?_ ?_
    · refine State.checkLate_keeps ?_
      refine State.storeSchedule_keeps ?_
      refine State.startMeasure_keeps ?_
      exact h28
    · exact h28

theorem State.landLat_keeps {s0} {a1} {a2} {a3} {a4} (g1 : Keeps s0 a1) : Keeps s0 (State.landLat a1 a2 a3 a4) := by
  unfold State.landLat
  extract_lets -underBinder -merge -useContext +onlyGivenNames v1
  have h2 : Keeps s0 v1 := by
    refine Keeps.each ?_ fun s3 x4 h5 => ?_
    · exact g1
    · refine Keeps.ite ?_ ?_
      · extract_lets -underBinder -merge -useContext +onlyGivenNames v6
        clear_value v6
        extract_lets -underBinder -merge -useContext +onlyGivenNames v7
        clear_value v7
        refine State.setCell_keeps ?_
        exact h5
      · exact h5
  clear_value v1
  extract_lets -underBinder -merge -useContext +onlyGivenNames v8
  have h9 : Keeps s0 v8 := by
    refine State.storeMaxLat_keeps ?_
    exact h2
  clear_value v8
  extract_lets -underBinder -merge -useContext +onlyGivenNames v10
  have h11 : Keeps s0 v10 := by
    refine State.storeSchedule_keeps ?_
    exact h9
  clear_value v10
  refine Keeps.ite ?_ ?_
  · extract_lets -underBinder -merge -useContext +onlyGivenNames v12
    clear_value v12
    refine State.checkLate_keeps ?_
    refine State.storeBudget_keeps ?_
    exact h11
  · refine State.checkLate_keeps ?_
    exact h11

theorem State.landAdmit_keeps {s0} {a1} {a2} {a3} {a4} (g1 : Keeps s0 a1) : Keeps s0 (State.landAdmit a1 a2 a3 a4) := by
  unfold State.landAdmit
  extract_lets -underBinder -merge -useContext +onlyGivenNames v1
  clear_value v1
  refine Keeps.ite ?_ ?_
  · refine State.catArise_keeps ?_
    exact g1
  · refine Keeps.ite ?_ ?_
    · exact g1
    · extract_lets -underBinder -merge -useContext +onlyGivenNames v2
      clear_value v2
      extract_lets -underBinder -merge -useContext +onlyGivenNames v3
      have h4 : Keeps s0 v3 := by
        refine State.setCell_keeps ?_
        exact g1
      clear_value v3
      extract_lets -underBinder -merge -useContext +onlyGivenNames v5
      clear_value v5
      extract_lets -underBinder -merge -useContext +onlyGivenNames v6
      extract_lets -underBinder -merge -useContext +onlyGivenNames v7
      clear_value v7
      refine Keeps.ite ?_ ?_
      · extract_lets -underBinder -merge -useContext +onlyGivenNames v8
        have h9 : Keeps s0 v8 := by
          unfold v8
          split
          · refine State.set_keeps ?_
            exact h4
          · exact h4
        clear_value v8
        refine State.setSvc_keeps ?_
        exact h9
      · exact h4

theorem State.landFault_keeps {s0} {a1} {a2} {a3} (g1 : Keeps s0 a1) : Keeps s0 (State.landFault a1 a2 a3) := by
  unfold State.landFault
  extract_lets -underBinder -merge -useContext +onlyGivenNames v1
  clear_value v1
  extract_lets -underBinder -merge -useContext +onlyGivenNames v2
  clear_value v2
  extract_lets -underBinder -merge -useContext +onlyGivenNames v3
  clear_value v3
  extract_lets -underBinder -merge -useContext +onlyGivenNames v4
  clear_value v4
  extract_lets -underBinder -merge -useContext +onlyGivenNames v5
  have h6 : Keeps s0 v5 := by
    refine Keeps.parts ?_ rfl rfl
    exact g1
  clear_value v5
  refine State.catArise_keeps ?_
  exact h6

theorem State.landSilent_keeps {s0} {a1} {a2} {a3} {a4} (g1 : Keeps s0 a1) : Keeps s0 (State.landSilent a1 a2 a3 a4) := by
  unfold State.landSilent
  extract_lets -underBinder -merge -useContext +onlyGivenNames v1
  clear_value v1
  refine State.setCell_keeps ?_
  exact g1

theorem State.applyChange_keeps {s0} {a1} {a2} (g1 : Keeps s0 a1) : Keeps s0 (State.applyChange a1 a2) := by
  unfold State.applyChange
  split
  · refine State.catArise_keeps ?_
    exact g1
  · refine State.catClear_keeps ?_
    exact g1
  · refine State.landDisc_keeps ?_
    exact g1
  · refine State.landAdmit_keeps ?_
    exact g1
  · refine State.landLat_keeps ?_
    exact g1
  · refine State.landFault_keeps ?_
    exact g1
  · refine State.landSilent_keeps ?_
    exact g1

theorem State.propose_keeps {s0} {a1} {a2} (g1 : Keeps s0 a1) : Keeps s0 (State.propose a1 a2) := by
  unfold State.propose
  refine State.proposeWith_keeps ?_ ?_
  · exact g1
  · intro x1 h2
    refine State.applyChange_keeps ?_
    exact h2

theorem State.landChanges_keeps {s0} {a1} {a2} (g1 : Keeps s0 a1) : Keeps s0 (State.landChanges a1 a2) := by
  unfold State.landChanges
  extract_lets -underBinder -merge -useContext +onlyGivenNames v1
  clear_value v1
  extract_lets -underBinder -merge -useContext +onlyGivenNames v2
  clear_value v2
  extract_lets -underBinder -merge -useContext +onlyGivenNames v3
  have h4 : Keeps s0 v3 := by
    refine Keeps.parts ?_ rfl rfl
    exact g1
  clear_value v3
  refine Keeps.each ?_ fun s5 x6 h7 => ?_
  · exact h4
  · refine State.applyChange_keeps ?_
    exact h7

theorem State.catAbsent_keeps {s0} {a1} (g1 : Keeps s0 a1) : Keeps s0 (State.catAbsent a1) := by
  unfold State.catAbsent
  refine Keeps.each ?_ fun s1 x2 h3 => ?_
  · exact g1
  · refine State.setSvc_keeps ?_
    refine State.setReasons_keeps ?_
    exact h3

end Sys2Proof.Machine
end

