-- ==== Sys2Proof/Laws/KeepsLink.lean ====
section
/-!
SUPPORT. What the operations of Machine/Link.lean do to the queue, the fuses and the tables.
-/

namespace Sys2Proof.Machine

theorem State.sendMsg_keeps {s0} {a1} {a2} {a3} (g1 : Keeps s0 a1) : Keeps s0 (State.sendMsg a1 a2 a3) := by
  unfold State.sendMsg
  refine Keeps.ite ?_ ?_
  · exact g1
  · extract_lets -underBinder -merge -useContext +onlyGivenNames v1
    clear_value v1
    extract_lets -underBinder -merge -useContext +onlyGivenNames v2
    clear_value v2
    extract_lets -underBinder -merge -useContext +onlyGivenNames v3
    have h4 : Keeps s0 v3 := by
      refine State.setLink_keeps ?_
      exact g1
    clear_value v3
    refine State.emit_keeps ?_
    exact h4

theorem State.resend_keeps {s0} {a1} {a2} {a3} (g1 : Keeps s0 a1) : Keeps s0 (State.resend a1 a2 a3) := by
  unfold State.resend
  extract_lets -underBinder -merge -useContext +onlyGivenNames v1
  clear_value v1
  split
  · refine Keeps.ite ?_ ?_
    · exact g1
    · extract_lets -underBinder -merge -useContext +onlyGivenNames v2
      clear_value v2
      extract_lets -underBinder -merge -useContext +onlyGivenNames v3
      clear_value v3
      extract_lets -underBinder -merge -useContext +onlyGivenNames v4
      have h5 : Keeps s0 v4 := by
        refine State.setLink_keeps ?_
        exact g1
      clear_value v4
      refine State.emit_keeps ?_
      refine State.bump_keeps ?_
      exact h5
  · refine State.bump_keeps ?_
    exact g1

theorem State.stray_keeps {s0} {a1} {a2} (g1 : Keeps s0 a1) : Keeps s0 (State.stray a1 a2) := by
  unfold State.stray
  refine State.bump_keeps ?_
  exact g1

theorem State.rxChecked_keeps {s0} {a1} {a2} {a3} {a4} (g1 : Keeps s0 a1) (g4 : ∀ y1 y2, Keeps s0 y1 → Keeps s0 (a4 y1 y2)) : Keeps s0 (State.rxChecked a1 a2 a3 a4) := by
  unfold State.rxChecked
  extract_lets -underBinder -merge -useContext +onlyGivenNames v1
  clear_value v1
  extract_lets -underBinder -merge -useContext +onlyGivenNames v2
  clear_value v2
  extract_lets -underBinder -merge -useContext +onlyGivenNames v3
  clear_value v3
  extract_lets -underBinder -merge -useContext +onlyGivenNames v4
  have h5 : Keeps s0 v4 := by
    refine State.setLink_keeps ?_
    exact g1
  clear_value v4
  split
  · refine g4 _ _ ?_
    exact h5
  · extract_lets -underBinder -merge -useContext +onlyGivenNames v6
    have h7 : Keeps s0 v6 := by
      refine State.bump_keeps ?_
      exact h5
    clear_value v6
    split
    · refine Keeps.ite ?_ ?_
      · refine State.emit_keeps ?_
        refine State.bump_keeps ?_
        exact h7
      · exact h7
    · exact h7
  · refine State.bump_keeps ?_
    exact h5
  · refine State.bump_keeps ?_
    exact h5

theorem State.rxMsg_keeps {s0} {a1} {a2} {a3} {a4} (g1 : Keeps s0 a1) (g4 : ∀ y1 y2, Keeps s0 y1 → Keeps s0 (a4 y1 y2)) : Keeps s0 (State.rxMsg a1 a2 a3 a4) := by
  unfold State.rxMsg
  refine Keeps.ite ?_ ?_
  · exact g1
  · refine Keeps.each ?_ fun s1 x2 h3 => ?_
    · exact g1
    · split
      · refine State.rxChecked_keeps ?_ ?_
        · exact h3
        · intro x4 x6 h5
          refine g4 _ _ ?_
          exact h5
      · refine State.bump_keeps ?_
        exact h3
      · refine State.stray_keeps ?_
        exact h3

theorem State.sendRequest_keeps {s0} {a1} {a2} {a3} {a4} {a5} {a6} (g1 : Keeps s0 a1) : Keeps s0 (State.sendRequest a1 a2 a3 a4 a5 a6) := by
  unfold State.sendRequest
  refine Keeps.ite ?_ ?_
  · exact g1
  · extract_lets -underBinder -merge -useContext +onlyGivenNames v1
    clear_value v1
    extract_lets -underBinder -merge -useContext +onlyGivenNames v2
    clear_value v2
    extract_lets -underBinder -merge -useContext +onlyGivenNames v3
    clear_value v3
    extract_lets -underBinder -merge -useContext +onlyGivenNames v4
    clear_value v4
    extract_lets -underBinder -merge -useContext +onlyGivenNames v5
    have h6 : Keeps s0 v5 := by
      refine Keeps.ite ?_ ?_
      · refine State.setLink_keeps ?_
        exact g1
      · refine State.setLink_keeps ?_
        exact g1
    clear_value v5
    refine State.sendMsg_keeps ?_
    exact h6

theorem State.refreshDrift_keeps {s0} {a1} {a2} (g1 : Keeps s0 a1) : Keeps s0 (State.refreshDrift a1 a2) := by
  unfold State.refreshDrift
  extract_lets -underBinder -merge -useContext +onlyGivenNames v1
  clear_value v1
  refine State.setBit_keeps ?_
  exact g1

theorem State.applyAcked_keeps {s0} {a1} {a2} {a3} (g1 : Keeps s0 a1) : Keeps s0 (State.applyAcked a1 a2 a3) := by
  unfold State.applyAcked
  extract_lets -underBinder -merge -useContext +onlyGivenNames v1
  clear_value v1
  extract_lets -underBinder -merge -useContext +onlyGivenNames v2
  clear_value v2
  extract_lets -underBinder -merge -useContext +onlyGivenNames v3
  clear_value v3
  extract_lets -underBinder -merge -useContext +onlyGivenNames v4
  clear_value v4
  extract_lets -underBinder -merge -useContext +onlyGivenNames v5
  have h6 : Keeps s0 v5 := by
    refine State.setCell_keeps ?_
    exact g1
  clear_value v5
  split
  · refine Keeps.ite ?_ ?_
    · exact h6
    · refine State.propose_keeps ?_
      exact h6
  · exact h6

theorem State.dropReq_keeps {s0} {a1} {a2} {a3} (g1 : Keeps s0 a1) : Keeps s0 (State.dropReq a1 a2 a3) := by
  unfold State.dropReq
  extract_lets -underBinder -merge -useContext +onlyGivenNames v1
  clear_value v1
  refine State.setLink_keeps ?_
  exact g1

theorem State.cellAnswers_keeps {s0} {a1} {a2} (g1 : Keeps s0 a1) : Keeps s0 (State.cellAnswers a1 a2) := by
  unfold State.cellAnswers
  refine Keeps.ite ?_ ?_
  · refine State.proposeReason_keeps ?_
    exact g1
  · exact g1

theorem State.ackFor_keeps {s0} {a1} {a2} {a3} {a4} (g1 : Keeps s0 a1) : Keeps s0 (State.ackFor a1 a2 a3 a4) := by
  unfold State.ackFor
  extract_lets -underBinder -merge -useContext +onlyGivenNames v1
  have h2 : Keeps s0 v1 := by
    refine State.cellAnswers_keeps ?_
    refine State.dropReq_keeps ?_
    exact g1
  clear_value v1
  split
  · refine State.setCell_keeps ?_
    exact h2
  · extract_lets -underBinder -merge -useContext +onlyGivenNames v3
    have h4 : Keeps s0 v3 := by
      refine State.applyAcked_keeps ?_
      exact h2
    clear_value v3
    refine State.setCell_keeps ?_
    exact h4
  · refine State.refreshDrift_keeps ?_
    refine State.applyAcked_keeps ?_
    exact h2
  · refine State.setCell_keeps ?_
    exact h2

theorem State.nakFor_keeps {s0} {a1} {a2} {a3} {a4} {a5} {a6} (g1 : Keeps s0 a1) : Keeps s0 (State.nakFor a1 a2 a3 a4 a5 a6) := by
  unfold State.nakFor
  extract_lets -underBinder -merge -useContext +onlyGivenNames v1
  have h2 : Keeps s0 v1 := by
    refine State.cellAnswers_keeps ?_
    refine State.dropReq_keeps ?_
    exact g1
  clear_value v1
  split
  · refine State.setCell_keeps ?_
    exact h2
  · refine State.setCell_keeps ?_
    exact h2
  · refine State.refreshDrift_keeps ?_
    exact h2
  · refine State.setCell_keeps ?_
    exact h2

theorem State.echoTimeout_keeps {s0} {a1} {a2} (g1 : Keeps s0 a1) : Keeps s0 (State.echoTimeout a1 a2) := by
  unfold State.echoTimeout
  extract_lets -underBinder -merge -useContext +onlyGivenNames v1
  clear_value v1
  refine Keeps.ite ?_ ?_
  · exact g1
  · refine Keeps.ite ?_ ?_
    · refine State.setLink_keeps ?_
      exact g1
    · refine State.proposeReason_keeps ?_
      refine State.bump_keeps ?_
      refine State.setLink_keeps ?_
      exact g1

theorem State.requestTimeout_keeps {s0} {a1} {a2} {a3} (g1 : Keeps s0 a1) : Keeps s0 (State.requestTimeout a1 a2 a3) := by
  unfold State.requestTimeout
  split
  · exact g1
  · refine Keeps.ite ?_ ?_
    · refine Keeps.ite ?_ ?_
      · exact g1
      · extract_lets -underBinder -merge -useContext +onlyGivenNames v1
        clear_value v1
        extract_lets -underBinder -merge -useContext +onlyGivenNames v2
        have h3 : Keeps s0 v2 := by
          refine State.setLink_keeps ?_
          exact g1
        clear_value v2
        refine State.sendMsg_keeps ?_
        exact h3
    · refine State.proposeReason_keeps ?_
      refine State.bump_keeps ?_
      refine State.dropReq_keeps ?_
      exact g1

theorem State.runAll_keeps {s0} {a1} (g1 : Keeps s0 a1) : Keeps s0 (State.runAll a1) := by
  unfold State.runAll
  refine Keeps.each ?_ fun s1 x2 h3 => ?_
  · exact g1
  · refine State.setLink_keeps ?_
    exact h3

theorem State.sendCall_keeps {s0} {a1} {a2} (g1 : Keeps s0 a1) : Keeps s0 (State.sendCall a1 a2) := by
  unfold State.sendCall
  extract_lets -underBinder -merge -useContext +onlyGivenNames v1
  clear_value v1
  extract_lets -underBinder -merge -useContext +onlyGivenNames v2
  clear_value v2
  split
  · exact g1
  · refine Keeps.ite ?_ ?_
    · exact g1
    · extract_lets -underBinder -merge -useContext +onlyGivenNames v3
      clear_value v3
      extract_lets -underBinder -merge -useContext +onlyGivenNames v4
      have h5 : Keeps s0 v4 := by
        refine State.setLink_keeps ?_
        exact g1
      clear_value v4
      refine State.sendMsg_keeps ?_
      exact h5

theorem State.startSegment_keeps {s0} {a1} {a2} {a3} {a4} (g1 : Keeps s0 a1) : Keeps s0 (State.startSegment a1 a2 a3 a4) := by
  unfold State.startSegment
  refine Keeps.ite ?_ ?_
  · exact g1
  · extract_lets -underBinder -merge -useContext +onlyGivenNames v1
    clear_value v1
    extract_lets -underBinder -merge -useContext +onlyGivenNames v2
    clear_value v2
    refine Keeps.ite ?_ ?_
    · extract_lets -underBinder -merge -useContext +onlyGivenNames v3
      clear_value v3
      extract_lets -underBinder -merge -useContext +onlyGivenNames v4
      have h5 : Keeps s0 v4 := by
        refine Keeps.parts ?_ rfl rfl
        exact g1
      clear_value v4
      refine State.set_keeps ?_
      exact h5
    · exact g1

theorem State.takeCall_keeps {s0} {a1} {a2} (g1 : Keeps s0 a1) : Keeps s0 (State.takeCall a1 a2) := by
  unfold State.takeCall
  split
  · exact g1
  · refine Keeps.ite ?_ ?_
    · exact g1
    · extract_lets -underBinder -merge -useContext +onlyGivenNames v1
      clear_value v1
      extract_lets -underBinder -merge -useContext +onlyGivenNames v2
      clear_value v2
      extract_lets -underBinder -merge -useContext +onlyGivenNames v3
      clear_value v3
      extract_lets -underBinder -merge -useContext +onlyGivenNames v4
      clear_value v4
      extract_lets -underBinder -merge -useContext +onlyGivenNames v5
      have h6 : ∀ x7 x9, Keeps s0 x7 → Keeps s0 (v5 x7 x9) := by
        intro x7 x9 h8
        dsimp -zeta only [v5]
        refine State.startSegment_keeps ?_
        refine State.propose_keeps ?_
        refine State.setLink_keeps ?_
        exact h8
      clear_value v5
      refine Keeps.ite ?_ ?_
      · refine h6 _ _ ?_
        exact g1
      · refine Keeps.ite ?_ ?_
        · refine h6 _ _ ?_
          exact g1
        · refine State.setLink_keeps ?_
          exact g1

theorem State.addSample_keeps {s0} {a1} {a2} {a3} {a4} (g1 : Keeps s0 a1) : Keeps s0 (State.addSample a1 a2 a3 a4) := by
  unfold State.addSample
  extract_lets -underBinder -merge -useContext +onlyGivenNames v1
  clear_value v1
  extract_lets -underBinder -merge -useContext +onlyGivenNames v2
  clear_value v2
  extract_lets -underBinder -merge -useContext +onlyGivenNames v3
  clear_value v3
  extract_lets -underBinder -merge -useContext +onlyGivenNames v4
  clear_value v4
  extract_lets -underBinder -merge -useContext +onlyGivenNames v5
  clear_value v5
  extract_lets -underBinder -merge -useContext +onlyGivenNames v6
  have h7 : Keeps s0 v6 := by
    refine State.setCell_keeps ?_
    exact g1
  clear_value v6
  refine State.setCell_keeps ?_
  exact h7

theorem State.finishMeasure_keeps {s0} {a1} {a2} (g1 : Keeps s0 a1) : Keeps s0 (State.finishMeasure a1 a2) := by
  unfold State.finishMeasure
  refine Keeps.ite ?_ ?_
  · exact g1
  · extract_lets -underBinder -merge -useContext +onlyGivenNames v1
    clear_value v1
    extract_lets -underBinder -merge -useContext +onlyGivenNames v2
    clear_value v2
    extract_lets -underBinder -merge -useContext +onlyGivenNames v3
    clear_value v3
    extract_lets -underBinder -merge -useContext +onlyGivenNames v4
    clear_value v4
    extract_lets -underBinder -merge -useContext +onlyGivenNames v5
    clear_value v5
    extract_lets -underBinder -merge -useContext +onlyGivenNames v6
    clear_value v6
    extract_lets -underBinder -merge -useContext +onlyGivenNames v7
    have h8 : Keeps s0 v7 := by
      refine State.setLink_keeps ?_
      exact g1
    clear_value v7
    extract_lets -underBinder -merge -useContext +onlyGivenNames v9
    have h10 : Keeps s0 v9 := by
      refine Keeps.each ?_ fun s11 x12 h13 => ?_
      · exact h8
      · refine Keeps.ite ?_ ?_
        · refine State.setCell_keeps ?_
          exact h13
        · exact h13
    clear_value v9
    extract_lets -underBinder -merge -useContext +onlyGivenNames v14
    have h15 : Keeps s0 v14 := by
      refine State.setBit_keeps ?_
      exact h10
    clear_value v14
    refine State.refreshDrift_keeps ?_
    refine State.propose_keeps ?_
    exact h15

theorem State.admissionComplete_keeps {s0} {a1} {a2} (g1 : Keeps s0 a1) : Keeps s0 (State.admissionComplete a1 a2) := by
  unfold State.admissionComplete
  extract_lets -underBinder -merge -useContext +onlyGivenNames v1
  clear_value v1
  refine Keeps.ite ?_ ?_
  · exact g1
  · split
    · exact g1
    · refine State.propose_keeps ?_
      exact g1
    · extract_lets -underBinder -merge -useContext +onlyGivenNames v2
      clear_value v2
      refine State.propose_keeps ?_
      exact g1

theorem State.linkCntClear_keeps {s0} {a1} {a2} (g1 : Keeps s0 a1) : Keeps s0 (State.linkCntClear a1 a2) := by
  unfold State.linkCntClear
  refine State.clearAll_keeps ?_
  exact g1

theorem State.catCntClear_keeps {s0} {a1} (g1 : Keeps s0 a1) : Keeps s0 (State.catCntClear a1) := by
  unfold State.catCntClear
  refine State.clearAll_keeps ?_
  exact g1

end Sys2Proof.Machine
end

