-- ==== Sys2Proof/Laws/KeepsLinkRx.lean ====
section
/-!
SUPPORT. What the operations of Machine/LinkRx.lean do to the queue, the fuses and the tables.
-/

namespace Sys2Proof.Machine

theorem State.faultReaction_keeps {s0} {a1} {a2} {a3} {a4} {a5} (g1 : Keeps s0 a1) : Keeps s0 (State.faultReaction a1 a2 a3 a4 a5) := by
  unfold State.faultReaction
  extract_lets -underBinder -merge -useContext +onlyGivenNames v1
  clear_value v1
  extract_lets -underBinder -merge -useContext +onlyGivenNames v2
  clear_value v2
  extract_lets -underBinder -merge -useContext +onlyGivenNames v3
  clear_value v3
  extract_lets -underBinder -merge -useContext +onlyGivenNames v4
  clear_value v4
  extract_lets -underBinder -merge -useContext +onlyGivenNames v5
  clear_value v5
  extract_lets -underBinder -merge -useContext +onlyGivenNames v6
  clear_value v6
  extract_lets -underBinder -merge -useContext +onlyGivenNames v7
  clear_value v7
  extract_lets -underBinder -merge -useContext +onlyGivenNames v8
  have h9 : Keeps s0 v8 := by
    refine State.safeLog_keeps ?_
    refine State.bump_keeps ?_
    exact g1
  clear_value v8
  extract_lets -underBinder -merge -useContext +onlyGivenNames v10
  have h11 : Keeps s0 v10 := by
    refine State.noteEvent_keeps ?_
    refine State.noteEvent_keeps ?_
    refine State.noteEvent_keeps ?_
    exact h9
  clear_value v10
  extract_lets -underBinder -merge -useContext +onlyGivenNames v12
  clear_value v12
  extract_lets -underBinder -merge -useContext +onlyGivenNames v13
  have h14 : Keeps s0 v13 := by
    refine Keeps.parts ?_ rfl rfl
    exact h11
  clear_value v13
  extract_lets -underBinder -merge -useContext +onlyGivenNames v15
  have h16 : Keeps s0 v15 := by
    refine State.huskOn_keeps ?_
    exact h14
  clear_value v15
  extract_lets -underBinder -merge -useContext +onlyGivenNames v17
  have h18 : Keeps s0 v17 := by
    refine State.propose_keeps ?_
    exact h16
  clear_value v17
  refine Keeps.ite ?_ ?_
  · refine State.recordSbk_keeps ?_
    exact h18
  · exact h18

theorem State.huskReceived_keeps {s0} {a1} {a2} {a3} (g1 : Keeps s0 a1) : Keeps s0 (State.huskReceived a1 a2 a3) := by
  unfold State.huskReceived
  extract_lets -underBinder -merge -useContext +onlyGivenNames v1
  have h2 : Keeps s0 v1 := by
    refine State.safeLog_keeps ?_
    refine State.bump_keeps ?_
    exact g1
  clear_value v1
  extract_lets -underBinder -merge -useContext +onlyGivenNames v3
  clear_value v3
  refine Keeps.ite ?_ ?_
  · exact h2
  · refine Keeps.parts ?_ rfl rfl
    exact h2

theorem State.rxFault_keeps {s0} {a1} {a2} {a3} {a4} {a5} (g1 : Keeps s0 a1) : Keeps s0 (State.rxFault a1 a2 a3 a4 a5) := by
  unfold State.rxFault
  extract_lets -underBinder -merge -useContext +onlyGivenNames v1
  clear_value v1
  refine Keeps.ite ?_ ?_
  · refine State.bump_keeps ?_
    exact g1
  · refine Keeps.ite ?_ ?_
    · refine State.stray_keeps ?_
      exact g1
    · refine Keeps.ite ?_ ?_
      · refine State.bump_keeps ?_
        exact g1
      · extract_lets -underBinder -merge -useContext +onlyGivenNames v2
        clear_value v2
        extract_lets -underBinder -merge -useContext +onlyGivenNames v3
        have h4 : Keeps s0 v3 := by
          refine State.setLink_keeps ?_
          exact g1
        clear_value v3
        refine State.faultReaction_keeps ?_
        refine State.bump_keeps ?_
        exact h4

theorem State.hearReport_keeps {s0} {a1} {a2} (g1 : Keeps s0 a1) : Keeps s0 (State.hearReport a1 a2) := by
  unfold State.hearReport
  extract_lets -underBinder -merge -useContext +onlyGivenNames v1
  clear_value v1
  extract_lets -underBinder -merge -useContext +onlyGivenNames v2
  refine Keeps.ite ?_ ?_
  · refine Keeps.ite ?_ ?_
    · refine Keeps.parts ?_ rfl rfl
      exact g1
    · exact g1
  · refine Keeps.ite ?_ ?_
    · refine Keeps.parts ?_ rfl rfl
      exact g1
    · exact g1

theorem State.takeTag_keeps {s0} {a1} {a2} {a3} {a4} (g1 : Keeps s0 a1) : Keeps s0 (State.takeTag a1 a2 a3 a4) := by
  unfold State.takeTag
  extract_lets -underBinder -merge -useContext +onlyGivenNames v1
  extract_lets -underBinder -merge -useContext +onlyGivenNames v2
  have h3 : Keeps s0 v2 := by
    unfold v2
    split
    · refine Keeps.ite ?_ ?_
      · refine State.ackFor_keeps ?_
        exact g1
      · exact g1
    · exact g1
  extract_lets -underBinder -merge -useContext +onlyGivenNames v4
  extract_lets -underBinder -merge -useContext +onlyGivenNames v5
  extract_lets -underBinder -merge -useContext +onlyGivenNames v6
  have h7 : Keeps s0 v6 := by
    refine State.setCell_keeps ?_
    exact h3
  refine Keeps.ite ?_ ?_
  · refine State.proposeReason_keeps ?_
    exact h7
  · exact h7

theorem State.takeFlags_keeps {s0} {a1} {a2} {a3} (g1 : Keeps s0 a1) : Keeps s0 (State.takeFlags a1 a2 a3) := by
  unfold State.takeFlags
  extract_lets -underBinder -merge -useContext +onlyGivenNames v1
  have h2 : Keeps s0 v1 := by
    refine Keeps.ite ?_ ?_
    · refine State.bump_keeps ?_
      exact g1
    · exact g1
  clear_value v1
  refine Keeps.ite ?_ ?_
  · refine State.proposeReason_keeps ?_
    exact h2
  · exact h2

theorem State.takeReport_keeps {s0} {a1} {a2} {a3} {a4} {a5} (g1 : Keeps s0 a1) : Keeps s0 (State.takeReport a1 a2 a3 a4 a5) := by
  unfold State.takeReport
  split
  · extract_lets -underBinder -merge -useContext +onlyGivenNames v1
    clear_value v1
    refine Keeps.ite ?_ ?_
    · refine State.stray_keeps ?_
      exact g1
    · refine Keeps.ite ?_ ?_
      · refine State.bump_keeps ?_
        exact g1
      · refine Keeps.ite ?_ ?_
        · extract_lets -underBinder -merge -useContext +onlyGivenNames v2
          clear_value v2
          extract_lets -underBinder -merge -useContext +onlyGivenNames v3
          clear_value v3
          extract_lets -underBinder -merge -useContext +onlyGivenNames v4
          have h5 : Keeps s0 v4 := by
            refine State.setInput_keeps ?_
            refine State.bump_keeps ?_
            exact g1
          clear_value v4
          refine State.setLink_keeps ?_
          exact h5
        · extract_lets -underBinder -merge -useContext +onlyGivenNames v6
          clear_value v6
          extract_lets -underBinder -merge -useContext +onlyGivenNames v7
          clear_value v7
          extract_lets -underBinder -merge -useContext +onlyGivenNames v8
          clear_value v8
          extract_lets -underBinder -merge -useContext +onlyGivenNames v9
          have h10 : Keeps s0 v9 := by
            refine State.hearReport_keeps ?_
            refine State.setInput_keeps ?_
            exact g1
          clear_value v9
          extract_lets -underBinder -merge -useContext +onlyGivenNames v11
          clear_value v11
          extract_lets -underBinder -merge -useContext +onlyGivenNames v12
          clear_value v12
          extract_lets -underBinder -merge -useContext +onlyGivenNames v13
          clear_value v13
          extract_lets -underBinder -merge -useContext +onlyGivenNames v14
          clear_value v14
          extract_lets -underBinder -merge -useContext +onlyGivenNames v15
          clear_value v15
          extract_lets -underBinder -merge -useContext +onlyGivenNames v16
          extract_lets -underBinder -merge -useContext +onlyGivenNames v17
          have h18 : Keeps s0 v17 := by
            refine State.setCell_keeps ?_
            exact h10
          clear_value v17
          extract_lets -underBinder -merge -useContext +onlyGivenNames v19
          have h20 : Keeps s0 v19 := by
            refine State.takeFlags_keeps ?_
            refine State.takeTag_keeps ?_
            exact h18
          clear_value v19
          extract_lets -underBinder -merge -useContext +onlyGivenNames v21
          clear_value v21
          extract_lets -underBinder -merge -useContext +onlyGivenNames v22
          have h23 : Keeps s0 v22 := by
            refine Keeps.ite ?_ ?_
            · exact h20
            · refine State.setLink_keeps ?_
              exact h20
          clear_value v22
          refine Keeps.ite ?_ ?_
          · refine State.addSample_keeps ?_
            exact h23
          · exact h23
  · refine State.stray_keeps ?_
    exact g1

theorem State.takeReply_keeps {s0} {a1} {a2} {a3} {a4} (g1 : Keeps s0 a1) : Keeps s0 (State.takeReply a1 a2 a3 a4) := by
  unfold State.takeReply
  split
  · extract_lets -underBinder -merge -useContext +onlyGivenNames v1
    clear_value v1
    refine Keeps.ite ?_ ?_
    · refine State.stray_keeps ?_
      exact g1
    · split
      · exact g1
      · refine Keeps.ite ?_ ?_
        · refine State.ackFor_keeps ?_
          exact g1
        · refine State.nakFor_keeps ?_
          exact g1
  · refine State.stray_keeps ?_
    exact g1

theorem State.takeAnnounce_keeps {s0} {a1} {a2} {a3} (g1 : Keeps s0 a1) : Keeps s0 (State.takeAnnounce a1 a2 a3) := by
  unfold State.takeAnnounce
  split
  · extract_lets -underBinder -merge -useContext +onlyGivenNames v1
    clear_value v1
    refine Keeps.ite ?_ ?_
    · refine State.stray_keeps ?_
      exact g1
    · split
      · refine Keeps.ite ?_ ?_
        · refine Keeps.ite ?_ ?_
          · exact g1
          · refine State.setLink_keeps ?_
            exact g1
        · refine State.bump_keeps ?_
          exact g1
      · refine State.bump_keeps ?_
        exact g1
  · refine State.stray_keeps ?_
    exact g1

theorem State.takeEcho_keeps {s0} {a1} {a2} {a3} {a4} (g1 : Keeps s0 a1) : Keeps s0 (State.takeEcho a1 a2 a3 a4) := by
  unfold State.takeEcho
  split
  · extract_lets -underBinder -merge -useContext +onlyGivenNames v1
    clear_value v1
    refine Keeps.ite ?_ ?_
    · refine State.stray_keeps ?_
      exact g1
    · split
      · refine Keeps.ite ?_ ?_
        · exact g1
        · extract_lets -underBinder -merge -useContext +onlyGivenNames v2
          clear_value v2
          extract_lets -underBinder -merge -useContext +onlyGivenNames v3
          clear_value v3
          extract_lets -underBinder -merge -useContext +onlyGivenNames v4
          clear_value v4
          extract_lets -underBinder -merge -useContext +onlyGivenNames v5
          clear_value v5
          refine State.setLink_keeps ?_
          exact g1
      · exact g1
  · refine State.stray_keeps ?_
    exact g1

theorem State.fixVersion_keeps {s0} {a1} {a2} {a3} (g1 : Keeps s0 a1) : Keeps s0 (State.fixVersion a1 a2 a3) := by
  unfold State.fixVersion
  extract_lets -underBinder -merge -useContext +onlyGivenNames v1
  clear_value v1
  extract_lets -underBinder -merge -useContext +onlyGivenNames v2
  clear_value v2
  extract_lets -underBinder -merge -useContext +onlyGivenNames v3
  clear_value v3
  extract_lets -underBinder -merge -useContext +onlyGivenNames v4
  clear_value v4
  refine Keeps.ite ?_ ?_
  · exact g1
  · extract_lets -underBinder -merge -useContext +onlyGivenNames v5
    have h6 : Keeps s0 v5 := by
      refine State.refreshVersion_keeps ?_
      refine State.set_keeps ?_
      exact g1
    clear_value v5
    refine Keeps.ite ?_ ?_
    · exact h6
    · refine Keeps.each ?_ fun s7 x8 h9 => ?_
      · exact h6
      · refine Keeps.ite ?_ ?_
        · refine State.proposeReason_keeps ?_
          exact h9
        · exact h9

theorem State.sendEcho_keeps {s0} {a1} {a2} {a3} (g1 : Keeps s0 a1) : Keeps s0 (State.sendEcho a1 a2 a3) := by
  unfold State.sendEcho
  refine Keeps.ite ?_ ?_
  · exact g1
  · extract_lets -underBinder -merge -useContext +onlyGivenNames v1
    clear_value v1
    extract_lets -underBinder -merge -useContext +onlyGivenNames v2
    clear_value v2
    extract_lets -underBinder -merge -useContext +onlyGivenNames v3
    have h4 : Keeps s0 v3 := by
      refine State.setLink_keeps ?_
      exact g1
    clear_value v3
    refine State.sendMsg_keeps ?_
    exact h4

theorem execFaultRx_keeps {s0} {a1} {a2} {a3} {a4} {a5} (g5 : Keeps s0 a5) : KeepsN s0 (execFaultRx a1 a2 a3 a4 a5) := by
  unfold execFaultRx
  refine KeepsN.next ?_
  refine State.rxFault_keeps ?_
  exact g5

theorem execHuskRx_keeps {s0} {a1} {a2} {a3} (g3 : Keeps s0 a3) : KeepsN s0 (execHuskRx a1 a2 a3) := by
  unfold execHuskRx
  refine KeepsN.next ?_
  refine Keeps.ite ?_ ?_
  · refine State.huskReceived_keeps ?_
    exact g3
  · exact g3

theorem execReportRx_keeps {s0} {a1} {a2} {a3} {a4} {a5} (g5 : Keeps s0 a5) : KeepsN s0 (execReportRx a1 a2 a3 a4 a5) := by
  unfold execReportRx
  refine KeepsN.next ?_
  refine State.rxMsg_keeps ?_ ?_
  · exact g5
  · intro x1 x3 h2
    refine State.takeReport_keeps ?_
    exact h2

theorem execAckRx_keeps {s0} {a1} {a2} {a3} (g3 : Keeps s0 a3) : KeepsN s0 (execAckRx a1 a2 a3) := by
  unfold execAckRx
  refine KeepsN.next ?_
  refine State.rxMsg_keeps ?_ ?_
  · exact g3
  · intro x1 x3 h2
    refine State.takeReply_keeps ?_
    exact h2

theorem execNakMsgRx_keeps {s0} {a1} {a2} {a3} (g3 : Keeps s0 a3) : KeepsN s0 (execNakMsgRx a1 a2 a3) := by
  unfold execNakMsgRx
  refine KeepsN.next ?_
  refine State.rxMsg_keeps ?_ ?_
  · exact g3
  · intro x1 x3 h2
    refine State.takeReply_keeps ?_
    exact h2

theorem execAnnounceRx_keeps {s0} {a1} {a2} {a3} (g3 : Keeps s0 a3) : KeepsN s0 (execAnnounceRx a1 a2 a3) := by
  unfold execAnnounceRx
  refine KeepsN.next ?_
  refine State.rxMsg_keeps ?_ ?_
  · exact g3
  · intro x1 x3 h2
    refine State.takeAnnounce_keeps ?_
    exact h2

theorem execEchoRespRx_keeps {s0} {a1} {a2} {a3} {a4} (g4 : Keeps s0 a4) : KeepsN s0 (execEchoRespRx a1 a2 a3 a4) := by
  unfold execEchoRespRx
  refine KeepsN.next ?_
  refine State.rxMsg_keeps ?_ ?_
  · exact g4
  · intro x1 x3 h2
    refine State.takeEcho_keeps ?_
    exact h2

theorem execNakSetRx_keeps {s0} {a1} {a2} {a3} (g3 : Keeps s0 a3) : KeepsN s0 (execNakSetRx a1 a2 a3) := by
  unfold execNakSetRx
  refine KeepsN.next ?_
  refine Keeps.ite ?_ ?_
  · refine State.bump_keeps ?_
    exact g3
  · extract_lets -underBinder -merge -useContext +onlyGivenNames v1
    have h2 : Keeps s0 v1 := by
      refine State.bump_keeps ?_
      exact g3
    clear_value v1
    refine Keeps.ite ?_ ?_
    · refine State.resend_keeps ?_
      exact h2
    · exact h2

theorem execUnknownMessageRx_keeps {s0} {a1} {a2} {a3} (g3 : Keeps s0 a3) : KeepsN s0 (execUnknownMessageRx a1 a2 a3) := by
  unfold execUnknownMessageRx
  refine KeepsN.next ?_
  refine State.rxMsg_keeps ?_ ?_
  · exact g3
  · intro x1 x3 h2
    refine Keeps.ite ?_ ?_
    · exact h2
    · refine State.bump_keeps ?_
      exact h2

theorem execHopVersionFixed_keeps {s0} {a1} {a2} {a3} (g3 : Keeps s0 a3) : KeepsN s0 (execHopVersionFixed a1 a2 a3) := by
  unfold execHopVersionFixed
  refine KeepsN.next ?_
  refine State.fixVersion_keeps ?_
  exact g3

theorem execConfigSend_keeps {s0} {a1} {a2} {a3} {a4} {a5} {a6} {a7} (g7 : Keeps s0 a7) : KeepsN s0 (execConfigSend a1 a2 a3 a4 a5 a6 a7) := by
  unfold execConfigSend
  refine KeepsN.next ?_
  refine Keeps.ite ?_ ?_
  · exact g7
  · refine Keeps.ite ?_ ?_
    · refine State.refreshDrift_keeps ?_
      exact g7
    · refine State.sendRequest_keeps ?_
      exact g7

theorem execTestSend_keeps {s0} {a1} {a2} {a3} {a4} {a5} {a6} (g6 : Keeps s0 a6) : KeepsN s0 (execTestSend a1 a2 a3 a4 a5 a6) := by
  unfold execTestSend
  refine KeepsN.next ?_
  refine Keeps.ite ?_ ?_
  · exact g6
  · extract_lets -underBinder -merge -useContext +onlyGivenNames v1
    clear_value v1
    extract_lets -underBinder -merge -useContext +onlyGivenNames v2
    have h3 : Keeps s0 v2 := by
      refine Keeps.each ?_ fun s4 x5 h6 => ?_
      · exact g6
      · refine State.setCell_keeps ?_
        exact h6
    clear_value v2
    extract_lets -underBinder -merge -useContext +onlyGivenNames v7
    clear_value v7
    extract_lets -underBinder -merge -useContext +onlyGivenNames v8
    have h9 : Keeps s0 v8 := by
      refine Keeps.ite ?_ ?_
      · refine Keeps.ite ?_ ?_
        · exact h3
        · refine State.setLink_keeps ?_
          exact h3
      · exact g6
    clear_value v8
    refine State.sendRequest_keeps ?_
    exact h9

theorem execSyncSend_keeps {s0} {a1} {a2} {a3} (g3 : Keeps s0 a3) : KeepsN s0 (execSyncSend a1 a2 a3) := by
  unfold execSyncSend
  refine KeepsN.next ?_
  refine Keeps.ite ?_ ?_
  · exact g3
  · refine State.sendMsg_keeps ?_
    refine State.setLink_keeps ?_
    exact g3

theorem execCallSend_keeps {s0} {a1} {a2} (g2 : Keeps s0 a2) : KeepsN s0 (execCallSend a1 a2) := by
  unfold execCallSend
  refine KeepsN.next ?_
  refine State.sendCall_keeps ?_
  exact g2

theorem execEchoReqSend_keeps {s0} {a1} {a2} {a3} (g3 : Keeps s0 a3) : KeepsN s0 (execEchoReqSend a1 a2 a3) := by
  unfold execEchoReqSend
  refine KeepsN.next ?_
  refine State.sendEcho_keeps ?_
  exact g3

theorem execRequestTimeout_keeps {s0} {a1} {a2} {a3} (g3 : Keeps s0 a3) : KeepsN s0 (execRequestTimeout a1 a2 a3) := by
  unfold execRequestTimeout
  refine KeepsN.next ?_
  refine Keeps.ite ?_ ?_
  · refine State.echoTimeout_keeps ?_
    exact g3
  · refine State.requestTimeout_keeps ?_
    exact g3

theorem execDiscWaitExpiry_keeps {s0} {a1} {a2} (g2 : Keeps s0 a2) : KeepsN s0 (execDiscWaitExpiry a1 a2) := by
  unfold execDiscWaitExpiry
  refine KeepsN.next ?_
  refine State.takeCall_keeps ?_
  exact g2

theorem execDiscPeriodExpiry_keeps {s0} {a1} (g1 : Keeps s0 a1) : KeepsN s0 (execDiscPeriodExpiry a1) := by
  unfold execDiscPeriodExpiry
  refine KeepsN.next ?_
  refine State.runAll_keeps ?_
  exact g1

theorem execRemeasPeriodExpiry_keeps {s0} {a1} {a2} (g2 : Keeps s0 a2) : KeepsN s0 (execRemeasPeriodExpiry a1 a2) := by
  unfold execRemeasPeriodExpiry
  refine KeepsN.next ?_
  refine Keeps.ite ?_ ?_
  · exact g2
  · refine State.startMeasure_keeps ?_
    exact g2

theorem execScheduleDeviation_keeps {s0} {a1} {a2} (g2 : Keeps s0 a2) : KeepsN s0 (execScheduleDeviation a1 a2) := by
  unfold execScheduleDeviation
  refine KeepsN.next ?_
  refine Keeps.ite ?_ ?_
  · exact g2
  · refine State.startMeasure_keeps ?_
    exact g2

theorem execLatencyMeasured_keeps {s0} {a1} {a2} (g2 : Keeps s0 a2) : KeepsN s0 (execLatencyMeasured a1 a2) := by
  unfold execLatencyMeasured
  refine KeepsN.next ?_
  refine State.finishMeasure_keeps ?_
  exact g2

theorem execAdmitRetryExpiry_keeps {s0} {a1} (g1 : Keeps s0 a1) : KeepsN s0 (execAdmitRetryExpiry a1) := by
  unfold execAdmitRetryExpiry
  refine KeepsN.next ?_
  refine Keeps.each ?_ fun s1 x2 h3 => ?_
  · exact g1
  · refine Keeps.ite ?_ ?_
    · exact h3
    · refine State.tryAdmit_keeps ?_
      exact h3

theorem execAdmissionComplete_keeps {s0} {a1} {a2} (g2 : Keeps s0 a2) : KeepsN s0 (execAdmissionComplete a1 a2) := by
  unfold execAdmissionComplete
  refine KeepsN.next ?_
  refine State.admissionComplete_keeps ?_
  exact g2

end Sys2Proof.Machine
end

