-- ==== Sys2Proof/Laws/KeepsLanes.lean ====
section
/-!
SUPPORT. What the operations of Machine/Lanes.lean do to the queue, the fuses and the tables.
-/

namespace Sys2Proof.Machine

theorem State.setTaps_keeps {s0} {a1} {a2} {a3} (g1 : Keeps s0 a1) : Keeps s0 (State.setTaps a1 a2 a3) := by
  unfold State.setTaps
  refine State.set_keeps ?_
  refine State.set_keeps ?_
  refine State.set_keeps ?_
  exact g1

theorem State.setWidth_keeps {s0} {a1} {a2} (g1 : Keeps s0 a1) : Keeps s0 (State.setWidth a1 a2) := by
  unfold State.setWidth
  refine State.setB_keeps ?_
  refine State.set_keeps ?_
  refine State.set_keeps ?_
  exact g1

theorem State.bondFault_keeps {s0} {a1} {a2} (g1 : Keeps s0 a1) : Keeps s0 (State.bondFault a1 a2) := by
  unfold State.bondFault
  extract_lets -underBinder -merge -useContext +onlyGivenNames v1
  have h2 : Keeps s0 v1 := by
    refine State.setWidth_keeps ?_
    refine State.bump_keeps ?_
    exact g1
  clear_value v1
  extract_lets -underBinder -merge -useContext +onlyGivenNames v3
  clear_value v3
  extract_lets -underBinder -merge -useContext +onlyGivenNames v4
  have h5 : Keeps s0 v4 := by
    refine Keeps.parts ?_ rfl rfl
    exact h2
  clear_value v4
  refine Keeps.each ?_ fun s6 x7 h8 => ?_
  · exact h5
  · refine State.set_keeps ?_
    refine State.set_keeps ?_
    exact h8

theorem State.bondJoin_keeps {s0} {a1} (g1 : Keeps s0 a1) : Keeps s0 (State.bondJoin a1) := by
  unfold State.bondJoin
  extract_lets -underBinder -merge -useContext +onlyGivenNames v1
  clear_value v1
  extract_lets -underBinder -merge -useContext +onlyGivenNames v2
  clear_value v2
  refine Keeps.ite ?_ ?_
  · refine State.bondFault_keeps ?_
    exact g1
  · refine Keeps.ite ?_ ?_
    · refine Keeps.ite ?_ ?_
      · exact g1
      · extract_lets -underBinder -merge -useContext +onlyGivenNames v3
        clear_value v3
        refine Keeps.ite ?_ ?_
        · refine State.setWidth_keeps ?_
          refine State.setB_keeps ?_
          refine Keeps.parts ?_ rfl rfl
          exact g1
        · refine State.bondFault_keeps ?_
          exact g1
    · refine Keeps.ite ?_ ?_
      · refine Keeps.parts ?_ rfl rfl
        exact g1
      · refine Keeps.ite ?_ ?_
        · refine Keeps.ite ?_ ?_
          · refine State.setWidth_keeps ?_
            refine State.set_keeps ?_
            exact g1
          · refine Keeps.ite ?_ ?_
            · refine State.setWidth_keeps ?_
              refine State.set_keeps ?_
              exact g1
            · exact g1
        · exact g1

theorem State.bondNarrow_keeps {s0} {a1} (g1 : Keeps s0 a1) : Keeps s0 (State.bondNarrow a1) := by
  unfold State.bondNarrow
  extract_lets -underBinder -merge -useContext +onlyGivenNames v1
  clear_value v1
  extract_lets -underBinder -merge -useContext +onlyGivenNames v2
  have h3 : Keeps s0 v2 := by
    refine Keeps.ite ?_ ?_
    · exact g1
    · refine Keeps.parts ?_ rfl rfl
      exact g1
  clear_value v2
  refine Keeps.ite ?_ ?_
  · exact h3
  · extract_lets -underBinder -merge -useContext +onlyGivenNames v4
    clear_value v4
    extract_lets -underBinder -merge -useContext +onlyGivenNames v5
    have h6 : Keeps s0 v5 := by
      refine Keeps.parts ?_ rfl rfl
      exact h3
    clear_value v5
    refine Keeps.ite ?_ ?_
    · refine State.setWidth_keeps ?_
      refine State.set_keeps ?_
      exact h6
    · refine Keeps.ite ?_ ?_
      · refine State.setWidth_keeps ?_
        refine State.set_keeps ?_
        exact h6
      · refine State.setWidth_keeps ?_
        exact h6

theorem State.leaveUp_keeps {s0} {a1} {a2} (g1 : Keeps s0 a1) : Keeps s0 (State.leaveUp a1 a2) := by
  unfold State.leaveUp
  refine Keeps.ite ?_ ?_
  · extract_lets -underBinder -merge -useContext +onlyGivenNames v1
    clear_value v1
    extract_lets -underBinder -merge -useContext +onlyGivenNames v2
    have h3 : Keeps s0 v2 := by
      refine State.setLink_keeps ?_
      refine State.set_keeps ?_
      exact g1
    clear_value v2
    extract_lets -underBinder -merge -useContext +onlyGivenNames v4
    clear_value v4
    extract_lets -underBinder -merge -useContext +onlyGivenNames v5
    clear_value v5
    extract_lets -underBinder -merge -useContext +onlyGivenNames v6
    have h7 : Keeps s0 v6 := by
      refine State.setLane_keeps ?_
      exact h3
    clear_value v6
    refine State.refreshVersion_keeps ?_
    exact h7
  · refine Keeps.ite ?_ ?_
    · refine State.bondNarrow_keeps ?_
      exact g1
    · exact g1

theorem State.setLaneSt_keeps {s0} {a1} {a2} {a3} (g1 : Keeps s0 a1) : Keeps s0 (State.setLaneSt a1 a2 a3) := by
  unfold State.setLaneSt
  extract_lets -underBinder -merge -useContext +onlyGivenNames v1
  clear_value v1
  extract_lets -underBinder -merge -useContext +onlyGivenNames v2
  have h3 : Keeps s0 v2 := by
    refine State.set_keeps ?_
    exact g1
  clear_value v2
  refine Keeps.ite ?_ ?_
  · refine State.leaveUp_keeps ?_
    exact h3
  · exact h3

theorem State.enterBase_keeps {s0} {a1} {a2} (g1 : Keeps s0 a1) : Keeps s0 (State.enterBase a1 a2) := by
  unfold State.enterBase
  extract_lets -underBinder -merge -useContext +onlyGivenNames v1
  have h2 : Keeps s0 v1 := by
    refine State.setB_keeps ?_
    refine State.setLaneSt_keeps ?_
    exact g1
  clear_value v1
  extract_lets -underBinder -merge -useContext +onlyGivenNames v3
  have h4 : Keeps s0 v3 := by
    refine State.set_keeps ?_
    exact h2
  clear_value v3
  extract_lets -underBinder -merge -useContext +onlyGivenNames v5
  clear_value v5
  refine State.setLane_keeps ?_
  exact h4

theorem State.enterFinal_keeps {s0} {a1} {a2} {a3} (g1 : Keeps s0 a1) : Keeps s0 (State.enterFinal a1 a2 a3) := by
  unfold State.enterFinal
  extract_lets -underBinder -merge -useContext +onlyGivenNames v1
  have h2 : Keeps s0 v1 := by
    refine State.setB_keeps ?_
    refine State.setLaneSt_keeps ?_
    exact g1
  clear_value v1
  extract_lets -underBinder -merge -useContext +onlyGivenNames v3
  have h4 : Keeps s0 v3 := by
    refine State.set_keeps ?_
    exact h2
  clear_value v3
  extract_lets -underBinder -merge -useContext +onlyGivenNames v5
  clear_value v5
  refine State.setLane_keeps ?_
  exact h4

theorem State.leaveDetect_keeps {s0} {a1} {a2} (g1 : Keeps s0 a1) : Keeps s0 (State.leaveDetect a1 a2) := by
  unfold State.leaveDetect
  refine Keeps.ite ?_ ?_
  · refine State.enterFinal_keeps ?_
    exact g1
  · refine State.enterBase_keeps ?_
    exact g1

theorem State.presetLane_keeps {s0} {a1} {a2} (g1 : Keeps s0 a1) : Keeps s0 (State.presetLane a1 a2) := by
  unfold State.presetLane
  refine State.setTaps_keeps ?_
  exact g1

theorem State.enterDetect_keeps {s0} {a1} {a2} (g1 : Keeps s0 a1) : Keeps s0 (State.enterDetect a1 a2) := by
  unfold State.enterDetect
  extract_lets -underBinder -merge -useContext +onlyGivenNames v1
  have h2 : Keeps s0 v1 := by
    refine State.set_keeps ?_
    refine State.setB_keeps ?_
    refine State.setLaneSt_keeps ?_
    exact g1
  clear_value v1
  extract_lets -underBinder -merge -useContext +onlyGivenNames v3
  have h4 : Keeps s0 v3 := by
    refine State.presetLane_keeps ?_
    refine State.set_keeps ?_
    refine State.setB_keeps ?_
    exact h2
  clear_value v3
  extract_lets -underBinder -merge -useContext +onlyGivenNames v5
  clear_value v5
  extract_lets -underBinder -merge -useContext +onlyGivenNames v6
  clear_value v6
  extract_lets -underBinder -merge -useContext +onlyGivenNames v7
  have h8 : Keeps s0 v7 := by
    refine State.setLane_keeps ?_
    exact h4
  clear_value v7
  refine Keeps.ite ?_ ?_
  · exact h8
  · refine State.leaveDetect_keeps ?_
    exact h8

theorem State.stnTrained_keeps {s0} {a1} {a2} (g1 : Keeps s0 a1) : Keeps s0 (State.stnTrained a1 a2) := by
  unfold State.stnTrained
  split
  rename_i x2 x3 q6
  have e5 : _ = x3 := congrArg Prod.snd q6
  have h1 : Keeps s0 x3 := by
    rw [← e5]
    refine State.free_keeps ?_
    exact g1
  extract_lets -underBinder -merge -useContext +onlyGivenNames v4
  clear_value v4
  refine Keeps.ite ?_ ?_
  · refine State.setTaps_keeps ?_
    exact h1
  · exact h1

theorem State.enterUp_keeps {s0} {a1} {a2} (g1 : Keeps s0 a1) : Keeps s0 (State.enterUp a1 a2) := by
  unfold State.enterUp
  extract_lets -underBinder -merge -useContext +onlyGivenNames v1
  have h2 : Keeps s0 v1 := by
    refine State.set_keeps ?_
    exact g1
  clear_value v1
  refine Keeps.ite ?_ ?_
  · refine Keeps.ite ?_ ?_
    · refine State.stnTrained_keeps ?_
      exact h2
    · exact h2
  · refine Keeps.ite ?_ ?_
    · refine State.setLink_keeps ?_
      exact h2
    · refine Keeps.ite ?_ ?_
      · refine State.bondJoin_keeps ?_
        exact h2
      · exact h2

theorem State.disableLane_keeps {s0} {a1} {a2} (g1 : Keeps s0 a1) : Keeps s0 (State.disableLane a1 a2) := by
  unfold State.disableLane
  refine State.setLane_keeps ?_
  refine State.set_keeps ?_
  refine State.setB_keeps ?_
  refine State.setLaneSt_keeps ?_
  exact g1

theorem State.startTraining_keeps {s0} {a1} {a2} (g1 : Keeps s0 a1) : Keeps s0 (State.startTraining a1 a2) := by
  unfold State.startTraining
  refine Keeps.each ?_ fun s1 x2 h3 => ?_
  · exact g1
  · refine Keeps.ite ?_ ?_
    · refine State.enterDetect_keeps ?_
      exact h3
    · exact h3

theorem State.refuseLane_keeps {s0} {a1} {a2} (g1 : Keeps s0 a1) : Keeps s0 (State.refuseLane a1 a2) := by
  unfold State.refuseLane
  refine State.setB_keeps ?_
  exact g1

theorem State.losAssert_keeps {s0} {a1} {a2} (g1 : Keeps s0 a1) : Keeps s0 (State.losAssert a1 a2) := by
  unfold State.losAssert
  extract_lets -underBinder -merge -useContext +onlyGivenNames v1
  have h2 : Keeps s0 v1 := by
    refine State.bump_keeps ?_
    refine State.setB_keeps ?_
    refine State.setB_keeps ?_
    exact g1
  clear_value v1
  refine Keeps.ite ?_ ?_
  · exact h2
  · refine State.enterDetect_keeps ?_
    exact h2

theorem State.toRelock_keeps {s0} {a1} {a2} (g1 : Keeps s0 a1) : Keeps s0 (State.toRelock a1 a2) := by
  unfold State.toRelock
  extract_lets -underBinder -merge -useContext +onlyGivenNames v1
  clear_value v1
  extract_lets -underBinder -merge -useContext +onlyGivenNames v2
  have h3 : Keeps s0 v2 := by
    refine Keeps.ite ?_ ?_
    · refine State.setLane_keeps ?_
      exact g1
    · exact g1
  clear_value v2
  refine Keeps.ite ?_ ?_
  · refine State.setLaneSt_keeps ?_
    exact h3
  · exact h3

theorem State.lolAssert_keeps {s0} {a1} {a2} {a3} (g1 : Keeps s0 a1) : Keeps s0 (State.lolAssert a1 a2 a3) := by
  unfold State.lolAssert
  extract_lets -underBinder -merge -useContext +onlyGivenNames v1
  have h2 : Keeps s0 v1 := by
    refine Keeps.ite ?_ ?_
    · refine State.setB_keeps ?_
      exact g1
    · exact g1
  clear_value v1
  refine State.toRelock_keeps ?_
  refine State.bump_keeps ?_
  refine State.setB_keeps ?_
  refine State.setB_keeps ?_
  exact h2

theorem State.lockLoss_keeps {s0} {a1} {a2} (g1 : Keeps s0 a1) : Keeps s0 (State.lockLoss a1 a2) := by
  unfold State.lockLoss
  refine State.toRelock_keeps ?_
  refine State.bump_keeps ?_
  refine State.setB_keeps ?_
  refine State.setB_keeps ?_
  exact g1

theorem State.relocked_keeps {s0} {a1} {a2} (g1 : Keeps s0 a1) : Keeps s0 (State.relocked a1 a2) := by
  unfold State.relocked
  refine Keeps.ite ?_ ?_
  · refine State.enterUp_keeps ?_
    exact g1
  · exact g1

theorem State.lockGain_keeps {s0} {a1} {a2} (g1 : Keeps s0 a1) : Keeps s0 (State.lockGain a1 a2) := by
  unfold State.lockGain
  extract_lets -underBinder -merge -useContext +onlyGivenNames v1
  have h2 : Keeps s0 v1 := by
    refine State.setB_keeps ?_
    exact g1
  clear_value v1
  refine Keeps.ite ?_ ?_
  · refine State.setLane_keeps ?_
    exact h2
  · refine Keeps.ite ?_ ?_
    · refine State.enterUp_keeps ?_
      exact h2
    · refine State.relocked_keeps ?_
      exact h2

theorem State.takeHeaders_keeps {s0} {a1} {a2} {a3} {a4} (g1 : Keeps s0 a1) : Keeps s0 (State.takeHeaders a1 a2 a3 a4) := by
  unfold State.takeHeaders
  extract_lets -underBinder -merge -useContext +onlyGivenNames v1
  have h2 : Keeps s0 v1 := by
    refine State.bump_keeps ?_
    exact g1
  clear_value v1
  refine Keeps.ite ?_ ?_
  · refine Keeps.ite ?_ ?_
    · refine State.lockGain_keeps ?_
      exact h2
    · refine State.lockLoss_keeps ?_
      exact h2
  · extract_lets -underBinder -merge -useContext +onlyGivenNames v3
    clear_value v3
    extract_lets -underBinder -merge -useContext +onlyGivenNames v4
    clear_value v4
    extract_lets -underBinder -merge -useContext +onlyGivenNames v5
    clear_value v5
    extract_lets -underBinder -merge -useContext +onlyGivenNames v6
    clear_value v6
    extract_lets -underBinder -merge -useContext +onlyGivenNames v7
    have h8 : Keeps s0 v7 := by
      refine State.setLane_keeps ?_
      exact h2
    clear_value v7
    refine Keeps.ite ?_ ?_
    · refine State.lockGain_keeps ?_
      exact h8
    · refine Keeps.ite ?_ ?_
      · refine State.lockLoss_keeps ?_
        exact h8
      · exact h8

theorem State.applyTaps_keeps {s0} {a1} {a2} {a3} (g1 : Keeps s0 a1) : Keeps s0 (State.applyTaps a1 a2 a3) := by
  unfold State.applyTaps
  extract_lets -underBinder -merge -useContext +onlyGivenNames v1
  clear_value v1
  extract_lets -underBinder -merge -useContext +onlyGivenNames v2
  clear_value v2
  extract_lets -underBinder -merge -useContext +onlyGivenNames v3
  clear_value v3
  refine Keeps.ite ?_ ?_
  · refine State.setLane_keeps ?_
    refine State.setTaps_keeps ?_
    exact g1
  · extract_lets -underBinder -merge -useContext +onlyGivenNames v4
    clear_value v4
    split
    · split
      · split
        · refine State.setLane_keeps ?_
          refine State.setTaps_keeps ?_
          exact g1

theorem State.takeTraining_keeps {s0} {a1} {a2} {a3} (g1 : Keeps s0 a1) : Keeps s0 (State.takeTraining a1 a2 a3) := by
  unfold State.takeTraining
  extract_lets -underBinder -merge -useContext +onlyGivenNames v1
  have h2 : Keeps s0 v1 := by
    refine State.set_keeps ?_
    refine State.set_keeps ?_
    exact g1
  clear_value v1
  extract_lets -underBinder -merge -useContext +onlyGivenNames v3
  clear_value v3
  extract_lets -underBinder -merge -useContext +onlyGivenNames v4
  have h5 : Keeps s0 v4 := by
    refine State.setLane_keeps ?_
    exact h2
  clear_value v4
  refine Keeps.ite ?_ ?_
  · extract_lets -underBinder -merge -useContext +onlyGivenNames v6
    have h7 : Keeps s0 v6 := by
      refine State.setLaneSt_keeps ?_
      exact h5
    clear_value v6
    refine State.setLane_keeps ?_
    exact h7
  · refine Keeps.ite ?_ ?_
    · extract_lets -underBinder -merge -useContext +onlyGivenNames v8
      clear_value v8
      refine State.setLane_keeps ?_
      exact h5
    · refine Keeps.ite ?_ ?_
      · extract_lets -underBinder -merge -useContext +onlyGivenNames v9
        clear_value v9
        extract_lets -underBinder -merge -useContext +onlyGivenNames v10
        have h11 : Keeps s0 v10 := by
          refine State.setLane_keeps ?_
          exact h5
        clear_value v10
        extract_lets -underBinder -merge -useContext +onlyGivenNames v12
        extract_lets -underBinder -merge -useContext +onlyGivenNames v13
        have h14 : Keeps s0 v13 := by
          refine Keeps.ite ?_ ?_
          · refine State.applyTaps_keeps ?_
            exact h11
          · exact h11
        clear_value v13
        refine State.setLane_keeps ?_
        exact h14
      · exact h5

theorem State.rxTraining_keeps {s0} {a1} {a2} {a3} {a4} (g1 : Keeps s0 a1) : Keeps s0 (State.rxTraining a1 a2 a3 a4) := by
  unfold State.rxTraining
  extract_lets -underBinder -merge -useContext +onlyGivenNames v1
  clear_value v1
  refine Keeps.ite ?_ ?_
  · exact g1
  · refine Keeps.ite ?_ ?_
    · refine Keeps.ite ?_ ?_
      · refine State.takeTraining_keeps ?_
        exact g1
      · exact g1
    · refine Keeps.ite ?_ ?_
      · extract_lets -underBinder -merge -useContext +onlyGivenNames v2
        have h3 : Keeps s0 v2 := by
          refine State.setB_keeps ?_
          refine State.bump_keeps ?_
          exact g1
        clear_value v2
        refine State.setB_keeps ?_
        exact h3
      · exact g1

theorem State.laneCntClear_keeps {s0} {a1} {a2} (g1 : Keeps s0 a1) : Keeps s0 (State.laneCntClear a1 a2) := by
  unfold State.laneCntClear
  refine State.clearAll_keeps ?_
  exact g1

theorem State.retrain_keeps {s0} {a1} {a2} (g1 : Keeps s0 a1) : Keeps s0 (State.retrain a1 a2) := by
  unfold State.retrain
  refine Keeps.ite ?_ ?_
  · refine State.refuseLane_keeps ?_
    exact g1
  · refine Keeps.ite ?_ ?_
    · exact g1
    · refine State.enterDetect_keeps ?_
      refine State.bump_keeps ?_
      exact g1

theorem State.bitSlip_keeps {s0} {a1} {a2} (g1 : Keeps s0 a1) : Keeps s0 (State.bitSlip a1 a2) := by
  unfold State.bitSlip
  refine Keeps.ite ?_ ?_
  · refine State.setLane_keeps ?_
    exact g1
  · exact g1

theorem State.enableWrite_keeps {s0} {a1} {a2} {a3} (g1 : Keeps s0 a1) : Keeps s0 (State.enableWrite a1 a2 a3) := by
  unfold State.enableWrite
  refine Keeps.ite ?_ ?_
  · refine State.refuseLane_keeps ?_
    exact g1
  · extract_lets -underBinder -merge -useContext +onlyGivenNames v1
    have h2 : Keeps s0 v1 := by
      refine State.setB_keeps ?_
      exact g1
    clear_value v1
    refine Keeps.ite ?_ ?_
    · refine State.disableLane_keeps ?_
      exact h2
    · refine Keeps.ite ?_ ?_
      · refine State.enterDetect_keeps ?_
        exact h2
      · exact h2

theorem State.powerReached_keeps {s0} {a1} {a2} {a3} (g1 : Keeps s0 a1) : Keeps s0 (State.powerReached a1 a2 a3) := by
  unfold State.powerReached
  refine Keeps.ite ?_ ?_
  · refine State.set_keeps ?_
    exact g1
  · extract_lets -underBinder -merge -useContext +onlyGivenNames v1
    clear_value v1
    extract_lets -underBinder -merge -useContext +onlyGivenNames v2
    clear_value v2
    extract_lets -underBinder -merge -useContext +onlyGivenNames v3
    have h4 : Keeps s0 v3 := by
      refine State.set_keeps ?_
      exact g1
    clear_value v3
    refine Keeps.ite ?_ ?_
    · refine State.setB_keeps ?_
      refine State.setLane_keeps ?_
      exact h4
    · refine Keeps.ite ?_ ?_
      · refine Keeps.ite ?_ ?_
        · refine State.setLaneSt_keeps ?_
          exact h4
        · refine State.enterDetect_keeps ?_
          exact h4
      · exact h4

theorem execLosAssert_keeps {s0} {a1} {a2} {a3} (g3 : Keeps s0 a3) : KeepsN s0 (execLosAssert a1 a2 a3) := by
  unfold execLosAssert
  refine KeepsN.next ?_
  refine State.losAssert_keeps ?_
  refine Keeps.ite ?_ ?_
  · refine State.setB_keeps ?_
    exact g3
  · exact g3

theorem execLosDeassert_keeps {s0} {a1} {a2} (g2 : Keeps s0 a2) : KeepsN s0 (execLosDeassert a1 a2) := by
  unfold execLosDeassert
  refine KeepsN.next ?_
  extract_lets -underBinder -merge -useContext +onlyGivenNames v1
  have h2 : Keeps s0 v1 := by
    refine State.setB_keeps ?_
    exact g2
  clear_value v1
  refine Keeps.ite ?_ ?_
  · refine State.leaveDetect_keeps ?_
    exact h2
  · exact h2

theorem execLolAssert_keeps {s0} {a1} {a2} (g2 : Keeps s0 a2) : KeepsN s0 (execLolAssert a1 a2) := by
  unfold execLolAssert
  refine KeepsN.next ?_
  refine State.lolAssert_keeps ?_
  exact g2

theorem execLolDeassert_keeps {s0} {a1} {a2} (g2 : Keeps s0 a2) : KeepsN s0 (execLolDeassert a1 a2) := by
  unfold execLolDeassert
  refine KeepsN.next ?_
  refine Keeps.ite ?_ ?_
  · exact g2
  · refine State.relocked_keeps ?_
    refine State.setB_keeps ?_
    exact g2

theorem execBlockLockGain_keeps {s0} {a1} {a2} {a3} (g3 : Keeps s0 a3) : KeepsN s0 (execBlockLockGain a1 a2 a3) := by
  unfold execBlockLockGain
  refine KeepsN.next ?_
  refine State.takeHeaders_keeps ?_
  exact g3

theorem execBlockLockLoss_keeps {s0} {a1} {a2} {a3} (g3 : Keeps s0 a3) : KeepsN s0 (execBlockLockLoss a1 a2 a3) := by
  unfold execBlockLockLoss
  refine KeepsN.next ?_
  refine State.takeHeaders_keeps ?_
  exact g3

theorem execHiErrWindowEnd_keeps {s0} {a1} {a2} {a3} (g3 : Keeps s0 a3) : KeepsN s0 (execHiErrWindowEnd a1 a2 a3) := by
  unfold execHiErrWindowEnd
  refine KeepsN.next ?_
  extract_lets -underBinder -merge -useContext +onlyGivenNames v1
  have h2 : Keeps s0 v1 := by
    refine State.bump_keeps ?_
    exact g3
  clear_value v1
  refine Keeps.ite ?_ ?_
  · split
    rename_i x4 x5 q7
    have e6 : _ = x5 := congrArg Prod.snd q7
    have h3 : Keeps s0 x5 := by
      rw [← e6]
      refine State.free_keeps ?_
      exact h2
    refine State.setB_keeps ?_
    exact h3
  · refine Keeps.ite ?_ ?_
    · refine Keeps.ite ?_ ?_
      · refine State.setB_keeps ?_
        exact h2
      · exact h2
    · refine State.setB_keeps ?_
      exact h2

theorem execRefclkLoss_keeps {s0} {a1} {a2} (g2 : Keeps s0 a2) : KeepsN s0 (execRefclkLoss a1 a2) := by
  unfold execRefclkLoss
  refine KeepsN.next ?_
  extract_lets -underBinder -merge -useContext +onlyGivenNames v1
  have h2 : Keeps s0 v1 := by
    refine State.setB_keeps ?_
    exact g2
  clear_value v1
  refine Keeps.each ?_ fun s3 x4 h5 => ?_
  · exact h2
  · refine State.set_keeps ?_
    refine State.lolAssert_keeps ?_
    exact h5

theorem execRefclkReturn_keeps {s0} {a1} {a2} (g2 : Keeps s0 a2) : KeepsN s0 (execRefclkReturn a1 a2) := by
  unfold execRefclkReturn
  refine KeepsN.next ?_
  extract_lets -underBinder -merge -useContext +onlyGivenNames v1
  have h2 : Keeps s0 v1 := by
    refine State.setB_keeps ?_
    exact g2
  clear_value v1
  refine Keeps.each ?_ fun s3 x4 h5 => ?_
  · exact h2
  · refine State.set_keeps ?_
    exact h5

theorem execTrainingBlockRx_keeps {s0} {a1} {a2} {a3} {a4} (g4 : Keeps s0 a4) : KeepsN s0 (execTrainingBlockRx a1 a2 a3 a4) := by
  unfold execTrainingBlockRx
  refine KeepsN.next ?_
  refine State.rxTraining_keeps ?_
  exact g4

theorem execGenSwitch_keeps {s0} {a1} {a2} (g2 : Keeps s0 a2) : KeepsN s0 (execGenSwitch a1 a2) := by
  unfold execGenSwitch
  refine KeepsN.next ?_
  refine Keeps.ite ?_ ?_
  · refine State.enterFinal_keeps ?_
    exact g2
  · exact g2

theorem execFinalUp_keeps {s0} {a1} {a2} (g2 : Keeps s0 a2) : KeepsN s0 (execFinalUp a1 a2) := by
  unfold execFinalUp
  refine KeepsN.next ?_
  refine Keeps.ite ?_ ?_
  · refine State.enterUp_keeps ?_
    exact g2
  · exact g2

theorem execLegacyTimeout_keeps {s0} {a1} {a2} (g2 : Keeps s0 a2) : KeepsN s0 (execLegacyTimeout a1 a2) := by
  unfold execLegacyTimeout
  refine KeepsN.next ?_
  refine Keeps.ite ?_ ?_
  · refine State.enterUp_keeps ?_
    refine State.presetLane_keeps ?_
    refine State.setB_keeps ?_
    exact g2
  · exact g2

theorem execFinalTimeout_keeps {s0} {a1} {a2} (g2 : Keeps s0 a2) : KeepsN s0 (execFinalTimeout a1 a2) := by
  unfold execFinalTimeout
  refine KeepsN.next ?_
  refine Keeps.ite ?_ ?_
  · exact g2
  · extract_lets -underBinder -merge -useContext +onlyGivenNames v1
    have h2 : Keeps s0 v1 := by
      refine State.setB_keeps ?_
      refine State.bump_keeps ?_
      exact g2
    clear_value v1
    refine Keeps.ite ?_ ?_
    · refine State.enterDetect_keeps ?_
      exact h2
    · refine State.enterBase_keeps ?_
      refine State.setLane_keeps ?_
      exact h2

theorem execBaseTimeout_keeps {s0} {a1} {a2} (g2 : Keeps s0 a2) : KeepsN s0 (execBaseTimeout a1 a2) := by
  unfold execBaseTimeout
  refine KeepsN.next ?_
  refine Keeps.ite ?_ ?_
  · refine State.set_keeps ?_
    refine State.set_keeps ?_
    refine State.setLaneSt_keeps ?_
    exact g2
  · exact g2

theorem execLaneRetryExpiry_keeps {s0} {a1} {a2} (g2 : Keeps s0 a2) : KeepsN s0 (execLaneRetryExpiry a1 a2) := by
  unfold execLaneRetryExpiry
  refine KeepsN.next ?_
  refine Keeps.ite ?_ ?_
  · refine State.enterDetect_keeps ?_
    exact g2
  · exact g2

theorem execRelockTimeout_keeps {s0} {a1} {a2} (g2 : Keeps s0 a2) : KeepsN s0 (execRelockTimeout a1 a2) := by
  unfold execRelockTimeout
  refine KeepsN.next ?_
  refine Keeps.ite ?_ ?_
  · refine State.enterDetect_keeps ?_
    exact g2
  · exact g2

theorem execBondAlignBlock_keeps {s0} {a1} {a2} (g2 : Keeps s0 a2) : KeepsN s0 (execBondAlignBlock a1 a2) := by
  unfold execBondAlignBlock
  refine KeepsN.next ?_
  refine Keeps.ite ?_ ?_
  · exact g2
  · refine Keeps.ite ?_ ?_
    · refine State.bondFault_keeps ?_
      exact g2
    · extract_lets -underBinder -merge -useContext +onlyGivenNames v1
      have h2 : Keeps s0 v1 := by
        refine State.set_keeps ?_
        exact g2
      clear_value v1
      refine Keeps.ite ?_ ?_
      · refine State.setWidth_keeps ?_
        refine Keeps.parts ?_ rfl rfl
        exact h2
      · exact h2

theorem execLanePowerStateReached_keeps {s0} {a1} {a2} {a3} (g3 : Keeps s0 a3) : KeepsN s0 (execLanePowerStateReached a1 a2 a3) := by
  unfold execLanePowerStateReached
  refine KeepsN.next ?_
  refine State.powerReached_keeps ?_
  exact g3

end Sys2Proof.Machine
end

