-- ==== Sys2Proof/Laws/KeepsMeasure.lean ====
section
/-!
SUPPORT. What the operations of Machine/Measure.lean do to the queue, the fuses and the tables.
-/

namespace Sys2Proof.Machine

theorem State.compareSide_keeps {s0} {a1} {a2} {a3} {a4} (g1 : Keeps s0 a1) : Keeps s0 (State.compareSide a1 a2 a3 a4) := by
  unfold State.compareSide
  extract_lets -underBinder -merge -useContext +onlyGivenNames v1
  clear_value v1
  extract_lets -underBinder -merge -useContext +onlyGivenNames v2
  clear_value v2
  extract_lets -underBinder -merge -useContext +onlyGivenNames v3
  clear_value v3
  extract_lets -underBinder -merge -useContext +onlyGivenNames v4
  clear_value v4
  extract_lets -underBinder -merge -useContext +onlyGivenNames v5
  clear_value v5
  extract_lets -underBinder -merge -useContext +onlyGivenNames v6
  have h7 : Keeps s0 v6 := by
    refine State.setChan_keeps ?_
    exact g1
  clear_value v6
  refine Keeps.ite ?_ ?_
  · refine State.comparator_keeps ?_
    refine State.setB_keeps ?_
    exact h7
  · exact h7

theorem State.convert_keeps {s0} {a1} {a2} {a3} (g1 : Keeps s0 a1) : Keeps s0 (State.convert a1 a2 a3) := by
  unfold State.convert
  refine Keeps.ite ?_ ?_
  · exact g1
  · extract_lets -underBinder -merge -useContext +onlyGivenNames v1
    clear_value v1
    extract_lets -underBinder -merge -useContext +onlyGivenNames v2
    have h3 : Keeps s0 v2 := by
      refine State.setChan_keeps ?_
      exact g1
    clear_value v2
    extract_lets -underBinder -merge -useContext +onlyGivenNames v4
    clear_value v4
    extract_lets -underBinder -merge -useContext +onlyGivenNames v5
    clear_value v5
    extract_lets -underBinder -merge -useContext +onlyGivenNames v6
    clear_value v6
    extract_lets -underBinder -merge -useContext +onlyGivenNames v7
    have h8 : Keeps s0 v7 := by
      refine State.compareSide_keeps ?_
      exact h3
    clear_value v7
    refine State.compareSide_keeps ?_
    exact h8

theorem State.convertAll_keeps {s0} {a1} {a2} (g1 : Keeps s0 a1) : Keeps s0 (State.convertAll a1 a2) := by
  unfold State.convertAll
  refine Keeps.each ?_ fun s1 x2 h3 => ?_
  · exact g1
  · refine State.convert_keeps ?_
    exact h3

theorem State.streamed_keeps {s0} {a1} (g1 : Keeps s0 a1) : Keeps s0 (State.streamed a1) := by
  unfold State.streamed
  refine Keeps.ite ?_ ?_
  · refine Keeps.each ?_ fun s1 x2 h3 => ?_
    · exact g1
    · refine Keeps.ite ?_ ?_
      · refine State.setChan_keeps ?_
        exact h3
      · exact h3
  · exact g1

theorem State.burst_keeps {s0} {a1} {a2} (g1 : Keeps s0 a1) : Keeps s0 (State.burst a1 a2) := by
  unfold State.burst
  refine Keeps.ite ?_ ?_
  · exact g1
  · extract_lets -underBinder -merge -useContext +onlyGivenNames v1
    have h2 : Keeps s0 v1 := by
      refine Keeps.each ?_ fun s3 x4 h5 => ?_
      · exact g1
      · extract_lets -underBinder -merge -useContext +onlyGivenNames v6
        clear_value v6
        refine Keeps.ite ?_ ?_
        · refine State.setChan_keeps ?_
          exact h5
        · exact h5
    clear_value v1
    refine State.streamed_keeps ?_
    refine Keeps.each ?_ fun s7 x8 h9 => ?_
    · exact h2
    · refine State.convertAll_keeps ?_
      exact h9

theorem State.handChannel_keeps {s0} {a1} {a2} (g1 : Keeps s0 a1) : Keeps s0 (State.handChannel a1 a2) := by
  unfold State.handChannel
  split
  · extract_lets -underBinder -merge -useContext +onlyGivenNames v1
    clear_value v1
    extract_lets -underBinder -merge -useContext +onlyGivenNames v2
    clear_value v2
    extract_lets -underBinder -merge -useContext +onlyGivenNames v3
    clear_value v3
    extract_lets -underBinder -merge -useContext +onlyGivenNames v4
    have h5 : Keeps s0 v4 := by
      refine State.setChan_keeps ?_
      exact g1
    clear_value v4
    extract_lets -underBinder -merge -useContext +onlyGivenNames v6
    have h7 : Keeps s0 v6 := by
      refine State.setReg_keeps ?_
      exact h5
    clear_value v6
    extract_lets -underBinder -merge -useContext +onlyGivenNames v8
    have h9 : Keeps s0 v8 := by
      refine State.setB_keeps ?_
      refine State.set_keeps ?_
      exact h7
    clear_value v8
    refine State.set_keeps ?_
    exact h9

theorem State.handValues_keeps {s0} {a1} (g1 : Keeps s0 a1) : Keeps s0 (State.handValues a1) := by
  unfold State.handValues
  refine Keeps.each ?_ fun s1 x2 h3 => ?_
  · exact g1
  · refine State.handChannel_keeps ?_
    exact h3

theorem State.calBegin_keeps {s0} {a1} (g1 : Keeps s0 a1) : Keeps s0 (State.calBegin a1) := by
  unfold State.calBegin
  extract_lets -underBinder -merge -useContext +onlyGivenNames v1
  have h2 : Keeps s0 v1 := by
    refine State.set_keeps ?_
    exact g1
  clear_value v1
  refine Keeps.each ?_ fun s3 x4 h5 => ?_
  · exact h2
  · refine State.setChan_keeps ?_
    exact h5

theorem State.calStart_keeps {s0} {a1} (g1 : Keeps s0 a1) : Keeps s0 (State.calStart a1) := by
  unfold State.calStart
  refine Keeps.ite ?_ ?_
  · exact g1
  · refine Keeps.ite ?_ ?_
    · refine State.setB_keeps ?_
      exact g1
    · refine State.calBegin_keeps ?_
      exact g1

theorem State.calFinish_keeps {s0} {a1} {a2} {a3} (g1 : Keeps s0 a1) : Keeps s0 (State.calFinish a1 a2 a3) := by
  unfold State.calFinish
  refine Keeps.ite ?_ ?_
  · exact g1
  · extract_lets -underBinder -merge -useContext +onlyGivenNames v1
    have h2 : Keeps s0 v1 := by
      refine Keeps.each ?_ fun s3 x4 h5 => ?_
      · exact g1
      · extract_lets -underBinder -merge -useContext +onlyGivenNames v6
        clear_value v6
        refine Keeps.ite ?_ ?_
        · exact h5
        · split
          · extract_lets -underBinder -merge -useContext +onlyGivenNames v7
            clear_value v7
            extract_lets -underBinder -merge -useContext +onlyGivenNames v8
            have h9 : Keeps s0 v8 := by
              refine State.set_keeps ?_
              refine State.set_keeps ?_
              exact h5
            clear_value v8
            refine State.setChan_keeps ?_
            exact h9
    clear_value v1
    extract_lets -underBinder -merge -useContext +onlyGivenNames v10
    clear_value v10
    extract_lets -underBinder -merge -useContext +onlyGivenNames v11
    have h12 : Keeps s0 v11 := by
      refine State.set_keeps ?_
      refine State.set_keeps ?_
      exact h2
    clear_value v11
    refine State.setB_keeps ?_
    refine State.set_keeps ?_
    exact h12

theorem State.rangeWritten_keeps {s0} {a1} {a2} (g1 : Keeps s0 a1) : Keeps s0 (State.rangeWritten a1 a2) := by
  unfold State.rangeWritten
  refine State.setChan_keeps ?_
  exact g1

theorem State.rearm_keeps {s0} {a1} {a2} (g1 : Keeps s0 a1) : Keeps s0 (State.rearm a1 a2) := by
  unfold State.rearm
  extract_lets -underBinder -merge -useContext +onlyGivenNames v1
  clear_value v1
  extract_lets -underBinder -merge -useContext +onlyGivenNames v2
  clear_value v2
  extract_lets -underBinder -merge -useContext +onlyGivenNames v3
  clear_value v3
  refine State.setChan_keeps ?_
  exact g1

theorem State.urgentServe_keeps {s0} {a1} {a2} {a3} {a4} (g1 : Keeps s0 a1) : Keeps s0 (State.urgentServe a1 a2 a3 a4).2 := by
  unfold State.urgentServe
  extract_lets -underBinder -merge -useContext +onlyGivenNames v1
  clear_value v1
  extract_lets -underBinder -merge -useContext +onlyGivenNames v2
  clear_value v2
  refine Keeps.ite2 ?_ ?_
  · refine Keeps.mk2 ?_
    refine State.bump_keeps ?_
    exact g1
  · extract_lets -underBinder -merge -useContext +onlyGivenNames v3
    extract_lets -underBinder -merge -useContext +onlyGivenNames v4
    have h5 : Keeps s0 v4 := by
      refine State.bump_keeps ?_
      exact g1
    clear_value v4
    refine Keeps.mk2 ?_
    refine Keeps.ite ?_ ?_
    · exact h5
    · refine State.convertAll_keeps ?_
      refine Keeps.parts ?_ rfl rfl
      exact h5

theorem State.urgent_keeps {s0} {a1} {a2} {a3} (g1 : Keeps s0 a1) : Keeps s0 (State.urgent a1 a2 a3) := by
  unfold State.urgent
  split
  rename_i x2 x3 q8
  have e7 : _ = x3 := congrArg Prod.snd q8
  have h1 : Keeps s0 x3 := by
    rw [← e7]
    refine State.urgentServe_keeps ?_
    exact g1
  refine Keeps.ite ?_ ?_
  · refine Keeps.each ?_ fun s4 x5 h6 => ?_
    · exact h1
    · refine Keeps.ite ?_ ?_
      · refine State.setReg_keeps ?_
        exact h6
      · exact h6
  · exact h1

theorem State.adcCntClear_keeps {s0} {a1} (g1 : Keeps s0 a1) : Keeps s0 (State.adcCntClear a1) := by
  unfold State.adcCntClear
  extract_lets -underBinder -merge -useContext +onlyGivenNames v1
  have h2 : Keeps s0 v1 := by
    refine State.clearAll_keeps ?_
    exact g1
  clear_value v1
  refine Keeps.each ?_ fun s3 x4 h5 => ?_
  · exact h2
  · refine State.clearAll_keeps ?_
    exact h5

theorem State.takeSample_keeps {s0} {a1} {a2} {a3} (g1 : Keeps s0 a1) : Keeps s0 (State.takeSample a1 a2 a3) := by
  unfold State.takeSample
  extract_lets -underBinder -merge -useContext +onlyGivenNames v1
  clear_value v1
  extract_lets -underBinder -merge -useContext +onlyGivenNames v2
  clear_value v2
  extract_lets -underBinder -merge -useContext +onlyGivenNames v3
  clear_value v3
  refine Keeps.ite ?_ ?_
  · exact g1
  · extract_lets -underBinder -merge -useContext +onlyGivenNames v4
    clear_value v4
    extract_lets -underBinder -merge -useContext +onlyGivenNames v5
    have h6 : Keeps s0 v5 := by
      refine Keeps.ite ?_ ?_
      · refine State.bump_keeps ?_
        exact g1
      · exact g1
    clear_value v5
    extract_lets -underBinder -merge -useContext +onlyGivenNames v7
    clear_value v7
    extract_lets -underBinder -merge -useContext +onlyGivenNames v8
    have h9 : Keeps s0 v8 := by
      refine Keeps.ite ?_ ?_
      · refine State.bump_keeps ?_
        exact h6
      · exact h6
    clear_value v8
    refine State.setStream_keeps ?_
    exact h9

theorem State.rxSv_keeps {s0} {a1} {a2} (g1 : Keeps s0 a1) : Keeps s0 (State.rxSv a1 a2) := by
  unfold State.rxSv
  extract_lets -underBinder -merge -useContext +onlyGivenNames v1
  clear_value v1
  split
  · extract_lets -underBinder -merge -useContext +onlyGivenNames v2
    clear_value v2
    refine Keeps.each ?_ fun s3 x4 h5 => ?_
    · exact g1
    · refine State.bump_keeps ?_
      exact h5
  · refine Keeps.each ?_ fun s6 x7 h8 => ?_
    · exact g1
    · extract_lets -underBinder -merge -useContext +onlyGivenNames v9
      clear_value v9
      refine Keeps.ite ?_ ?_
      · exact h8
      · refine Keeps.each ?_ fun s10 x11 h12 => ?_
        · refine State.bump_keeps ?_
          exact h8
        · refine State.takeSample_keeps ?_
          exact h12

theorem execAdcBurst_keeps {s0} {a1} {a2} (g2 : Keeps s0 a2) : KeepsN s0 (execAdcBurst a1 a2) := by
  unfold execAdcBurst
  refine KeepsN.next ?_
  refine State.burst_keeps ?_
  exact g2

theorem execAdcStreamConversion_keeps {s0} {a1} {a2} (g2 : Keeps s0 a2) : KeepsN s0 (execAdcStreamConversion a1 a2) := by
  unfold execAdcStreamConversion
  refine KeepsN.next ?_
  refine Keeps.ite ?_ ?_
  · refine State.streamed_keeps ?_
    refine State.convertAll_keeps ?_
    exact g2
  · exact g2

theorem execCalStaleSet_keeps {s0} {a1} {a2} (g2 : Keeps s0 a2) : KeepsN s0 (execCalStaleSet a1 a2) := by
  unfold execCalStaleSet
  refine KeepsN.next ?_
  extract_lets -underBinder -merge -useContext +onlyGivenNames v1
  have h2 : Keeps s0 v1 := by
    refine State.set_keeps ?_
    exact g2
  clear_value v1
  extract_lets -underBinder -merge -useContext +onlyGivenNames v3
  clear_value v3
  refine Keeps.ite ?_ ?_
  · refine State.setB_keeps ?_
    exact h2
  · exact h2

theorem execSvFrameRx_keeps {s0} {a1} {a2} (g2 : Keeps s0 a2) : KeepsN s0 (execSvFrameRx a1 a2) := by
  unfold execSvFrameRx
  refine KeepsN.next ?_
  refine State.rxSv_keeps ?_
  exact g2

end Sys2Proof.Machine
end

