-- ==== Sys2Proof/Laws/KeepsObserver.lean ====
section
/-!
SUPPORT. What the operations of Machine/Observer.lean do to the queue, the fuses and the tables.
-/

namespace Sys2Proof.Machine

theorem State.noteOrder_keeps {s0} {a1} {a2} {a3} {a4} (g1 : Keeps s0 a1) : Keeps s0 (State.noteOrder a1 a2 a3 a4) := by
  unfold State.noteOrder
  refine State.setOrd_keeps ?_
  exact g1

theorem State.takeCurrents_keeps {s0} {a1} (g1 : Keeps s0 a1) : Keeps s0 (State.takeCurrents a1) := by
  unfold State.takeCurrents
  refine Keeps.each ?_ fun s1 x2 h3 => ?_
  · exact g1
  · extract_lets -underBinder -merge -useContext +onlyGivenNames v4
    clear_value v4
    extract_lets -underBinder -merge -useContext +onlyGivenNames v5
    clear_value v5
    extract_lets -underBinder -merge -useContext +onlyGivenNames v6
    clear_value v6
    extract_lets -underBinder -merge -useContext +onlyGivenNames v7
    clear_value v7
    extract_lets -underBinder -merge -useContext +onlyGivenNames v8
    clear_value v8
    refine State.setArm_keeps ?_
    exact h3

theorem State.freeFixed_keeps {s0} {a1} (g1 : Keeps s0 a1) : Keeps s0 (State.freeFixed a1).2 := by
  unfold State.freeFixed
  split
  rename_i x2 x3 q10
  have e9 : _ = x3 := congrArg Prod.snd q10
  have h1 : Keeps s0 x3 := by
    rw [← e9]
    refine State.free_keeps ?_
    exact g1
  split
  rename_i x5 x6 q8
  have e7 : _ = x6 := congrArg Prod.snd q8
  have h4 : Keeps s0 x6 := by
    rw [← e7]
    refine State.free_keeps ?_
    exact h1
  refine Keeps.mk2 ?_
  exact h4

theorem State.moveV_keeps {s0} {a1} {a2} {a3} (g1 : Keeps s0 a1) : Keeps s0 (State.moveV a1 a2 a3).2 := by
  unfold State.moveV
  refine Keeps.ite2 ?_ ?_
  · extract_lets -underBinder -merge -useContext +onlyGivenNames v1
    clear_value v1
    refine Keeps.ite2 ?_ ?_
    · refine Keeps.mk2 ?_
      exact g1
    · refine State.freeFixed_keeps ?_
      exact g1
  · refine State.freeFixed_keeps ?_
    exact g1

theorem State.missingExclude_keeps {s0} {a1} {a2} {a3} (g1 : Keeps s0 a1) : Keeps s0 (State.missingExclude a1 a2 a3) := by
  unfold State.missingExclude
  extract_lets -underBinder -merge -useContext +onlyGivenNames v1
  clear_value v1
  refine Keeps.ite ?_ ?_
  · refine State.catArise_keeps ?_
    refine State.bump_keeps ?_
    refine State.setInst_keeps ?_
    exact g1
  · exact g1

theorem State.missLowered_keeps {s0} {a1} {a2} (g1 : Keeps s0 a1) : Keeps s0 (State.missLowered a1 a2) := by
  unfold State.missLowered
  extract_lets -underBinder -merge -useContext +onlyGivenNames v1
  clear_value v1
  refine Keeps.ite ?_ ?_
  · refine Keeps.each ?_ fun s2 x3 h4 => ?_
    · exact g1
    · refine State.missingExclude_keeps ?_
      exact h4
  · exact g1

theorem State.gradeStep_keeps {s0} {a1} {a2} {a3} (g1 : Keeps s0 a1) : Keeps s0 (State.gradeStep a1 a2 a3) := by
  unfold State.gradeStep
  extract_lets -underBinder -merge -useContext +onlyGivenNames v1
  clear_value v1
  extract_lets -underBinder -merge -useContext +onlyGivenNames v2
  clear_value v2
  extract_lets -underBinder -merge -useContext +onlyGivenNames v3
  have h4 : ∀ x5 x7, Keeps s0 x5 → Keeps s0 (v3 x5 x7) := by
    intro x5 x7 h6
    dsimp -zeta only [v3]
    refine State.set_keeps ?_
    refine State.setInst_keeps ?_
    exact h6
  clear_value v3
  refine Keeps.ite ?_ ?_
  · exact g1
  · refine Keeps.ite ?_ ?_
    · refine State.catArise_keeps ?_
      refine State.bump_keeps ?_
      refine h4 _ _ ?_
      exact g1
    · refine Keeps.ite ?_ ?_
      · refine h4 _ _ ?_
        exact g1
      · refine Keeps.ite ?_ ?_
        · refine h4 _ _ ?_
          exact g1
        · refine Keeps.ite ?_ ?_
          · refine h4 _ _ ?_
            exact g1
          · refine Keeps.ite ?_ ?_
            · refine State.catClear_keeps ?_
              refine h4 _ _ ?_
              exact g1
            · exact g1

theorem State.gradeReset_keeps {s0} {a1} {a2} (g1 : Keeps s0 a1) : Keeps s0 (State.gradeReset a1 a2) := by
  unfold State.gradeReset
  extract_lets -underBinder -merge -useContext +onlyGivenNames v1
  clear_value v1
  extract_lets -underBinder -merge -useContext +onlyGivenNames v2
  have h3 : Keeps s0 v2 := by
    refine State.setInst_keeps ?_
    exact g1
  clear_value v2
  extract_lets -underBinder -merge -useContext +onlyGivenNames v4
  have h5 : Keeps s0 v4 := by
    refine State.set_keeps ?_
    refine State.set_keeps ?_
    exact h3
  clear_value v4
  extract_lets -underBinder -merge -useContext +onlyGivenNames v6
  have h7 : Keeps s0 v6 := by
    refine State.set_keeps ?_
    refine State.set_keeps ?_
    exact h5
  clear_value v6
  refine State.catClear_keeps ?_
  exact h7

theorem State.freezeInst_keeps {s0} {a1} {a2} (g1 : Keeps s0 a1) : Keeps s0 (State.freezeInst a1 a2) := by
  unfold State.freezeInst
  extract_lets -underBinder -merge -useContext +onlyGivenNames v1
  clear_value v1
  refine Keeps.ite ?_ ?_
  · refine State.bump_keeps ?_
    refine State.setInst_keeps ?_
    exact g1
  · exact g1

theorem State.countMissing_keeps {s0} {a1} {a2} (g1 : Keeps s0 a1) : Keeps s0 (State.countMissing a1 a2) := by
  unfold State.countMissing
  extract_lets -underBinder -merge -useContext +onlyGivenNames v1
  have h2 : Keeps s0 v1 := by
    refine State.bump_keeps ?_
    exact g1
  clear_value v1
  refine Keeps.ite ?_ ?_
  · refine State.bump_keeps ?_
    exact h2
  · refine Keeps.ite ?_ ?_
    · refine State.bump_keeps ?_
      exact h2
    · exact h2

theorem State.substitute_keeps {s0} {a1} {a2} {a3} {a4} (g1 : Keeps s0 a1) : Keeps s0 (State.substitute a1 a2 a3 a4) := by
  unfold State.substitute
  extract_lets -underBinder -merge -useContext +onlyGivenNames v1
  clear_value v1
  extract_lets -underBinder -merge -useContext +onlyGivenNames v2
  have h3 : Keeps s0 v2 := by
    refine State.setInst_keeps ?_
    exact g1
  clear_value v2
  refine State.missingExclude_keeps ?_
  refine State.countMissing_keeps ?_
  exact h3

theorem State.takeValid_keeps {s0} {a1} {a2} {a3} {a4} {a5} (g1 : Keeps s0 a1) : Keeps s0 (State.takeValid a1 a2 a3 a4 a5) := by
  unfold State.takeValid
  extract_lets -underBinder -merge -useContext +onlyGivenNames v1
  clear_value v1
  extract_lets -underBinder -merge -useContext +onlyGivenNames v2
  clear_value v2
  extract_lets -underBinder -merge -useContext +onlyGivenNames v3
  clear_value v3
  extract_lets -underBinder -merge -useContext +onlyGivenNames v4
  clear_value v4
  extract_lets -underBinder -merge -useContext +onlyGivenNames v5
  clear_value v5
  extract_lets -underBinder -merge -useContext +onlyGivenNames v6
  clear_value v6
  extract_lets -underBinder -merge -useContext +onlyGivenNames v7
  have h8 : Keeps s0 v7 := by
    refine Keeps.ite ?_ ?_
    · refine State.bump_keeps ?_
      exact g1
    · exact g1
  clear_value v7
  extract_lets -underBinder -merge -useContext +onlyGivenNames v9
  clear_value v9
  extract_lets -underBinder -merge -useContext +onlyGivenNames v10
  clear_value v10
  split
  rename_i x12 x13 q17
  have e16 : _ = x13 := congrArg Prod.snd q17
  have h11 : Keeps s0 x13 := by
    rw [← e16]
    refine Keeps.ite2 ?_ ?_
    · refine Keeps.mk2 ?_
      exact h8
    · refine State.moveV_keeps ?_
      exact h8
  extract_lets -underBinder -merge -useContext +onlyGivenNames v14
  clear_value v14
  extract_lets -underBinder -merge -useContext +onlyGivenNames v15
  clear_value v15
  refine State.catClear_keeps ?_
  refine State.setInst_keeps ?_
  exact h11

theorem State.observe_keeps {s0} {a1} {a2} (g1 : Keeps s0 a1) : Keeps s0 (State.observe a1 a2) := by
  unfold State.observe
  extract_lets -underBinder -merge -useContext +onlyGivenNames v1
  clear_value v1
  extract_lets -underBinder -merge -useContext +onlyGivenNames v2
  clear_value v2
  extract_lets -underBinder -merge -useContext +onlyGivenNames v3
  clear_value v3
  refine Keeps.ite ?_ ?_
  · exact g1
  · refine Keeps.ite ?_ ?_
    · split
      · extract_lets -underBinder -merge -useContext +onlyGivenNames v4
        clear_value v4
        extract_lets -underBinder -merge -useContext +onlyGivenNames v5
        clear_value v5
        refine State.catClear_keeps ?_
        refine State.setInst_keeps ?_
        exact g1
      · refine State.countMissing_keeps ?_
        refine State.setInst_keeps ?_
        exact g1
    · split
      rename_i x7 x8 q15
      have e14 : _ = x8 := congrArg Prod.snd q15
      have h6 : Keeps s0 x8 := by
        rw [← e14]
        refine State.moveV_keeps ?_
        exact g1
      split
      · refine Keeps.ite ?_ ?_
        · refine State.gradeStep_keeps ?_
          refine State.substitute_keeps ?_
          exact h6
        · extract_lets -underBinder -merge -useContext +onlyGivenNames v9
          have h10 : Keeps s0 v9 := by
            refine State.takeValid_keeps ?_
            exact h6
          clear_value v9
          extract_lets -underBinder -merge -useContext +onlyGivenNames v11
          clear_value v11
          extract_lets -underBinder -merge -useContext +onlyGivenNames v12
          have h13 : Keeps s0 v12 := by
            refine State.freezeInst_keeps ?_
            exact h10
          clear_value v12
          refine State.gradeStep_keeps ?_
          exact h13
      · refine State.gradeStep_keeps ?_
        refine State.substitute_keeps ?_
        exact h6

theorem State.showInst_keeps {s0} {a1} {a2} (g1 : Keeps s0 a1) : Keeps s0 (State.showInst a1 a2) := by
  unfold State.showInst
  extract_lets -underBinder -merge -useContext +onlyGivenNames v1
  clear_value v1
  extract_lets -underBinder -merge -useContext +onlyGivenNames v2
  have h3 : Keeps s0 v2 := by
    refine State.set_keeps ?_
    refine State.set_keeps ?_
    exact g1
  clear_value v2
  extract_lets -underBinder -merge -useContext +onlyGivenNames v4
  have h5 : Keeps s0 v4 := by
    refine State.set_keeps ?_
    exact h3
  clear_value v4
  extract_lets -underBinder -merge -useContext +onlyGivenNames v6
  have h7 : Keeps s0 v6 := by
    refine State.set_keeps ?_
    refine State.set_keeps ?_
    exact h5
  clear_value v6
  extract_lets -underBinder -merge -useContext +onlyGivenNames v8
  have h9 : Keeps s0 v8 := by
    refine State.setB_keeps ?_
    refine State.setB_keeps ?_
    exact h7
  clear_value v8
  extract_lets -underBinder -merge -useContext +onlyGivenNames v10
  have h11 : Keeps s0 v10 := by
    refine State.set_keeps ?_
    refine State.set_keeps ?_
    exact h9
  clear_value v10
  refine State.set_keeps ?_
  exact h11

theorem State.obsStage_keeps {s0} {a1} (g1 : Keeps s0 a1) : Keeps s0 (State.obsStage a1) := by
  unfold State.obsStage
  extract_lets -underBinder -merge -useContext +onlyGivenNames v1
  have h2 : Keeps s0 v1 := by
    refine State.takeCurrents_keeps ?_
    exact g1
  clear_value v1
  refine Keeps.each ?_ fun s3 x4 h5 => ?_
  · exact h2
  · extract_lets -underBinder -merge -useContext +onlyGivenNames v6
    have h7 : Keeps s0 v6 := by
      refine State.observe_keeps ?_
      exact h5
    clear_value v6
    refine State.setOrd_keeps ?_
    exact h7

theorem State.ledgerArm_keeps {s0} {a1} {a2} (g1 : Keeps s0 a1) : Keeps s0 (State.ledgerArm a1 a2) := by
  unfold State.ledgerArm
  extract_lets -underBinder -merge -useContext +onlyGivenNames v1
  clear_value v1
  extract_lets -underBinder -merge -useContext +onlyGivenNames v2
  clear_value v2
  extract_lets -underBinder -merge -useContext +onlyGivenNames v3
  clear_value v3
  extract_lets -underBinder -merge -useContext +onlyGivenNames v4
  clear_value v4
  extract_lets -underBinder -merge -useContext +onlyGivenNames v5
  clear_value v5
  extract_lets -underBinder -merge -useContext +onlyGivenNames v6
  clear_value v6
  extract_lets -underBinder -merge -useContext +onlyGivenNames v7
  clear_value v7
  extract_lets -underBinder -merge -useContext +onlyGivenNames v8
  clear_value v8
  extract_lets -underBinder -merge -useContext +onlyGivenNames v9
  clear_value v9
  extract_lets -underBinder -merge -useContext +onlyGivenNames v10
  clear_value v10
  extract_lets -underBinder -merge -useContext +onlyGivenNames v11
  have h12 : Keeps s0 v11 := by
    refine Keeps.each ?_ fun s13 x14 h15 => ?_
    · exact g1
    · refine State.setReg_keeps ?_
      exact h15
  clear_value v11
  extract_lets -underBinder -merge -useContext +onlyGivenNames v16
  have h17 : Keeps s0 v16 := by
    refine Keeps.each ?_ fun s18 x19 h20 => ?_
    · exact h12
    · refine State.setSigOk_keeps ?_
      refine State.setSig_keeps ?_
      exact h20
  clear_value v16
  extract_lets -underBinder -merge -useContext +onlyGivenNames v21
  have h22 : Keeps s0 v21 := by
    refine State.set_keeps ?_
    refine State.set_keeps ?_
    exact h17
  clear_value v21
  refine State.setB_keeps ?_
  exact h22

theorem State.ledgerSum_keeps {s0} {a1} {a2} {a3} (g1 : Keeps s0 a1) : Keeps s0 (State.ledgerSum a1 a2 a3) := by
  unfold State.ledgerSum
  extract_lets -underBinder -merge -useContext +onlyGivenNames v1
  clear_value v1
  extract_lets -underBinder -merge -useContext +onlyGivenNames v2
  clear_value v2
  refine State.setSigOk_keeps ?_
  refine State.setSig_keeps ?_
  exact g1

theorem State.ledgerStage_keeps {s0} {a1} (g1 : Keeps s0 a1) : Keeps s0 (State.ledgerStage a1) := by
  unfold State.ledgerStage
  extract_lets -underBinder -merge -useContext +onlyGivenNames v1
  have h2 : Keeps s0 v1 := by
    refine Keeps.each ?_ fun s3 x4 h5 => ?_
    · exact g1
    · refine State.ledgerArm_keeps ?_
      exact h5
  clear_value v1
  extract_lets -underBinder -merge -useContext +onlyGivenNames v6
  clear_value v6
  extract_lets -underBinder -merge -useContext +onlyGivenNames v7
  have h8 : Keeps s0 v7 := by
    refine Keeps.each ?_ fun s9 x10 h11 => ?_
    · exact h2
    · refine State.ledgerSum_keeps ?_
      exact h11
  clear_value v7
  extract_lets -underBinder -merge -useContext +onlyGivenNames v12
  have h13 : Keeps s0 v12 := by
    refine Keeps.each ?_ fun s14 x15 h16 => ?_
    · exact h8
    · extract_lets -underBinder -merge -useContext +onlyGivenNames v17
      clear_value v17
      extract_lets -underBinder -merge -useContext +onlyGivenNames v18
      have h19 : Keeps s0 v18 := by
        refine State.ledgerSum_keeps ?_
        exact h16
      clear_value v18
      extract_lets -underBinder -merge -useContext +onlyGivenNames v20
      have h21 : Keeps s0 v20 := by
        refine State.ledgerSum_keeps ?_
        exact h19
      clear_value v20
      refine State.ledgerSum_keeps ?_
      exact h21
  clear_value v12
  extract_lets -underBinder -merge -useContext +onlyGivenNames v22
  have h23 : Keeps s0 v22 := by
    refine State.ledgerSum_keeps ?_
    exact h13
  clear_value v22
  refine Keeps.each ?_ fun s24 x25 h26 => ?_
  · exact h23
  · refine State.showInst_keeps ?_
    exact h26

theorem State.obsCntClear_keeps {s0} {a1} (g1 : Keeps s0 a1) : Keeps s0 (State.obsCntClear a1) := by
  unfold State.obsCntClear
  refine State.clearAll_keeps ?_
  exact g1

theorem execReportsMissingExclusion_keeps {s0} {a1} {a2} (g2 : Keeps s0 a2) : KeepsN s0 (execReportsMissingExclusion a1 a2) := by
  unfold execReportsMissingExclusion
  refine KeepsN.next ?_
  refine State.missingExclude_keeps ?_
  exact g2

theorem execSensorFrozen_keeps {s0} {a1} {a2} (g2 : Keeps s0 a2) : KeepsN s0 (execSensorFrozen a1 a2) := by
  unfold execSensorFrozen
  refine KeepsN.next ?_
  extract_lets -underBinder -merge -useContext +onlyGivenNames v1
  have h2 : Keeps s0 v1 := by
    refine State.freezeInst_keeps ?_
    exact g2
  clear_value v1
  refine State.gradeStep_keeps ?_
  exact h2

theorem execGradeChange_keeps {s0} {a1} {a2} (g2 : Keeps s0 a2) : KeepsN s0 (execGradeChange a1 a2) := by
  unfold execGradeChange
  refine KeepsN.next ?_
  refine State.gradeStep_keeps ?_
  exact g2

end Sys2Proof.Machine
end

