-- ==== Sys2Proof/Laws/KeepsSelect.lean ====
section
/-!
SUPPORT. What the operations of Machine/Select.lean do to the queue, the fuses and the tables.
-/

namespace Sys2Proof.Machine

theorem State.pendExpire_keeps {s0} {a1} {a2} {a3} (g1 : Keeps s0 a1) : Keeps s0 (State.pendExpire a1 a2 a3) := by
  unfold State.pendExpire
  extract_lets -underBinder -merge -useContext +onlyGivenNames v1
  clear_value v1
  refine Keeps.ite ?_ ?_
  · refine State.bump_keeps ?_
    refine State.setArm_keeps ?_
    exact g1
  · exact g1

theorem State.pendStep_keeps {s0} {a1} {a2} {a3} (g1 : Keeps s0 a1) : Keeps s0 (State.pendStep a1 a2 a3) := by
  unfold State.pendStep
  extract_lets -underBinder -merge -useContext +onlyGivenNames v1
  clear_value v1
  refine Keeps.ite ?_ ?_
  · refine State.setArm_keeps ?_
    exact g1
  · refine Keeps.each ?_ fun s2 x3 h4 => ?_
    · exact g1
    · refine State.pendExpire_keeps ?_
      exact h4

theorem State.choosePip_keeps {s0} {a1} {a2} {a3} {a4} (g1 : Keeps s0 a1) : Keeps s0 (State.choosePip a1 a2 a3 a4).2 := by
  unfold State.choosePip
  extract_lets -underBinder -merge -useContext +onlyGivenNames v1
  clear_value v1
  extract_lets -underBinder -merge -useContext +onlyGivenNames v2
  clear_value v2
  extract_lets -underBinder -merge -useContext +onlyGivenNames v3
  clear_value v3
  extract_lets -underBinder -merge -useContext +onlyGivenNames v4
  clear_value v4
  split
  · refine Keeps.mk2 ?_
    refine State.set_keeps ?_
    refine State.set_keeps ?_
    exact g1
  · refine Keeps.mk2 ?_
    exact g1

theorem State.pipAged_keeps {s0} {a1} {a2} {a3} (g1 : Keeps s0 a1) : Keeps s0 (State.pipAged a1 a2 a3) := by
  unfold State.pipAged
  refine Keeps.ite ?_ ?_
  · refine State.bump_keeps ?_
    exact g1
  · exact g1

theorem State.clearArm_keeps {s0} {a1} {a2} (g1 : Keeps s0 a1) : Keeps s0 (State.clearArm a1 a2) := by
  unfold State.clearArm
  extract_lets -underBinder -merge -useContext +onlyGivenNames v1
  clear_value v1
  refine State.clearAll_keeps ?_
  refine State.setArm_keeps ?_
  exact g1

theorem State.armRef_keeps {s0} {a1} {a2} (g1 : Keeps s0 a1) : Keeps s0 (State.armRef a1 a2).2 := by
  unfold State.armRef
  extract_lets -underBinder -merge -useContext +onlyGivenNames v1
  clear_value v1
  extract_lets -underBinder -merge -useContext +onlyGivenNames v2
  clear_value v2
  extract_lets -underBinder -merge -useContext +onlyGivenNames v3
  clear_value v3
  refine Keeps.ite2 ?_ ?_
  · refine Keeps.mk2 ?_
    refine State.setArm_keeps ?_
    exact g1
  · extract_lets -underBinder -merge -useContext +onlyGivenNames v4
    have h5 : Keeps s0 v4 := by
      refine State.bump_keeps ?_
      exact g1
    clear_value v4
    split
    · refine Keeps.mk2 ?_
      exact h5
    · refine Keeps.mk2 ?_
      exact h5

theorem State.clampLevel_keeps {s0} {a1} {a2} {a3} {a4} (g1 : Keeps s0 a1) : Keeps s0 (State.clampLevel a1 a2 a3 a4).2.2 := by
  unfold State.clampLevel
  extract_lets -underBinder -merge -useContext +onlyGivenNames v1
  clear_value v1
  extract_lets -underBinder -merge -useContext +onlyGivenNames v2
  clear_value v2
  split
  rename_i x9 x10 q12
  have e11 : _ = x10 := congrArg Prod.snd q12
  have h8 : Keeps s0 x10 := by
    rw [← e11]
    refine Keeps.ite2 ?_ ?_
    · split
      rename_i x4 x5 q7
      have e6 : _ = x5 := congrArg Prod.snd q7
      have h3 : Keeps s0 x5 := by
        rw [← e6]
        refine State.free_keeps ?_
        exact g1
      refine Keeps.mk2 ?_
      exact h3
    · refine Keeps.mk2 ?_
      exact g1
  refine Keeps.mk3 ?_
  refine Keeps.mk2 ?_
  exact h8

theorem State.levels_keeps {s0} {a1} {a2} {a3} {a4} {a5} {a6} {a7} (g1 : Keeps s0 a1) : Keeps s0 (State.levels a1 a2 a3 a4 a5 a6 a7).2.2.2 := by
  unfold State.levels
  extract_lets -underBinder -merge -useContext +onlyGivenNames v1
  clear_value v1
  refine Keeps.ite4 ?_ ?_
  · refine Keeps.mk4 ?_
    refine Keeps.mk3 ?_
    refine Keeps.mk2 ?_
    exact g1
  · split
    rename_i x3 x4 x5 q13
    have e12 : _ = x5 := congrArg Prod.snd (congrArg Prod.snd q13)
    have h2 : Keeps s0 x5 := by
      rw [← e12]
      refine State.clampLevel_keeps ?_
      exact g1
    split
    rename_i x7 x8 x9 q11
    have e10 : _ = x9 := congrArg Prod.snd (congrArg Prod.snd q11)
    have h6 : Keeps s0 x9 := by
      rw [← e10]
      refine State.clampLevel_keeps ?_
      exact h2
    refine Keeps.mk4 ?_
    refine Keeps.mk3 ?_
    refine Keeps.mk2 ?_
    exact h6

theorem State.showSel_keeps {s0} {a1} {a2} {a3} {a4} {a5} {a6} {a7} {a8} {a9} {a10} {a11} {a12} (g1 : Keeps s0 a1) : Keeps s0 (State.showSel a1 a2 a3 a4 a5 a6 a7 a8 a9 a10 a11 a12) := by
  unfold State.showSel
  extract_lets -underBinder -merge -useContext +onlyGivenNames v1
  clear_value v1
  extract_lets -underBinder -merge -useContext +onlyGivenNames v2
  have h3 : Keeps s0 v2 := by
    refine State.setB_keeps ?_
    refine State.setB_keeps ?_
    refine State.setB_keeps ?_
    exact g1
  clear_value v2
  extract_lets -underBinder -merge -useContext +onlyGivenNames v4
  have h5 : Keeps s0 v4 := by
    refine State.setB_keeps ?_
    refine State.setB_keeps ?_
    refine State.setB_keeps ?_
    exact h3
  clear_value v4
  extract_lets -underBinder -merge -useContext +onlyGivenNames v6
  have h7 : Keeps s0 v6 := by
    refine State.set_keeps ?_
    refine State.setB_keeps ?_
    exact h5
  clear_value v6
  extract_lets -underBinder -merge -useContext +onlyGivenNames v8
  have h9 : Keeps s0 v8 := by
    refine State.set_keeps ?_
    refine State.set_keeps ?_
    exact h7
  clear_value v8
  extract_lets -underBinder -merge -useContext +onlyGivenNames v10
  have h11 : Keeps s0 v10 := by
    refine State.setReg_keeps ?_
    exact h9
  clear_value v10
  extract_lets -underBinder -merge -useContext +onlyGivenNames v12
  have h13 : Keeps s0 v12 := by
    refine State.setReg_keeps ?_
    exact h11
  clear_value v12
  extract_lets -underBinder -merge -useContext +onlyGivenNames v14
  have h15 : Keeps s0 v14 := by
    refine State.setReg_keeps ?_
    exact h13
  clear_value v14
  refine State.setReg_keeps ?_
  exact h15

theorem State.showPend_keeps {s0} {a1} {a2} (g1 : Keeps s0 a1) : Keeps s0 (State.showPend a1 a2) := by
  unfold State.showPend
  extract_lets -underBinder -merge -useContext +onlyGivenNames v1
  clear_value v1
  refine State.set_keeps ?_
  refine State.set_keeps ?_
  exact g1

theorem State.showIdle_keeps {s0} {a1} {a2} {a3} (g1 : Keeps s0 a1) : Keeps s0 (State.showIdle a1 a2 a3) := by
  unfold State.showIdle
  extract_lets -underBinder -merge -useContext +onlyGivenNames v1
  have h2 : Keeps s0 v1 := by
    refine State.clearAll_keeps ?_
    exact g1
  clear_value v1
  extract_lets -underBinder -merge -useContext +onlyGivenNames v3
  have h4 : Keeps s0 v3 := by
    refine State.setB_keeps ?_
    refine State.setB_keeps ?_
    exact h2
  clear_value v3
  refine State.showPend_keeps ?_
  refine State.set_keeps ?_
  exact h4

theorem State.selectWith_keeps {s0} {a1} {a2} {a3} {a4} {a5} (g1 : Keeps s0 a1) : Keeps s0 (State.selectWith a1 a2 a3 a4 a5).2 := by
  unfold State.selectWith
  extract_lets -underBinder -merge -useContext +onlyGivenNames v1
  clear_value v1
  extract_lets -underBinder -merge -useContext +onlyGivenNames v2
  clear_value v2
  extract_lets -underBinder -merge -useContext +onlyGivenNames v3
  clear_value v3
  extract_lets -underBinder -merge -useContext +onlyGivenNames v4
  clear_value v4
  extract_lets -underBinder -merge -useContext +onlyGivenNames v5
  clear_value v5
  extract_lets -underBinder -merge -useContext +onlyGivenNames v6
  clear_value v6
  extract_lets -underBinder -merge -useContext +onlyGivenNames v7
  clear_value v7
  split
  rename_i x9 x10 x11 x12 q68
  have e67 : _ = x12 := congrArg Prod.snd (congrArg Prod.snd (congrArg Prod.snd q68))
  have h8 : Keeps s0 x12 := by
    rw [← e67]
    refine State.levels_keeps ?_
    exact g1
  extract_lets -underBinder -merge -useContext +onlyGivenNames v13
  clear_value v13
  extract_lets -underBinder -merge -useContext +onlyGivenNames v14
  clear_value v14
  extract_lets -underBinder -merge -useContext +onlyGivenNames v15
  clear_value v15
  extract_lets -underBinder -merge -useContext +onlyGivenNames v16
  clear_value v16
  extract_lets -underBinder -merge -useContext +onlyGivenNames v17
  clear_value v17
  extract_lets -underBinder -merge -useContext +onlyGivenNames v18
  clear_value v18
  extract_lets -underBinder -merge -useContext +onlyGivenNames v19
  clear_value v19
  extract_lets -underBinder -merge -useContext +onlyGivenNames v20
  clear_value v20
  extract_lets -underBinder -merge -useContext +onlyGivenNames v21
  clear_value v21
  extract_lets -underBinder -merge -useContext +onlyGivenNames v22
  clear_value v22
  extract_lets -underBinder -merge -useContext +onlyGivenNames v23
  clear_value v23
  split
  · extract_lets -underBinder -merge -useContext +onlyGivenNames v24
    clear_value v24
    extract_lets -underBinder -merge -useContext +onlyGivenNames v25
    clear_value v25
    extract_lets -underBinder -merge -useContext +onlyGivenNames v26
    clear_value v26
    extract_lets -underBinder -merge -useContext +onlyGivenNames v27
    clear_value v27
    extract_lets -underBinder -merge -useContext +onlyGivenNames v28
    clear_value v28
    extract_lets -underBinder -merge -useContext +onlyGivenNames v29
    clear_value v29
    extract_lets -underBinder -merge -useContext +onlyGivenNames v30
    clear_value v30
    extract_lets -underBinder -merge -useContext +onlyGivenNames v31
    clear_value v31
    extract_lets -underBinder -merge -useContext +onlyGivenNames v32
    clear_value v32
    extract_lets -underBinder -merge -useContext +onlyGivenNames v33
    clear_value v33
    extract_lets -underBinder -merge -useContext +onlyGivenNames v34
    have h35 : Keeps s0 v34 := by
      refine Keeps.ite ?_ ?_
      · refine State.bump_keeps ?_
        exact h8
      · exact h8
    clear_value v34
    extract_lets -underBinder -merge -useContext +onlyGivenNames v36
    have h37 : Keeps s0 v36 := by
      refine State.bump_keeps ?_
      exact h35
    clear_value v36
    extract_lets -underBinder -merge -useContext +onlyGivenNames v38
    clear_value v38
    extract_lets -underBinder -merge -useContext +onlyGivenNames v39
    clear_value v39
    extract_lets -underBinder -merge -useContext +onlyGivenNames v40
    clear_value v40
    extract_lets -underBinder -merge -useContext +onlyGivenNames v41
    clear_value v41
    extract_lets -underBinder -merge -useContext +onlyGivenNames v42
    clear_value v42
    extract_lets -underBinder -merge -useContext +onlyGivenNames v43
    clear_value v43
    extract_lets -underBinder -merge -useContext +onlyGivenNames v44
    clear_value v44
    extract_lets -underBinder -merge -useContext +onlyGivenNames v45
    clear_value v45
    extract_lets -underBinder -merge -useContext +onlyGivenNames v46
    have h47 : Keeps s0 v46 := by
      refine Keeps.ite ?_ ?_
      · exact h37
      · refine State.pipAged_keeps ?_
        exact h37
    clear_value v46
    split
    rename_i x49 x50 q66
    have e65 : _ = x50 := congrArg Prod.snd q66
    have h48 : Keeps s0 x50 := by
      rw [← e65]
      refine Keeps.ite2 ?_ ?_
      · refine State.choosePip_keeps ?_
        exact h47
      · refine Keeps.mk2 ?_
        exact h47
    extract_lets -underBinder -merge -useContext +onlyGivenNames v51
    have h52 : Keeps s0 v51 := by
      refine Keeps.ite ?_ ?_
      · refine State.bump_keeps ?_
        exact h48
      · exact h48
    clear_value v51
    extract_lets -underBinder -merge -useContext +onlyGivenNames v53
    extract_lets -underBinder -merge -useContext +onlyGivenNames v54
    have h55 : Keeps s0 v54 := by
      refine Keeps.ite ?_ ?_
      · refine State.bump_keeps ?_
        exact h52
      · exact h52
    clear_value v54
    extract_lets -underBinder -merge -useContext +onlyGivenNames v56
    clear_value v56
    extract_lets -underBinder -merge -useContext +onlyGivenNames v57
    clear_value v57
    extract_lets -underBinder -merge -useContext +onlyGivenNames v58
    clear_value v58
    extract_lets -underBinder -merge -useContext +onlyGivenNames v59
    clear_value v59
    extract_lets -underBinder -merge -useContext +onlyGivenNames v60
    clear_value v60
    extract_lets -underBinder -merge -useContext +onlyGivenNames v61
    have h62 : Keeps s0 v61 := by
      refine State.setArm_keeps ?_
      exact h55
    clear_value v61
    extract_lets -underBinder -merge -useContext +onlyGivenNames v63
    have h64 : Keeps s0 v63 := by
      refine State.showPend_keeps ?_
      refine State.showSel_keeps ?_
      exact h62
    clear_value v63
    refine Keeps.mk2 ?_
    exact h64

theorem State.showCell_keeps {s0} {a1} {a2} {a3} {a4} {a5} {a6} (g1 : Keeps s0 a1) : Keeps s0 (State.showCell a1 a2 a3 a4 a5 a6) := by
  unfold State.showCell
  refine State.set_keeps ?_
  refine State.setB_keeps ?_
  refine State.setB_keeps ?_
  refine State.set_keeps ?_
  exact g1

theorem State.showNone_keeps {s0} {a1} {a2} (g1 : Keeps s0 a1) : Keeps s0 (State.showNone a1 a2) := by
  unfold State.showNone
  refine Keeps.each ?_ fun s1 x2 h3 => ?_
  · exact g1
  · refine State.set_keeps ?_
    refine State.showCell_keeps ?_
    exact h3

theorem State.showCells_keeps {s0} {a1} {a2} {a3} {a4} (g1 : Keeps s0 a1) : Keeps s0 (State.showCells a1 a2 a3 a4) := by
  unfold State.showCells
  refine Keeps.each ?_ fun s1 x2 h3 => ?_
  · exact g1
  · extract_lets -underBinder -merge -useContext +onlyGivenNames v4
    clear_value v4
    extract_lets -underBinder -merge -useContext +onlyGivenNames v5
    clear_value v5
    extract_lets -underBinder -merge -useContext +onlyGivenNames v6
    clear_value v6
    extract_lets -underBinder -merge -useContext +onlyGivenNames v7
    clear_value v7
    refine State.showCell_keeps ?_
    exact h3

theorem State.selectArm_keeps {s0} {a1} {a2} (g1 : Keeps s0 a1) : Keeps s0 (State.selectArm a1 a2).2 := by
  unfold State.selectArm
  extract_lets -underBinder -merge -useContext +onlyGivenNames v1
  clear_value v1
  extract_lets -underBinder -merge -useContext +onlyGivenNames v2
  have h3 : Keeps s0 v2 := by
    refine Keeps.ite ?_ ?_
    · refine State.noteTick_keeps ?_
      refine State.bump_keeps ?_
      exact g1
    · exact g1
  clear_value v2
  refine Keeps.ite2 ?_ ?_
  · refine Keeps.mk2 ?_
    refine State.showNone_keeps ?_
    refine State.showIdle_keeps ?_
    refine State.setArm_keeps ?_
    refine State.clearArm_keeps ?_
    exact h3
  · extract_lets -underBinder -merge -useContext +onlyGivenNames v4
    have h5 : Keeps s0 v4 := by
      refine State.pendStep_keeps ?_
      exact h3
    clear_value v4
    split
    rename_i x7 x8 q16
    have e15 : _ = x8 := congrArg Prod.snd q16
    have h6 : Keeps s0 x8 := by
      rw [← e15]
      refine State.armRef_keeps ?_
      exact h5
    split
    · refine Keeps.mk2 ?_
      refine State.showNone_keeps ?_
      refine State.showIdle_keeps ?_
      refine State.clearArm_keeps ?_
      exact h6
    · extract_lets -underBinder -merge -useContext +onlyGivenNames v9
      clear_value v9
      split
      rename_i x11 x12 q14
      have e13 : _ = x12 := congrArg Prod.snd q14
      have h10 : Keeps s0 x12 := by
        rw [← e13]
        refine State.selectWith_keeps ?_
        exact h6
      refine Keeps.mk2 ?_
      refine State.showCells_keeps ?_
      exact h10

theorem State.coastSelect_keeps {s0} {a1} {a2} {a3} (g1 : Keeps s0 a1) : Keeps s0 (State.coastSelect a1 a2 a3).2 := by
  unfold State.coastSelect
  extract_lets -underBinder -merge -useContext +onlyGivenNames v1
  clear_value v1
  extract_lets -underBinder -merge -useContext +onlyGivenNames v2
  clear_value v2
  extract_lets -underBinder -merge -useContext +onlyGivenNames v3
  clear_value v3
  extract_lets -underBinder -merge -useContext +onlyGivenNames v4
  clear_value v4
  split
  rename_i x6 x7 x8 x9 q28
  have e27 : _ = x9 := congrArg Prod.snd (congrArg Prod.snd (congrArg Prod.snd q28))
  have h5 : Keeps s0 x9 := by
    rw [← e27]
    refine State.levels_keeps ?_
    exact g1
  extract_lets -underBinder -merge -useContext +onlyGivenNames v10
  clear_value v10
  extract_lets -underBinder -merge -useContext +onlyGivenNames v11
  clear_value v11
  extract_lets -underBinder -merge -useContext +onlyGivenNames v12
  clear_value v12
  extract_lets -underBinder -merge -useContext +onlyGivenNames v13
  clear_value v13
  extract_lets -underBinder -merge -useContext +onlyGivenNames v14
  clear_value v14
  extract_lets -underBinder -merge -useContext +onlyGivenNames v15
  clear_value v15
  extract_lets -underBinder -merge -useContext +onlyGivenNames v16
  clear_value v16
  extract_lets -underBinder -merge -useContext +onlyGivenNames v17
  clear_value v17
  extract_lets -underBinder -merge -useContext +onlyGivenNames v18
  clear_value v18
  extract_lets -underBinder -merge -useContext +onlyGivenNames v19
  clear_value v19
  extract_lets -underBinder -merge -useContext +onlyGivenNames v20
  clear_value v20
  extract_lets -underBinder -merge -useContext +onlyGivenNames v21
  clear_value v21
  extract_lets -underBinder -merge -useContext +onlyGivenNames v22
  have h23 : Keeps s0 v22 := by
    refine Keeps.ite ?_ ?_
    · refine State.pipAged_keeps ?_
      exact h5
    · exact h5
  clear_value v22
  extract_lets -underBinder -merge -useContext +onlyGivenNames v24
  clear_value v24
  extract_lets -underBinder -merge -useContext +onlyGivenNames v25
  have h26 : Keeps s0 v25 := by
    refine State.setArm_keeps ?_
    exact h23
  clear_value v25
  refine Keeps.mk2 ?_
  exact h26

theorem State.pendWait_keeps {s0} {a1} {a2} (g1 : Keeps s0 a1) : Keeps s0 (State.pendWait a1 a2) := by
  unfold State.pendWait
  extract_lets -underBinder -merge -useContext +onlyGivenNames v1
  clear_value v1
  refine State.setArm_keeps ?_
  exact g1

theorem State.selCntClear_keeps {s0} {a1} (g1 : Keeps s0 a1) : Keeps s0 (State.selCntClear a1) := by
  unfold State.selCntClear
  refine Keeps.each ?_ fun s1 x2 h3 => ?_
  · exact g1
  · refine State.clearAll_keeps ?_
    exact h3

theorem execWaitExpired_keeps {s0} {a1} {a2} (g2 : Keeps s0 a2) : KeepsN s0 (execWaitExpired a1 a2) := by
  unfold execWaitExpired
  refine KeepsN.next ?_
  refine State.pendExpire_keeps ?_
  exact g2

theorem execPipMove_keeps {s0} {a1} {a2} (g2 : Keeps s0 a2) : KeepsN s0 (execPipMove a1 a2) := by
  unfold execPipMove
  refine KeepsN.next ?_
  refine Keeps.ite ?_ ?_
  · split
    rename_i x2 x3 q5
    have e4 : _ = x3 := congrArg Prod.snd q5
    have h1 : Keeps s0 x3 := by
      rw [← e4]
      refine State.choosePip_keeps ?_
      exact g2
    refine State.set_keeps ?_
    refine State.setArm_keeps ?_
    exact h1
  · exact g2

end Sys2Proof.Machine
end

