-- ==== Sys2Proof/Laws/KeepsEdge.lean ====
section
/-!
SUPPORT. What the operations of Machine/Edge.lean do to the queue, the fuses and the tables.
-/

namespace Sys2Proof.Machine

theorem State.showEdge_keeps {s0} {a1} {a2} {a3} {a4} (g1 : Keeps s0 a1) : Keeps s0 (State.showEdge a1 a2 a3 a4) := by
  unfold State.showEdge
  extract_lets -underBinder -merge -useContext +onlyGivenNames v1
  clear_value v1
  extract_lets -underBinder -merge -useContext +onlyGivenNames v2
  have h3 : Keeps s0 v2 := by
    refine State.set_keeps ?_
    refine State.set_keeps ?_
    exact g1
  clear_value v2
  refine State.set_keeps ?_
  exact h3

theorem State.fillEntries_keeps {s0} {a1} {a2} {a3} (g1 : Keeps s0 a1) : Keeps s0 (State.fillEntries a1 a2 a3) := by
  unfold State.fillEntries
  refine State.showEdge_keeps ?_
  refine Keeps.each ?_ fun s1 x2 h3 => ?_
  · exact g1
  · refine State.setEnt_keeps ?_
    exact h3

theorem State.blockEntries_keeps {s0} {a1} {a2} (g1 : Keeps s0 a1) : Keeps s0 (State.blockEntries a1 a2) := by
  unfold State.blockEntries
  refine State.fillEntries_keeps ?_
  exact g1

theorem State.fillEntry_keeps {s0} {a1} {a2} {a3} {a4} {a5} {a6} (g1 : Keeps s0 a1) : Keeps s0 (State.fillEntry a1 a2 a3 a4 a5 a6) := by
  unfold State.fillEntry
  extract_lets -underBinder -merge -useContext +onlyGivenNames v1
  clear_value v1
  extract_lets -underBinder -merge -useContext +onlyGivenNames v2
  clear_value v2
  extract_lets -underBinder -merge -useContext +onlyGivenNames v3
  clear_value v3
  extract_lets -underBinder -merge -useContext +onlyGivenNames v4
  clear_value v4
  extract_lets -underBinder -merge -useContext +onlyGivenNames v5
  clear_value v5
  extract_lets -underBinder -merge -useContext +onlyGivenNames v6
  clear_value v6
  extract_lets -underBinder -merge -useContext +onlyGivenNames v7
  have h8 : Keeps s0 v7 := by
    refine State.setEnt_keeps ?_
    exact g1
  clear_value v7
  refine Keeps.ite ?_ ?_
  · exact h8
  · refine State.set_keeps ?_
    exact h8

theorem State.edgeArm_keeps {s0} {a1} {a2} {a3} {a4} (g1 : Keeps s0 a1) : Keeps s0 (State.edgeArm a1 a2 a3 a4) := by
  unfold State.edgeArm
  extract_lets -underBinder -merge -useContext +onlyGivenNames v1
  clear_value v1
  extract_lets -underBinder -merge -useContext +onlyGivenNames v2
  clear_value v2
  extract_lets -underBinder -merge -useContext +onlyGivenNames v3
  clear_value v3
  extract_lets -underBinder -merge -useContext +onlyGivenNames v4
  clear_value v4
  extract_lets -underBinder -merge -useContext +onlyGivenNames v5
  clear_value v5
  split
  · extract_lets -underBinder -merge -useContext +onlyGivenNames v6
    clear_value v6
    extract_lets -underBinder -merge -useContext +onlyGivenNames v7
    clear_value v7
    extract_lets -underBinder -merge -useContext +onlyGivenNames v8
    have h9 : Keeps s0 v8 := by
      refine State.setArm_keeps ?_
      exact g1
    clear_value v8
    extract_lets -underBinder -merge -useContext +onlyGivenNames v10
    have h11 : Keeps s0 v10 := by
      refine State.bump_keeps ?_
      refine State.bump_keeps ?_
      exact h9
    clear_value v10
    extract_lets -underBinder -merge -useContext +onlyGivenNames v12
    have h13 : Keeps s0 v12 := by
      refine State.bump_keeps ?_
      refine State.bump_keeps ?_
      exact h11
    clear_value v12
    extract_lets -underBinder -merge -useContext +onlyGivenNames v14
    have h15 : Keeps s0 v14 := by
      refine Keeps.ite ?_ ?_
      · refine State.bump_keeps ?_
        exact h13
      · exact h13
    clear_value v14
    extract_lets -underBinder -merge -useContext +onlyGivenNames v16
    have h17 : Keeps s0 v16 := by
      refine State.showEdge_keeps ?_
      exact h15
    clear_value v16
    extract_lets -underBinder -merge -useContext +onlyGivenNames v18
    clear_value v18
    extract_lets -underBinder -merge -useContext +onlyGivenNames v19
    have h20 : Keeps s0 v19 := by
      unfold v19
      split
      · refine Keeps.ite ?_ ?_
        · refine State.setB_keeps ?_
          refine State.set_keeps ?_
          exact h17
        · exact h17
      · exact h17
    clear_value v19
    refine State.pendWait_keeps ?_
    refine Keeps.each ?_ fun s21 x22 h23 => ?_
    · exact h20
    · refine State.fillEntry_keeps ?_
      exact h23

theorem State.idleArm_keeps {s0} {a1} {a2} (g1 : Keeps s0 a1) : Keeps s0 (State.idleArm a1 a2) := by
  unfold State.idleArm
  extract_lets -underBinder -merge -useContext +onlyGivenNames v1
  have h2 : Keeps s0 v1 := by
    refine State.blockEntries_keeps ?_
    exact g1
  clear_value v1
  refine Keeps.ite ?_ ?_
  · refine State.pendWait_keeps ?_
    exact h2
  · exact h2

theorem State.planArm_keeps {s0} {a1} {a2} (g1 : Keeps s0 a1) : Keeps s0 (State.planArm a1 a2) := by
  unfold State.planArm
  split
  rename_i x2 x3 q5
  have e4 : _ = x3 := congrArg Prod.snd q5
  have h1 : Keeps s0 x3 := by
    rw [← e4]
    refine State.selectArm_keeps ?_
    exact g1
  split
  · refine State.edgeArm_keeps ?_
    exact h1
  · refine State.idleArm_keeps ?_
    exact h1

theorem State.planStage_keeps {s0} {a1} (g1 : Keeps s0 a1) : Keeps s0 (State.planStage a1) := by
  unfold State.planStage
  refine Keeps.each ?_ fun s1 x2 h3 => ?_
  · exact g1
  · refine State.planArm_keeps ?_
    exact h3

theorem State.coastArm_keeps {s0} {a1} {a2} (g1 : Keeps s0 a1) : Keeps s0 (State.coastArm a1 a2) := by
  unfold State.coastArm
  split
  · refine Keeps.ite ?_ ?_
    · split
      rename_i x2 x3 q5
      have e4 : _ = x3 := congrArg Prod.snd q5
      have h1 : Keeps s0 x3 := by
        rw [← e4]
        refine State.coastSelect_keeps ?_
        exact g1
      refine State.edgeArm_keeps ?_
      exact h1
    · refine State.idleArm_keeps ?_
      exact g1
  · refine State.idleArm_keeps ?_
    exact g1

theorem State.coastStage_keeps {s0} {a1} (g1 : Keeps s0 a1) : Keeps s0 (State.coastStage a1) := by
  unfold State.coastStage
  refine Keeps.each ?_ fun s1 x2 h3 => ?_
  · exact g1
  · refine State.coastArm_keeps ?_
    exact h3

theorem State.takeBack_keeps {s0} {a1} {a2} (g1 : Keeps s0 a1) : Keeps s0 (State.takeBack a1 a2) := by
  unfold State.takeBack
  extract_lets -underBinder -merge -useContext +onlyGivenNames v1
  clear_value v1
  refine Keeps.ite ?_ ?_
  · refine State.setReg_keeps ?_
    exact g1
  · exact g1

theorem State.addWear_keeps {s0} {a1} {a2} (g1 : Keeps s0 a1) : Keeps s0 (State.addWear a1 a2) := by
  unfold State.addWear
  extract_lets -underBinder -merge -useContext +onlyGivenNames v1
  clear_value v1
  extract_lets -underBinder -merge -useContext +onlyGivenNames v2
  clear_value v2
  refine Keeps.ite ?_ ?_
  · refine State.bump_keeps ?_
    refine State.setOrd_keeps ?_
    exact g1
  · refine Keeps.ite ?_ ?_
    · exact g1
    · refine State.bump_keeps ?_
      refine State.setOrd_keeps ?_
      exact g1

theorem State.handPlan_keeps {s0} {a1} {a2} (g1 : Keeps s0 a1) : Keeps s0 (State.handPlan a1 a2) := by
  unfold State.handPlan
  extract_lets -underBinder -merge -useContext +onlyGivenNames v1
  clear_value v1
  extract_lets -underBinder -merge -useContext +onlyGivenNames v2
  have h3 : Keeps s0 v2 := by
    refine Keeps.each ?_ fun s4 x5 h6 => ?_
    · exact g1
    · refine State.noteOrder_keeps ?_
      refine State.addWear_keeps ?_
      exact h6
  clear_value v2
  extract_lets -underBinder -merge -useContext +onlyGivenNames v7
  clear_value v7
  refine Keeps.parts ?_ rfl rfl
  exact h3

theorem State.dispatchFrames_keeps {s0} {a1} (g1 : Keeps s0 a1) : Keeps s0 (State.dispatchFrames a1) := by
  unfold State.dispatchFrames
  extract_lets -underBinder -merge -useContext +onlyGivenNames v1
  clear_value v1
  extract_lets -underBinder -merge -useContext +onlyGivenNames v2
  have h3 : Keeps s0 v2 := by
    refine Keeps.each ?_ fun s4 x5 h6 => ?_
    · exact g1
    · refine State.sendMsg_keeps ?_
      exact h6
  clear_value v2
  refine Keeps.parts ?_ rfl rfl
  exact h3

theorem State.blockArm_keeps {s0} {a1} {a2} (g1 : Keeps s0 a1) : Keeps s0 (State.blockArm a1 a2) := by
  unfold State.blockArm
  extract_lets -underBinder -merge -useContext +onlyGivenNames v1
  have h2 : Keeps s0 v1 := by
    refine Keeps.ite ?_ ?_
    · refine State.setB_keeps ?_
      refine State.setBit_keeps ?_
      exact g1
    · exact g1
  clear_value v1
  refine Keeps.ite ?_ ?_
  · extract_lets -underBinder -merge -useContext +onlyGivenNames v3
    have h4 : Keeps s0 v3 := by
      refine State.clearArm_keeps ?_
      exact h2
    clear_value v3
    refine State.catArmBlocked_keeps ?_
    refine State.setArm_keeps ?_
    exact h4
  · exact h2

theorem State.deblockArm_keeps {s0} {a1} {a2} (g1 : Keeps s0 a1) : Keeps s0 (State.deblockArm a1 a2) := by
  unfold State.deblockArm
  refine Keeps.ite ?_ ?_
  · exact g1
  · extract_lets -underBinder -merge -useContext +onlyGivenNames v1
    have h2 : Keeps s0 v1 := by
      refine State.clearArm_keeps ?_
      exact g1
    clear_value v1
    refine State.catArmDeblocked_keeps ?_
    refine State.setArm_keeps ?_
    exact h2

theorem State.haltRequest_keeps {s0} {a1} (g1 : Keeps s0 a1) : Keeps s0 (State.haltRequest a1) := by
  unfold State.haltRequest
  refine Keeps.ite ?_ ?_
  · refine Keeps.parts ?_ rfl rfl
    exact g1
  · refine State.setB_keeps ?_
    exact g1

theorem State.haltHusk_keeps {s0} {a1} {a2} (g1 : Keeps s0 a1) : Keeps s0 (State.haltHusk a1 a2) := by
  unfold State.haltHusk
  extract_lets -underBinder -merge -useContext +onlyGivenNames v1
  have h2 : Keeps s0 v1 := by
    refine State.huskOn_keeps ?_
    exact g1
  clear_value v1
  refine State.blockArm_keeps ?_
  refine State.setB_keeps ?_
  exact h2

theorem State.haltEntries_keeps {s0} {a1} (g1 : Keeps s0 a1) : Keeps s0 (State.haltEntries a1) := by
  unfold State.haltEntries
  refine Keeps.each ?_ fun s1 x2 h3 => ?_
  · exact g1
  · refine Keeps.ite ?_ ?_
    · refine State.fillEntries_keeps ?_
      exact h3
    · refine State.blockEntries_keeps ?_
      exact h3

theorem State.discardPlan_keeps {s0} {a1} (g1 : Keeps s0 a1) : Keeps s0 (State.discardPlan a1) := by
  unfold State.discardPlan
  split
  · exact g1
  · rename_i u hu
    extract_lets v0 v1
    have h2 : Keeps s0 v1 := Keeps.each g1 fun _ _ h => State.takeBack_keeps h
    clear_value v1
    refine ⟨h2.1, h2.2.1, fun x => ⟨?_, (h2.2.2 x).2⟩⟩
    obtain ⟨k7, _, _⟩ := (g1.2.2 x).1.2.2.2.2.2.2.2.2.2.2.2.2.2.2 u hu
    obtain ⟨h0, h1, h2, h3, h4, h5, h6, _, h8, h9, h10, h11, h12, h13, _⟩ := (h2.2.2 x).1
    exact ⟨h0, h1, h2, h3, h4, h5, h6, k7, h8, h9, h10, h11, h12, h13, fun w hw => (Option.some_ne_none w hw.symm).elim⟩

theorem State.haltStart_keeps {s0} {a1} (g1 : Keeps s0 a1) : Keeps s0 (State.haltStart a1) := by
  unfold State.haltStart
  extract_lets -underBinder -merge -useContext +onlyGivenNames v1
  clear_value v1
  extract_lets -underBinder -merge -useContext +onlyGivenNames v2
  extract_lets -underBinder -merge -useContext +onlyGivenNames v3
  have h4 : Keeps s0 v3 := by
    refine Keeps.parts ?_ rfl rfl
    exact g1
  clear_value v3
  extract_lets -underBinder -merge -useContext +onlyGivenNames v5
  have h6 : Keeps s0 v5 := by
    refine State.setB_keeps ?_
    refine State.discardPlan_keeps ?_
    exact h4
  clear_value v5
  extract_lets -underBinder -merge -useContext +onlyGivenNames v7
  have h8 : Keeps s0 v7 := by
    refine Keeps.each ?_ fun s9 x10 h11 => ?_
    · exact h6
    · refine Keeps.ite ?_ ?_
      · refine State.setB_keeps ?_
        refine State.setBit_keeps ?_
        exact h11
      · refine Keeps.ite ?_ ?_
        · refine State.haltHusk_keeps ?_
          exact h11
        · exact h11
  clear_value v7
  refine State.haltEntries_keeps ?_
  exact h8

theorem State.lvtest_keeps {s0} {a1} {a2} (g1 : Keeps s0 a1) : Keeps s0 (State.lvtest a1 a2) := by
  unfold State.lvtest
  extract_lets -underBinder -merge -useContext +onlyGivenNames v1
  have h2 : Keeps s0 v1 := by
    refine State.setB_keeps ?_
    exact g1
  clear_value v1
  refine Keeps.ite ?_ ?_
  · exact h2
  · refine Keeps.each ?_ fun s3 x4 h5 => ?_
    · exact h2
    · refine State.haltHusk_keeps ?_
      exact h5

theorem State.resume_keeps {s0} {a1} (g1 : Keeps s0 a1) : Keeps s0 (State.resume a1) := by
  unfold State.resume
  refine Keeps.ite ?_ ?_
  · refine Keeps.parts ?_ rfl rfl
    exact g1
  · extract_lets -underBinder -merge -useContext +onlyGivenNames v1
    have h2 : Keeps s0 v1 := by
      refine State.set_keeps ?_
      refine State.setB_keeps ?_
      exact g1
    clear_value v1
    refine Keeps.each ?_ fun s3 x4 h5 => ?_
    · exact h2
    · refine State.setB_keeps ?_
      refine State.setB_keeps ?_
      exact h5

theorem State.edgeCntClear_keeps {s0} {a1} (g1 : Keeps s0 a1) : Keeps s0 (State.edgeCntClear a1) := by
  unfold State.edgeCntClear
  refine Keeps.each ?_ fun s1 x2 h3 => ?_
  · exact g1
  · refine State.clearAll_keeps ?_
    exact h3

theorem execFrameDispatch_keeps {s0} {a1} (g1 : Keeps s0 a1) : KeepsN s0 (execFrameDispatch a1) := by
  unfold execFrameDispatch
  refine KeepsN.next ?_
  refine State.dispatchFrames_keeps ?_
  exact g1

theorem execLvtestChange_keeps {s0} {a1} {a2} (g2 : Keeps s0 a2) : KeepsN s0 (execLvtestChange a1 a2) := by
  unfold execLvtestChange
  refine KeepsN.next ?_
  refine State.lvtest_keeps ?_
  exact g2

end Sys2Proof.Machine
end

