-- ==== Sys2Proof/Laws/KeepsLoop.lean ====
section
/-!
SUPPORT. What the operations of Machine/Loop.lean do to the queue, the fuses and the tables.
-/

namespace Sys2Proof.Machine

theorem State.clearHeader_keeps {s0} {a1} {a2} (g1 : Keeps s0 a1) : Keeps s0 (State.clearHeader a1 a2) := by
  unfold State.clearHeader
  refine Keeps.each ?_ fun s1 x2 h3 => ?_
  · exact g1
  · refine State.setReg_keeps ?_
    exact h3

theorem State.setOutsOk_keeps {s0} {a1} {a2} {a3} (g1 : Keeps s0 a1) : Keeps s0 (State.setOutsOk a1 a2 a3) := by
  unfold State.setOutsOk
  refine Keeps.each ?_ fun s1 x2 h3 => ?_
  · exact g1
  · refine State.setSigOk_keeps ?_
    exact h3

theorem State.setShadowOk_keeps {s0} {a1} {a2} {a3} (g1 : Keeps s0 a1) : Keeps s0 (State.setShadowOk a1 a2 a3) := by
  unfold State.setShadowOk
  refine Keeps.each ?_ fun s1 x2 h3 => ?_
  · exact g1
  · refine State.setSigOk_keeps ?_
    exact h3

theorem State.injEnd_keeps {s0} {a1} {a2} {a3} (g1 : Keeps s0 a1) : Keeps s0 (State.injEnd a1 a2 a3) := by
  unfold State.injEnd
  extract_lets -underBinder -merge -useContext +onlyGivenNames v1
  clear_value v1
  refine Keeps.ite ?_ ?_
  · refine State.set_keeps ?_
    refine State.set_keeps ?_
    exact g1
  · exact g1

theorem State.injStart_keeps {s0} {a1} {a2} {a3} (g1 : Keeps s0 a1) : KeepsO s0 (State.injStart a1 a2 a3) := by
  unfold State.injStart
  extract_lets -underBinder -merge -useContext +onlyGivenNames v1
  clear_value v1
  extract_lets -underBinder -merge -useContext +onlyGivenNames v2
  clear_value v2
  extract_lets -underBinder -merge -useContext +onlyGivenNames v3
  clear_value v3
  refine KeepsO.ite ?_ ?_
  · exact KeepsO.none
  · extract_lets -underBinder -merge -useContext +onlyGivenNames v4
    have h5 : Keeps s0 v4 := by
      refine State.set_keeps ?_
      refine State.set_keeps ?_
      refine State.set_keeps ?_
      exact g1
    clear_value v4
    refine KeepsO.some ?_
    refine State.setCtx_keeps ?_
    exact h5

theorem State.injStop_keeps {s0} {a1} {a2} (g1 : Keeps s0 a1) : Keeps s0 (State.injStop a1 a2) := by
  unfold State.injStop
  extract_lets -underBinder -merge -useContext +onlyGivenNames v1
  clear_value v1
  refine Keeps.ite ?_ ?_
  · refine State.injEnd_keeps ?_
    exact g1
  · refine State.setB_keeps ?_
    exact g1

theorem State.injAdvance_keeps {s0} {a1} {a2} (g1 : Keeps s0 a1) : Keeps s0 (State.injAdvance a1 a2) := by
  unfold State.injAdvance
  extract_lets -underBinder -merge -useContext +onlyGivenNames v1
  clear_value v1
  extract_lets -underBinder -merge -useContext +onlyGivenNames v2
  clear_value v2
  extract_lets -underBinder -merge -useContext +onlyGivenNames v3
  clear_value v3
  extract_lets -underBinder -merge -useContext +onlyGivenNames v4
  clear_value v4
  extract_lets -underBinder -merge -useContext +onlyGivenNames v5
  clear_value v5
  extract_lets -underBinder -merge -useContext +onlyGivenNames v6
  clear_value v6
  extract_lets -underBinder -merge -useContext +onlyGivenNames v7
  have h8 : Keeps s0 v7 := by
    refine State.set_keeps ?_
    exact g1
  clear_value v7
  extract_lets -underBinder -merge -useContext +onlyGivenNames v9
  have h10 : Keeps s0 v9 := by
    refine State.setCtx_keeps ?_
    exact h8
  clear_value v9
  refine Keeps.ite ?_ ?_
  · refine State.set_keeps ?_
    refine State.set_keeps ?_
    exact h10
  · exact h10

theorem State.cmpRestart_keeps {s0} {a1} {a2} (g1 : Keeps s0 a1) : Keeps s0 (State.cmpRestart a1 a2) := by
  unfold State.cmpRestart
  refine Keeps.each ?_ fun s1 x2 h3 => ?_
  · exact g1
  · refine State.setCtx_keeps ?_
    exact h3

theorem State.ctxMode_keeps {s0} {a1} {a2} {a3} (g1 : Keeps s0 a1) : KeepsO s0 (State.ctxMode a1 a2 a3) := by
  unfold State.ctxMode
  extract_lets -underBinder -merge -useContext +onlyGivenNames v1
  clear_value v1
  refine KeepsO.ite ?_ ?_
  · exact KeepsO.none
  · refine KeepsO.ite ?_ ?_
    · refine KeepsO.some ?_
      exact g1
    · refine KeepsO.ite ?_ ?_
      · exact KeepsO.none
      · extract_lets -underBinder -merge -useContext +onlyGivenNames v2
        have h3 : ∀ x4, Keeps s0 x4 → Keeps s0 (v2 x4) := by
          intro x4 h5
          dsimp -zeta only [v2]
          refine State.setCtx_keeps ?_
          exact h5
        clear_value v2
        extract_lets -underBinder -merge -useContext +onlyGivenNames v6
        have h7 : ∀ x8, Keeps s0 x8 → Keeps s0 (v6 x8) := by
          intro x8 h9
          dsimp -zeta only [v6]
          refine State.set_keeps ?_
          refine State.cmpRestart_keeps ?_
          refine State.injEnd_keeps ?_
          exact h9
        clear_value v6
        split
        · refine KeepsO.some ?_
          refine State.setShadowOk_keeps ?_
          refine h3 _ ?_
          refine h7 _ ?_
          exact g1
        · refine KeepsO.some ?_
          refine State.setOutsOk_keeps ?_
          refine h7 _ ?_
          exact g1
        · refine KeepsO.ite ?_ ?_
          · exact KeepsO.none
          · refine KeepsO.some ?_
            refine h3 _ ?_
            refine h7 _ ?_
            exact g1
        · refine KeepsO.ite ?_ ?_
          · exact KeepsO.none
          · refine KeepsO.some ?_
            refine State.setOutsOk_keeps ?_
            refine h7 _ ?_
            exact g1
        · exact KeepsO.none

theorem State.exchange_keeps {s0} {a1} {a2} {a3} (g1 : Keeps s0 a1) : Keeps s0 (State.exchange a1 a2 a3) := by
  unfold State.exchange
  extract_lets -underBinder -merge -useContext +onlyGivenNames v1
  clear_value v1
  extract_lets -underBinder -merge -useContext +onlyGivenNames v2
  clear_value v2
  extract_lets -underBinder -merge -useContext +onlyGivenNames v3
  clear_value v3
  extract_lets -underBinder -merge -useContext +onlyGivenNames v4
  clear_value v4
  extract_lets -underBinder -merge -useContext +onlyGivenNames v5
  clear_value v5
  extract_lets -underBinder -merge -useContext +onlyGivenNames v6
  clear_value v6
  extract_lets -underBinder -merge -useContext +onlyGivenNames v7
  have h8 : Keeps s0 v7 := by
    refine State.set_keeps ?_
    refine State.set_keeps ?_
    exact g1
  clear_value v7
  extract_lets -underBinder -merge -useContext +onlyGivenNames v9
  have h10 : Keeps s0 v9 := by
    refine Keeps.each ?_ fun s11 x12 h13 => ?_
    · exact h8
    · refine State.setReg_keeps ?_
      refine State.setReg_keeps ?_
      exact h13
  clear_value v9
  extract_lets -underBinder -merge -useContext +onlyGivenNames v14
  have h15 : Keeps s0 v14 := by
    refine Keeps.each ?_ fun s16 x17 h18 => ?_
    · exact h10
    · refine State.set_keeps ?_
      exact h18
  clear_value v14
  refine Keeps.each ?_ fun s19 x20 h21 => ?_
  · exact h15
  · refine State.set_keeps ?_
    exact h21

theorem State.promote_keeps {s0} {a1} {a2} (g1 : Keeps s0 a1) : KeepsO s0 (State.promote a1 a2) := by
  unfold State.promote
  split
  · exact KeepsO.none
  · refine KeepsO.ite ?_ ?_
    · exact KeepsO.none
    · extract_lets -underBinder -merge -useContext +onlyGivenNames v1
      have h2 : Keeps s0 v1 := by
        refine State.cmpRestart_keeps ?_
        refine State.injEnd_keeps ?_
        refine State.injEnd_keeps ?_
        exact g1
      clear_value v1
      extract_lets -underBinder -merge -useContext +onlyGivenNames v3
      have h4 : Keeps s0 v3 := by
        refine State.cmpRestart_keeps ?_
        refine State.exchange_keeps ?_
        exact h2
      clear_value v3
      refine KeepsO.some ?_
      refine State.set_keeps ?_
      refine State.set_keeps ?_
      refine State.set_keeps ?_
      exact h4

theorem State.modeWrite_keeps {s0} {a1} {a2} {a3} (g1 : Keeps s0 a1) : KeepsO s0 (State.modeWrite a1 a2 a3) := by
  unfold State.modeWrite
  refine KeepsO.ite ?_ ?_
  · refine State.promote_keeps ?_
    exact g1
  · refine State.ctxMode_keeps ?_
    exact g1

theorem State.ctxFaultReset_keeps {s0} {a1} {a2} (g1 : Keeps s0 a1) : Keeps s0 (State.ctxFaultReset a1 a2) := by
  unfold State.ctxFaultReset
  refine Keeps.ite ?_ ?_
  · exact g1
  · extract_lets -underBinder -merge -useContext +onlyGivenNames v1
    have h2 : Keeps s0 v1 := by
      refine State.clearAll_keeps ?_
      exact g1
    clear_value v1
    extract_lets -underBinder -merge -useContext +onlyGivenNames v3
    clear_value v3
    extract_lets -underBinder -merge -useContext +onlyGivenNames v4
    have h5 : Keeps s0 v4 := by
      refine State.setCtx_keeps ?_
      exact h2
    clear_value v4
    refine Keeps.ite ?_ ?_
    · refine State.setShadowOk_keeps ?_
      exact h5
    · exact h5

theorem State.ctxApply_keeps {s0} {a1} {a2} {a3} (g1 : Keeps s0 a1) : Keeps s0 (State.ctxApply a1 a2 a3) := by
  unfold State.ctxApply
  split
  · refine Keeps.getD ?_ ?_
    · refine State.ctxMode_keeps ?_
      exact g1
    · exact g1
  · refine Keeps.getD ?_ ?_
    · refine State.promote_keeps ?_
      exact g1
    · exact g1
  · refine State.ctxFaultReset_keeps ?_
    exact g1
  · refine Keeps.getD ?_ ?_
    · refine State.injStart_keeps ?_
      exact g1
    · exact g1
  · refine State.injStop_keeps ?_
    exact g1

theorem State.ctxDue_keeps {s0} {a1} {a2} (g1 : Keeps s0 a1) : Keeps s0 (State.ctxDue a1 a2) := by
  unfold State.ctxDue
  extract_lets -underBinder -merge -useContext +onlyGivenNames v1
  clear_value v1
  extract_lets -underBinder -merge -useContext +onlyGivenNames v2
  clear_value v2
  extract_lets -underBinder -merge -useContext +onlyGivenNames v3
  clear_value v3
  refine Keeps.ite ?_ ?_
  · exact g1
  · refine Keeps.each ?_ fun s4 x5 h6 => ?_
    · refine State.setCtx_keeps ?_
      exact g1
    · refine State.ctxApply_keeps ?_
      exact h6

theorem State.ctxAsk_keeps {s0} {a1} {a2} {a3} (g1 : Keeps s0 a1) : Keeps s0 (State.ctxAsk a1 a2 a3) := by
  unfold State.ctxAsk
  extract_lets -underBinder -merge -useContext +onlyGivenNames v1
  clear_value v1
  refine State.setCtx_keeps ?_
  exact g1

theorem State.ctxFault_keeps {s0} {a1} {a2} {a3} {a4} (g1 : Keeps s0 a1) : Keeps s0 (State.ctxFault a1 a2 a3 a4) := by
  unfold State.ctxFault
  extract_lets -underBinder -merge -useContext +onlyGivenNames v1
  have h2 : Keeps s0 v1 := by
    refine State.set_keeps ?_
    refine State.set_keeps ?_
    refine State.setB_keeps ?_
    exact g1
  clear_value v1
  extract_lets -underBinder -merge -useContext +onlyGivenNames v3
  have h4 : Keeps s0 v3 := by
    refine State.cmpRestart_keeps ?_
    refine State.injEnd_keeps ?_
    refine State.bump_keeps ?_
    exact h2
  clear_value v3
  extract_lets -underBinder -merge -useContext +onlyGivenNames v5
  clear_value v5
  extract_lets -underBinder -merge -useContext +onlyGivenNames v6
  have h7 : Keeps s0 v6 := by
    refine State.noteTick_keeps ?_
    refine State.setCtx_keeps ?_
    exact h4
  clear_value v6
  extract_lets -underBinder -merge -useContext +onlyGivenNames v8
  have h9 : Keeps s0 v8 := by
    refine Keeps.ite ?_ ?_
    · refine State.localCause_keeps ?_
      exact h7
    · exact h7
  clear_value v8
  refine Keeps.ite ?_ ?_
  · refine State.setShadowOk_keeps ?_
    exact h9
  · exact h9

theorem State.faultActions_keeps {s0} {a1} {a2} (g1 : Keeps s0 a1) : Keeps s0 (State.faultActions a1 a2).1 := by
  unfold State.faultActions
  exact Keeps.foldl1 (l := a2) (p := (a1, false)) (s0 := s0) (f := fun (a : State × Bool) c =>
    match a.1.get F.CTX_CTRL.FAULT_ACTION c with
    | 0 => (a.1, a.2)
    | 1 =>
      if a.1.fallbackOk c (a.1.get F.CTX_CTRL.FALLBACK c) then
        ((State.set (State.set (if decide (a.1.ctxModeOf (a.1.get F.CTX_CTRL.FALLBACK c) = 0) = true then
          State.setCtx (((a.1.exchange c (a.1.get F.CTX_CTRL.FALLBACK c)).cmpRestart (a.1.get F.CTX_CTRL.FALLBACK c)).injEnd
            (a.1.get F.CTX_CTRL.FALLBACK c) 3) (a.1.get F.CTX_CTRL.FALLBACK c)
            { (((a.1.exchange c (a.1.get F.CTX_CTRL.FALLBACK c)).cmpRestart (a.1.get F.CTX_CTRL.FALLBACK c)).injEnd
              (a.1.get F.CTX_CTRL.FALLBACK c) 3).ctx (a.1.get F.CTX_CTRL.FALLBACK c) with started := false }
          else ((a.1.exchange c (a.1.get F.CTX_CTRL.FALLBACK c)).cmpRestart (a.1.get F.CTX_CTRL.FALLBACK c)).injEnd
            (a.1.get F.CTX_CTRL.FALLBACK c) 3) F.CTX_CTRL.MODE 1 (a.1.get F.CTX_CTRL.FALLBACK c)) F.CTX_CTRL.MODE 0 c).setOutsOk c false, a.2)
      else (a.1.setOutsOk c false, true)
    | _ => (a.1.setOutsOk c false, true)) g1 (by
    intro p x h
    dsimp only
    split
    · exact h
    · split
      · refine State.setOutsOk_keeps (State.set_keeps (State.set_keeps (Keeps.ite (State.setCtx_keeps ?_) ?_)))
        all_goals exact State.injEnd_keeps (State.cmpRestart_keeps (State.exchange_keeps h))
      · exact State.setOutsOk_keeps h
    · exact State.setOutsOk_keeps h)

theorem State.faultActionsNow_keeps {s0} {a1} {a2} (g1 : Keeps s0 a1) : Keeps s0 (State.faultActionsNow a1 a2) :=
  Keeps.ite (State.requestSbk_keeps (State.faultActions_keeps g1)) (State.faultActions_keeps g1)

theorem State.loopSafe_keeps {s0} {a1} (g1 : Keeps s0 a1) : Keeps s0 (State.loopSafe a1) := by
  unfold State.loopSafe
  refine Keeps.ite ?_ ?_
  · refine State.requestSbk_keeps ?_
    refine Keeps.parts ?_ rfl rfl
    exact g1
  · exact g1

theorem State.ctxBegin_keeps {s0} {a1} {a2} (g1 : Keeps s0 a1) : Keeps s0 (State.ctxBegin a1 a2) := by
  unfold State.ctxBegin
  extract_lets -underBinder -merge -useContext +onlyGivenNames v1
  clear_value v1
  refine Keeps.ite ?_ ?_
  · exact g1
  · extract_lets -underBinder -merge -useContext +onlyGivenNames v2
    clear_value v2
    refine State.setCtx_keeps ?_
    exact g1

theorem State.lostStep_keeps {s0} {a1} {a2} {a3} (g1 : Keeps s0 a1) : Keeps s0 (State.lostStep a1 a2 a3) := by
  unfold State.lostStep
  extract_lets -underBinder -merge -useContext +onlyGivenNames v1
  clear_value v1
  extract_lets -underBinder -merge -useContext +onlyGivenNames v2
  clear_value v2
  extract_lets -underBinder -merge -useContext +onlyGivenNames v3
  have h4 : Keeps s0 v3 := by
    refine State.set_keeps ?_
    exact g1
  clear_value v3
  refine Keeps.ite ?_ ?_
  · refine State.bump_keeps ?_
    exact h4
  · refine State.set_keeps ?_
    exact h4

theorem State.freezeInput_keeps {s0} {a1} {a2} {a3} (g1 : Keeps s0 a1) : Keeps s0 (State.freezeInput a1 a2 a3) := by
  unfold State.freezeInput
  extract_lets -underBinder -merge -useContext +onlyGivenNames v1
  clear_value v1
  extract_lets -underBinder -merge -useContext +onlyGivenNames v2
  clear_value v2
  refine Keeps.ite ?_ ?_
  · extract_lets -underBinder -merge -useContext +onlyGivenNames v3
    clear_value v3
    refine State.setCtx_keeps ?_
    refine State.setBit_keeps ?_
    exact g1
  · exact g1

theorem State.frzStep_keeps {s0} {a1} {a2} {a3} (g1 : Keeps s0 a1) : Keeps s0 (State.frzStep a1 a2 a3) := by
  unfold State.frzStep
  extract_lets -underBinder -merge -useContext +onlyGivenNames v1
  clear_value v1
  extract_lets -underBinder -merge -useContext +onlyGivenNames v2
  clear_value v2
  extract_lets -underBinder -merge -useContext +onlyGivenNames v3
  clear_value v3
  extract_lets -underBinder -merge -useContext +onlyGivenNames v4
  clear_value v4
  extract_lets -underBinder -merge -useContext +onlyGivenNames v5
  clear_value v5
  extract_lets -underBinder -merge -useContext +onlyGivenNames v6
  have h7 : Keeps s0 v6 := by
    refine Keeps.each ?_ fun s8 x9 h10 => ?_
    · exact g1
    · refine Keeps.ite ?_ ?_
      · refine State.setBit_keeps ?_
        exact h10
      · exact h10
  clear_value v6
  extract_lets -underBinder -merge -useContext +onlyGivenNames v11
  clear_value v11
  extract_lets -underBinder -merge -useContext +onlyGivenNames v12
  have h13 : Keeps s0 v12 := by
    refine State.setCtx_keeps ?_
    exact h7
  clear_value v12
  refine Keeps.each ?_ fun s14 x15 h16 => ?_
  · exact h13
  · refine State.freezeInput_keeps ?_
    exact h16

theorem State.feStep_keeps {s0} {a1} {a2} {a3} (g1 : Keeps s0 a1) : Keeps s0 (State.feStep a1 a2 a3) := by
  unfold State.feStep
  extract_lets -underBinder -merge -useContext +onlyGivenNames v1
  clear_value v1
  extract_lets -underBinder -merge -useContext +onlyGivenNames v2
  clear_value v2
  extract_lets -underBinder -merge -useContext +onlyGivenNames v3
  clear_value v3
  refine State.setCtx_keeps ?_
  exact g1

theorem State.cmpPublish_keeps {s0} {a1} {a2} (g1 : Keeps s0 a1) : Keeps s0 (State.cmpPublish a1 a2) := by
  unfold State.cmpPublish
  extract_lets -underBinder -merge -useContext +onlyGivenNames v1
  clear_value v1
  extract_lets -underBinder -merge -useContext +onlyGivenNames v2
  clear_value v2
  refine Keeps.ite ?_ ?_
  · exact g1
  · extract_lets -underBinder -merge -useContext +onlyGivenNames v3
    clear_value v3
    extract_lets -underBinder -merge -useContext +onlyGivenNames v4
    have h5 : Keeps s0 v4 := by
      refine State.setReg_keeps ?_
      refine State.setReg_keeps ?_
      exact g1
    clear_value v4
    refine State.setCtx_keeps ?_
    exact h5

theorem State.cmpStep_keeps {s0} {a1} {a2} {a3} (g1 : Keeps s0 a1) : Keeps s0 (State.cmpStep a1 a2 a3) := by
  unfold State.cmpStep
  split
  · exact g1
  · extract_lets -underBinder -merge -useContext +onlyGivenNames v1
    clear_value v1
    extract_lets -underBinder -merge -useContext +onlyGivenNames v2
    clear_value v2
    extract_lets -underBinder -merge -useContext +onlyGivenNames v3
    clear_value v3
    extract_lets -underBinder -merge -useContext +onlyGivenNames v4
    clear_value v4
    refine State.cmpPublish_keeps ?_
    refine State.setCtx_keeps ?_
    exact g1

theorem State.tuneSample_keeps {s0} {a1} {a2} {a3} {a4} {a5} {a6} (g1 : Keeps s0 a1) : Keeps s0 (State.tuneSample a1 a2 a3 a4 a5 a6) := by
  unfold State.tuneSample
  extract_lets -underBinder -merge -useContext +onlyGivenNames v1
  clear_value v1
  extract_lets -underBinder -merge -useContext +onlyGivenNames v2
  clear_value v2
  refine Keeps.parts ?_ rfl rfl
  exact g1

theorem State.commitRun_keeps {s0} {a1} {a2} {a3} (g1 : Keeps s0 a1) : Keeps s0 (State.commitRun a1 a2 a3) := by
  unfold State.commitRun
  extract_lets -underBinder -merge -useContext +onlyGivenNames v1
  clear_value v1
  extract_lets -underBinder -merge -useContext +onlyGivenNames v2
  clear_value v2
  extract_lets -underBinder -merge -useContext +onlyGivenNames v3
  have h4 : Keeps s0 v3 := by
    refine State.setCtx_keeps ?_
    exact g1
  clear_value v3
  extract_lets -underBinder -merge -useContext +onlyGivenNames v5
  have h6 : Keeps s0 v5 := by
    refine Keeps.each ?_ fun s7 x8 h9 => ?_
    · exact h4
    · refine State.setSigOk_keeps ?_
      refine State.setSig_keeps ?_
      exact h9
  clear_value v5
  extract_lets -underBinder -merge -useContext +onlyGivenNames v10
  have h11 : Keeps s0 v10 := by
    refine State.cmpStep_keeps ?_
    refine State.setB_keeps ?_
    refine State.bump_keeps ?_
    exact h6
  clear_value v10
  refine Keeps.ite ?_ ?_
  · extract_lets -underBinder -merge -useContext +onlyGivenNames v12
    have h13 : Keeps s0 v12 := by
      refine State.set_keeps ?_
      exact h11
    clear_value v12
    refine State.injAdvance_keeps ?_
    refine State.tuneSample_keeps ?_
    exact h13
  · exact h11

theorem State.runCtx_keeps {s0} {a1} {a2} {a3} (g1 : Keeps s0 a1) : Keeps s0 (State.runCtx a1 a2 a3) := by
  unfold State.runCtx
  extract_lets -underBinder -merge -useContext +onlyGivenNames v1
  have h2 : Keeps s0 v1 := by
    refine State.ctxBegin_keeps ?_
    exact g1
  clear_value v1
  extract_lets -underBinder -merge -useContext +onlyGivenNames v3
  clear_value v3
  extract_lets -underBinder -merge -useContext +onlyGivenNames v4
  have h5 : Keeps s0 v4 := by
    refine State.feStep_keeps ?_
    refine State.frzStep_keeps ?_
    refine State.lostStep_keeps ?_
    exact h2
  clear_value v4
  split
  · refine State.ctxFault_keeps ?_
    exact h5
  · refine State.commitRun_keeps ?_
    exact h5

theorem State.loopOpen_keeps {s0} {a1} (g1 : Keeps s0 a1) : Keeps s0 (State.loopOpen a1) := by
  unfold State.loopOpen
  refine Keeps.ite ?_ ?_
  · exact g1
  · extract_lets -underBinder -merge -useContext +onlyGivenNames v1
    extract_lets -underBinder -merge -useContext +onlyGivenNames v2
    have h3 : Keeps s0 v2 := by
      refine Keeps.parts ?_ rfl rfl
      exact g1
    clear_value v2
    extract_lets -underBinder -merge -useContext +onlyGivenNames v4
    have h5 : Keeps s0 v4 := by
      refine Keeps.ite ?_ ?_
      · exact h3
      · refine Keeps.each ?_ fun s6 x7 h8 => ?_
        · exact h3
        · refine State.ctxDue_keeps ?_
          exact h8
    clear_value v4
    refine Keeps.each ?_ fun s9 x10 h11 => ?_
    · exact h5
    · extract_lets -underBinder -merge -useContext +onlyGivenNames v12
      have h13 : Keeps s0 v12 := by
        refine State.clearAll_keeps ?_
        exact h11
      clear_value v12
      refine Keeps.ite ?_ ?_
      · refine State.setCtx_keeps ?_
        exact h13
      · exact h13

theorem State.loopStage_keeps {s0} {a1} (g1 : Keeps s0 a1) : Keeps s0 (State.loopStage a1) := by
  unfold State.loopStage
  refine Keeps.ite ?_ ?_
  · exact g1
  · extract_lets -underBinder -merge -useContext +onlyGivenNames v1
    clear_value v1
    extract_lets -underBinder -merge -useContext +onlyGivenNames v2
    clear_value v2
    extract_lets -underBinder -merge -useContext +onlyGivenNames v3
    clear_value v3
    extract_lets -underBinder -merge -useContext +onlyGivenNames v4
    have h5 : Keeps s0 v4 := by
      exact g1
    clear_value v4
    extract_lets -underBinder -merge -useContext +onlyGivenNames v6
    have h7 : Keeps s0 v6 := by
      refine Keeps.each ?_ fun s8 x9 h10 => ?_
      · exact g1
      · refine State.cmpRestart_keeps ?_
        refine State.bump_keeps ?_
        refine State.setB_keeps ?_
        exact h10
    clear_value v6
    extract_lets -underBinder -merge -useContext +onlyGivenNames v11
    clear_value v11
    extract_lets -underBinder -merge -useContext +onlyGivenNames v12
    have h13 : Keeps s0 v12 := by
      refine Keeps.each ?_ fun s14 x15 h16 => ?_
      · exact h7
      · refine State.runCtx_keeps ?_
        exact h16
    clear_value v12
    extract_lets -underBinder -merge -useContext +onlyGivenNames v17
    have h18 : Keeps s0 v17 := by
      refine State.set_keeps ?_
      exact h13
    clear_value v17
    extract_lets -underBinder -merge -useContext +onlyGivenNames v19
    exact Keeps.parts (State.faultActions_keeps h18) rfl rfl

theorem State.loopMissed_keeps {s0} {a1} (g1 : Keeps s0 a1) : Keeps s0 (State.loopMissed a1) := by
  unfold State.loopMissed
  refine Keeps.ite ?_ ?_
  · exact g1
  · refine Keeps.each ?_ fun s1 x2 h3 => ?_
    · exact g1
    · extract_lets -underBinder -merge -useContext +onlyGivenNames v4
      have h5 : Keeps s0 v4 := by
        refine State.bump_keeps ?_
        exact h3
      clear_value v4
      extract_lets -underBinder -merge -useContext +onlyGivenNames v6
      clear_value v6
      refine Keeps.ite ?_ ?_
      · refine State.tuneSample_keeps ?_
        exact h5
      · exact h5

theorem State.periodCheck_keeps {s0} {a1} (g1 : Keeps s0 a1) : Keeps s0 (State.periodCheck a1) := by
  unfold State.periodCheck
  refine Keeps.each ?_ fun s1 x2 h3 => ?_
  · exact g1
  · extract_lets -underBinder -merge -useContext +onlyGivenNames v4
    clear_value v4
    extract_lets -underBinder -merge -useContext +onlyGivenNames v5
    clear_value v5
    refine State.setB_keeps ?_
    exact h3

theorem State.coefCorrected_keeps {s0} {a1} {a2} {a3} (g1 : Keeps s0 a1) : Keeps s0 (State.coefCorrected a1 a2 a3) := by
  unfold State.coefCorrected
  refine State.bump_keeps ?_
  refine State.bump_keeps ?_
  exact g1

theorem State.scrubNext_keeps {s0} {a1} {a2} (g1 : Keeps s0 a1) : Keeps s0 (State.scrubNext a1 a2) := by
  unfold State.scrubNext
  extract_lets -underBinder -merge -useContext +onlyGivenNames v1
  clear_value v1
  extract_lets -underBinder -merge -useContext +onlyGivenNames v2
  have h3 : Keeps s0 v2 := by
    refine Keeps.ite ?_ ?_
    · refine State.bump_keeps ?_
      exact g1
    · exact g1
  clear_value v2
  refine State.set_keeps ?_
  exact h3

theorem State.scrubBlock_keeps {s0} {a1} {a2} {a3} {a4} {a5} (g1 : Keeps s0 a1) : Keeps s0 (State.scrubBlock a1 a2 a3 a4 a5) := by
  unfold State.scrubBlock
  refine Keeps.ite ?_ ?_
  · exact g1
  · extract_lets -underBinder -merge -useContext +onlyGivenNames v1
    have h2 : Keeps s0 v1 := by
      refine State.coefCorrected_keeps ?_
      refine State.scrubNext_keeps ?_
      exact g1
    clear_value v1
    extract_lets -underBinder -merge -useContext +onlyGivenNames v3
    have h4 : Keeps s0 v3 := by
      refine Keeps.ite ?_ ?_
      · refine State.bump_keeps ?_
        exact h2
      · exact h2
    clear_value v3
    extract_lets -underBinder -merge -useContext +onlyGivenNames v5
    clear_value v5
    extract_lets -underBinder -merge -useContext +onlyGivenNames v6
    have h7 : Keeps s0 v6 := by
      refine Keeps.ite ?_ ?_
      · refine State.bump_keeps ?_
        exact h4
      · exact h4
    clear_value v6
    refine Keeps.ite ?_ ?_
    · refine State.localCause_keeps ?_
      refine State.setCtx_keeps ?_
      exact h7
    · exact h7

theorem State.sealBlock_keeps {s0} {a1} {a2} (g1 : Keeps s0 a1) : Keeps s0 (State.sealBlock a1 a2) := by
  unfold State.sealBlock
  refine Keeps.ite ?_ ?_
  · exact g1
  · extract_lets -underBinder -merge -useContext +onlyGivenNames v1
    have h2 : Keeps s0 v1 := by
      refine State.clearHeader_keeps ?_
      exact g1
    clear_value v1
    refine State.setB_keeps ?_
    refine State.setReg_keeps ?_
    exact h2

theorem State.coefTouched_keeps {s0} {a1} {a2} (g1 : Keeps s0 a1) : Keeps s0 (State.coefTouched a1 a2) := by
  unfold State.coefTouched
  refine State.cmpRestart_keeps ?_
  refine State.setB_keeps ?_
  exact g1

theorem State.ctxCntClear_keeps {s0} {a1} {a2} (g1 : Keeps s0 a1) : Keeps s0 (State.ctxCntClear a1 a2) := by
  unfold State.ctxCntClear
  refine State.clearAll_keeps ?_
  exact g1

theorem State.loopCntClear_keeps {s0} {a1} (g1 : Keeps s0 a1) : Keeps s0 (State.loopCntClear a1) := by
  unfold State.loopCntClear
  extract_lets -underBinder -merge -useContext +onlyGivenNames v1
  have h2 : Keeps s0 v1 := by
    refine State.clearAll_keeps ?_
    exact g1
  clear_value v1
  refine Keeps.each ?_ fun s3 x4 h5 => ?_
  · exact h2
  · refine State.ctxCntClear_keeps ?_
    exact h5

theorem execContextLost_keeps {s0} {a1} {a2} (g2 : Keeps s0 a2) : KeepsN s0 (execContextLost a1 a2) := by
  unfold execContextLost
  refine KeepsN.next ?_
  refine Keeps.ite ?_ ?_
  · extract_lets -underBinder -merge -useContext +onlyGivenNames v1
    clear_value v1
    extract_lets -underBinder -merge -useContext +onlyGivenNames v2
    have h3 : Keeps s0 v2 := by
      refine State.ctxFault_keeps ?_
      exact g2
    clear_value v2
    refine Keeps.ite ?_ ?_
    · refine State.faultActionsNow_keeps ?_
      exact h3
    · exact h3
  · exact g2

theorem execFollowingError_keeps {s0} {a1} {a2} (g2 : Keeps s0 a2) : KeepsN s0 (execFollowingError a1 a2) := by
  unfold execFollowingError
  refine KeepsN.next ?_
  split
  · refine Keeps.ite ?_ ?_
    · extract_lets -underBinder -merge -useContext +onlyGivenNames v1
      clear_value v1
      extract_lets -underBinder -merge -useContext +onlyGivenNames v2
      have h3 : Keeps s0 v2 := by
        refine State.ctxFault_keeps ?_
        exact g2
      clear_value v2
      refine Keeps.ite ?_ ?_
      · refine State.faultActionsNow_keeps ?_
        exact h3
      · exact h3
    · exact g2
  · exact g2

theorem execInputFrozen_keeps {s0} {a1} {a2} {a3} (g3 : Keeps s0 a3) : KeepsN s0 (execInputFrozen a1 a2 a3) := by
  unfold execInputFrozen
  refine KeepsN.next ?_
  refine State.freezeInput_keeps ?_
  exact g3

theorem execCmpWindowEnd_keeps {s0} {a1} {a2} (g2 : Keeps s0 a2) : KeepsN s0 (execCmpWindowEnd a1 a2) := by
  unfold execCmpWindowEnd
  refine KeepsN.next ?_
  refine State.cmpPublish_keeps ?_
  exact g2

theorem execInjectionComplete_keeps {s0} {a1} {a2} (g2 : Keeps s0 a2) : KeepsN s0 (execInjectionComplete a1 a2) := by
  unfold execInjectionComplete
  refine KeepsN.next ?_
  refine Keeps.ite ?_ ?_
  · refine State.injEnd_keeps ?_
    exact g2
  · exact g2

theorem execScrubBlockCheck_keeps {s0} {a1} {a2} {a3} {a4} {a5} (g5 : Keeps s0 a5) : KeepsN s0 (execScrubBlockCheck a1 a2 a3 a4 a5) := by
  unfold execScrubBlockCheck
  refine KeepsN.next ?_
  refine State.scrubBlock_keeps ?_
  exact g5

end Sys2Proof.Machine
end

