-- ==== Sys2Proof/Laws/KeepsStnMsg.lean ====
section
/-!
SUPPORT. What the operations of Machine/StnMsg.lean do to the queue, the fuses and the tables.
-/

namespace Sys2Proof.Machine

theorem State.setSess_keeps {s0} {a1} {a2} {a3} (g1 : Keeps s0 a1) : Keeps s0 (State.setSess a1 a2 a3) := by
  unfold State.setSess
  refine Keeps.parts ?_ rfl rfl
  exact g1

theorem State.setExpected_keeps {s0} {a1} {a2} {a3} (g1 : Keeps s0 a1) : Keeps s0 (State.setExpected a1 a2 a3) := by
  unfold State.setExpected
  refine State.set64_keeps ?_
  exact g1

theorem State.setApplied_keeps {s0} {a1} {a2} {a3} (g1 : Keeps s0 a1) : Keeps s0 (State.setApplied a1 a2 a3) := by
  unfold State.setApplied
  refine State.set64_keeps ?_
  exact g1

theorem State.showCredit_keeps {s0} {a1} {a2} (g1 : Keeps s0 a1) : Keeps s0 (State.showCredit a1 a2) := by
  unfold State.showCredit
  refine State.set_keeps ?_
  exact g1

theorem State.tellSess_keeps {s0} {a1} {a2} {a3} {a4} {a5} (g1 : Keeps s0 a1) : Keeps s0 (State.tellSess a1 a2 a3 a4 a5) := by
  unfold State.tellSess
  extract_lets -underBinder -merge -useContext +onlyGivenNames v1
  clear_value v1
  refine State.emit_keeps ?_
  exact g1

theorem State.openAck_keeps {s0} {a1} {a2} {a3} (g1 : Keeps s0 a1) : Keeps s0 (State.openAck a1 a2 a3) := by
  unfold State.openAck
  refine State.tellSess_keeps ?_
  exact g1

theorem State.sendAck_keeps {s0} {a1} {a2} (g1 : Keeps s0 a1) : Keeps s0 (State.sendAck a1 a2) := by
  unfold State.sendAck
  extract_lets -underBinder -merge -useContext +onlyGivenNames v1
  clear_value v1
  extract_lets -underBinder -merge -useContext +onlyGivenNames v2
  clear_value v2
  refine State.tellSess_keeps ?_
  exact g1

theorem State.sendAcks_keeps {s0} {a1} (g1 : Keeps s0 a1) : Keeps s0 (State.sendAcks a1) := by
  unfold State.sendAcks
  refine Keeps.each ?_ fun s1 x2 h3 => ?_
  · exact g1
  · refine Keeps.ite ?_ ?_
    · refine State.sendAck_keeps ?_
      refine State.setSess_keeps ?_
      exact h3
    · exact h3

theorem State.acceptOrder_keeps {s0} {a1} {a2} (g1 : Keeps s0 a1) : Keeps s0 (State.acceptOrder a1 a2) := by
  unfold State.acceptOrder
  refine Keeps.ite ?_ ?_
  · exact g1
  · extract_lets -underBinder -merge -useContext +onlyGivenNames v1
    clear_value v1
    refine State.setSess_keeps ?_
    exact g1

theorem State.putSess_keeps {s0} {a1} {a2} (g1 : Keeps s0 a1) : Keeps s0 (State.putSess a1 a2) := by
  unfold State.putSess
  extract_lets -underBinder -merge -useContext +onlyGivenNames v1
  have h2 : Keeps s0 v1 := by
    refine State.set_keeps ?_
    refine State.set_keeps ?_
    exact g1
  clear_value v1
  extract_lets -underBinder -merge -useContext +onlyGivenNames v3
  have h4 : Keeps s0 v3 := by
    refine State.setB_keeps ?_
    exact h2
  clear_value v3
  extract_lets -underBinder -merge -useContext +onlyGivenNames v5
  have h6 : Keeps s0 v5 := by
    refine State.setApplied_keeps ?_
    refine State.setExpected_keeps ?_
    exact h4
  clear_value v5
  extract_lets -underBinder -merge -useContext +onlyGivenNames v7
  have h8 : Keeps s0 v7 := by
    refine State.setSess_keeps ?_
    exact h6
  clear_value v7
  refine State.showCredit_keeps ?_
  exact h8

theorem State.dropSess_keeps {s0} {a1} {a2} (g1 : Keeps s0 a1) : Keeps s0 (State.dropSess a1 a2) := by
  unfold State.dropSess
  extract_lets -underBinder -merge -useContext +onlyGivenNames v1
  clear_value v1
  extract_lets -underBinder -merge -useContext +onlyGivenNames v2
  clear_value v2
  extract_lets -underBinder -merge -useContext +onlyGivenNames v3
  have h4 : Keeps s0 v3 := by
    refine Keeps.parts ?_ rfl rfl
    exact g1
  clear_value v3
  extract_lets -underBinder -merge -useContext +onlyGivenNames v5
  have h6 : Keeps s0 v5 := by
    refine State.clearAll_keeps ?_
    refine State.setSess_keeps ?_
    exact h4
  clear_value v5
  refine State.setApplied_keeps ?_
  refine State.setExpected_keeps ?_
  exact h6

theorem State.homeMoved_keeps {s0} {a1} (g1 : Keeps s0 a1) : Keeps s0 (State.homeMoved a1) := by
  unfold State.homeMoved
  refine Keeps.each ?_ fun s1 x2 h3 => ?_
  · exact g1
  · refine Keeps.ite ?_ ?_
    · exact h3
    · extract_lets -underBinder -merge -useContext +onlyGivenNames v4
      clear_value v4
      extract_lets -underBinder -merge -useContext +onlyGivenNames v5
      have h6 : Keeps s0 v5 := by
        refine State.setExpected_keeps ?_
        refine State.setB_keeps ?_
        exact h3
      clear_value v5
      refine State.openAck_keeps ?_
      refine State.setSess_keeps ?_
      exact h6

end Sys2Proof.Machine
end

