-- ==== Sys2Proof/Laws/KeepsTwin.lean ====
section
/-!
SUPPORT. What the operations of Machine/Twin.lean do to the queue, the fuses and the tables.
-/

namespace Sys2Proof.Machine

theorem State.sendX_keeps {s0} {a1} {a2} {a3} (g1 : Keeps s0 a1) : Keeps s0 (State.sendX a1 a2 a3) := by
  unfold State.sendX
  refine Keeps.ite ?_ ?_
  · refine Keeps.each ?_ fun s1 x2 h3 => ?_
    · exact g1
    · refine State.emit_keeps ?_
      exact h3
  · exact g1

theorem State.rxX_keeps {s0} {a1} {a2} {a3} {a4} (g1 : Keeps s0 a1) (g4 : ∀ y1 y2, Keeps s0 y1 → Keeps s0 (a4 y1 y2)) : Keeps s0 (State.rxX a1 a2 a3 a4) := by
  unfold State.rxX
  split
  · refine g4 _ _ ?_
    exact g1
  · refine State.bump_keeps ?_
    exact g1

theorem State.setServo_keeps {s0} {a1} {a2} (g1 : Keeps s0 a1) : Keeps s0 (State.setServo a1 a2) := by
  unfold State.setServo
  extract_lets -underBinder -merge -useContext +onlyGivenNames v1
  have h2 : Keeps s0 v1 := by
    refine Keeps.ite ?_ ?_
    · refine State.noteTick_keeps ?_
      refine State.bump_keeps ?_
      exact g1
    · exact g1
  clear_value v1
  extract_lets -underBinder -merge -useContext +onlyGivenNames v3
  have h4 : Keeps s0 v3 := by
    refine Keeps.ite ?_ ?_
    · refine State.setB_keeps ?_
      exact h2
    · exact h2
  clear_value v3
  refine State.set_keeps ?_
  exact h4

theorem State.servoFree_keeps {s0} {a1} (g1 : Keeps s0 a1) : Keeps s0 (State.servoFree a1) := by
  unfold State.servoFree
  refine Keeps.ite ?_ ?_
  · extract_lets -underBinder -merge -useContext +onlyGivenNames v1
    have h2 : Keeps s0 v1 := by
      refine State.setServo_keeps ?_
      exact g1
    clear_value v1
    refine Keeps.parts ?_ rfl rfl
    exact h2
  · exact g1

theorem State.blockAll_keeps {s0} {a1} (g1 : Keeps s0 a1) : Keeps s0 (State.blockAll a1) := by
  unfold State.blockAll
  refine Keeps.each ?_ fun s1 x2 h3 => ?_
  · exact g1
  · refine State.blockArm_keeps ?_
    exact h3

theorem State.setMode_keeps {s0} {a1} {a2} {a3} (g1 : Keeps s0 a1) : Keeps s0 (State.setMode a1 a2 a3) := by
  unfold State.setMode
  extract_lets -underBinder -merge -useContext +onlyGivenNames v1
  clear_value v1
  refine Keeps.ite ?_ ?_
  · exact g1
  · extract_lets -underBinder -merge -useContext +onlyGivenNames v2
    clear_value v2
    extract_lets -underBinder -merge -useContext +onlyGivenNames v3
    have h4 : Keeps s0 v3 := by
      refine State.set_keeps ?_
      refine State.set_keeps ?_
      exact g1
    clear_value v3
    extract_lets -underBinder -merge -useContext +onlyGivenNames v5
    have h6 : Keeps s0 v5 := by
      refine State.noteTick_keeps ?_
      refine State.set64_keeps ?_
      exact h4
    clear_value v5
    extract_lets -underBinder -merge -useContext +onlyGivenNames v7
    have h8 : Keeps s0 v7 := by
      refine Keeps.parts ?_ rfl rfl
      exact h6
    clear_value v7
    extract_lets -underBinder -merge -useContext +onlyGivenNames v9
    have h10 : Keeps s0 v9 := by
      refine Keeps.ite ?_ ?_
      · refine State.bump_keeps ?_
        exact h8
      · exact h8
    clear_value v9
    extract_lets -underBinder -merge -useContext +onlyGivenNames v11
    have h12 : Keeps s0 v11 := by
      refine Keeps.ite ?_ ?_
      · refine State.bump_keeps ?_
        exact h10
      · exact h10
    clear_value v11
    extract_lets -underBinder -merge -useContext +onlyGivenNames v13
    have h14 : Keeps s0 v13 := by
      refine Keeps.ite ?_ ?_
      · refine State.clearAll_keeps ?_
        exact h12
      · exact h12
    clear_value v13
    extract_lets -underBinder -merge -useContext +onlyGivenNames v15
    have h16 : Keeps s0 v15 := by
      refine Keeps.ite ?_ ?_
      · refine State.runAll_keeps ?_
        exact h14
      · exact h14
    clear_value v15
    extract_lets -underBinder -merge -useContext +onlyGivenNames v17
    have h18 : Keeps s0 v17 := by
      refine Keeps.ite ?_ ?_
      · refine State.set_keeps ?_
        exact h16
      · exact h16
    clear_value v17
    extract_lets -underBinder -merge -useContext +onlyGivenNames v19
    have h20 : Keeps s0 v19 := by
      refine Keeps.ite ?_ ?_
      · refine State.homeMoved_keeps ?_
        exact h18
      · exact h18
    clear_value v19
    refine Keeps.ite ?_ ?_
    · refine State.servoFree_keeps ?_
      exact h20
    · exact h20

theorem State.modeAtTick_keeps {s0} {a1} {a2} {a3} (g1 : Keeps s0 a1) : Keeps s0 (State.modeAtTick a1 a2 a3) := by
  unfold State.modeAtTick
  refine Keeps.parts ?_ rfl rfl
  exact g1

theorem State.modeAtDispatch_keeps {s0} {a1} {a2} {a3} (g1 : Keeps s0 a1) : Keeps s0 (State.modeAtDispatch a1 a2 a3) := by
  unfold State.modeAtDispatch
  refine Keeps.parts ?_ rfl rfl
  exact g1

theorem State.withdraw_keeps {s0} {a1} {a2} (g1 : Keeps s0 a1) : Keeps s0 (State.withdraw a1 a2) := by
  unfold State.withdraw
  refine Keeps.ite ?_ ?_
  · refine State.modeAtDispatch_keeps ?_
    exact g1
  · exact g1

theorem State.sendPair_keeps {s0} {a1} {a2} {a3} {a4} (g1 : Keeps s0 a1) : Keeps s0 (State.sendPair a1 a2 a3 a4) := by
  unfold State.sendPair
  refine Keeps.ite ?_ ?_
  · refine State.sendEvt_keeps ?_
    exact g1
  · exact g1

theorem State.serveRejoin_keeps {s0} {a1} (g1 : Keeps s0 a1) : Keeps s0 (State.serveRejoin a1) := by
  unfold State.serveRejoin
  extract_lets -underBinder -merge -useContext +onlyGivenNames v1
  clear_value v1
  extract_lets -underBinder -merge -useContext +onlyGivenNames v2
  clear_value v2
  extract_lets -underBinder -merge -useContext +onlyGivenNames v3
  have h4 : Keeps s0 v3 := by
    refine Keeps.parts ?_ rfl rfl
    exact g1
  clear_value v3
  refine State.sendPair_keeps ?_
  refine State.set_keeps ?_
  exact h4

theorem State.takePair_keeps {s0} {a1} {a2} (g1 : Keeps s0 a1) : Keeps s0 (State.takePair a1 a2) := by
  unfold State.takePair
  extract_lets -underBinder -merge -useContext +onlyGivenNames v1
  clear_value v1
  refine Keeps.ite ?_ ?_
  · refine Keeps.ite ?_ ?_
    · extract_lets -underBinder -merge -useContext +onlyGivenNames v2
      have h3 : Keeps s0 v2 := by
        refine State.set_keeps ?_
        exact g1
      clear_value v2
      extract_lets -underBinder -merge -useContext +onlyGivenNames v4
      have h5 : Keeps s0 v4 := by
        refine Keeps.ite ?_ ?_
        · refine State.set_keeps ?_
          exact h3
        · exact h3
      clear_value v4
      refine Keeps.parts ?_ rfl rfl
      exact h5
    · exact g1
  · extract_lets -underBinder -merge -useContext +onlyGivenNames v6
    have h7 : Keeps s0 v6 := by
      refine State.setB_keeps ?_
      exact g1
    clear_value v6
    extract_lets -underBinder -merge -useContext +onlyGivenNames v8
    clear_value v8
    split
    · refine Keeps.ite ?_ ?_
      · split
        · refine Keeps.parts ?_ rfl rfl
          exact h7
        · exact h7
      · refine Keeps.ite ?_ ?_
        · exact h7
        · extract_lets -underBinder -merge -useContext +onlyGivenNames v9
          clear_value v9
          extract_lets -underBinder -merge -useContext +onlyGivenNames v10
          have h11 : Keeps s0 v10 := by
            refine Keeps.parts ?_ rfl rfl
            exact h7
          clear_value v10
          refine State.sendPair_keeps ?_
          exact h11
    · extract_lets -underBinder -merge -useContext +onlyGivenNames v12
      have h13 : Keeps s0 v12 := by
        refine State.setMode_keeps ?_
        exact h7
      clear_value v12
      extract_lets -underBinder -merge -useContext +onlyGivenNames v14
      clear_value v14
      extract_lets -underBinder -merge -useContext +onlyGivenNames v15
      have h16 : Keeps s0 v15 := by
        refine Keeps.parts ?_ rfl rfl
        exact h13
      clear_value v15
      refine State.set_keeps ?_
      exact h16
    · refine Keeps.ite ?_ ?_
      · extract_lets -underBinder -merge -useContext +onlyGivenNames v17
        clear_value v17
        extract_lets -underBinder -merge -useContext +onlyGivenNames v18
        have h19 : Keeps s0 v18 := by
          refine Keeps.parts ?_ rfl rfl
          exact h7
        clear_value v18
        refine State.sendPair_keeps ?_
        exact h19
      · refine Keeps.ite ?_ ?_
        · exact h7
        · refine State.serveRejoin_keeps ?_
          exact h7
    · refine Keeps.ite ?_ ?_
      · extract_lets -underBinder -merge -useContext +onlyGivenNames v20
        clear_value v20
        extract_lets -underBinder -merge -useContext +onlyGivenNames v21
        have h22 : Keeps s0 v21 := by
          refine Keeps.parts ?_ rfl rfl
          exact h7
        clear_value v21
        refine State.sendPair_keeps ?_
        exact h22
      · refine Keeps.ite ?_ ?_
        · exact h7
        · refine State.serveRejoin_keeps ?_
          exact h7
    · refine State.serveRejoin_keeps ?_
      refine State.setMode_keeps ?_
      exact h7
    · extract_lets -underBinder -merge -useContext +onlyGivenNames v23
      clear_value v23
      refine Keeps.ite ?_ ?_
      · exact h7
      · split
        · refine Keeps.parts ?_ rfl rfl
          exact h7
        · extract_lets -underBinder -merge -useContext +onlyGivenNames v24
          clear_value v24
          extract_lets -underBinder -merge -useContext +onlyGivenNames v25
          have h26 : Keeps s0 v25 := by
            refine Keeps.parts ?_ rfl rfl
            exact h7
          clear_value v25
          refine State.set_keeps ?_
          exact h26
        · exact h7
    · exact h7

theorem State.rejoinFail_keeps {s0} {a1} {a2} (g1 : Keeps s0 a1) : Keeps s0 (State.rejoinFail a1 a2) := by
  unfold State.rejoinFail
  refine Keeps.ite ?_ ?_
  · exact g1
  · extract_lets -underBinder -merge -useContext +onlyGivenNames v1
    have h2 : Keeps s0 v1 := by
      refine State.set_keeps ?_
      refine State.set_keeps ?_
      exact g1
    clear_value v1
    extract_lets -underBinder -merge -useContext +onlyGivenNames v3
    have h4 : Keeps s0 v3 := by
      refine State.clearAll_keeps ?_
      refine State.bump_keeps ?_
      exact h2
    clear_value v3
    refine Keeps.parts ?_ rfl rfl
    exact h4

theorem State.rejoinRetry_keeps {s0} {a1} (g1 : Keeps s0 a1) : Keeps s0 (State.rejoinRetry a1) := by
  unfold State.rejoinRetry
  refine Keeps.ite ?_ ?_
  · refine State.sendPair_keeps ?_
    refine Keeps.parts ?_ rfl rfl
    exact g1
  · exact g1

theorem State.takeSeq_keeps {s0} {a1} {a2} (g1 : Keeps s0 a1) : Keeps s0 (State.takeSeq a1 a2).2 := by
  unfold State.takeSeq
  extract_lets -underBinder -merge -useContext +onlyGivenNames v1
  clear_value v1
  refine Keeps.ite2 ?_ ?_
  · refine Keeps.mk2 ?_
    refine Keeps.parts ?_ rfl rfl
    exact g1
  · refine Keeps.ite2 ?_ ?_
    · refine Keeps.mk2 ?_
      exact g1
    · extract_lets -underBinder -merge -useContext +onlyGivenNames v2
      clear_value v2
      split
      · refine Keeps.mk2 ?_
        refine Keeps.parts ?_ rfl rfl
        exact g1

theorem State.notePeer_keeps {s0} {a1} {a2} (g1 : Keeps s0 a1) : Keeps s0 (State.notePeer a1 a2) := by
  unfold State.notePeer
  extract_lets -underBinder -merge -useContext +onlyGivenNames v1
  clear_value v1
  refine Keeps.parts ?_ rfl rfl
  exact g1

theorem State.rxEvent_keeps {s0} {a1} {a2} {a3} (g1 : Keeps s0 a1) (g3 : ∀ y1, Keeps s0 y1 → Keeps s0 (a3 y1)) : Keeps s0 (State.rxEvent a1 a2 a3) := by
  unfold State.rxEvent
  split
  · refine State.bump_keeps ?_
    exact g1
  · extract_lets -underBinder -merge -useContext +onlyGivenNames v1
    have h2 : Keeps s0 v1.2 := by
      refine State.takeSeq_keeps ?_
      exact g1
    clear_value v1
    refine Keeps.ite ?_ ?_
    · refine g3 _ ?_
      exact h2
    · exact h2

theorem State.takeAck_keeps {s0} {a1} {a2} (g1 : Keeps s0 a1) : Keeps s0 (State.takeAck a1 a2) := by
  unfold State.takeAck
  extract_lets -underBinder -merge -useContext +onlyGivenNames v1
  clear_value v1
  extract_lets -underBinder -merge -useContext +onlyGivenNames v2
  clear_value v2
  extract_lets -underBinder -merge -useContext +onlyGivenNames v3
  have h4 : Keeps s0 v3 := by
    refine Keeps.parts ?_ rfl rfl
    exact g1
  clear_value v3
  extract_lets -underBinder -merge -useContext +onlyGivenNames v5
  clear_value v5
  extract_lets -underBinder -merge -useContext +onlyGivenNames v6
  clear_value v6
  extract_lets -underBinder -merge -useContext +onlyGivenNames v7
  clear_value v7
  extract_lets -underBinder -merge -useContext +onlyGivenNames v8
  clear_value v8
  extract_lets -underBinder -merge -useContext +onlyGivenNames v9
  have h10 : Keeps s0 v9 := by
    refine Keeps.parts ?_ rfl rfl
    exact h4
  clear_value v9
  extract_lets -underBinder -merge -useContext +onlyGivenNames v11
  have h12 : Keeps s0 v11 := by
    refine Keeps.each ?_ fun s13 x14 h15 => ?_
    · exact h10
    · extract_lets -underBinder -merge -useContext +onlyGivenNames v16
      have h17 : Keeps s0 v16 := by
        refine Keeps.ite ?_ ?_
        · refine State.bump_keeps ?_
          exact h15
        · exact h15
      clear_value v16
      refine State.acceptOrder_keeps ?_
      exact h17
  clear_value v11
  extract_lets -underBinder -merge -useContext +onlyGivenNames v18
  have h19 : Keeps s0 v18 := by
    refine State.sendAcks_keeps ?_
    exact h12
  clear_value v18
  refine Keeps.each ?_ fun s20 x21 h22 => ?_
  · exact h19
  · refine Keeps.ite ?_ ?_
    · refine State.openAck_keeps ?_
      refine State.setSess_keeps ?_
      exact h22
    · exact h22

theorem State.resendEvts_keeps {s0} {a1} (g1 : Keeps s0 a1) : Keeps s0 (State.resendEvts a1) := by
  unfold State.resendEvts
  extract_lets -underBinder -merge -useContext +onlyGivenNames v1
  clear_value v1
  refine Keeps.ite ?_ ?_
  · exact g1
  · extract_lets -underBinder -merge -useContext +onlyGivenNames v2
    have h3 : Keeps s0 v2 := by
      refine Keeps.each ?_ fun s4 x5 h6 => ?_
      · exact g1
      · refine State.emit_keeps ?_
        exact h6
    clear_value v2
    refine Keeps.parts ?_ rfl rfl
    exact h3

theorem State.takeJournal_keeps {s0} {a1} {a2} (g1 : Keeps s0 a1) : Keeps s0 (State.takeJournal a1 a2) := by
  unfold State.takeJournal
  split
  · extract_lets -underBinder -merge -useContext +onlyGivenNames v1
    clear_value v1
    extract_lets -underBinder -merge -useContext +onlyGivenNames v2
    have h3 : Keeps s0 v2 := by
      refine Keeps.parts ?_ rfl rfl
      exact g1
    clear_value v2
    extract_lets -underBinder -merge -useContext +onlyGivenNames v4
    clear_value v4
    extract_lets -underBinder -merge -useContext +onlyGivenNames v5
    have h6 : Keeps s0 v5 := by
      refine Keeps.ite ?_ ?_
      · refine State.setSess_keeps ?_
        refine State.setExpected_keeps ?_
        exact h3
      · exact h3
    clear_value v5
    refine State.showCredit_keeps ?_
    exact h6
  · refine State.putSess_keeps ?_
    exact g1
  · refine State.dropSess_keeps ?_
    exact g1

theorem State.takeChange_keeps {s0} {a1} {a2} {a3} (g1 : Keeps s0 a1) : Keeps s0 (State.takeChange a1 a2 a3) := by
  unfold State.takeChange
  refine Keeps.ite ?_ ?_
  · refine State.bump_keeps ?_
    refine State.applyChange_keeps ?_
    exact g1
  · refine State.addChange_keeps ?_
    exact g1

theorem State.sendHeart_keeps {s0} {a1} (g1 : Keeps s0 a1) : Keeps s0 (State.sendHeart a1) := by
  unfold State.sendHeart
  refine Keeps.ite ?_ ?_
  · exact g1
  · refine State.sendX_keeps ?_
    exact g1

theorem State.heartModes_keeps {s0} {a1} {a2} (g1 : Keeps s0 a1) : Keeps s0 (State.heartModes a1 a2) := by
  unfold State.heartModes
  refine Keeps.ite ?_ ?_
  · refine State.setMode_keeps ?_
    exact g1
  · refine Keeps.ite ?_ ?_
    · refine State.modeAtDispatch_keeps ?_
      exact g1
    · exact g1

theorem State.heartSeen_keeps {s0} {a1} {a2} (g1 : Keeps s0 a1) : Keeps s0 (State.heartSeen a1 a2) := by
  unfold State.heartSeen
  extract_lets -underBinder -merge -useContext +onlyGivenNames v1
  have h2 : Keeps s0 v1 := by
    refine State.setB_keeps ?_
    refine State.set_keeps ?_
    exact g1
  clear_value v1
  refine Keeps.ite ?_ ?_
  · exact h2
  · refine Keeps.parts ?_ rfl rfl
    exact h2

theorem State.takeHeart_keeps {s0} {a1} {a2} {a3} (g1 : Keeps s0 a1) : Keeps s0 (State.takeHeart a1 a2 a3) := by
  unfold State.takeHeart
  split
  · extract_lets -underBinder -merge -useContext +onlyGivenNames v1
    have h2 : Keeps s0 v1 := by
      refine State.takeAck_keeps ?_
      exact g1
    clear_value v1
    extract_lets -underBinder -merge -useContext +onlyGivenNames v3
    clear_value v3
    extract_lets -underBinder -merge -useContext +onlyGivenNames v4
    have h5 : Keeps s0 v4 := by
      refine State.notePeer_keeps ?_
      refine Keeps.parts ?_ rfl rfl
      exact h2
    clear_value v4
    refine Keeps.ite ?_ ?_
    · exact h5
    · refine State.heartModes_keeps ?_
      refine State.heartSeen_keeps ?_
      exact h5
  · exact g1

theorem State.heartLost_keeps {s0} {a1} (g1 : Keeps s0 a1) : Keeps s0 (State.heartLost a1) := by
  unfold State.heartLost
  refine Keeps.ite ?_ ?_
  · exact g1
  · refine Keeps.ite ?_ ?_
    · refine State.setMode_keeps ?_
      refine State.bump_keeps ?_
      exact g1
    · refine Keeps.ite ?_ ?_
      · refine State.rejoinFail_keeps ?_
        refine State.bump_keeps ?_
        exact g1
      · refine Keeps.ite ?_ ?_
        · refine State.set_keeps ?_
          extract_lets -underBinder -merge -useContext +onlyGivenNames v1
          have h2 : Keeps s0 v1 := by
            refine State.bump_keeps ?_
            exact g1
          clear_value v1
          refine Keeps.parts ?_ rfl rfl
          exact h2
        · exact g1

theorem State.heartMiss_keeps {s0} {a1} (g1 : Keeps s0 a1) : Keeps s0 (State.heartMiss a1) := by
  unfold State.heartMiss
  refine Keeps.ite ?_ ?_
  · exact g1
  · extract_lets -underBinder -merge -useContext +onlyGivenNames v1
    clear_value v1
    extract_lets -underBinder -merge -useContext +onlyGivenNames v2
    have h3 : Keeps s0 v2 := by
      refine Keeps.parts ?_ rfl rfl
      exact g1
    extract_lets -underBinder -merge -useContext +onlyGivenNames v4
    have h5 : Keeps s0 v4 := by
      refine Keeps.ite ?_ ?_
      · refine State.setB_keeps ?_
        exact h3
      · exact h3
    clear_value v4
    extract_lets -underBinder -merge -useContext +onlyGivenNames v6
    have h7 : Keeps s0 v6 := by
      refine Keeps.ite ?_ ?_
      · refine State.bump_keeps ?_
        exact h5
      · exact h5
    clear_value v6
    refine State.heartLost_keeps ?_
    exact h7

theorem State.skewCheck_keeps {s0} {a1} (g1 : Keeps s0 a1) : Keeps s0 (State.skewCheck a1) := by
  unfold State.skewCheck
  refine Keeps.ite ?_ ?_
  · refine State.withdraw_keeps ?_
    exact g1
  · exact g1

theorem State.measureSkew_keeps {s0} {a1} {a2} (g1 : Keeps s0 a1) : Keeps s0 (State.measureSkew a1 a2) := by
  unfold State.measureSkew
  split
  · exact g1
  · extract_lets -underBinder -merge -useContext +onlyGivenNames v1
    clear_value v1
    extract_lets -underBinder -merge -useContext +onlyGivenNames v2
    clear_value v2
    extract_lets -underBinder -merge -useContext +onlyGivenNames v3
    have h4 : Keeps s0 v3 := by
      refine State.set_keeps ?_
      refine State.set_keeps ?_
      exact g1
    clear_value v3
    extract_lets -underBinder -merge -useContext +onlyGivenNames v5
    clear_value v5
    refine State.skewCheck_keeps ?_
    refine Keeps.parts ?_ rfl rfl
    exact h4

theorem State.sendAgree_keeps {s0} {a1} (g1 : Keeps s0 a1) : Keeps s0 (State.sendAgree a1) := by
  unfold State.sendAgree
  extract_lets -underBinder -merge -useContext +onlyGivenNames v1
  clear_value v1
  extract_lets -underBinder -merge -useContext +onlyGivenNames v2
  clear_value v2
  extract_lets -underBinder -merge -useContext +onlyGivenNames v3
  have h4 : Keeps s0 v3 := by
    refine Keeps.parts ?_ rfl rfl
    exact g1
  clear_value v3
  refine Keeps.ite ?_ ?_
  · refine State.sendX_keeps ?_
    refine State.sendX_keeps ?_
    exact h4
  · exact h4

theorem State.takeAgree_keeps {s0} {a1} {a2} (g1 : Keeps s0 a1) : Keeps s0 (State.takeAgree a1 a2) := by
  unfold State.takeAgree
  split
  · refine Keeps.ite ?_ ?_
    · exact g1
    · refine Keeps.parts ?_ rfl rfl
      exact g1
  · exact g1

theorem State.decideCell_keeps {s0} {a1} {a2} {a3} {a4} (g1 : Keeps s0 a1) : Keeps s0 (State.decideCell a1 a2 a3 a4) := by
  unfold State.decideCell
  refine State.setInput_keeps ?_
  exact g1

theorem State.decideSided_keeps {s0} {a1} {a2} {a3} {a4} (g1 : Keeps s0 a1) : Keeps s0 (State.decideSided a1 a2 a3 a4) := by
  unfold State.decideSided
  refine State.setInput_keeps ?_
  exact g1

theorem State.takeOwnCell_keeps {s0} {a1} {a2} (g1 : Keeps s0 a1) : Keeps s0 (State.takeOwnCell a1 a2) := by
  unfold State.takeOwnCell
  extract_lets -underBinder -merge -useContext +onlyGivenNames v1
  clear_value v1
  refine State.decideCell_keeps ?_
  exact g1

theorem State.strDecided_keeps {s0} {a1} {a2} {a3} {a4} (g1 : Keeps s0 a1) : Keeps s0 (State.strDecided a1 a2 a3 a4) := by
  unfold State.strDecided
  extract_lets -underBinder -merge -useContext +onlyGivenNames v1
  clear_value v1
  extract_lets -underBinder -merge -useContext +onlyGivenNames v2
  have h3 : Keeps s0 v2 := by
    refine State.set_keeps ?_
    refine State.setB_keeps ?_
    refine State.setB_keeps ?_
    exact g1
  clear_value v2
  extract_lets -underBinder -merge -useContext +onlyGivenNames v4
  have h5 : Keeps s0 v4 := by
    refine State.set_keeps ?_
    exact h3
  clear_value v4
  extract_lets -underBinder -merge -useContext +onlyGivenNames v6
  have h7 : Keeps s0 v6 := by
    refine Keeps.ite ?_ ?_
    · refine State.bump_keeps ?_
      exact h5
    · exact h5
  clear_value v6
  refine Keeps.ite ?_ ?_
  · extract_lets -underBinder -merge -useContext +onlyGivenNames v8
    have h9 : Keeps s0 v8 := by
      refine State.noteTick_keeps ?_
      refine State.bump_keeps ?_
      refine State.bump_keeps ?_
      exact h7
    clear_value v8
    refine Keeps.parts ?_ rfl rfl
    exact h9
  · exact h7

theorem State.rediscover_keeps {s0} {a1} {a2} (g1 : Keeps s0 a1) : Keeps s0 (State.rediscover a1 a2) := by
  unfold State.rediscover
  refine Keeps.ite ?_ ?_
  · refine State.setLink_keeps ?_
    exact g1
  · exact g1

theorem State.decideString_keeps {s0} {a1} {a2} {a3} {a4} (g1 : Keeps s0 a1) : Keeps s0 (State.decideString a1 a2 a3 a4) := by
  unfold State.decideString
  extract_lets -underBinder -merge -useContext +onlyGivenNames v1
  clear_value v1
  extract_lets -underBinder -merge -useContext +onlyGivenNames v2
  clear_value v2
  extract_lets -underBinder -merge -useContext +onlyGivenNames v3
  clear_value v3
  extract_lets -underBinder -merge -useContext +onlyGivenNames v4
  clear_value v4
  extract_lets -underBinder -merge -useContext +onlyGivenNames v5
  clear_value v5
  extract_lets -underBinder -merge -useContext +onlyGivenNames v6
  clear_value v6
  extract_lets -underBinder -merge -useContext +onlyGivenNames v7
  have h8 : Keeps s0 v7 := by
    refine Keeps.each ?_ fun s9 x10 h11 => ?_
    · exact g1
    · extract_lets -underBinder -merge -useContext +onlyGivenNames v12
      clear_value v12
      refine Keeps.ite ?_ ?_
      · refine Keeps.ite ?_ ?_
        · refine State.decideCell_keeps ?_
          exact h11
        · refine State.takeOwnCell_keeps ?_
          exact h11
      · refine Keeps.ite ?_ ?_
        · refine Keeps.ite ?_ ?_
          · refine State.decideCell_keeps ?_
            exact h11
          · refine State.decideSided_keeps ?_
            exact h11
        · refine Keeps.ite ?_ ?_
          · refine Keeps.ite ?_ ?_
            · refine State.decideCell_keeps ?_
              exact h11
            · refine State.decideSided_keeps ?_
              refine State.setInput_keeps ?_
              exact h11
          · refine State.decideCell_keeps ?_
            exact h11
  clear_value v7
  refine State.rediscover_keeps ?_
  refine State.strDecided_keeps ?_
  exact h8

theorem State.noAgreement_keeps {s0} {a1} (g1 : Keeps s0 a1) : Keeps s0 (State.noAgreement a1) := by
  unfold State.noAgreement
  refine Keeps.each ?_ fun s1 x2 h3 => ?_
  · exact g1
  · refine State.clearAll_keeps ?_
    refine State.setB_keeps ?_
    refine State.setB_keeps ?_
    exact h3

theorem State.countOdd_keeps {s0} {a1} (g1 : Keeps s0 a1) : Keeps s0 (State.countOdd a1) := by
  unfold State.countOdd
  split
  · refine Keeps.ite ?_ ?_
    · exact g1
    · extract_lets -underBinder -merge -useContext +onlyGivenNames v1
      refine Keeps.each ?_ fun s2 x3 h4 => ?_
      · exact g1
      · refine State.set_keeps ?_
        exact h4
  · exact g1

theorem State.agreeInputs_keeps {s0} {a1} (g1 : Keeps s0 a1) : Keeps s0 (State.agreeInputs a1) := by
  unfold State.agreeInputs
  refine Keeps.ite ?_ ?_
  · exact g1
  · extract_lets -underBinder -merge -useContext +onlyGivenNames v1
    clear_value v1
    extract_lets -underBinder -merge -useContext +onlyGivenNames v2
    clear_value v2
    extract_lets -underBinder -merge -useContext +onlyGivenNames v3
    have h4 : Keeps s0 v3 := by
      refine Keeps.parts ?_ rfl rfl
      exact g1
    clear_value v3
    extract_lets -underBinder -merge -useContext +onlyGivenNames v5
    clear_value v5
    split
    · refine State.countOdd_keeps ?_
      refine Keeps.each ?_ fun s6 x7 h8 => ?_
      · exact h4
      · refine State.decideString_keeps ?_
        exact h8
    · refine State.bump_keeps ?_
      refine State.noAgreement_keeps ?_
      refine Keeps.each ?_ fun s9 x10 h11 => ?_
      · exact h4
      · refine State.takeOwnCell_keeps ?_
        exact h11
    · refine State.noAgreement_keeps ?_
      refine Keeps.each ?_ fun s12 x13 h14 => ?_
      · exact h4
      · refine State.takeOwnCell_keeps ?_
        exact h14

theorem State.takePresence_keeps {s0} {a1} {a2} (g1 : Keeps s0 a1) : Keeps s0 (State.takePresence a1 a2) := by
  unfold State.takePresence
  split
  · refine Keeps.ite ?_ ?_
    · exact g1
    · refine State.countOdd_keeps ?_
      refine Keeps.parts ?_ rfl rfl
      exact g1
  · exact g1

theorem State.sendAdc_keeps {s0} {a1} (g1 : Keeps s0 a1) : Keeps s0 (State.sendAdc a1) := by
  unfold State.sendAdc
  refine Keeps.ite ?_ ?_
  · refine State.sendX_keeps ?_
    exact g1
  · exact g1

theorem State.takeAdc_keeps {s0} {a1} {a2} (g1 : Keeps s0 a1) : Keeps s0 (State.takeAdc a1 a2) := by
  unfold State.takeAdc
  split
  · exact g1
  · refine Keeps.ite ?_ ?_
    · exact g1
    · extract_lets -underBinder -merge -useContext +onlyGivenNames v1
      clear_value v1
      refine Keeps.parts ?_ rfl rfl
      exact g1

theorem State.putMeasure_keeps {s0} {a1} {a2} {a3} {a4} (g1 : Keeps s0 a1) : Keeps s0 (State.putMeasure a1 a2 a3 a4) := by
  unfold State.putMeasure
  extract_lets -underBinder -merge -useContext +onlyGivenNames v1
  clear_value v1
  extract_lets -underBinder -merge -useContext +onlyGivenNames v2
  clear_value v2
  extract_lets -underBinder -merge -useContext +onlyGivenNames v3
  clear_value v3
  extract_lets -underBinder -merge -useContext +onlyGivenNames v4
  have h5 : Keeps s0 v4 := by
    refine State.setChan_keeps ?_
    exact g1
  clear_value v4
  refine Keeps.ite ?_ ?_
  · refine State.setSigOk_keeps ?_
    refine Keeps.ite ?_ ?_
    · refine State.setSig_keeps ?_
      exact h5
    · exact h5
  · exact h5

theorem State.agreeChannel_keeps {s0} {a1} {a2} {a3} (g1 : Keeps s0 a1) : Keeps s0 (State.agreeChannel a1 a2 a3) := by
  unfold State.agreeChannel
  extract_lets -underBinder -merge -useContext +onlyGivenNames v1
  clear_value v1
  extract_lets -underBinder -merge -useContext +onlyGivenNames v2
  clear_value v2
  refine Keeps.ite ?_ ?_
  · refine State.putMeasure_keeps ?_
    exact g1
  · extract_lets -underBinder -merge -useContext +onlyGivenNames v3
    clear_value v3
    extract_lets -underBinder -merge -useContext +onlyGivenNames v4
    clear_value v4
    split
    · extract_lets -underBinder -merge -useContext +onlyGivenNames v5
      have h6 : Keeps s0 v5 := by
        refine State.set_keeps ?_
        refine State.setB_keeps ?_
        exact g1
      clear_value v5
      extract_lets -underBinder -merge -useContext +onlyGivenNames v7
      clear_value v7
      extract_lets -underBinder -merge -useContext +onlyGivenNames v8
      clear_value v8
      extract_lets -underBinder -merge -useContext +onlyGivenNames v9
      have h10 : Keeps s0 v9 := by
        refine State.setB_keeps ?_
        exact h6
      clear_value v9
      extract_lets -underBinder -merge -useContext +onlyGivenNames v11
      have h12 : Keeps s0 v11 := by
        refine Keeps.ite ?_ ?_
        · refine State.noteTick_keeps ?_
          refine State.bump_keeps ?_
          refine State.bump_keeps ?_
          exact h10
        · exact h10
      clear_value v11
      refine Keeps.ite ?_ ?_
      · refine State.putMeasure_keeps ?_
        exact h12
      · refine Keeps.ite ?_ ?_
        · refine State.putMeasure_keeps ?_
          exact h12
        · refine Keeps.ite ?_ ?_
          · refine State.putMeasure_keeps ?_
            exact h12
          · refine State.putMeasure_keeps ?_
            exact h12

theorem State.agreeChannels_keeps {s0} {a1} (g1 : Keeps s0 a1) : Keeps s0 (State.agreeChannels a1) := by
  unfold State.agreeChannels
  extract_lets -underBinder -merge -useContext +onlyGivenNames v1
  clear_value v1
  extract_lets -underBinder -merge -useContext +onlyGivenNames v2
  have h3 : Keeps s0 v2 := by
    refine Keeps.ite ?_ ?_
    · refine State.bump_keeps ?_
      exact g1
    · exact g1
  clear_value v2
  refine Keeps.each ?_ fun s4 x5 h6 => ?_
  · exact h3
  · refine State.agreeChannel_keeps ?_
    exact h6

theorem State.diverge_keeps {s0} {a1} {a2} {a3} (g1 : Keeps s0 a1) : Keeps s0 (State.diverge a1 a2 a3) := by
  unfold State.diverge
  extract_lets -underBinder -merge -useContext +onlyGivenNames v1
  have h2 : Keeps s0 v1 := by
    refine State.bump_keeps ?_
    exact g1
  clear_value v1
  extract_lets -underBinder -merge -useContext +onlyGivenNames v3
  clear_value v3
  refine Keeps.ite ?_ ?_
  · refine State.withdraw_keeps ?_
    exact h2
  · refine State.modeAtDispatch_keeps ?_
    exact h2

theorem State.compareDigests_keeps {s0} {a1} (g1 : Keeps s0 a1) : Keeps s0 (State.compareDigests a1) := by
  unfold State.compareDigests
  split
  · refine Keeps.ite ?_ ?_
    · exact g1
    · extract_lets -underBinder -merge -useContext +onlyGivenNames v1
      clear_value v1
      extract_lets -underBinder -merge -useContext +onlyGivenNames v2
      have h3 : Keeps s0 v2 := by
        refine Keeps.parts ?_ rfl rfl
        exact g1
      clear_value v2
      extract_lets -underBinder -merge -useContext +onlyGivenNames v4
      have h5 : Keeps s0 v4 := by
        refine State.setReg_keeps ?_
        refine State.setReg_keeps ?_
        exact h3
      clear_value v4
      refine Keeps.ite ?_ ?_
      · exact h5
      · refine State.diverge_keeps ?_
        exact h5
  · exact g1

theorem State.sendState_keeps {s0} {a1} {a2} {a3} (g1 : Keeps s0 a1) : Keeps s0 (State.sendState a1 a2 a3) := by
  unfold State.sendState
  extract_lets -underBinder -merge -useContext +onlyGivenNames v1
  clear_value v1
  extract_lets -underBinder -merge -useContext +onlyGivenNames v2
  clear_value v2
  extract_lets -underBinder -merge -useContext +onlyGivenNames v3
  clear_value v3
  refine Keeps.ite ?_ ?_
  · exact g1
  · extract_lets -underBinder -merge -useContext +onlyGivenNames v4
    clear_value v4
    extract_lets -underBinder -merge -useContext +onlyGivenNames v5
    have h6 : Keeps s0 v5 := by
      refine Keeps.parts ?_ rfl rfl
      exact g1
    clear_value v5
    extract_lets -underBinder -merge -useContext +onlyGivenNames v7
    have h8 : Keeps s0 v7 := by
      refine State.sendX_keeps ?_
      exact h6
    clear_value v7
    refine State.compareDigests_keeps ?_
    exact h8

theorem State.stateMissing_keeps {s0} {a1} (g1 : Keeps s0 a1) : Keeps s0 (State.stateMissing a1) := by
  unfold State.stateMissing
  split
  · refine Keeps.ite ?_ ?_
    · refine State.diverge_keeps ?_
      refine Keeps.parts ?_ rfl rfl
      exact g1
    · exact g1
  · exact g1

theorem State.otherFrame_keeps {s0} {a1} {a2} {a3} (g1 : Keeps s0 a1) : Keeps s0 (State.otherFrame a1 a2 a3) := by
  unfold State.otherFrame
  extract_lets -underBinder -merge -useContext +onlyGivenNames v1
  clear_value v1
  extract_lets -underBinder -merge -useContext +onlyGivenNames v2
  have h3 : Keeps s0 v2 := by
    refine State.setB_keeps ?_
    refine State.setLink_keeps ?_
    exact g1
  clear_value v2
  refine Keeps.ite ?_ ?_
  · exact h3
  · refine Keeps.ite ?_ ?_
    · refine Keeps.ite ?_ ?_
      · refine State.modeAtDispatch_keeps ?_
        exact h3
      · exact h3
    · refine Keeps.ite ?_ ?_
      · refine Keeps.parts ?_ rfl rfl
        exact h3
      · exact h3

theorem State.countSilence_keeps {s0} {a1} (g1 : Keeps s0 a1) : Keeps s0 (State.countSilence a1) := by
  unfold State.countSilence
  refine Keeps.ite ?_ ?_
  · refine Keeps.parts ?_ rfl rfl
    exact g1
  · exact g1

theorem State.confirmSilence_keeps {s0} {a1} (g1 : Keeps s0 a1) : Keeps s0 (State.confirmSilence a1) := by
  unfold State.confirmSilence
  refine Keeps.ite ?_ ?_
  · refine State.setMode_keeps ?_
    exact g1
  · exact g1

theorem State.juniorTimeout_keeps {s0} {a1} (g1 : Keeps s0 a1) : Keeps s0 (State.juniorTimeout a1) := by
  unfold State.juniorTimeout
  refine Keeps.ite ?_ ?_
  · refine State.setMode_keeps ?_
    exact g1
  · exact g1

theorem State.modeBoundary_keeps {s0} {a1} (g1 : Keeps s0 a1) : Keeps s0 (State.modeBoundary a1) := by
  unfold State.modeBoundary
  extract_lets -underBinder -merge -useContext +onlyGivenNames v1
  have h2 : Keeps s0 v1 := by
    unfold v1
    split
    · refine State.setMode_keeps ?_
      exact g1
    · exact g1
  clear_value v1
  refine State.juniorTimeout_keeps ?_
  refine State.confirmSilence_keeps ?_
  refine State.countSilence_keeps ?_
  exact h2

theorem State.modeDispatch_keeps {s0} {a1} (g1 : Keeps s0 a1) : Keeps s0 (State.modeDispatch a1) := by
  unfold State.modeDispatch
  split
  · extract_lets -underBinder -merge -useContext +onlyGivenNames v1
    have h2 : Keeps s0 v1 := by
      refine State.setMode_keeps ?_
      exact g1
    clear_value v1
    refine Keeps.ite ?_ ?_
    · refine State.sendPair_keeps ?_
      exact h2
    · exact h2
  · exact g1

theorem State.pairWait_keeps {s0} {a1} (g1 : Keeps s0 a1) : Keeps s0 (State.pairWait a1) := by
  unfold State.pairWait
  refine Keeps.ite ?_ ?_
  · refine Keeps.ite ?_ ?_
    · exact g1
    · refine State.modeAtTick_keeps ?_
      exact g1
  · refine Keeps.ite ?_ ?_
    · refine State.modeAtTick_keeps ?_
      refine State.blockAll_keeps ?_
      exact g1
    · exact g1

theorem State.twinCntClear_keeps {s0} {a1} (g1 : Keeps s0 a1) : Keeps s0 (State.twinCntClear a1) := by
  unfold State.twinCntClear
  extract_lets -underBinder -merge -useContext +onlyGivenNames v1
  have h2 : Keeps s0 v1 := by
    refine State.clearAll_keeps ?_
    exact g1
  clear_value v1
  extract_lets -underBinder -merge -useContext +onlyGivenNames v3
  have h4 : Keeps s0 v3 := by
    refine Keeps.each ?_ fun s5 x6 h7 => ?_
    · exact h2
    · refine State.set_keeps ?_
      exact h7
  clear_value v3
  refine Keeps.each ?_ fun s8 x9 h10 => ?_
  · exact h4
  · refine State.set_keeps ?_
    exact h10

theorem execHeartRx_keeps {s0} {a1} {a2} {a3} (g3 : Keeps s0 a3) : KeepsN s0 (execHeartRx a1 a2 a3) := by
  unfold execHeartRx
  refine KeepsN.next ?_
  refine State.rxX_keeps ?_ ?_
  · exact g3
  · intro x1 x3 h2
    refine State.takeHeart_keeps ?_
    exact h2

theorem execHeartDeadline_keeps {s0} {a1} (g1 : Keeps s0 a1) : KeepsN s0 (execHeartDeadline a1) := by
  unfold execHeartDeadline
  refine KeepsN.next ?_
  refine State.heartMiss_keeps ?_
  exact g1

theorem execHeartbeatLost_keeps {s0} {a1} (g1 : Keeps s0 a1) : KeepsN s0 (execHeartbeatLost a1) := by
  unfold execHeartbeatLost
  refine KeepsN.next ?_
  refine State.heartLost_keeps ?_
  exact g1

theorem execAdcMsgRx_keeps {s0} {a1} {a2} (g2 : Keeps s0 a2) : KeepsN s0 (execAdcMsgRx a1 a2) := by
  unfold execAdcMsgRx
  refine KeepsN.next ?_
  refine State.rxX_keeps ?_ ?_
  · exact g2
  · intro x1 x3 h2
    refine State.takeAdc_keeps ?_
    exact h2

theorem execAgreeSend_keeps {s0} {a1} (g1 : Keeps s0 a1) : KeepsN s0 (execAgreeSend a1) := by
  unfold execAgreeSend
  refine KeepsN.next ?_
  refine State.sendAgree_keeps ?_
  exact g1

theorem execAgreeRx_keeps {s0} {a1} {a2} (g2 : Keeps s0 a2) : KeepsN s0 (execAgreeRx a1 a2) := by
  unfold execAgreeRx
  refine KeepsN.next ?_
  refine State.rxX_keeps ?_ ?_
  · exact g2
  · intro x1 x3 h2
    refine State.takeAgree_keeps ?_
    exact h2

theorem execAgreeDeadline_keeps {s0} {a1} (g1 : Keeps s0 a1) : KeepsN s0 (execAgreeDeadline a1) := by
  unfold execAgreeDeadline
  refine KeepsN.next ?_
  refine State.agreeInputs_keeps ?_
  exact g1

theorem execPresenceRx_keeps {s0} {a1} {a2} (g2 : Keeps s0 a2) : KeepsN s0 (execPresenceRx a1 a2) := by
  unfold execPresenceRx
  refine KeepsN.next ?_
  refine State.rxX_keeps ?_ ?_
  · exact g2
  · intro x1 x3 h2
    refine State.takePresence_keeps ?_
    exact h2

theorem execJournalRx_keeps {s0} {a1} {a2} {a3} (g3 : Keeps s0 a3) : KeepsN s0 (execJournalRx a1 a2 a3) := by
  unfold execJournalRx
  refine KeepsN.next ?_
  refine State.rxEvent_keeps ?_ ?_
  · exact g3
  · intro x1 h2
    refine State.takeJournal_keeps ?_
    exact h2

theorem execChangeRx_keeps {s0} {a1} {a2} {a3} {a4} (g4 : Keeps s0 a4) : KeepsN s0 (execChangeRx a1 a2 a3 a4) := by
  unfold execChangeRx
  refine KeepsN.next ?_
  refine State.rxEvent_keeps ?_ ?_
  · exact g4
  · intro x1 h2
    refine State.takeChange_keeps ?_
    exact h2

theorem execPairRx_keeps {s0} {a1} {a2} {a3} (g3 : Keeps s0 a3) : KeepsN s0 (execPairRx a1 a2 a3) := by
  unfold execPairRx
  refine KeepsN.next ?_
  refine State.rxEvent_keeps ?_ ?_
  · refine Keeps.ite ?_ ?_
    · refine State.notePeer_keeps ?_
      exact g3
    · exact g3
  · intro x1 h2
    refine State.takePair_keeps ?_
    exact h2

theorem execPairSend_keeps {s0} {a1} (g1 : Keeps s0 a1) : KeepsN s0 (execPairSend a1) := by
  unfold execPairSend
  refine KeepsN.next ?_
  refine Keeps.ite ?_ ?_
  · refine State.sendPair_keeps ?_
    exact g1
  · exact g1

theorem execEvtResend_keeps {s0} {a1} (g1 : Keeps s0 a1) : KeepsN s0 (execEvtResend a1) := by
  unfold execEvtResend
  refine KeepsN.next ?_
  refine State.resendEvts_keeps ?_
  exact g1

theorem execSkewLimitExceeded_keeps {s0} {a1} (g1 : Keeps s0 a1) : KeepsN s0 (execSkewLimitExceeded a1) := by
  unfold execSkewLimitExceeded
  refine KeepsN.next ?_
  refine State.skewCheck_keeps ?_
  exact g1

theorem execPairWaitExpiry_keeps {s0} {a1} (g1 : Keeps s0 a1) : KeepsN s0 (execPairWaitExpiry a1) := by
  unfold execPairWaitExpiry
  refine KeepsN.next ?_
  refine State.pairWait_keeps ?_
  exact g1

theorem execJuniorPartitionTimeout_keeps {s0} {a1} (g1 : Keeps s0 a1) : KeepsN s0 (execJuniorPartitionTimeout a1) := by
  unfold execJuniorPartitionTimeout
  refine KeepsN.next ?_
  refine State.juniorTimeout_keeps ?_
  exact g1

theorem execSeniorSilenceConfirm_keeps {s0} {a1} (g1 : Keeps s0 a1) : KeepsN s0 (execSeniorSilenceConfirm a1) := by
  unfold execSeniorSilenceConfirm
  refine KeepsN.next ?_
  refine State.confirmSilence_keeps ?_
  exact g1

theorem execRejoinMaxExpiry_keeps {s0} {a1} (g1 : Keeps s0 a1) : KeepsN s0 (execRejoinMaxExpiry a1) := by
  unfold execRejoinMaxExpiry
  refine KeepsN.next ?_
  refine State.rejoinFail_keeps ?_
  exact g1

theorem execRejoinRetryExpiry_keeps {s0} {a1} (g1 : Keeps s0 a1) : KeepsN s0 (execRejoinRetryExpiry a1) := by
  unfold execRejoinRetryExpiry
  refine KeepsN.next ?_
  refine State.rejoinRetry_keeps ?_
  exact g1

theorem execDisagreeRediscover_keeps {s0} {a1} {a2} (g2 : Keeps s0 a2) : KeepsN s0 (execDisagreeRediscover a1 a2) := by
  unfold execDisagreeRediscover
  refine KeepsN.next ?_
  refine State.rediscover_keeps ?_
  exact g2

theorem execOtherEndFrameRx_keeps {s0} {a1} {a2} {a3} (g3 : Keeps s0 a3) : KeepsN s0 (execOtherEndFrameRx a1 a2 a3) := by
  unfold execOtherEndFrameRx
  refine KeepsN.next ?_
  refine State.rxMsg_keeps ?_ ?_
  · exact g3
  · intro x1 x3 h2
    split
    · refine Keeps.ite ?_ ?_
      · refine State.otherFrame_keeps ?_
        exact h2
      · refine State.stray_keeps ?_
        exact h2
    · exact h2

theorem execAdcValueHandover_keeps {s0} {a1} (g1 : Keeps s0 a1) : KeepsN s0 (execAdcValueHandover a1) := by
  unfold execAdcValueHandover
  refine KeepsN.next ?_
  refine State.sendAdc_keeps ?_
  refine State.handValues_keeps ?_
  exact g1

end Sys2Proof.Machine
end

