-- ==== Sys2Proof/Laws/KeepsTick.lean ====
section
/-!
SUPPORT. What the operations of Machine/Tick.lean do to the queue, the fuses and the tables.
-/

namespace Sys2Proof.Machine

theorem State.setAccum_keeps {s0} {a1} {a2} (g1 : Keeps s0 a1) : Keeps s0 (State.setAccum a1 a2) := by
  unfold State.setAccum
  extract_lets -underBinder -merge -useContext +onlyGivenNames v1
  have h2 : Keeps s0 v1 := by
    refine State.set_keeps ?_
    refine State.set_keeps ?_
    exact g1
  clear_value v1
  refine Keeps.parts ?_ rfl rfl
  exact h2

theorem State.timeCycle_keeps {s0} {a1} (g1 : Keeps s0 a1) : Keeps s0 (State.timeCycle a1) := by
  unfold State.timeCycle
  refine State.setAccum_keeps ?_
  exact g1

theorem State.setExtNs_keeps {s0} {a1} {a2} (g1 : Keeps s0 a1) : Keeps s0 (State.setExtNs a1 a2) := by
  unfold State.setExtNs
  extract_lets -underBinder -merge -useContext +onlyGivenNames v1
  clear_value v1
  refine State.set_keeps ?_
  refine State.set_keeps ?_
  refine State.set_keeps ?_
  exact g1

theorem State.stageWrite_keeps {s0} {a1} {a2} {a3} (g1 : Keeps s0 a1) : KeepsO s0 (State.stageWrite a1 a2 a3) := by
  unfold State.stageWrite
  refine KeepsO.ite ?_ ?_
  · exact KeepsO.none
  · extract_lets -underBinder -merge -useContext +onlyGivenNames v1
    clear_value v1
    refine KeepsO.some ?_
    refine State.setBit_keeps ?_
    refine State.set_keeps ?_
    exact g1

theorem State.discard_keeps {s0} {a1} (g1 : Keeps s0 a1) : KeepsO s0 (State.discard a1) := by
  unfold State.discard
  refine KeepsO.ite ?_ ?_
  · exact KeepsO.none
  · refine KeepsO.some ?_
    refine State.set_keeps ?_
    exact g1

theorem State.commit_keeps {s0} {a1} {a2} {a3} (g1 : Keeps s0 a1) : Keeps s0 (State.commit a1 a2 a3).2 := by
  unfold State.commit
  extract_lets -underBinder -merge -useContext +onlyGivenNames v1
  clear_value v1
  extract_lets -underBinder -merge -useContext +onlyGivenNames v2
  clear_value v2
  extract_lets -underBinder -merge -useContext +onlyGivenNames v3
  clear_value v3
  extract_lets -underBinder -merge -useContext +onlyGivenNames v4
  clear_value v4
  extract_lets -underBinder -merge -useContext +onlyGivenNames v5
  have h6 : Keeps s0 v5 := by
    refine Keeps.ite ?_ ?_
    · refine State.storeMargins_keeps ?_
      exact g1
    · exact g1
  clear_value v5
  extract_lets -underBinder -merge -useContext +onlyGivenNames v7
  have h8 : Keeps s0 v7 := by
    refine State.set_keeps ?_
    exact h6
  clear_value v7
  extract_lets -underBinder -merge -useContext +onlyGivenNames v9
  have h10 : Keeps s0 v9 := by
    refine State.set_keeps ?_
    refine State.set_keeps ?_
    exact h8
  clear_value v9
  refine Keeps.ite2 ?_ ?_
  · refine Keeps.mk2 ?_
    exact h10
  · extract_lets -underBinder -merge -useContext +onlyGivenNames v11
    have h12 : Keeps s0 v11 := by
      refine State.setB_keeps ?_
      exact h10
    clear_value v11
    extract_lets -underBinder -merge -useContext +onlyGivenNames v13
    have h14 : Keeps s0 v13 := by
      refine State.set64_keeps ?_
      exact h12
    clear_value v13
    refine Keeps.mk2 ?_
    refine Keeps.parts ?_ rfl rfl
    exact h14

theorem State.setGroup_keeps {s0} {a1} {a2} {a3} {a4} {a5} (g1 : Keeps s0 a1) : Keeps s0 (State.setGroup a1 a2 a3 a4 a5) := by
  unfold State.setGroup
  extract_lets -underBinder -merge -useContext +onlyGivenNames v1
  have h2 : Keeps s0 v1 := by
    refine State.set_keeps ?_
    refine State.set_keeps ?_
    exact g1
  clear_value v1
  extract_lets -underBinder -merge -useContext +onlyGivenNames v3
  have h4 : Keeps s0 v3 := by
    refine State.set_keeps ?_
    refine State.set_keeps ?_
    exact h2
  clear_value v3
  refine State.periodCheck_keeps ?_
  refine State.storeWindow_keeps ?_
  exact h4

theorem State.landGroup_keeps {s0} {a1} {a2} (g1 : Keeps s0 a1) : Keeps s0 (State.landGroup a1 a2) := by
  unfold State.landGroup
  split
  · exact g1
  · refine Keeps.ite ?_ ?_
    · exact g1
    · extract_lets -underBinder -merge -useContext +onlyGivenNames v1
      have h2 : Keeps s0 v1 := by
        refine State.setGroup_keeps ?_
        exact g1
      clear_value v1
      extract_lets -underBinder -merge -useContext +onlyGivenNames v3
      have h4 : Keeps s0 v3 := by
        refine State.setB_keeps ?_
        refine State.set_keeps ?_
        exact h2
      clear_value v3
      extract_lets -underBinder -merge -useContext +onlyGivenNames v5
      extract_lets -underBinder -merge -useContext +onlyGivenNames v6
      have h7 : Keeps s0 v6 := by
        refine Keeps.parts ?_ rfl rfl
        exact h4
      clear_value v6
      refine Keeps.each ?_ fun s8 x9 h10 => ?_
      · exact h7
      · refine State.checkLate_keeps ?_
        refine State.storeSchedule_keeps ?_
        exact h10

theorem State.refreshOther_keeps {s0} {a1} (g1 : Keeps s0 a1) : Keeps s0 (State.refreshOther a1) := by
  unfold State.refreshOther
  refine Keeps.each ?_ fun s1 x2 h3 => ?_
  · exact g1
  · refine State.setB_keeps ?_
    exact h3

theorem State.beginTick_keeps {s0} {a1} {a2} {a3} (g1 : Keeps s0 a1) : Keeps s0 (State.beginTick a1 a2 a3) := by
  unfold State.beginTick
  extract_lets -underBinder -merge -useContext +onlyGivenNames v1
  extract_lets -underBinder -merge -useContext +onlyGivenNames v2
  have h3 : Keeps s0 v2 := by
    refine State.set64_keeps ?_
    exact g1
  clear_value v2
  extract_lets -underBinder -merge -useContext +onlyGivenNames v4
  have h5 : Keeps s0 v4 := by
    refine State.set_keeps ?_
    exact h3
  clear_value v4
  extract_lets -underBinder -merge -useContext +onlyGivenNames v6
  clear_value v6
  extract_lets -underBinder -merge -useContext +onlyGivenNames v7
  have h8 : Keeps s0 v7 := by
    refine Keeps.cleared ?_ (by first | exact .inl rfl | exact .inr rfl) rfl
    exact h5
  clear_value v7
  extract_lets -underBinder -merge -useContext +onlyGivenNames v9
  extract_lets -underBinder -merge -useContext +onlyGivenNames v10
  have h11 : Keeps s0 v10 := by
    refine Keeps.ite ?_ ?_
    · refine State.refreshOk_keeps ?_
      refine Keeps.parts ?_ rfl rfl
      exact h8
    · exact h8
  clear_value v10
  extract_lets -underBinder -merge -useContext +onlyGivenNames v12
  have h13 : Keeps s0 v12 := by
    refine State.landGroup_keeps ?_
    exact h11
  clear_value v12
  extract_lets -underBinder -merge -useContext +onlyGivenNames v14
  have h15 : Keeps s0 v14 := by
    refine Keeps.each ?_ fun s16 x17 h18 => ?_
    · exact h13
    · refine Keeps.ite ?_ ?_
      · refine State.setArm_keeps ?_
        exact h18
      · exact h18
  clear_value v14
  refine State.sendHeart_keeps ?_
  refine State.modeBoundary_keeps ?_
  refine State.refreshOther_keeps ?_
  exact h15

theorem State.loadTime_keeps {s0} {a1} {a2} (g1 : Keeps s0 a1) : Keeps s0 (State.loadTime a1 a2) := by
  unfold State.loadTime
  extract_lets -underBinder -merge -useContext +onlyGivenNames v1
  clear_value v1
  extract_lets -underBinder -merge -useContext +onlyGivenNames v2
  have h3 : Keeps s0 v2 := by
    refine Keeps.each ?_ fun s4 x5 h6 => ?_
    · exact g1
    · refine State.setOrd_keeps ?_
      exact h6
  clear_value v2
  extract_lets -underBinder -merge -useContext +onlyGivenNames v7
  have h8 : Keeps s0 v7 := by
    refine Keeps.each ?_ fun s9 x10 h11 => ?_
    · exact h3
    · refine State.setArm_keeps ?_
      exact h11
  clear_value v7
  extract_lets -underBinder -merge -useContext +onlyGivenNames v12
  extract_lets -underBinder -merge -useContext +onlyGivenNames v13
  have h14 : Keeps s0 v13 := by
    refine Keeps.parts ?_ rfl rfl
    exact h8
  clear_value v13
  extract_lets -underBinder -merge -useContext +onlyGivenNames v15
  have h16 : Keeps s0 v15 := by
    refine State.bump_keeps ?_
    refine State.setAccum_keeps ?_
    exact h14
  clear_value v15
  refine State.setB_keeps ?_
  refine Keeps.parts ?_ rfl rfl
  exact h16

theorem State.syncFrom_keeps {s0} {a1} {a2} (g1 : Keeps s0 a1) : Keeps s0 (State.syncFrom a1 a2) := by
  unfold State.syncFrom
  refine Keeps.parts ?_ rfl rfl
  exact g1

theorem State.adoptTick_keeps {s0} {a1} {a2} {a3} (g1 : Keeps s0 a1) : Keeps s0 (State.adoptTick a1 a2 a3) := by
  unfold State.adoptTick
  split
  · extract_lets -underBinder -merge -useContext +onlyGivenNames v1
    clear_value v1
    extract_lets -underBinder -merge -useContext +onlyGivenNames v2
    clear_value v2
    refine State.syncFrom_keeps ?_
    refine State.beginTick_keeps ?_
    refine State.loadTime_keeps ?_
    refine State.setGroup_keeps ?_
    exact g1

theorem State.adoptServing_keeps {s0} {a1} {a2} (g1 : Keeps s0 a1) : Keeps s0 (State.adoptServing a1 a2) := by
  unfold State.adoptServing
  split
  · refine State.adoptTick_keeps ?_
    exact g1
  · split
    · extract_lets -underBinder -merge -useContext +onlyGivenNames v1
      clear_value v1
      extract_lets -underBinder -merge -useContext +onlyGivenNames v2
      clear_value v2
      extract_lets -underBinder -merge -useContext +onlyGivenNames v3
      clear_value v3
      extract_lets -underBinder -merge -useContext +onlyGivenNames v4
      clear_value v4
      extract_lets -underBinder -merge -useContext +onlyGivenNames v5
      clear_value v5
      refine State.syncFrom_keeps ?_
      refine State.beginTick_keeps ?_
      refine State.loadTime_keeps ?_
      refine State.setGroup_keeps ?_
      exact g1

theorem State.powerBegin_keeps {s0} {a1} {a2} (g1 : Keeps s0 a1) : Keeps s0 (State.powerBegin a1 a2) := by
  unfold State.powerBegin
  refine Keeps.parts ?_ rfl rfl
  exact g1

theorem State.boundary_keeps {s0} {a1} (g1 : Keeps s0 a1) : Keeps s0 (State.boundary a1) := by
  unfold State.boundary
  refine Keeps.ite ?_ ?_
  · exact g1
  · split
    · extract_lets -underBinder -merge -useContext +onlyGivenNames v1
      clear_value v1
      extract_lets -underBinder -merge -useContext +onlyGivenNames v2
      clear_value v2
      extract_lets -underBinder -merge -useContext +onlyGivenNames v3
      have h4 : Keeps s0 v3 := by
        refine Keeps.parts ?_ rfl rfl
        exact g1
      clear_value v3
      refine State.adoptServing_keeps ?_
      exact h4
    · extract_lets -underBinder -merge -useContext +onlyGivenNames v5
      clear_value v5
      extract_lets -underBinder -merge -useContext +onlyGivenNames v6
      have h7 : Keeps s0 v6 := by
        refine Keeps.ite ?_ ?_
        · refine State.setAccum_keeps ?_
          exact g1
        · exact g1
      clear_value v6
      extract_lets -underBinder -merge -useContext +onlyGivenNames v8
      have h9 : Keeps s0 v8 := by
        unfold v8
        split
        · extract_lets -underBinder -merge -useContext +onlyGivenNames v10
          have h11 : Keeps s0 v10 := by
            refine State.bump_keeps ?_
            refine State.setAccum_keeps ?_
            exact h7
          clear_value v10
          extract_lets -underBinder -merge -useContext +onlyGivenNames v12
          clear_value v12
          extract_lets -underBinder -merge -useContext +onlyGivenNames v13
          have h14 : Keeps s0 v13 := by
            refine Keeps.parts ?_ rfl rfl
            exact h11
          clear_value v13
          extract_lets -underBinder -merge -useContext +onlyGivenNames v15
          have h16 : Keeps s0 v15 := by
            refine Keeps.ite ?_ ?_
            · exact h14
            · refine State.setExtNs_keeps ?_
              exact h14
          clear_value v15
          refine State.setB_keeps ?_
          exact h16
        · exact h7
      clear_value v8
      extract_lets -underBinder -merge -useContext +onlyGivenNames v17
      have h18 : Keeps s0 v17 := by
        refine Keeps.ite ?_ ?_
        · exact h9
        · refine State.powerBegin_keeps ?_
          refine State.calBegin_keeps ?_
          exact h9
      clear_value v17
      refine State.beginTick_keeps ?_
      exact h18

theorem State.timeLoad_keeps {s0} {a1} {a2} {a3} (g1 : Keeps s0 a1) : Keeps s0 (State.timeLoad a1 a2 a3) := by
  unfold State.timeLoad
  extract_lets -underBinder -merge -useContext +onlyGivenNames v1
  clear_value v1
  extract_lets -underBinder -merge -useContext +onlyGivenNames v2
  clear_value v2
  extract_lets -underBinder -merge -useContext +onlyGivenNames v3
  have h4 : Keeps s0 v3 := by
    refine State.loadTime_keeps ?_
    refine Keeps.ite ?_ ?_
    · exact g1
    · refine State.dispatchFrames_keeps ?_
      exact g1
  clear_value v3
  extract_lets -underBinder -merge -useContext +onlyGivenNames v5
  have h6 : Keeps s0 v5 := by
    refine Keeps.ite ?_ ?_
    · exact h4
    · refine State.setExtNs_keeps ?_
      exact h4
  clear_value v5
  refine State.syncFrom_keeps ?_
  refine Keeps.ite ?_ ?_
  · refine State.beginTick_keeps ?_
    exact h6
  · exact h6

theorem State.timeStep_keeps {s0} {a1} {a2} {a3} (g1 : Keeps s0 a1) : Keeps s0 (State.timeStep a1 a2 a3) := by
  unfold State.timeStep
  refine Keeps.ite ?_ ?_
  · refine State.setB_keeps ?_
    exact g1
  · refine State.setB_keeps ?_
    refine Keeps.parts ?_ rfl rfl
    exact g1

theorem State.timeSet_keeps {s0} {a1} {a2} (g1 : Keeps s0 a1) : Keeps s0 (State.timeSet a1 a2) := by
  unfold State.timeSet
  refine Keeps.ite ?_ ?_
  · refine State.timeLoad_keeps ?_
    exact g1
  · refine State.setB_keeps ?_
    exact g1

theorem execTickBoundary_keeps {s0} {a1} (g1 : Keeps s0 a1) : KeepsN s0 (execTickBoundary a1) := by
  unfold execTickBoundary
  refine KeepsN.next ?_
  refine State.boundary_keeps ?_
  exact g1

theorem execGroupLand_keeps {s0} {a1} (g1 : Keeps s0 a1) : KeepsN s0 (execGroupLand a1) := by
  unfold execGroupLand
  refine KeepsN.next ?_
  refine State.landGroup_keeps ?_
  exact g1

end Sys2Proof.Machine
end

