-- ==== Sys2Proof/Laws/KeepsTime.lean ====
section
/-!
SUPPORT. What the operations of Machine/Time.lean do to the queue, the fuses and the tables.
-/

namespace Sys2Proof.Machine

theorem State.commitInc_keeps {s0} {a1} {a2} (g1 : Keeps s0 a1) : Keeps s0 (State.commitInc a1 a2) := by
  unfold State.commitInc
  refine Keeps.ite ?_ ?_
  · refine State.setB_keeps ?_
    exact g1
  · refine State.set64_keeps ?_
    exact g1

theorem State.servoInc_keeps {s0} {a1} {a2} (g1 : Keeps s0 a1) : Keeps s0 (State.servoInc a1 a2) := by
  unfold State.servoInc
  extract_lets -underBinder -merge -useContext +onlyGivenNames v1
  clear_value v1
  extract_lets -underBinder -merge -useContext +onlyGivenNames v2
  clear_value v2
  extract_lets -underBinder -merge -useContext +onlyGivenNames v3
  clear_value v3
  refine State.set64_keeps ?_
  exact g1

theorem State.servoLock_keeps {s0} {a1} (g1 : Keeps s0 a1) : Keeps s0 (State.servoLock a1) := by
  unfold State.servoLock
  refine Keeps.ite ?_ ?_
  · refine State.setServo_keeps ?_
    exact g1
  · exact g1

theorem State.servoTerm_keeps {s0} {a1} {a2} {a3} (g1 : Keeps s0 a1) : Keeps s0 (State.servoTerm a1 a2 a3) := by
  unfold State.servoTerm
  extract_lets -underBinder -merge -useContext +onlyGivenNames v1
  clear_value v1
  extract_lets -underBinder -merge -useContext +onlyGivenNames v2
  clear_value v2
  extract_lets -underBinder -merge -useContext +onlyGivenNames v3
  clear_value v3
  extract_lets -underBinder -merge -useContext +onlyGivenNames v4
  have h5 : Keeps s0 v4 := by
    refine Keeps.parts ?_ rfl rfl
    exact g1
  clear_value v4
  refine State.servoInc_keeps ?_
  exact h5

theorem State.servoSample_keeps {s0} {a1} {a2} {a3} (g1 : Keeps s0 a1) : Keeps s0 (State.servoSample a1 a2 a3) := by
  unfold State.servoSample
  extract_lets -underBinder -merge -useContext +onlyGivenNames v1
  clear_value v1
  extract_lets -underBinder -merge -useContext +onlyGivenNames v2
  clear_value v2
  extract_lets -underBinder -merge -useContext +onlyGivenNames v3
  have h4 : Keeps s0 v3 := by
    refine State.set_keeps ?_
    exact g1
  clear_value v3
  extract_lets -underBinder -merge -useContext +onlyGivenNames v5
  clear_value v5
  extract_lets -underBinder -merge -useContext +onlyGivenNames v6
  clear_value v6
  extract_lets -underBinder -merge -useContext +onlyGivenNames v7
  have h8 : Keeps s0 v7 := by
    refine Keeps.ite ?_ ?_
    · refine State.setServo_keeps ?_
      exact h4
    · exact h4
  clear_value v7
  extract_lets -underBinder -merge -useContext +onlyGivenNames v9
  clear_value v9
  extract_lets -underBinder -merge -useContext +onlyGivenNames v10
  clear_value v10
  extract_lets -underBinder -merge -useContext +onlyGivenNames v11
  extract_lets -underBinder -merge -useContext +onlyGivenNames v12
  clear_value v12
  extract_lets -underBinder -merge -useContext +onlyGivenNames v13
  have h14 : Keeps s0 v13 := by
    refine Keeps.parts ?_ rfl rfl
    exact h8
  clear_value v13
  extract_lets -underBinder -merge -useContext +onlyGivenNames v15
  extract_lets -underBinder -merge -useContext +onlyGivenNames v16
  clear_value v16
  extract_lets -underBinder -merge -useContext +onlyGivenNames v17
  clear_value v17
  extract_lets -underBinder -merge -useContext +onlyGivenNames v18
  clear_value v18
  extract_lets -underBinder -merge -useContext +onlyGivenNames v19
  have h20 : Keeps s0 v19 := by
    refine Keeps.ite ?_ ?_
    · refine State.timeStep_keeps ?_
      exact h14
    · refine Keeps.ite ?_ ?_
      · refine State.setExtNs_keeps ?_
        refine State.timeLoad_keeps ?_
        exact h14
      · refine Keeps.ite ?_ ?_
        · exact h14
        · refine State.servoTerm_keeps ?_
          exact h14
  clear_value v19
  refine State.servoLock_keeps ?_
  exact h20

theorem State.stationSample_keeps {s0} {a1} {a2} {a3} (g1 : Keeps s0 a1) : Keeps s0 (State.stationSample a1 a2 a3) := by
  unfold State.stationSample
  extract_lets -underBinder -merge -useContext +onlyGivenNames v1
  clear_value v1
  refine Keeps.ite ?_ ?_
  · refine State.servoSample_keeps ?_
    exact g1
  · extract_lets -underBinder -merge -useContext +onlyGivenNames v2
    clear_value v2
    extract_lets -underBinder -merge -useContext +onlyGivenNames v3
    clear_value v3
    extract_lets -underBinder -merge -useContext +onlyGivenNames v4
    clear_value v4
    refine State.servoSample_keeps ?_
    refine State.setExtNs_keeps ?_
    exact g1

theorem State.holdover_keeps {s0} {a1} (g1 : Keeps s0 a1) : Keeps s0 (State.holdover a1) := by
  unfold State.holdover
  refine Keeps.ite ?_ ?_
  · extract_lets -underBinder -merge -useContext +onlyGivenNames v1
    have h2 : Keeps s0 v1 := by
      refine State.servoInc_keeps ?_
      refine State.setServo_keeps ?_
      exact g1
    clear_value v1
    refine Keeps.parts ?_ rfl rfl
    exact h2
  · exact g1

theorem State.extUpdate_keeps {s0} {a1} (g1 : Keeps s0 a1) : Keeps s0 (State.extUpdate a1) := by
  unfold State.extUpdate
  refine Keeps.ite ?_ ?_
  · exact g1
  · extract_lets -underBinder -merge -useContext +onlyGivenNames v1
    have h2 : Keeps s0 v1 := by
      refine State.setExtNs_keeps ?_
      exact g1
    clear_value v1
    refine Keeps.parts ?_ rfl rfl
    exact h2

theorem State.ppsEdge_keeps {s0} {a1} {a2} (g1 : Keeps s0 a1) : Keeps s0 (State.ppsEdge a1 a2) := by
  unfold State.ppsEdge
  extract_lets -underBinder -merge -useContext +onlyGivenNames v1
  clear_value v1
  extract_lets -underBinder -merge -useContext +onlyGivenNames v2
  clear_value v2
  refine Keeps.ite ?_ ?_
  · refine State.bump_keeps ?_
    exact g1
  · extract_lets -underBinder -merge -useContext +onlyGivenNames v3
    clear_value v3
    extract_lets -underBinder -merge -useContext +onlyGivenNames v4
    have h5 : Keeps s0 v4 := by
      refine Keeps.parts ?_ rfl rfl
      exact g1
    clear_value v4
    extract_lets -underBinder -merge -useContext +onlyGivenNames v6
    have h7 : Keeps s0 v6 := by
      refine State.setReg_keeps ?_
      refine State.setReg_keeps ?_
      exact h5
    clear_value v6
    refine Keeps.ite ?_ ?_
    · extract_lets -underBinder -merge -useContext +onlyGivenNames v8
      clear_value v8
      extract_lets -underBinder -merge -useContext +onlyGivenNames v9
      clear_value v9
      extract_lets -underBinder -merge -useContext +onlyGivenNames v10
      clear_value v10
      refine State.servoSample_keeps ?_
      exact h7
    · exact h7

theorem State.takeSync_keeps {s0} {a1} {a2} {a3} (g1 : Keeps s0 a1) : Keeps s0 (State.takeSync a1 a2 a3) := by
  unfold State.takeSync
  extract_lets -underBinder -merge -useContext +onlyGivenNames v1
  clear_value v1
  extract_lets -underBinder -merge -useContext +onlyGivenNames v2
  clear_value v2
  extract_lets -underBinder -merge -useContext +onlyGivenNames v3
  clear_value v3
  extract_lets -underBinder -merge -useContext +onlyGivenNames v4
  have h5 : Keeps s0 v4 := by
    refine Keeps.parts ?_ rfl rfl
    exact g1
  clear_value v4
  refine Keeps.ite ?_ ?_
  · refine State.stationSample_keeps ?_
    exact h5
  · exact h5

theorem State.timeCntClear_keeps {s0} {a1} (g1 : Keeps s0 a1) : Keeps s0 (State.timeCntClear a1) := by
  unfold State.timeCntClear
  refine State.clearAll_keeps ?_
  exact g1

theorem execSkewMeasure_keeps {s0} {a1} {a2} (g2 : Keeps s0 a2) : KeepsN s0 (execSkewMeasure a1 a2) := by
  unfold execSkewMeasure
  refine KeepsN.next ?_
  split
  · extract_lets -underBinder -merge -useContext +onlyGivenNames v1
    have h2 : Keeps s0 v1 := by
      refine State.measureSkew_keeps ?_
      exact g2
    clear_value v1
    refine Keeps.ite ?_ ?_
    · refine State.servoSample_keeps ?_
      exact h2
    · exact h2
  · exact g2

theorem execTimeWrap_keeps {s0} {a1} (g1 : Keeps s0 a1) : KeepsN s0 (execTimeWrap a1) := by
  unfold execTimeWrap
  refine KeepsN.next ?_
  refine State.extUpdate_keeps ?_
  exact g1

theorem execPpsInEdge_keeps {s0} {a1} {a2} (g2 : Keeps s0 a2) : KeepsN s0 (execPpsInEdge a1 a2) := by
  unfold execPpsInEdge
  refine KeepsN.next ?_
  refine State.ppsEdge_keeps ?_
  exact g2

theorem execServoLocked_keeps {s0} {a1} (g1 : Keeps s0 a1) : KeepsN s0 (execServoLocked a1) := by
  unfold execServoLocked
  refine KeepsN.next ?_
  refine State.servoLock_keeps ?_
  exact g1

theorem execHoldoverEntry_keeps {s0} {a1} (g1 : Keeps s0 a1) : KeepsN s0 (execHoldoverEntry a1) := by
  unfold execHoldoverEntry
  refine KeepsN.next ?_
  refine State.holdover_keeps ?_
  exact g1

theorem execPpsOutPulse_keeps {s0} {a1} (g1 : Keeps s0 a1) : KeepsN s0 (execPpsOutPulse a1) := by
  unfold execPpsOutPulse
  refine KeepsN.next ?_
  refine Keeps.ite ?_ ?_
  · refine State.emit_keeps ?_
    exact g1
  · exact g1

theorem execPtpSyncRx_keeps {s0} {a1} {a2} {a3} {a4} {a5} {a6} {a7} {a8} {a9} (g9 : Keeps s0 a9) : KeepsN s0 (execPtpSyncRx a1 a2 a3 a4 a5 a6 a7 a8 a9) := by
  unfold execPtpSyncRx
  refine KeepsN.next ?_
  refine Keeps.ite ?_ ?_
  · exact g9
  · extract_lets -underBinder -merge -useContext +onlyGivenNames v1
    have h2 : Keeps s0 v1 := by
      refine State.bump_keeps ?_
      exact g9
    clear_value v1
    refine Keeps.ite ?_ ?_
    · refine Keeps.parts ?_ rfl rfl
      exact h2
    · refine State.takeSync_keeps ?_
      exact h2

theorem execPtpFollowUpRx_keeps {s0} {a1} {a2} {a3} {a4} {a5} {a6} {a7} (g7 : Keeps s0 a7) : KeepsN s0 (execPtpFollowUpRx a1 a2 a3 a4 a5 a6 a7) := by
  unfold execPtpFollowUpRx
  refine KeepsN.next ?_
  split
  · refine Keeps.ite ?_ ?_
    · refine State.takeSync_keeps ?_
      exact g7
    · exact g7
  · exact g7

theorem execPtpDelayReqSend_keeps {s0} {a1} {a2} {a3} (g3 : Keeps s0 a3) : KeepsN s0 (execPtpDelayReqSend a1 a2 a3) := by
  unfold execPtpDelayReqSend
  refine KeepsN.next ?_
  refine Keeps.ite ?_ ?_
  · exact g3
  · extract_lets -underBinder -merge -useContext +onlyGivenNames v1
    clear_value v1
    refine State.emit_keeps ?_
    refine Keeps.parts ?_ rfl rfl
    exact g3

theorem execPtpDelayRespRx_keeps {s0} {a1} {a2} {a3} {a4} {a5} {a6} {a7} (g7 : Keeps s0 a7) : KeepsN s0 (execPtpDelayRespRx a1 a2 a3 a4 a5 a6 a7) := by
  unfold execPtpDelayRespRx
  refine KeepsN.next ?_
  split
  · refine Keeps.ite ?_ ?_
    · extract_lets -underBinder -merge -useContext +onlyGivenNames v1
      clear_value v1
      refine Keeps.parts ?_ rfl rfl
      exact g7
    · exact g7
  · exact g7

theorem execPtpAnnounceRx_keeps {s0} {a1} {a2} {a3} {a4} {a5} (g5 : Keeps s0 a5) : KeepsN s0 (execPtpAnnounceRx a1 a2 a3 a4 a5) := by
  unfold execPtpAnnounceRx
  refine KeepsN.next ?_
  refine Keeps.ite ?_ ?_
  · exact g5
  · extract_lets -underBinder -merge -useContext +onlyGivenNames v1
    clear_value v1
    extract_lets -underBinder -merge -useContext +onlyGivenNames v2
    have h3 : Keeps s0 v2 := by
      refine Keeps.parts ?_ rfl rfl
      exact g5
    clear_value v2
    refine Keeps.ite ?_ ?_
    · extract_lets -underBinder -merge -useContext +onlyGivenNames v4
      clear_value v4
      refine State.setExtNs_keeps ?_
      exact h3
    · exact h3

theorem execPtpDelayReqRx_keeps {s0} {a1} {a2} {a3} {a4} {a5} {a6} (g6 : Keeps s0 a6) : KeepsN s0 (execPtpDelayReqRx a1 a2 a3 a4 a5 a6) := by
  unfold execPtpDelayReqRx
  refine KeepsN.next ?_
  refine Keeps.ite ?_ ?_
  · exact g6
  · extract_lets -underBinder -merge -useContext +onlyGivenNames v1
    have h2 : Keeps s0 v1 := by
      refine State.bump_keeps ?_
      exact g6
    clear_value v1
    refine Keeps.ite ?_ ?_
    · extract_lets -underBinder -merge -useContext +onlyGivenNames v3
      clear_value v3
      refine State.emit_keeps ?_
      exact h2
    · exact h2

theorem execPtpSyncSend_keeps {s0} {a1} {a2} {a3} (g3 : Keeps s0 a3) : KeepsN s0 (execPtpSyncSend a1 a2 a3) := by
  unfold execPtpSyncSend
  refine KeepsN.next ?_
  refine Keeps.ite ?_ ?_
  · exact g3
  · extract_lets -underBinder -merge -useContext +onlyGivenNames v1
    clear_value v1
    extract_lets -underBinder -merge -useContext +onlyGivenNames v2
    clear_value v2
    extract_lets -underBinder -merge -useContext +onlyGivenNames v3
    clear_value v3
    extract_lets -underBinder -merge -useContext +onlyGivenNames v4
    clear_value v4
    extract_lets -underBinder -merge -useContext +onlyGivenNames v5
    have h6 : Keeps s0 v5 := by
      refine Keeps.parts ?_ rfl rfl
      exact g3
    clear_value v5
    extract_lets -underBinder -merge -useContext +onlyGivenNames v7
    clear_value v7
    refine Keeps.ite ?_ ?_
    · refine State.emit_keeps ?_
      exact h6
    · refine State.emit_keeps ?_
      refine State.emit_keeps ?_
      exact h6

end Sys2Proof.Machine
end

