-- ==== Sys2Proof/Laws/KeepsRecord.lean ====
section
/-!
SUPPORT. What the operations of Machine/Record.lean do to the queue, the fuses and the tables.
-/

namespace Sys2Proof.Machine

theorem State.setCapState_keeps {s0} {a1} {a2} {a3} (g1 : Keeps s0 a1) : Keeps s0 (State.setCapState a1 a2 a3) := by
  unfold State.setCapState
  refine State.set_keeps ?_
  exact g1

theorem State.placeRec_keeps {s0} {a1} {a2} {a3} {a4} (g1 : Keeps s0 a1) : Keeps s0 (State.placeRec a1 a2 a3 a4) := by
  unfold State.placeRec
  extract_lets -underBinder -merge -useContext +onlyGivenNames v1
  clear_value v1
  extract_lets -underBinder -merge -useContext +onlyGivenNames v2
  have h3 : Keeps s0 v2 := by
    refine Keeps.parts ?_ rfl rfl
    exact g1
  clear_value v2
  extract_lets -underBinder -merge -useContext +onlyGivenNames v4
  have h5 : Keeps s0 v4 := by
    refine State.setDirState_keeps ?_
    refine State.putRec_keeps ?_
    exact h3
  clear_value v4
  refine State.set_keeps ?_
  refine State.set_keeps ?_
  refine State.set_keeps ?_
  exact h5

theorem State.armCap_keeps {s0} {a1} {a2} (g1 : Keeps s0 a1) : KeepsO s0 (State.armCap a1 a2) := by
  unfold State.armCap
  extract_lets -underBinder -merge -useContext +onlyGivenNames v1
  clear_value v1
  split
  · refine KeepsO.some ?_
    refine State.setCapState_keeps ?_
    refine State.setCap_keeps ?_
    exact g1
  · extract_lets -underBinder -merge -useContext +onlyGivenNames v2
    clear_value v2
    refine KeepsO.ite ?_ ?_
    · split
      · exact KeepsO.none
      · extract_lets -underBinder -merge -useContext +onlyGivenNames v3
        clear_value v3
        extract_lets -underBinder -merge -useContext +onlyGivenNames v4
        clear_value v4
        extract_lets -underBinder -merge -useContext +onlyGivenNames v5
        clear_value v5
        extract_lets -underBinder -merge -useContext +onlyGivenNames v6
        have h7 : Keeps s0 v6 := by
          refine State.placeRec_keeps ?_
          exact g1
        clear_value v6
        extract_lets -underBinder -merge -useContext +onlyGivenNames v8
        have h9 : Keeps s0 v8 := by
          refine State.set_keeps ?_
          refine State.setCap_keeps ?_
          exact h7
        clear_value v8
        refine KeepsO.some ?_
        refine State.setCapState_keeps ?_
        refine State.set_keeps ?_
        exact h9
    · refine KeepsO.some ?_
      refine State.setCapState_keeps ?_
      refine State.setCap_keeps ?_
      exact g1

theorem State.afterClose_keeps {s0} {a1} {a2} {a3} (g1 : Keeps s0 a1) : Keeps s0 (State.afterClose a1 a2 a3) := by
  unfold State.afterClose
  extract_lets -underBinder -merge -useContext +onlyGivenNames v1
  clear_value v1
  extract_lets -underBinder -merge -useContext +onlyGivenNames v2
  have h3 : Keeps s0 v2 := by
    refine State.setCap_keeps ?_
    exact g1
  clear_value v2
  refine Keeps.ite ?_ ?_
  · refine State.setCapState_keeps ?_
    exact h3
  · refine Keeps.getD ?_ ?_
    · refine State.armCap_keeps ?_
      exact h3
    · refine State.setCapState_keeps ?_
      exact h3

theorem State.endSegment_keeps {s0} {a1} {a2} (g1 : Keeps s0 a1) : Keeps s0 (State.endSegment a1 a2) := by
  unfold State.endSegment
  split
  · extract_lets -underBinder -merge -useContext +onlyGivenNames v1
    clear_value v1
    extract_lets -underBinder -merge -useContext +onlyGivenNames v2
    extract_lets -underBinder -merge -useContext +onlyGivenNames v3
    clear_value v3
    extract_lets -underBinder -merge -useContext +onlyGivenNames v4
    have h5 : Keeps s0 v4 := by
      refine State.setCapState_keeps ?_
      refine State.setCap_keeps ?_
      exact g1
    clear_value v4
    refine Keeps.ite ?_ ?_
    · refine State.afterClose_keeps ?_
      refine State.closeRec_keeps ?_
      exact h5
    · exact h5
  · exact g1

theorem State.closeDone_keeps {s0} {a1} {a2} (g1 : Keeps s0 a1) : Keeps s0 (State.closeDone a1 a2) := by
  unfold State.closeDone
  refine Keeps.ite ?_ ?_
  · exact g1
  · refine Keeps.ite ?_ ?_
    · refine State.endSegment_keeps ?_
      exact g1
    · split
      · refine State.afterClose_keeps ?_
        refine State.closeRec_keeps ?_
        exact g1
      · exact g1

theorem State.appendRow_keeps {s0} {a1} {a2} {a3} (g1 : Keeps s0 a1) : Keeps s0 (State.appendRow a1 a2 a3) := by
  unfold State.appendRow
  extract_lets -underBinder -merge -useContext +onlyGivenNames v1
  clear_value v1
  split
  · extract_lets -underBinder -merge -useContext +onlyGivenNames v2
    clear_value v2
    refine State.closeDone_keeps ?_
    refine State.setCap_keeps ?_
    refine State.putRec_keeps ?_
    exact g1
  · exact g1

theorem State.pushRow_keeps {s0} {a1} {a2} {a3} {a4} {a5} (g1 : Keeps s0 a1) : Keeps s0 (State.pushRow a1 a2 a3 a4 a5) := by
  unfold State.pushRow
  refine Keeps.ite ?_ ?_
  · refine State.appendRow_keeps ?_
    exact g1
  · refine Keeps.ite ?_ ?_
    · extract_lets -underBinder -merge -useContext +onlyGivenNames v1
      clear_value v1
      extract_lets -underBinder -merge -useContext +onlyGivenNames v2
      clear_value v2
      refine State.setCap_keeps ?_
      exact g1
    · exact g1

theorem State.openRecord_keeps {s0} {a1} {a2} {a3} (g1 : Keeps s0 a1) : Keeps s0 (State.openRecord a1 a2 a3) := by
  unfold State.openRecord
  split
  · refine State.bump_keeps ?_
    exact g1
  · extract_lets -underBinder -merge -useContext +onlyGivenNames v1
    clear_value v1
    split
    · extract_lets -underBinder -merge -useContext +onlyGivenNames v2
      clear_value v2
      extract_lets -underBinder -merge -useContext +onlyGivenNames v3
      clear_value v3
      extract_lets -underBinder -merge -useContext +onlyGivenNames v4
      clear_value v4
      split
      · extract_lets -underBinder -merge -useContext +onlyGivenNames v5
        clear_value v5
        extract_lets -underBinder -merge -useContext +onlyGivenNames v6
        clear_value v6
        extract_lets -underBinder -merge -useContext +onlyGivenNames v7
        have h8 : Keeps s0 v7 := by
          refine State.placeRec_keeps ?_
          exact g1
        clear_value v7
        extract_lets -underBinder -merge -useContext +onlyGivenNames v9
        have h10 : Keeps s0 v9 := by
          refine State.set_keeps ?_
          refine State.setCap_keeps ?_
          exact h8
        clear_value v9
        refine Keeps.each ?_ fun s11 x12 h13 => ?_
        · refine State.setCapState_keeps ?_
          exact h10
        · refine State.appendRow_keeps ?_
          exact h13

theorem State.openSegment_keeps {s0} {a1} {a2} {a3} (g1 : Keeps s0 a1) : Keeps s0 (State.openSegment a1 a2 a3) := by
  unfold State.openSegment
  extract_lets -underBinder -merge -useContext +onlyGivenNames v1
  clear_value v1
  split
  · split
    · extract_lets -underBinder -merge -useContext +onlyGivenNames v2
      clear_value v2
      extract_lets -underBinder -merge -useContext +onlyGivenNames v3
      clear_value v3
      split
      · extract_lets -underBinder -merge -useContext +onlyGivenNames v4
        extract_lets -underBinder -merge -useContext +onlyGivenNames v5
        extract_lets -underBinder -merge -useContext +onlyGivenNames v6
        clear_value v6
        extract_lets -underBinder -merge -useContext +onlyGivenNames v7
        clear_value v7
        extract_lets -underBinder -merge -useContext +onlyGivenNames v8
        clear_value v8
        extract_lets -underBinder -merge -useContext +onlyGivenNames v9
        clear_value v9
        extract_lets -underBinder -merge -useContext +onlyGivenNames v10
        have h11 : Keeps s0 v10 := by
          refine State.putRec_keeps ?_
          exact g1
        clear_value v10
        extract_lets -underBinder -merge -useContext +onlyGivenNames v12
        have h13 : Keeps s0 v12 := by
          refine State.setCap_keeps ?_
          exact h11
        clear_value v12
        extract_lets -underBinder -merge -useContext +onlyGivenNames v14
        have h15 : Keeps s0 v14 := by
          refine State.setCapState_keeps ?_
          refine State.set_keeps ?_
          exact h13
        clear_value v14
        refine Keeps.each ?_ fun s16 x17 h18 => ?_
        · exact h15
        · refine State.appendRow_keeps ?_
          exact h18
  · exact g1

theorem State.triggerCap_keeps {s0} {a1} {a2} {a3} (g1 : Keeps s0 a1) : Keeps s0 (State.triggerCap a1 a2 a3) := by
  unfold State.triggerCap
  split
  · refine Keeps.ite ?_ ?_
    · refine State.openSegment_keeps ?_
      exact g1
    · refine State.openRecord_keeps ?_
      exact g1
  · extract_lets -underBinder -merge -useContext +onlyGivenNames v1
    have h2 : Keeps s0 v1 := by
      refine State.bump_keeps ?_
      exact g1
    clear_value v1
    split
    · extract_lets -underBinder -merge -useContext +onlyGivenNames v3
      clear_value v3
      refine State.putRec_keeps ?_
      exact h2
    · exact h2
  · refine State.setCap_keeps ?_
    refine State.bump_keeps ?_
    exact g1
  · refine State.bump_keeps ?_
    exact g1
  · exact g1

theorem State.armUnit_keeps {s0} {a1} {a2} (g1 : Keeps s0 a1) : Keeps s0 (State.armUnit a1 a2) := by
  unfold State.armUnit
  extract_lets -underBinder -merge -useContext +onlyGivenNames v1
  clear_value v1
  extract_lets -underBinder -merge -useContext +onlyGivenNames v2
  have h3 : Keeps s0 v2 := by
    refine State.setUnit_keeps ?_
    exact g1
  clear_value v2
  refine Keeps.ite ?_ ?_
  · exact h3
  · refine State.clearAll_keeps ?_
    exact h3

theorem State.unitRearm_keeps {s0} {a1} {a2} (g1 : Keeps s0 a1) : Keeps s0 (State.unitRearm a1 a2) := by
  unfold State.unitRearm
  extract_lets -underBinder -merge -useContext +onlyGivenNames v1
  clear_value v1
  extract_lets -underBinder -merge -useContext +onlyGivenNames v2
  clear_value v2
  extract_lets -underBinder -merge -useContext +onlyGivenNames v3
  refine Keeps.ite ?_ ?_
  · refine State.armUnit_keeps ?_
    exact g1
  · exact g1

theorem State.unitFire_keeps {s0} {a1} {a2} {a3} (g1 : Keeps s0 a1) : Keeps s0 (State.unitFire a1 a2 a3).2 := by
  unfold State.unitFire
  extract_lets -underBinder -merge -useContext +onlyGivenNames v1
  clear_value v1
  refine Keeps.ite2 ?_ ?_
  · extract_lets -underBinder -merge -useContext +onlyGivenNames v2
    have h3 : Keeps s0 v2 := by
      refine State.setUnit_keeps ?_
      exact g1
    clear_value v2
    refine Keeps.mk2 ?_
    refine Keeps.ite ?_ ?_
    · refine State.bump_keeps ?_
      exact h3
    · refine State.bump_keeps ?_
      exact h3
  · refine Keeps.ite2 ?_ ?_
    · refine Keeps.mk2 ?_
      exact g1
    · extract_lets -underBinder -merge -useContext +onlyGivenNames v4
      have h5 : Keeps s0 v4 := by
        refine State.setUnit_keeps ?_
        exact g1
      clear_value v4
      refine Keeps.mk2 ?_
      refine Keeps.ite ?_ ?_
      · refine State.bump_keeps ?_
        exact h5
      · refine State.setB_keeps ?_
        refine State.bump_keeps ?_
        exact h5

theorem State.patStep_keeps {s0} {a1} {a2} {a3} (g1 : Keeps s0 a1) : Keeps s0 (State.patStep a1 a2 a3).2 := by
  unfold State.patStep
  extract_lets -underBinder -merge -useContext +onlyGivenNames v1
  clear_value v1
  extract_lets -underBinder -merge -useContext +onlyGivenNames v2
  clear_value v2
  extract_lets -underBinder -merge -useContext +onlyGivenNames v3
  clear_value v3
  extract_lets -underBinder -merge -useContext +onlyGivenNames v4
  clear_value v4
  extract_lets -underBinder -merge -useContext +onlyGivenNames v5
  have h6 : Keeps s0 v5 := by
    refine State.setUnit_keeps ?_
    exact g1
  clear_value v5
  refine Keeps.ite2 ?_ ?_
  · refine State.unitFire_keeps ?_
    exact h6
  · refine Keeps.mk2 ?_
    exact h6

theorem State.patWatch_keeps {s0} {a1} {a2} {a3} (g1 : Keeps s0 a1) : Keeps s0 (State.patWatch a1 a2 a3) := by
  unfold State.patWatch
  refine Keeps.ite ?_ ?_
  · refine State.setUnit_keeps ?_
    exact g1
  · exact g1

theorem State.seqCount_keeps {s0} {a1} {a2} {a3} (g1 : Keeps s0 a1) : Keeps s0 (State.seqCount a1 a2 a3).2 := by
  unfold State.seqCount
  extract_lets -underBinder -merge -useContext +onlyGivenNames v1
  clear_value v1
  refine Keeps.ite2 ?_ ?_
  · refine Keeps.mk2 ?_
    exact g1
  · extract_lets -underBinder -merge -useContext +onlyGivenNames v2
    have h3 : Keeps s0 v2 := by
      refine State.set_keeps ?_
      exact g1
    clear_value v2
    refine Keeps.ite2 ?_ ?_
    · refine State.unitFire_keeps ?_
      refine State.set_keeps ?_
      exact h3
    · refine Keeps.mk2 ?_
      refine State.setUnit_keeps ?_
      refine State.set_keeps ?_
      exact h3

theorem State.seqTimer_keeps {s0} {a1} {a2} (g1 : Keeps s0 a1) : Keeps s0 (State.seqTimer a1 a2) := by
  unfold State.seqTimer
  extract_lets -underBinder -merge -useContext +onlyGivenNames v1
  clear_value v1
  extract_lets -underBinder -merge -useContext +onlyGivenNames v2
  clear_value v2
  extract_lets -underBinder -merge -useContext +onlyGivenNames v3
  clear_value v3
  refine Keeps.ite ?_ ?_
  · refine State.setUnit_keeps ?_
    refine State.set_keeps ?_
    refine State.set_keeps ?_
    exact g1
  · exact g1

theorem State.seqStep_keeps {s0} {a1} {a2} {a3} (g1 : Keeps s0 a1) : Keeps s0 (State.seqStep a1 a2 a3).2 := by
  unfold State.seqStep
  extract_lets -underBinder -merge -useContext +onlyGivenNames v1
  clear_value v1
  extract_lets -underBinder -merge -useContext +onlyGivenNames v2
  clear_value v2
  extract_lets -underBinder -merge -useContext +onlyGivenNames v3
  have h4 : Keeps s0 v3 := by
    refine Keeps.ite ?_ ?_
    · refine State.set_keeps ?_
      exact g1
    · refine Keeps.ite ?_ ?_
      · refine State.set_keeps ?_
        exact g1
      · exact g1
  clear_value v3
  refine Keeps.ite2 ?_ ?_
  · refine State.seqCount_keeps ?_
    exact h4
  · extract_lets -underBinder -merge -useContext +onlyGivenNames v5
    clear_value v5
    extract_lets -underBinder -merge -useContext +onlyGivenNames v6
    clear_value v6
    refine Keeps.mk2 ?_
    refine Keeps.ite ?_ ?_
    · refine State.seqTimer_keeps ?_
      exact h4
    · refine State.setUnit_keeps ?_
      exact h4

theorem State.takeSnap_keeps {s0} {a1} {a2} {a3} {a4} (g1 : Keeps s0 a1) : Keeps s0 (State.takeSnap a1 a2 a3 a4).2 := by
  unfold State.takeSnap
  refine Keeps.ite2 ?_ ?_
  · refine Keeps.mk2 ?_
    exact g1
  · split
    rename_i x2 x3 q5
    have e4 : _ = x3 := congrArg Prod.snd q5
    have h1 : Keeps s0 x3 := by
      rw [← e4]
      refine State.urgentServe_keeps ?_
      exact g1
    refine Keeps.mk2 ?_
    exact h1

theorem State.takeSnaps_keeps {s0} {a1} {a2} {a3} {a4} (g1 : Keeps s0 a1) : Keeps s0 (State.takeSnaps a1 a2 a3 a4).2 := by
  unfold State.takeSnaps
  exact Keeps.foldl2 g1 fun p x h => State.takeSnap_keeps h

theorem State.fastRow_keeps {s0} {a1} {a2} {a3} {a4} (g1 : Keeps s0 a1) : Keeps s0 (State.fastRow a1 a2 a3 a4) := by
  unfold State.fastRow
  refine Keeps.ite ?_ ?_
  · exact g1
  · extract_lets -underBinder -merge -useContext +onlyGivenNames v1
    clear_value v1
    extract_lets -underBinder -merge -useContext +onlyGivenNames v2
    clear_value v2
    refine State.pushRow_keeps ?_
    exact g1

theorem State.interval_keeps {s0} {a1} {a2} {a3} {a4} {a5} (g1 : Keeps s0 a1) : Keeps s0 (State.interval a1 a2 a3 a4 a5) := by
  unfold State.interval
  refine Keeps.ite ?_ ?_
  · refine Keeps.parts ?_ rfl rfl
    exact g1
  · extract_lets -underBinder -merge -useContext +onlyGivenNames v1
    clear_value v1
    split
    rename_i x3 x4 q36
    have e35 : _ = x4 := congrArg Prod.snd q36
    have h2 : Keeps s0 x4 := by
      rw [← e35]
      refine Keeps.foldl2 g1 fun p x h => ?_
      refine Keeps.ite2 (State.patWatch_keeps h) ?_
      exact Keeps.ite2 (State.patStep_keeps (State.unitRearm_keeps h)) (State.seqStep_keeps (State.unitRearm_keeps h))
    extract_lets -underBinder -merge -useContext +onlyGivenNames v5
    clear_value v5
    extract_lets -underBinder -merge -useContext +onlyGivenNames v6
    clear_value v6
    extract_lets -underBinder -merge -useContext +onlyGivenNames v7
    clear_value v7
    extract_lets -underBinder -merge -useContext +onlyGivenNames v8
    have h9 : Keeps s0 v8 := by
      refine Keeps.ite ?_ ?_
      · exact h2
      · split
        rename_i x11 x12 q22
        have e21 : _ = x12 := congrArg Prod.snd q22
        have h10 : Keeps s0 x12 := by
          rw [← e21]
          refine State.takeSnaps_keeps ?_
          exact h2
        extract_lets -underBinder -merge -useContext +onlyGivenNames v13
        clear_value v13
        extract_lets -underBinder -merge -useContext +onlyGivenNames v14
        clear_value v14
        extract_lets -underBinder -merge -useContext +onlyGivenNames v15
        clear_value v15
        extract_lets -underBinder -merge -useContext +onlyGivenNames v16
        clear_value v16
        extract_lets -underBinder -merge -useContext +onlyGivenNames v17
        clear_value v17
        refine Keeps.each ?_ fun s18 x19 h20 => ?_
        · exact h10
        · refine State.triggerCap_keeps ?_
          exact h20
    clear_value v8
    extract_lets -underBinder -merge -useContext +onlyGivenNames v23
    have h24 : Keeps s0 v23 := by
      refine Keeps.each ?_ fun s25 x26 h27 => ?_
      · exact h9
      · refine State.fastRow_keeps ?_
        exact h27
    clear_value v23
    extract_lets -underBinder -merge -useContext +onlyGivenNames v28
    clear_value v28
    extract_lets -underBinder -merge -useContext +onlyGivenNames v29
    clear_value v29
    extract_lets -underBinder -merge -useContext +onlyGivenNames v30
    have h31 : Keeps s0 v30 := by
      refine Keeps.parts ?_ rfl rfl
      exact h24
    clear_value v30
    refine Keeps.each ?_ fun s32 x33 h34 => ?_
    · exact h31
    · refine Keeps.ite ?_ ?_
      · refine State.setChan_keeps ?_
        exact h34
      · exact h34

theorem State.tickConditions_keeps {s0} {a1} (g1 : Keeps s0 a1) : Keeps s0 (State.tickConditions a1) := by
  unfold State.tickConditions
  extract_lets -underBinder -merge -useContext +onlyGivenNames v1
  have h2 : Keeps s0 v1 := by
    refine Keeps.each ?_ fun s3 x4 h5 => ?_
    · exact g1
    · extract_lets -underBinder -merge -useContext +onlyGivenNames v6
      clear_value v6
      extract_lets -underBinder -merge -useContext +onlyGivenNames v7
      clear_value v7
      extract_lets -underBinder -merge -useContext +onlyGivenNames v8
      clear_value v8
      refine Keeps.ite ?_ ?_
      · refine State.noteTick_keeps ?_
        exact h5
      · exact h5
  clear_value v1
  extract_lets -underBinder -merge -useContext +onlyGivenNames v9
  clear_value v9
  refine Keeps.each ?_ fun s10 x11 h12 => ?_
  · exact h2
  · refine State.noteTick_keeps ?_
    exact h12

theorem State.setTuning_keeps {s0} {a1} {a2} {a3} (g1 : Keeps s0 a1) : Keeps s0 (State.setTuning a1 a2 a3) := by
  unfold State.setTuning
  refine Keeps.parts ?_ rfl rfl
  exact g1

theorem State.tuneRow_keeps {s0} {a1} {a2} {a3} (g1 : Keeps s0 a1) : Keeps s0 (State.tuneRow a1 a2 a3) := by
  unfold State.tuneRow
  extract_lets -underBinder -merge -useContext +onlyGivenNames v1
  clear_value v1
  extract_lets -underBinder -merge -useContext +onlyGivenNames v2
  clear_value v2
  extract_lets -underBinder -merge -useContext +onlyGivenNames v3
  have h4 : Keeps s0 v3 := by
    refine Keeps.ite ?_ ?_
    · exact g1
    · split
      · exact g1
      · extract_lets -underBinder -merge -useContext +onlyGivenNames v5
        clear_value v5
        extract_lets -underBinder -merge -useContext +onlyGivenNames v6
        clear_value v6
        refine State.setTuning_keeps ?_
        refine State.placeRec_keeps ?_
        exact g1
  clear_value v3
  split
  · refine Keeps.ite ?_ ?_
    · exact h4
    · refine State.putRec_keeps ?_
      exact h4
  · exact h4

theorem State.tuneClose_keeps {s0} {a1} (g1 : Keeps s0 a1) : Keeps s0 (State.tuneClose a1) := by
  unfold State.tuneClose
  refine Keeps.each ?_ fun s1 x2 h3 => ?_
  · exact g1
  · split
    · refine Keeps.ite ?_ ?_
      · exact h3
      · refine State.setTuning_keeps ?_
        refine Keeps.ite ?_ ?_
        · refine State.closeRec_keeps ?_
          exact h3
        · exact h3
    · exact h3

theorem State.recordTick_keeps {s0} {a1} {a2} (g1 : Keeps s0 a1) : Keeps s0 (State.recordTick a1 a2) := by
  unfold State.recordTick
  extract_lets -underBinder -merge -useContext +onlyGivenNames v1
  have h2 : Keeps s0 v1 := by
    refine State.tickConditions_keeps ?_
    exact g1
  clear_value v1
  extract_lets -underBinder -merge -useContext +onlyGivenNames v3
  clear_value v3
  extract_lets -underBinder -merge -useContext +onlyGivenNames v4
  have h5 : Keeps s0 v4 := by
    refine Keeps.parts ?_ rfl rfl
    exact h2
  clear_value v4
  extract_lets -underBinder -merge -useContext +onlyGivenNames v6
  clear_value v6
  extract_lets -underBinder -merge -useContext +onlyGivenNames v7
  clear_value v7
  extract_lets -underBinder -merge -useContext +onlyGivenNames v8
  have h9 : Keeps s0 v8 := by
    refine Keeps.parts ?_ rfl rfl
    exact h5
  clear_value v8
  refine Keeps.ite ?_ ?_
  · exact h9
  · extract_lets -underBinder -merge -useContext +onlyGivenNames v10
    have h11 : Keeps s0 v10 := by
      refine Keeps.each ?_ fun s12 x13 h14 => ?_
      · exact h9
      · refine State.pushRow_keeps ?_
        exact h14
    clear_value v10
    refine State.tuneClose_keeps ?_
    refine Keeps.each ?_ fun s15 x16 h17 => ?_
    · exact h11
    · refine State.tuneRow_keeps ?_
      exact h17

theorem State.recTrigger_keeps {s0} {a1} {a2} {a3} (g1 : Keeps s0 a1) : Keeps s0 (State.recTrigger a1 a2 a3) := by
  unfold State.recTrigger
  extract_lets -underBinder -merge -useContext +onlyGivenNames v1
  clear_value v1
  refine Keeps.parts ?_ rfl rfl
  exact g1

theorem State.recArm_keeps {s0} {a1} {a2} (g1 : Keeps s0 a1) : KeepsO s0 (State.recArm a1 a2) := by
  unfold State.recArm
  refine KeepsO.ite ?_ ?_
  · exact KeepsO.none
  · refine KeepsO.ite ?_ ?_
    · refine KeepsO.some ?_
      refine State.setCap_keeps ?_
      exact g1
    · refine State.armCap_keeps ?_
      exact g1

theorem State.recDisarm_keeps {s0} {a1} {a2} (g1 : Keeps s0 a1) : Keeps s0 (State.recDisarm a1 a2) := by
  unfold State.recDisarm
  extract_lets -underBinder -merge -useContext +onlyGivenNames v1
  clear_value v1
  extract_lets -underBinder -merge -useContext +onlyGivenNames v2
  clear_value v2
  extract_lets -underBinder -merge -useContext +onlyGivenNames v3
  have h4 : Keeps s0 v3 := by
    refine State.setCap_keeps ?_
    exact g1
  clear_value v3
  refine Keeps.ite ?_ ?_
  · split
    · refine State.afterClose_keeps ?_
      refine State.closeRec_keeps ?_
      exact h4
    · exact h4
  · refine Keeps.ite ?_ ?_
    · refine State.setCapState_keeps ?_
      refine State.setCap_keeps ?_
      exact h4
    · exact h4

theorem State.recOffload_keeps {s0} {a1} {a2} (g1 : Keeps s0 a1) : KeepsO s0 (State.recOffload a1 a2) := by
  unfold State.recOffload
  refine KeepsO.ite ?_ ?_
  · exact KeepsO.none
  · refine KeepsO.some ?_
    refine State.set_keeps ?_
    refine State.set_keeps ?_
    refine State.setDirState_keeps ?_
    exact g1

theorem State.recRelease_keeps {s0} {a1} {a2} (g1 : Keeps s0 a1) : KeepsO s0 (State.recRelease a1 a2) := by
  unfold State.recRelease
  refine KeepsO.ite ?_ ?_
  · exact KeepsO.none
  · extract_lets -underBinder -merge -useContext +onlyGivenNames v1
    clear_value v1
    extract_lets -underBinder -merge -useContext +onlyGivenNames v2
    have h3 : Keeps s0 v2 := by
      refine State.setDirRec_keeps ?_
      exact g1
    clear_value v2
    extract_lets -underBinder -merge -useContext +onlyGivenNames v4
    have h5 : Keeps s0 v4 := by
      refine State.setDirState_keeps ?_
      refine State.clearAll_keeps ?_
      exact h3
    clear_value v4
    refine KeepsO.some ?_
    split
    · refine Keeps.ite ?_ ?_
      · refine Keeps.getD ?_ ?_
        · refine State.armCap_keeps ?_
          exact h5
        · exact h5
      · exact h5
    · exact h5

theorem State.recAbort_keeps {s0} {a1} {a2} (g1 : Keeps s0 a1) : Keeps s0 (State.recAbort a1 a2) := by
  unfold State.recAbort
  extract_lets -underBinder -merge -useContext +onlyGivenNames v1
  clear_value v1
  split
  · refine State.setB_keeps ?_
    exact g1
  · extract_lets -underBinder -merge -useContext +onlyGivenNames v2
    clear_value v2
    extract_lets -underBinder -merge -useContext +onlyGivenNames v3
    have h4 : Keeps s0 v3 := by
      unfold v3
      split
      · refine Keeps.ite ?_ ?_
        · extract_lets -underBinder -merge -useContext +onlyGivenNames v5
          clear_value v5
          extract_lets -underBinder -merge -useContext +onlyGivenNames v6
          clear_value v6
          refine State.setDirRec_keeps ?_
          exact g1
        · exact g1
      · exact g1
    clear_value v3
    refine State.afterClose_keeps ?_
    refine State.closeRec_keeps ?_
    exact h4

theorem State.recThaw_keeps {s0} {a1} (g1 : Keeps s0 a1) : KeepsO s0 (State.recThaw a1) := by
  unfold State.recThaw
  refine KeepsO.ite ?_ ?_
  · exact KeepsO.none
  · extract_lets -underBinder -merge -useContext +onlyGivenNames v1
    have h2 : Keeps s0 v1 := by
      refine State.setB_keeps ?_
      exact g1
    clear_value v1
    extract_lets -underBinder -merge -useContext +onlyGivenNames v3
    have h4 : Keeps s0 v3 := by
      refine Keeps.each ?_ fun s5 x6 h7 => ?_
      · exact h2
      · split
        · refine Keeps.ite ?_ ?_
          · refine State.setDirRec_keeps ?_
            exact h7
          · exact h7
        · exact h7
    clear_value v3
    refine KeepsO.some ?_
    refine Keeps.each ?_ fun s8 x9 h10 => ?_
    · exact h4
    · refine Keeps.getD ?_ ?_
      · refine State.armCap_keeps ?_
        exact h10
      · exact h10

theorem State.recOp_keeps {s0} {a1} {a2} {a3} {a4} {a5} (g1 : Keeps s0 a1) : KeepsO s0 (State.recOp a1 a2 a3 a4 a5) := by
  unfold State.recOp
  split
  · refine KeepsO.some ?_
    refine State.recTrigger_keeps ?_
    exact g1
  · refine State.recArm_keeps ?_
    exact g1
  · refine KeepsO.ite ?_ ?_
    · refine KeepsO.some ?_
      refine State.recDisarm_keeps ?_
      exact g1
    · exact KeepsO.none
  · refine State.recOffload_keeps ?_
    exact g1
  · refine State.recRelease_keeps ?_
    exact g1
  · refine KeepsO.ite ?_ ?_
    · refine KeepsO.some ?_
      refine State.recAbort_keeps ?_
      exact g1
    · exact KeepsO.none
  · refine State.recThaw_keeps ?_
    exact g1
  · exact KeepsO.none

theorem State.capEnable_keeps {s0} {a1} {a2} (g1 : Keeps s0 a1) : Keeps s0 (State.capEnable a1 a2) := by
  unfold State.capEnable
  refine Keeps.ite ?_ ?_
  · refine State.setCapState_keeps ?_
    exact g1
  · extract_lets -underBinder -merge -useContext +onlyGivenNames v1
    have h2 : Keeps s0 v1 := by
      unfold v1
      split
      · refine State.closeRec_keeps ?_
        exact g1
      · exact g1
    clear_value v1
    refine State.setCapState_keeps ?_
    refine State.setCap_keeps ?_
    exact h2

theorem State.bufferOverflow_keeps {s0} {a1} {a2} (g1 : Keeps s0 a1) : Keeps s0 (State.bufferOverflow a1 a2) := by
  unfold State.bufferOverflow
  refine Keeps.ite ?_ ?_
  · extract_lets -underBinder -merge -useContext +onlyGivenNames v1
    have h2 : Keeps s0 v1 := by
      refine State.bump_keeps ?_
      exact g1
    clear_value v1
    split
    · refine State.afterClose_keeps ?_
      refine State.closeRec_keeps ?_
      exact h2
    · exact h2
  · refine Keeps.ite ?_ ?_
    · refine State.setCap_keeps ?_
      refine State.bump_keeps ?_
      exact g1
    · exact g1

theorem State.compressStart_keeps {s0} {a1} {a2} (g1 : Keeps s0 a1) : Keeps s0 (State.compressStart a1 a2) := by
  unfold State.compressStart
  split
  · refine Keeps.ite ?_ ?_
    · refine State.setDirState_keeps ?_
      exact g1
    · exact g1
  · exact g1

theorem State.compressPause_keeps {s0} {a1} (g1 : Keeps s0 a1) : Keeps s0 (State.compressPause a1) := by
  unfold State.compressPause
  refine Keeps.each ?_ fun s1 x2 h3 => ?_
  · exact g1
  · refine Keeps.ite ?_ ?_
    · refine State.setDirState_keeps ?_
      exact h3
    · exact h3

theorem State.govern_keeps {s0} {a1} (g1 : Keeps s0 a1) : Keeps s0 (State.govern a1) := by
  unfold State.govern
  extract_lets -underBinder -merge -useContext +onlyGivenNames v1
  clear_value v1
  extract_lets -underBinder -merge -useContext +onlyGivenNames v2
  have h3 : Keeps s0 v2 := by
    refine Keeps.ite ?_ ?_
    · exact g1
    · refine State.compressPause_keeps ?_
      exact g1
  clear_value v2
  refine Keeps.parts ?_ rfl rfl
  exact h3

theorem State.compressDone_keeps {s0} {a1} {a2} (g1 : Keeps s0 a1) : Keeps s0 (State.compressDone a1 a2) := by
  unfold State.compressDone
  split
  · refine Keeps.ite ?_ ?_
    · exact g1
    · extract_lets -underBinder -merge -useContext +onlyGivenNames v1
      clear_value v1
      extract_lets -underBinder -merge -useContext +onlyGivenNames v2
      clear_value v2
      refine State.setDirState_keeps ?_
      refine State.putRec_keeps ?_
      exact g1
  · exact g1

theorem State.wipeDone_keeps {s0} {a1} (g1 : Keeps s0 a1) : Keeps s0 (State.wipeDone a1) := by
  unfold State.wipeDone
  refine Keeps.ite ?_ ?_
  · exact g1
  · extract_lets -underBinder -merge -useContext +onlyGivenNames v1
    have h2 : Keeps s0 v1 := by
      refine State.setB_keeps ?_
      exact g1
    extract_lets -underBinder -merge -useContext +onlyGivenNames v3
    extract_lets -underBinder -merge -useContext +onlyGivenNames v4
    have h5 : Keeps s0 v4 := by
      unfold v4
      split
      · extract_lets -underBinder -merge -useContext +onlyGivenNames v6
        clear_value v6
        extract_lets -underBinder -merge -useContext +onlyGivenNames v7
        clear_value v7
        extract_lets -underBinder -merge -useContext +onlyGivenNames v8
        have h9 : Keeps s0 v8 := by
          refine State.closeRec_keeps ?_
          refine State.placeRec_keeps ?_
          exact h2
        clear_value v8
        refine Keeps.parts ?_ rfl rfl
        exact h9
      · exact h2
    extract_lets -underBinder -merge -useContext +onlyGivenNames v10
    have h11 : Keeps s0 v10 := by
      refine Keeps.ite ?_ ?_
      · refine State.set_keeps ?_
        exact h5
      · exact h5
    clear_value v10
    refine Keeps.each ?_ fun s12 x13 h14 => ?_
    · exact h11
    · refine Keeps.ite ?_ ?_
      · refine Keeps.getD ?_ ?_
        · refine State.armCap_keeps ?_
          exact h14
        · refine State.setCapState_keeps ?_
          exact h14
      · refine State.setCapState_keeps ?_
        exact h14

theorem State.windowSelect_keeps {s0} {a1} {a2} {a3} (g1 : Keeps s0 a1) : Keeps s0 (State.windowSelect a1 a2 a3) := by
  unfold State.windowSelect
  refine State.set_keeps ?_
  refine State.set_keeps ?_
  exact g1

theorem State.recCntClear_keeps {s0} {a1} (g1 : Keeps s0 a1) : Keeps s0 (State.recCntClear a1) := by
  unfold State.recCntClear
  extract_lets -underBinder -merge -useContext +onlyGivenNames v1
  have h2 : Keeps s0 v1 := by
    refine State.clearAll_keeps ?_
    exact g1
  clear_value v1
  extract_lets -underBinder -merge -useContext +onlyGivenNames v3
  have h4 : Keeps s0 v3 := by
    refine Keeps.each ?_ fun s5 x6 h7 => ?_
    · exact h2
    · refine State.clearAll_keeps ?_
      exact h7
  clear_value v3
  extract_lets -underBinder -merge -useContext +onlyGivenNames v8
  have h9 : Keeps s0 v8 := by
    refine Keeps.each ?_ fun s10 x11 h12 => ?_
    · exact h4
    · refine State.clearAll_keeps ?_
      exact h12
  clear_value v8
  refine Keeps.each ?_ fun s13 x14 h15 => ?_
  · exact h9
  · refine State.clearAll_keeps ?_
    exact h15

theorem execRecInterval_keeps {s0} {a1} {a2} {a3} {a4} {a5} (g5 : Keeps s0 a5) : KeepsN s0 (execRecInterval a1 a2 a3 a4 a5) := by
  unfold execRecInterval
  refine KeepsN.next ?_
  refine State.interval_keeps ?_
  exact g5

theorem execSeqCountComplete_keeps {s0} {a1} {a2} (g2 : Keeps s0 a2) : KeepsN s0 (execSeqCountComplete a1 a2) := by
  unfold execSeqCountComplete
  refine KeepsN.next ?_
  refine State.seqCount_keeps ?_
  exact g2

theorem execSeqTimerExpiry_keeps {s0} {a1} {a2} (g2 : Keeps s0 a2) : KeepsN s0 (execSeqTimerExpiry a1 a2) := by
  unfold execSeqTimerExpiry
  refine KeepsN.next ?_
  refine State.seqTimer_keeps ?_
  exact g2

theorem execHoldoffEnd_keeps {s0} {a1} {a2} (g2 : Keeps s0 a2) : KeepsN s0 (execHoldoffEnd a1 a2) := by
  unfold execHoldoffEnd
  refine KeepsN.next ?_
  refine Keeps.ite ?_ ?_
  · refine State.setUnit_keeps ?_
    exact g2
  · exact g2

theorem execRecordClose_keeps {s0} {a1} {a2} (g2 : Keeps s0 a2) : KeepsN s0 (execRecordClose a1 a2) := by
  unfold execRecordClose
  refine KeepsN.next ?_
  refine State.closeDone_keeps ?_
  exact g2

theorem execSegmentRearm_keeps {s0} {a1} {a2} (g2 : Keeps s0 a2) : KeepsN s0 (execSegmentRearm a1 a2) := by
  unfold execSegmentRearm
  refine KeepsN.next ?_
  refine Keeps.ite ?_ ?_
  · refine State.setCapState_keeps ?_
    refine State.setCap_keeps ?_
    exact g2
  · exact g2

theorem execBufferOverflow_keeps {s0} {a1} {a2} (g2 : Keeps s0 a2) : KeepsN s0 (execBufferOverflow a1 a2) := by
  unfold execBufferOverflow
  refine KeepsN.next ?_
  refine State.bufferOverflow_keeps ?_
  exact g2

theorem execCompressionStart_keeps {s0} {a1} {a2} (g2 : Keeps s0 a2) : KeepsN s0 (execCompressionStart a1 a2) := by
  unfold execCompressionStart
  refine KeepsN.next ?_
  refine State.compressStart_keeps ?_
  exact g2

theorem execCompressionComplete_keeps {s0} {a1} {a2} (g2 : Keeps s0 a2) : KeepsN s0 (execCompressionComplete a1 a2) := by
  unfold execCompressionComplete
  refine KeepsN.next ?_
  refine State.compressDone_keeps ?_
  exact g2

theorem execRecordWipeComplete_keeps {s0} {a1} (g1 : Keeps s0 a1) : KeepsN s0 (execRecordWipeComplete a1) := by
  unfold execRecordWipeComplete
  refine KeepsN.next ?_
  refine State.wipeDone_keeps ?_
  exact g1

end Sys2Proof.Machine
end

