-- ==== Sys2Proof/Laws/KeepsFields.lean ====
section
/-!
SUPPORT. What the operations of Machine/Fields.lean do to the queue, the fuses and the tables.
-/

namespace Sys2Proof.Machine

theorem State.stored_keeps {s0} {a1} {a2} {a3} {a4} {a5} (g1 : Keeps s0 a1) : Keeps s0 (State.stored a1 a2 a3 a4 a5) := by
  unfold State.stored
  extract_lets -underBinder -merge -useContext +onlyGivenNames v1
  clear_value v1
  extract_lets -underBinder -merge -useContext +onlyGivenNames v2
  clear_value v2
  extract_lets -underBinder -merge -useContext +onlyGivenNames v3
  extract_lets -underBinder -merge -useContext +onlyGivenNames v4
  extract_lets -underBinder -merge -useContext +onlyGivenNames v5
  clear_value v5
  extract_lets -underBinder -merge -useContext +onlyGivenNames v6
  have h7 : Keeps s0 v6 := by
    refine Keeps.ite ?_ ?_
    · refine State.missLowered_keeps ?_
      exact g1
    · refine Keeps.ite ?_ ?_
      · refine State.rearm_keeps ?_
        refine Keeps.ite ?_ ?_
        · exact g1
        · refine State.rangeWritten_keeps ?_
          exact g1
      · refine Keeps.ite ?_ ?_
        · refine State.coefTouched_keeps ?_
          exact g1
        · refine Keeps.ite ?_ ?_
          · refine Keeps.ite ?_ ?_
            · refine State.armUnit_keeps ?_
              exact g1
            · refine Keeps.ite ?_ ?_
              · refine State.setUnit_keeps ?_
                exact g1
              · exact g1
          · refine Keeps.ite ?_ ?_
            · refine Keeps.ite ?_ ?_
              · exact g1
              · refine State.capEnable_keeps ?_
                exact g1
            · refine Keeps.ite ?_ ?_
              · refine Keeps.ite ?_ ?_
                · refine State.servoFree_keeps ?_
                  exact g1
                · exact g1
              · exact g1
  clear_value v6
  refine Keeps.ite ?_ ?_
  · refine State.refreshOk_keeps ?_
    refine State.checkIlp_keeps ?_
    refine State.recheck_keeps ?_
    exact h7
  · exact h7

end Sys2Proof.Machine
end

