-- ==== Sys2Proof/Laws/KeepsOrders.lean ====
section
/-!
SUPPORT. What the operations of Machine/Orders.lean do to the queue, the fuses and the tables.
-/

namespace Sys2Proof.Machine

theorem State.itemSetpoint_keeps {s0} {a1} {a2} {a3} (g1 : Keeps s0 a1) : KeepsS s0 (State.itemSetpoint a1 a2 a3) := by
  unfold State.itemSetpoint
  refine KeepsS.ite ?_ ?_
  · exact KeepsS.inr
  · refine KeepsS.ite ?_ ?_
    · exact KeepsS.inr
    · refine KeepsS.ite ?_ ?_
      · exact KeepsS.inr
      · refine KeepsS.inl ?_
        refine State.setSigOk_keeps ?_
        refine State.setSig_keeps ?_
        exact g1

theorem State.itemDeblock_keeps {s0} {a1} {a2} (g1 : Keeps s0 a1) : KeepsS s0 (State.itemDeblock a1 a2) := by
  unfold State.itemDeblock
  extract_lets -underBinder -merge -useContext +onlyGivenNames v1
  clear_value v1
  refine KeepsS.ite ?_ ?_
  · exact KeepsS.inr
  · refine KeepsS.ite ?_ ?_
    · exact KeepsS.inr
    · refine KeepsS.ite ?_ ?_
      · exact KeepsS.inr
      · refine KeepsS.inl ?_
        refine State.checkIlp_keeps ?_
        refine Keeps.each ?_ fun s2 x3 h4 => ?_
        · exact g1
        · refine State.deblockArm_keeps ?_
          exact h4

theorem State.itemBlock_keeps {s0} {a1} {a2} (g1 : Keeps s0 a1) : KeepsS s0 (State.itemBlock a1 a2) := by
  unfold State.itemBlock
  refine KeepsS.inl ?_
  refine Keeps.each ?_ fun s1 x2 h3 => ?_
  · exact g1
  · refine State.blockArm_keeps ?_
    exact h3

theorem State.ctxItem_keeps {s0} {a1} (g1 : KeepsO s0 a1) : KeepsS s0 (State.ctxItem a1) := by
  unfold State.ctxItem
  split
  · rename_i x1
    have h2 : Keeps s0 x1 := g1 _ rfl
    refine KeepsS.inl ?_
    exact h2
  · exact KeepsS.inr

theorem State.orderInjStop_keeps {s0} {a1} {a2} (g1 : Keeps s0 a1) : Keeps s0 (State.orderInjStop a1 a2) := by
  unfold State.orderInjStop
  extract_lets -underBinder -merge -useContext +onlyGivenNames v1
  clear_value v1
  refine Keeps.ite ?_ ?_
  · refine State.setB_keeps ?_
    exact g1
  · refine State.injStop_keeps ?_
    exact g1

theorem State.itemContext_keeps {s0} {a1} {a2} {a3} (g1 : Keeps s0 a1) : KeepsS s0 (State.itemContext a1 a2 a3) := by
  unfold State.itemContext
  refine KeepsS.ite ?_ ?_
  · exact KeepsS.inr
  · refine KeepsS.ite ?_ ?_
    · exact KeepsS.inr
    · split
      · refine State.ctxItem_keeps ?_
        refine State.ctxMode_keeps ?_
        exact g1
      · refine State.ctxItem_keeps ?_
        refine State.ctxMode_keeps ?_
        exact g1
      · refine State.ctxItem_keeps ?_
        refine State.ctxMode_keeps ?_
        exact g1
      · refine State.ctxItem_keeps ?_
        refine State.promote_keeps ?_
        exact g1
      · refine KeepsS.inl ?_
        refine State.ctxFaultReset_keeps ?_
        exact g1
      · refine State.ctxItem_keeps ?_
        refine State.injStart_keeps ?_
        exact g1
      · refine KeepsS.inl ?_
        refine State.orderInjStop_keeps ?_
        exact g1
      · exact KeepsS.inr

theorem State.itemCell_keeps {s0} {a1} {a2} {a3} {a4} (g1 : Keeps s0 a1) : KeepsS s0 (State.itemCell a1 a2 a3 a4) := by
  unfold State.itemCell
  refine KeepsS.ite ?_ ?_
  · exact KeepsS.inr
  · refine KeepsS.ite ?_ ?_
    · exact KeepsS.inr
    · split
      · refine KeepsS.inl ?_
        refine State.catArise_keeps ?_
        exact g1
      · refine KeepsS.inl ?_
        refine State.catClear_keeps ?_
        refine State.catClear_keeps ?_
        exact g1
      · refine KeepsS.inl ?_
        refine State.setSvc_keeps ?_
        exact g1
      · refine KeepsS.inl ?_
        refine State.gradeReset_keeps ?_
        exact g1
      · refine KeepsS.ite ?_ ?_
        · exact KeepsS.inr
        · refine KeepsS.inl ?_
          refine State.set_keeps ?_
          exact g1
      · exact KeepsS.inr

theorem State.orderCommit_keeps {s0} {a1} {a2} {a3} (g1 : Keeps s0 a1) : KeepsS s0 (State.orderCommit a1 a2 a3) := by
  unfold State.orderCommit
  refine KeepsS.ite ?_ ?_
  · exact KeepsS.inr
  · refine KeepsS.ite ?_ ?_
    · split
      · rename_i x1 e3
        have h2 : Keeps s0 x1 := by
          refine KeepsO.get ?_ e3
          refine State.discard_keeps ?_
          exact g1
        refine KeepsS.inl ?_
        exact h2
      · exact KeepsS.inr
    · refine KeepsS.ite ?_ ?_
      · split
        rename_i x6 x7 q9
        have e8 : _ = x7 := congrArg Prod.snd q9
        have h5 : Keeps s0 x7 := by
          rw [← e8]
          refine State.commit_keeps ?_
          exact g1
        refine KeepsS.ite ?_ ?_
        · refine KeepsS.inl ?_
          exact h5
        · exact KeepsS.inr
      · refine KeepsS.inl ?_
        exact g1

theorem State.orderCtxCmd_keeps {s0} {a1} {a2} {a3} (g1 : Keeps s0 a1) : KeepsS s0 (State.orderCtxCmd a1 a2 a3) := by
  unfold State.orderCtxCmd
  extract_lets -underBinder -merge -useContext +onlyGivenNames v1
  have h2 : Keeps s0 v1 := by
    refine Keeps.ite ?_ ?_
    · refine State.ctxFaultReset_keeps ?_
      exact g1
    · exact g1
  clear_value v1
  extract_lets -underBinder -merge -useContext +onlyGivenNames v3
  have h4 : Keeps s0 v3 := by
    refine Keeps.ite ?_ ?_
    · refine State.orderInjStop_keeps ?_
      exact h2
    · exact h2
  clear_value v3
  refine KeepsS.ite ?_ ?_
  · refine State.ctxItem_keeps ?_
    refine State.injStart_keeps ?_
    exact h4
  · refine KeepsS.inl ?_
    exact h4

theorem State.itemParam_keeps {s0} {a1} {a2} {a3} {a4} (g1 : Keeps s0 a1) : KeepsS s0 (State.itemParam a1 a2 a3 a4) := by
  unfold State.itemParam
  split
  · exact KeepsS.inr
  · extract_lets -underBinder -merge -useContext +onlyGivenNames v1
    clear_value v1
    extract_lets -underBinder -merge -useContext +onlyGivenNames v2
    clear_value v2
    extract_lets -underBinder -merge -useContext +onlyGivenNames v3
    clear_value v3
    refine KeepsS.ite ?_ ?_
    · exact KeepsS.inr
    · refine KeepsS.ite ?_ ?_
      · exact KeepsS.inr
      · refine KeepsS.ite ?_ ?_
        · exact KeepsS.inr
        · refine KeepsS.ite ?_ ?_
          · refine KeepsS.inl ?_
            exact g1
          · refine KeepsS.ite ?_ ?_
            · split
              · rename_i x4 e6
                have h5 : Keeps s0 x4 := by
                  refine KeepsO.get ?_ e6
                  refine State.stageWrite_keeps ?_
                  exact g1
                refine KeepsS.inl ?_
                exact h5
              · exact KeepsS.inr
            · refine KeepsS.ite ?_ ?_
              · extract_lets -underBinder -merge -useContext +onlyGivenNames v8
                clear_value v8
                refine State.orderCommit_keeps ?_
                exact g1
              · refine KeepsS.ite ?_ ?_
                · refine State.orderCtxCmd_keeps ?_
                  exact g1
                · refine KeepsS.ite ?_ ?_
                  · refine State.ctxItem_keeps ?_
                    refine State.modeWrite_keeps ?_
                    exact g1
                  · refine KeepsS.inl ?_
                    refine State.stored_keeps ?_
                    refine State.setReg_keeps ?_
                    exact g1

theorem State.itemRecord_keeps {s0} {a1} {a2} {a3} {a4} (g1 : Keeps s0 a1) : KeepsS s0 (State.itemRecord a1 a2 a3 a4) := by
  unfold State.itemRecord
  extract_lets -underBinder -merge -useContext +onlyGivenNames v1
  clear_value v1
  refine KeepsS.ite ?_ ?_
  · exact KeepsS.inr
  · refine KeepsS.ite ?_ ?_
    · exact KeepsS.inr
    · refine State.ctxItem_keeps ?_
      refine State.recOp_keeps ?_
      exact g1

theorem State.item_keeps {s0} {a1} {a2} {a3} (g1 : Keeps s0 a1) : KeepsS s0 (State.item a1 a2 a3) := by
  unfold State.item
  split
  · refine State.itemSetpoint_keeps ?_
    exact g1
  · refine State.itemDeblock_keeps ?_
    exact g1
  · refine State.itemBlock_keeps ?_
    exact g1
  · refine State.itemContext_keeps ?_
    exact g1
  · refine State.itemCell_keeps ?_
    exact g1
  · refine State.itemParam_keeps ?_
    exact g1
  · refine State.itemRecord_keeps ?_
    exact g1
  · exact KeepsS.inr

theorem State.items_keeps {s0} {a1} {a2} {a3} {a4} {a5} (g1 : Keeps s0 a1) : KeepsS s0 (State.items a1 a2 a3 a4 a5) := by
  induction a5 generalizing a1 a4 with
  | zero => exact KeepsS.inl g1
  | succ k ih =>
    unfold State.items
    split
    · rename_i x e
      exact ih (KeepsS.get (State.item_keeps g1) e)
    · exact KeepsS.inr

theorem State.runOrder_keeps {s0} {a1} {a2} (g1 : Keeps s0 a1) : Keeps s0 (State.runOrder a1 a2).2.2 := by
  unfold State.runOrder
  extract_lets -underBinder -merge -useContext +onlyGivenNames v1
  clear_value v1
  refine Keeps.ite3 ?_ ?_
  · refine Keeps.mk3 ?_
    refine Keeps.mk2 ?_
    exact g1
  · refine Keeps.ite3 ?_ ?_
    · refine Keeps.mk3 ?_
      refine Keeps.mk2 ?_
      exact g1
    · refine Keeps.ite3 ?_ ?_
      · refine Keeps.mk3 ?_
        refine Keeps.mk2 ?_
        exact g1
      · split
        · rename_i x2 e4
          have h3 : Keeps s0 x2 := by
            refine KeepsS.get ?_ e4
            refine State.items_keeps ?_
            exact g1
          refine Keeps.mk3 ?_
          refine Keeps.mk2 ?_
          exact h3
        · extract_lets -underBinder -merge -useContext +onlyGivenNames v7
          have h8 : Keeps s0 v7 := by
            unfold v7
            split
            · refine State.setReg_keeps ?_
              exact g1
            · exact g1
          clear_value v7
          refine Keeps.mk3 ?_
          refine Keeps.mk2 ?_
          exact h8

theorem State.applyOrder_keeps {s0} {a1} {a2} (g1 : Keeps s0 a1) : Keeps s0 (State.applyOrder a1 a2) := by
  unfold State.applyOrder
  split
  rename_i x2 x3 x4 q11
  have e10 : _ = x4 := congrArg Prod.snd (congrArg Prod.snd q11)
  have h1 : Keeps s0 x4 := by
    rw [← e10]
    refine State.runOrder_keeps ?_
    exact g1
  extract_lets -underBinder -merge -useContext +onlyGivenNames v5
  clear_value v5
  extract_lets -underBinder -merge -useContext +onlyGivenNames v6
  have h7 : Keeps s0 v6 := by
    refine Keeps.parts ?_ rfl rfl
    exact h1
  clear_value v6
  refine Keeps.ite ?_ ?_
  · exact h7
  · extract_lets -underBinder -merge -useContext +onlyGivenNames v8
    have h9 : Keeps s0 v8 := by
      refine State.showCredit_keeps ?_
      refine State.setApplied_keeps ?_
      exact h7
    clear_value v8
    refine Keeps.ite ?_ ?_
    · refine Keeps.parts ?_ rfl rfl
      exact h9
    · exact h9

theorem State.applyDue_keeps {s0} {a1} (g1 : Keeps s0 a1) : Keeps s0 (State.applyDue a1) := by
  unfold State.applyDue
  refine Keeps.each ?_ fun s1 x2 h3 => ?_
  · exact g1
  · refine State.applyOrder_keeps ?_
    exact h3

theorem State.sendDones_keeps {s0} {a1} (g1 : Keeps s0 a1) : Keeps s0 (State.sendDones a1) := by
  unfold State.sendDones
  extract_lets -underBinder -merge -useContext +onlyGivenNames v1
  have h2 : Keeps s0 v1 := by
    refine Keeps.each ?_ fun s3 x4 h5 => ?_
    · exact g1
    · extract_lets -underBinder -merge -useContext +onlyGivenNames v6
      clear_value v6
      refine Keeps.ite ?_ ?_
      · refine State.tellSess_keeps ?_
        exact h5
      · exact h5
  clear_value v1
  refine Keeps.parts ?_ rfl rfl
  exact h2

theorem State.itemOr_keeps {s0} {a1} {a2} (g1 : Keeps s0 a1) (g2 : KeepsS s0 a2) : Keeps s0 (State.itemOr a1 a2) := by
  unfold State.itemOr
  split
  · rename_i x1
    have h2 : Keeps s0 x1 := g2 _ rfl
    exact h2
  · split
    · refine State.setReg_keeps ?_
      exact g1
    · exact g1

theorem execOrderSetpoint_keeps {s0} {a1} {a2} {a3} (g3 : Keeps s0 a3) : KeepsN s0 (execOrderSetpoint a1 a2 a3) := by
  unfold execOrderSetpoint
  refine KeepsN.next ?_
  refine State.itemOr_keeps ?_ ?_
  · exact g3
  · refine State.itemSetpoint_keeps ?_
    exact g3

theorem execOrderDeblock_keeps {s0} {a1} {a2} (g2 : Keeps s0 a2) : KeepsN s0 (execOrderDeblock a1 a2) := by
  unfold execOrderDeblock
  refine KeepsN.next ?_
  refine State.itemOr_keeps ?_ ?_
  · exact g2
  · refine State.itemDeblock_keeps ?_
    exact g2

theorem execOrderBlock_keeps {s0} {a1} {a2} (g2 : Keeps s0 a2) : KeepsN s0 (execOrderBlock a1 a2) := by
  unfold execOrderBlock
  refine KeepsN.next ?_
  refine State.itemOr_keeps ?_ ?_
  · exact g2
  · refine State.itemBlock_keeps ?_
    exact g2

theorem execOrderCtxOff_keeps {s0} {a1} {a2} (g2 : Keeps s0 a2) : KeepsN s0 (execOrderCtxOff a1 a2) := by
  unfold execOrderCtxOff
  refine KeepsN.next ?_
  refine State.itemOr_keeps ?_ ?_
  · exact g2
  · refine State.itemContext_keeps ?_
    exact g2

theorem execOrderCtxLive_keeps {s0} {a1} {a2} (g2 : Keeps s0 a2) : KeepsN s0 (execOrderCtxLive a1 a2) := by
  unfold execOrderCtxLive
  refine KeepsN.next ?_
  refine State.itemOr_keeps ?_ ?_
  · exact g2
  · refine State.itemContext_keeps ?_
    exact g2

theorem execOrderCtxShadow_keeps {s0} {a1} {a2} (g2 : Keeps s0 a2) : KeepsN s0 (execOrderCtxShadow a1 a2) := by
  unfold execOrderCtxShadow
  refine KeepsN.next ?_
  refine State.itemOr_keeps ?_ ?_
  · exact g2
  · refine State.itemContext_keeps ?_
    exact g2

theorem execOrderCtxPromote_keeps {s0} {a1} {a2} (g2 : Keeps s0 a2) : KeepsN s0 (execOrderCtxPromote a1 a2) := by
  unfold execOrderCtxPromote
  refine KeepsN.next ?_
  refine State.itemOr_keeps ?_ ?_
  · exact g2
  · refine State.itemContext_keeps ?_
    exact g2

theorem execOrderCtxFaultReset_keeps {s0} {a1} {a2} (g2 : Keeps s0 a2) : KeepsN s0 (execOrderCtxFaultReset a1 a2) := by
  unfold execOrderCtxFaultReset
  refine KeepsN.next ?_
  refine State.itemOr_keeps ?_ ?_
  · exact g2
  · refine State.itemContext_keeps ?_
    exact g2

theorem execOrderInjStart_keeps {s0} {a1} {a2} (g2 : Keeps s0 a2) : KeepsN s0 (execOrderInjStart a1 a2) := by
  unfold execOrderInjStart
  refine KeepsN.next ?_
  refine State.itemOr_keeps ?_ ?_
  · exact g2
  · refine State.itemContext_keeps ?_
    exact g2

theorem execOrderInjStop_keeps {s0} {a1} {a2} (g2 : Keeps s0 a2) : KeepsN s0 (execOrderInjStop a1 a2) := by
  unfold execOrderInjStop
  refine KeepsN.next ?_
  refine State.itemOr_keeps ?_ ?_
  · exact g2
  · refine State.itemContext_keeps ?_
    exact g2

theorem execOrderCellExclude_keeps {s0} {a1} {a2} (g2 : Keeps s0 a2) : KeepsN s0 (execOrderCellExclude a1 a2) := by
  unfold execOrderCellExclude
  refine KeepsN.next ?_
  refine State.itemOr_keeps ?_ ?_
  · exact g2
  · refine State.itemCell_keeps ?_
    exact g2

theorem execOrderCellRelease_keeps {s0} {a1} {a2} (g2 : Keeps s0 a2) : KeepsN s0 (execOrderCellRelease a1 a2) := by
  unfold execOrderCellRelease
  refine KeepsN.next ?_
  refine State.itemOr_keeps ?_ ?_
  · exact g2
  · refine State.itemCell_keeps ?_
    exact g2

theorem execOrderCellRetire_keeps {s0} {a1} {a2} (g2 : Keeps s0 a2) : KeepsN s0 (execOrderCellRetire a1 a2) := by
  unfold execOrderCellRetire
  refine KeepsN.next ?_
  refine State.itemOr_keeps ?_ ?_
  · exact g2
  · refine State.itemCell_keeps ?_
    exact g2

theorem execOrderGradeReset_keeps {s0} {a1} {a2} (g2 : Keeps s0 a2) : KeepsN s0 (execOrderGradeReset a1 a2) := by
  unfold execOrderGradeReset
  refine KeepsN.next ?_
  refine State.itemOr_keeps ?_ ?_
  · exact g2
  · refine State.itemCell_keeps ?_
    exact g2

theorem execOrderWearSet_keeps {s0} {a1} {a2} {a3} (g3 : Keeps s0 a3) : KeepsN s0 (execOrderWearSet a1 a2 a3) := by
  unfold execOrderWearSet
  refine KeepsN.next ?_
  refine State.itemOr_keeps ?_ ?_
  · exact g3
  · refine State.itemCell_keeps ?_
    exact g3

theorem execOrderParam_keeps {s0} {a1} {a2} {a3} {a4} (g4 : Keeps s0 a4) : KeepsN s0 (execOrderParam a1 a2 a3 a4) := by
  unfold execOrderParam
  refine KeepsN.next ?_
  refine State.itemOr_keeps ?_ ?_
  · exact g4
  · refine State.itemParam_keeps ?_
    exact g4

theorem execRecordTrigger_keeps {s0} {a1} {a2} (g2 : Keeps s0 a2) : KeepsN s0 (execRecordTrigger a1 a2) := by
  unfold execRecordTrigger
  refine KeepsN.next ?_
  refine State.itemOr_keeps ?_ ?_
  · exact g2
  · refine State.itemRecord_keeps ?_
    exact g2

theorem execRecordArm_keeps {s0} {a1} {a2} (g2 : Keeps s0 a2) : KeepsN s0 (execRecordArm a1 a2) := by
  unfold execRecordArm
  refine KeepsN.next ?_
  refine State.itemOr_keeps ?_ ?_
  · exact g2
  · refine State.itemRecord_keeps ?_
    exact g2

theorem execRecordDisarm_keeps {s0} {a1} {a2} (g2 : Keeps s0 a2) : KeepsN s0 (execRecordDisarm a1 a2) := by
  unfold execRecordDisarm
  refine KeepsN.next ?_
  refine State.itemOr_keeps ?_ ?_
  · exact g2
  · refine State.itemRecord_keeps ?_
    exact g2

theorem execRecordOffload_keeps {s0} {a1} {a2} (g2 : Keeps s0 a2) : KeepsN s0 (execRecordOffload a1 a2) := by
  unfold execRecordOffload
  refine KeepsN.next ?_
  refine State.itemOr_keeps ?_ ?_
  · exact g2
  · refine State.itemRecord_keeps ?_
    exact g2

theorem execRecordRelease_keeps {s0} {a1} {a2} (g2 : Keeps s0 a2) : KeepsN s0 (execRecordRelease a1 a2) := by
  unfold execRecordRelease
  refine KeepsN.next ?_
  refine State.itemOr_keeps ?_ ?_
  · exact g2
  · refine State.itemRecord_keeps ?_
    exact g2

theorem execRecordAbort_keeps {s0} {a1} {a2} (g2 : Keeps s0 a2) : KeepsN s0 (execRecordAbort a1 a2) := by
  unfold execRecordAbort
  refine KeepsN.next ?_
  refine State.itemOr_keeps ?_ ?_
  · exact g2
  · refine State.itemRecord_keeps ?_
    exact g2

theorem execRecordThaw_keeps {s0} {a1} (g1 : Keeps s0 a1) : KeepsN s0 (execRecordThaw a1) := by
  unfold execRecordThaw
  refine KeepsN.next ?_
  refine State.itemOr_keeps ?_ ?_
  · exact g1
  · refine State.itemRecord_keeps ?_
    exact g1

end Sys2Proof.Machine
end

