-- ==== Sys2Proof/Laws/KeepsCompute.lean ====
section
/-!
SUPPORT. What the operations of Machine/Compute.lean do to the queue, the fuses and the tables.
-/

namespace Sys2Proof.Machine

theorem State.localCounted_keeps {s0} {a1} (g1 : Keeps s0 a1) : Keeps s0 (State.localCounted a1) := by
  unfold State.localCounted
  refine State.bump_keeps ?_
  refine State.localCause_keeps ?_
  exact g1

theorem State.eccLost_keeps {s0} {a1} {a2} {a3} {a4} (g1 : Keeps s0 a1) : Keeps s0 (State.eccLost a1 a2 a3 a4) := by
  unfold State.eccLost
  extract_lets -underBinder -merge -useContext +onlyGivenNames v1
  have h2 : Keeps s0 v1 := by
    refine State.set_keeps ?_
    refine State.bump_keeps ?_
    exact g1
  clear_value v1
  refine State.set_keeps ?_
  refine State.setB_keeps ?_
  exact h2

theorem State.coefLost_keeps {s0} {a1} {a2} (g1 : Keeps s0 a1) : Keeps s0 (State.coefLost a1 a2) := by
  unfold State.coefLost
  refine Keeps.each ?_ fun s1 x2 h3 => ?_
  · exact g1
  · refine State.localCause_keeps ?_
    refine State.bump_keeps ?_
    refine State.setCtx_keeps ?_
    exact h3

theorem State.eccFixed_keeps {s0} {a1} {a2} {a3} (g1 : Keeps s0 a1) : Keeps s0 (State.eccFixed a1 a2 a3) := by
  unfold State.eccFixed
  extract_lets -underBinder -merge -useContext +onlyGivenNames v1
  have h2 : Keeps s0 v1 := by
    refine State.bump_keeps ?_
    exact g1
  clear_value v1
  refine Keeps.ite ?_ ?_
  · refine Keeps.each ?_ fun s3 x4 h5 => ?_
    · exact h2
    · refine State.coefCorrected_keeps ?_
      exact h5
  · exact h2

theorem State.eccEvent_keeps {s0} {a1} {a2} (g1 : Keeps s0 a1) : Keeps s0 (State.eccEvent a1 a2) := by
  unfold State.eccEvent
  split
  · refine State.eccFixed_keeps ?_
    exact g1
  · extract_lets -underBinder -merge -useContext +onlyGivenNames v1
    have h2 : Keeps s0 v1 := by
      refine State.eccLost_keeps ?_
      exact g1
    clear_value v1
    refine Keeps.ite ?_ ?_
    · refine State.localCounted_keeps ?_
      exact h2
    · refine Keeps.ite ?_ ?_
      · refine State.coefLost_keeps ?_
        exact h2
      · exact h2
  · refine State.localCounted_keeps ?_
    refine State.setSigOk_keeps ?_
    refine State.bump_keeps ?_
    exact g1
  · refine State.bump_keeps ?_
    exact g1
  · refine State.localCounted_keeps ?_
    refine State.eccLost_keeps ?_
    exact g1

theorem State.keepUndo_keeps {s0} {a1} {a2} (g1 : Keeps s0 a1) (g2 : Keeps s0 a2) : Keeps s0 (State.keepUndo a1 a2) := by
  refine ⟨g1.1, g1.2.1, fun x => ⟨?_, (g1.2.2 x).2⟩⟩
  obtain ⟨h0, h1, h2, h3, h4, h5, h6, h7, h8, h9, h10, h11, h12, h13, _⟩ := (g1.2.2 x).1
  obtain ⟨_, _, _, _, _, _, _, k7, k8, k9, _⟩ := (g2.2.2 x).1
  refine ⟨h0, h1, h2, h3, h4, h5, h6, h7, h8, h9, h10, h11, h12, h13, fun u hu => ?_⟩
  cases Option.some.inj hu
  exact ⟨k7, k9, k8⟩

theorem State.abandon_keeps {s0} {a1} (g1 : Keeps s0 a1) : Keeps s0 (State.abandon a1) := by
  unfold State.abandon
  split
  · exact g1
  · rename_i u hu
    extract_lets v1
    have h2 : Keeps s0 v1 := Keeps.each g1 fun _ _ h => State.takeBack_keeps h
    clear_value v1
    refine ⟨h2.1, h2.2.1, fun x => ⟨?_, (h2.2.2 x).2⟩⟩
    obtain ⟨k7, k9, k8⟩ := (g1.2.2 x).1.2.2.2.2.2.2.2.2.2.2.2.2.2.2 u hu
    obtain ⟨h0, h1, h2, h3, h4, h5, h6, _, _, _, h10, h11, h12, h13, _⟩ := (h2.2.2 x).1
    exact ⟨h0, h1, h2, h3, h4, h5, h6, k7, k8, k9, h10, h11, h12, h13, fun w hw => (Option.some_ne_none w hw.symm).elim⟩

theorem State.consecOverrun_keeps {s0} {a1} (g1 : Keeps s0 a1) : Keeps s0 (State.consecOverrun a1) := by
  unfold State.consecOverrun
  refine Keeps.ite ?_ ?_
  · exact g1
  · refine Keeps.ite ?_ ?_
    · refine Keeps.ite ?_ ?_
      · refine State.withdraw_keeps ?_
        exact g1
      · exact g1
    · refine Keeps.ite ?_ ?_
      · refine State.requestSbk_keeps ?_
        exact g1
      · exact g1

theorem State.toCoast_keeps {s0} {a1} (g1 : Keeps s0 a1) : Keeps s0 (State.toCoast a1) := by
  unfold State.toCoast
  extract_lets -underBinder -merge -useContext +onlyGivenNames v1
  have h2 : Keeps s0 v1 := by
    refine State.abandon_keeps ?_
    refine State.set_keeps ?_
    exact g1
  clear_value v1
  extract_lets -underBinder -merge -useContext +onlyGivenNames v3
  have h4 : Keeps s0 v3 := by
    refine State.loopMissed_keeps ?_
    exact h2
  clear_value v3
  extract_lets -underBinder -merge -useContext +onlyGivenNames v5
  have h6 : Keeps s0 v5 := by
    refine Keeps.ite ?_ ?_
    · refine State.haltEntries_keeps ?_
      exact h2
    · refine State.keepUndo_keeps ?_ ?_
      · refine State.coastStage_keeps ?_
        exact h4
      · exact h4
  clear_value v5
  refine State.noteTick_keeps ?_
  refine Keeps.parts ?_ rfl rfl
  exact h6

theorem State.overrun_keeps {s0} {a1} (g1 : Keeps s0 a1) : Keeps s0 (State.overrun a1) := by
  unfold State.overrun
  refine Keeps.ite ?_ ?_
  · exact g1
  · extract_lets -underBinder -merge -useContext +onlyGivenNames v1
    have h2 : Keeps s0 v1 := by
      refine State.bump_keeps ?_
      exact g1
    clear_value v1
    extract_lets -underBinder -merge -useContext +onlyGivenNames v3
    have h4 : Keeps s0 v3 := by
      refine State.set_keeps ?_
      exact h2
    clear_value v3
    extract_lets -underBinder -merge -useContext +onlyGivenNames v5
    have h6 : Keeps s0 v5 := by
      refine State.noteTick_keeps ?_
      refine State.localCause_keeps ?_
      exact h4
    clear_value v5
    extract_lets -underBinder -merge -useContext +onlyGivenNames v7
    extract_lets -underBinder -merge -useContext +onlyGivenNames v8
    have h9 : Keeps s0 v8 := by
      refine Keeps.ite ?_ ?_
      · refine State.set_keeps ?_
        refine Keeps.parts ?_ rfl rfl
        exact h6
      · refine State.toCoast_keeps ?_
        exact h6
    clear_value v8
    refine State.consecOverrun_keeps ?_
    exact h9

theorem State.lateCompletion_keeps {s0} {a1} {a2} (g1 : Keeps s0 a1) : Keeps s0 (State.lateCompletion a1 a2) := by
  unfold State.lateCompletion
  refine Keeps.ite ?_ ?_
  · exact g1
  · extract_lets -underBinder -merge -useContext +onlyGivenNames v1
    have h2 : Keeps s0 v1 := by
      refine State.set_keeps ?_
      exact g1
    clear_value v1
    refine State.sendState_keeps ?_
    refine State.loopSafe_keeps ?_
    refine Keeps.parts ?_ rfl rfl
    exact h2

theorem State.lateDiverge_keeps {s0} {a1} (g1 : Keeps s0 a1) : Keeps s0 (State.lateDiverge a1) := by
  unfold State.lateDiverge
  refine Keeps.ite ?_ ?_
  · exact g1
  · extract_lets -underBinder -merge -useContext +onlyGivenNames v1
    extract_lets -underBinder -merge -useContext +onlyGivenNames v2
    have h3 : Keeps s0 v2 := by
      refine Keeps.parts ?_ rfl rfl
      exact g1
    refine Keeps.ite ?_ ?_
    · exact h3
    · extract_lets -underBinder -merge -useContext +onlyGivenNames v4
      clear_value v4
      refine State.diverge_keeps ?_
      exact h3

theorem State.blockNamed_keeps {s0} {a1} (g1 : Keeps s0 a1) : Keeps s0 (State.blockNamed a1) := by
  unfold State.blockNamed
  extract_lets -underBinder -merge -useContext +onlyGivenNames v1
  clear_value v1
  extract_lets -underBinder -merge -useContext +onlyGivenNames v2
  clear_value v2
  extract_lets -underBinder -merge -useContext +onlyGivenNames v3
  have h4 : Keeps s0 v3 := by
    refine Keeps.parts ?_ rfl rfl
    exact g1
  clear_value v3
  refine Keeps.each ?_ fun s5 x6 h7 => ?_
  · exact h4
  · refine State.blockArm_keeps ?_
    exact h7

theorem State.blockSafe_keeps {s0} {a1} (g1 : Keeps s0 a1) : Keeps s0 (State.blockSafe a1) := by
  unfold State.blockSafe
  refine Keeps.ite ?_ ?_
  · refine State.blockAll_keeps ?_
    refine Keeps.parts ?_ rfl rfl
    exact g1
  · exact g1

theorem State.planTick_keeps {s0} {a1} (g1 : Keeps s0 a1) : Keeps s0 (State.planTick a1) := by
  unfold State.planTick
  refine Keeps.ite ?_ ?_
  · exact g1
  · refine Keeps.ite ?_ ?_
    · refine State.haltEntries_keeps ?_
      exact g1
    · refine State.planStage_keeps ?_
      refine State.loopStage_keeps ?_
      exact g1

theorem State.serveSnapshot_keeps {s0} {a1} (g1 : Keeps s0 a1) : Keeps s0 (State.serveSnapshot a1) := by
  unfold State.serveSnapshot
  refine Keeps.ite ?_ ?_
  · refine State.emit_keeps ?_
    exact g1
  · exact g1

theorem State.computeTick_keeps {s0} {a1} {a2} (g1 : Keeps s0 a1) : Keeps s0 (State.computeTick a1 a2) := by
  unfold State.computeTick
  extract_lets -underBinder -merge -useContext +onlyGivenNames v1
  have h2 : Keeps s0 v1 := by
    refine State.applyDue_keeps ?_
    refine State.blockNamed_keeps ?_
    refine State.landChanges_keeps ?_
    exact g1
  clear_value v1
  extract_lets -underBinder -merge -useContext +onlyGivenNames v3
  have h4 : Keeps s0 v3 := by
    refine State.loopOpen_keeps ?_
    refine State.govern_keeps ?_
    refine State.ledgerStage_keeps ?_
    refine State.obsStage_keeps ?_
    refine Keeps.each ?_ fun s5 x6 h7 => ?_
    · exact h2
    · refine State.eccEvent_keeps ?_
      exact h7
  clear_value v3
  extract_lets -underBinder -merge -useContext +onlyGivenNames v8
  have h9 : Keeps s0 v8 := by
    exact h4
  clear_value v8
  extract_lets -underBinder -merge -useContext +onlyGivenNames v10
  have h11 : Keeps s0 v10 := by
    refine State.keepUndo_keeps ?_ ?_
    · refine State.planTick_keeps ?_
      exact h4
    · exact h9
  clear_value v10
  extract_lets -underBinder -merge -useContext +onlyGivenNames v12
  extract_lets -underBinder -merge -useContext +onlyGivenNames v13
  have h14 : Keeps s0 v13 := by
    refine Keeps.ite ?_ ?_
    · refine Keeps.parts ?_ rfl rfl
      exact h11
    · exact h11
  clear_value v13
  extract_lets -underBinder -merge -useContext +onlyGivenNames v15
  have h16 : Keeps s0 v15 := by
    refine State.serveSnapshot_keeps ?_
    exact h14
  clear_value v15
  refine Keeps.ite ?_ ?_
  · refine State.overrun_keeps ?_
    exact h16
  · exact h16

theorem State.logTick_keeps {s0} {a1} (g1 : Keeps s0 a1) : Keeps s0 (State.logTick a1) := by
  unfold State.logTick
  split
  · exact g1
  · refine Keeps.ite ?_ ?_
    · exact g1
    · extract_lets -underBinder -merge -useContext +onlyGivenNames v1
      clear_value v1
      extract_lets -underBinder -merge -useContext +onlyGivenNames v2
      clear_value v2
      extract_lets -underBinder -merge -useContext +onlyGivenNames v3
      clear_value v3
      extract_lets -underBinder -merge -useContext +onlyGivenNames v4
      clear_value v4
      extract_lets -underBinder -merge -useContext +onlyGivenNames v5
      clear_value v5
      extract_lets -underBinder -merge -useContext +onlyGivenNames v6
      clear_value v6
      extract_lets -underBinder -merge -useContext +onlyGivenNames v7
      have h8 : Keeps s0 v7 := by
        refine Keeps.parts ?_ rfl rfl
        exact g1
      clear_value v7
      extract_lets -underBinder -merge -useContext +onlyGivenNames v9
      clear_value v9
      extract_lets -underBinder -merge -useContext +onlyGivenNames v10
      have h11 : Keeps s0 v10 := by
        refine State.set_keeps ?_
        refine State.set_keeps ?_
        exact h8
      clear_value v10
      refine Keeps.ite ?_ ?_
      · refine State.rejoinFail_keeps ?_
        exact h11
      · exact h11

theorem State.openCompute_keeps {s0} {a1} {a2} (g1 : Keeps s0 a1) : Keeps s0 (State.openCompute a1 a2) := by
  unfold State.openCompute
  refine Keeps.ite ?_ ?_
  · exact g1
  · extract_lets -underBinder -merge -useContext +onlyGivenNames v1
    extract_lets -underBinder -merge -useContext +onlyGivenNames v2
    have h3 : Keeps s0 v2 := by
      refine Keeps.parts ?_ rfl rfl
      exact g1
    extract_lets -underBinder -merge -useContext +onlyGivenNames v4
    have h5 : Keeps s0 v4 := by
      refine State.blockSafe_keeps ?_
      refine State.lateDiverge_keeps ?_
      refine State.stateMissing_keeps ?_
      refine State.agreeChannels_keeps ?_
      refine State.agreeInputs_keeps ?_
      exact h3
    refine Keeps.ite ?_ ?_
    · refine State.logTick_keeps ?_
      exact h5
    · refine State.computeTick_keeps ?_
      exact h5

theorem State.reportCutoff_keeps {s0} {a1} (g1 : Keeps s0 a1) : Keeps s0 (State.reportCutoff a1) := by
  unfold State.reportCutoff
  refine Keeps.ite ?_ ?_
  · exact g1
  · extract_lets -underBinder -merge -useContext +onlyGivenNames v1
    extract_lets -underBinder -merge -useContext +onlyGivenNames v2
    have h3 : Keeps s0 v2 := by
      refine Keeps.parts ?_ rfl rfl
      exact g1
    clear_value v2
    extract_lets -underBinder -merge -useContext +onlyGivenNames v4
    have h5 : Keeps s0 v4 := by
      refine Keeps.each ?_ fun s6 x7 h8 => ?_
      · exact h3
      · refine Keeps.ite ?_ ?_
        · refine State.setCell_keeps ?_
          exact h8
        · exact h8
    clear_value v4
    refine Keeps.each ?_ fun s9 x10 h11 => ?_
    · exact h5
    · extract_lets -underBinder -merge -useContext +onlyGivenNames v12
      clear_value v12
      refine State.setLink_keeps ?_
      exact h11

theorem State.kick_keeps {s0} {a1} (g1 : Keeps s0 a1) : Keeps s0 (State.kick a1) := by
  unfold State.kick
  refine Keeps.ite ?_ ?_
  · exact g1
  · extract_lets -underBinder -merge -useContext +onlyGivenNames v1
    clear_value v1
    extract_lets -underBinder -merge -useContext +onlyGivenNames v2
    clear_value v2
    refine State.checkIlp_keeps ?_
    refine Keeps.parts ?_ rfl rfl
    exact g1

theorem State.commitHead_keeps {s0} {a1} {a2} (g1 : Keeps s0 a1) : Keeps s0 (State.commitHead a1 a2) := by
  unfold State.commitHead
  extract_lets -underBinder -merge -useContext +onlyGivenNames v1
  clear_value v1
  extract_lets -underBinder -merge -useContext +onlyGivenNames v2
  have h3 : Keeps s0 v2 := by
    refine Keeps.parts ?_ rfl rfl
    exact g1
  clear_value v2
  extract_lets -underBinder -merge -useContext +onlyGivenNames v4
  clear_value v4
  refine Keeps.parts ?_ rfl rfl
  exact h3

theorem State.telemetry_keeps {s0} {a1} {a2} {a3} {a4} (g1 : Keeps s0 a1) : Keeps s0 (State.telemetry a1 a2 a3 a4) := by
  unfold State.telemetry
  extract_lets -underBinder -merge -useContext +onlyGivenNames v1
  clear_value v1
  extract_lets -underBinder -merge -useContext +onlyGivenNames v2
  clear_value v2
  extract_lets -underBinder -merge -useContext +onlyGivenNames v3
  clear_value v3
  extract_lets -underBinder -merge -useContext +onlyGivenNames v4
  clear_value v4
  extract_lets -underBinder -merge -useContext +onlyGivenNames v5
  have h6 : Keeps s0 v5 := by
    refine State.emit_keeps ?_
    exact g1
  clear_value v5
  refine Keeps.parts ?_ rfl rfl
  exact h6

theorem State.sendTelemetry_keeps {s0} {a1} (g1 : Keeps s0 a1) : Keeps s0 (State.sendTelemetry a1) := by
  unfold State.sendTelemetry
  refine Keeps.ite ?_ ?_
  · exact g1
  · extract_lets -underBinder -merge -useContext +onlyGivenNames v1
    clear_value v1
    refine Keeps.each ?_ fun s2 x3 h4 => ?_
    · exact g1
    · split
      · exact h4
      · extract_lets -underBinder -merge -useContext +onlyGivenNames v5
        clear_value v5
        extract_lets -underBinder -merge -useContext +onlyGivenNames v6
        clear_value v6
        refine Keeps.ite ?_ ?_
        · refine State.telemetry_keeps ?_
          exact h4
        · exact h4

theorem State.sendCatchup_keeps {s0} {a1} {a2} {a3} (g1 : Keeps s0 a1) : Keeps s0 (State.sendCatchup a1 a2 a3) := by
  unfold State.sendCatchup
  split
  · exact g1
  · refine Keeps.ite ?_ ?_
    · exact g1
    · extract_lets -underBinder -merge -useContext +onlyGivenNames v1
      clear_value v1
      extract_lets -underBinder -merge -useContext +onlyGivenNames v2
      clear_value v2
      extract_lets -underBinder -merge -useContext +onlyGivenNames v3
      clear_value v3
      refine State.emit_keeps ?_
      exact g1

theorem State.handPlanned_keeps {s0} {a1} (g1 : Keeps s0 a1) : Keeps s0 (State.handPlanned a1) := by
  unfold State.handPlanned
  extract_lets -underBinder -merge -useContext +onlyGivenNames v1
  have h2 : Keeps s0 v1 := by
    refine State.modeDispatch_keeps ?_
    exact g1
  clear_value v1
  extract_lets -underBinder -merge -useContext +onlyGivenNames v3
  have h4 : Keeps s0 v3 := by
    refine Keeps.ite ?_ ?_
    · refine State.haltStart_keeps ?_
      exact h2
    · exact h2
  clear_value v3
  extract_lets -underBinder -merge -useContext +onlyGivenNames v5
  clear_value v5
  extract_lets -underBinder -merge -useContext +onlyGivenNames v6
  extract_lets -underBinder -merge -useContext +onlyGivenNames v7
  have h8 : Keeps s0 v7 := by
    refine Keeps.ite ?_ ?_
    · refine Keeps.parts ?_ rfl rfl
      exact h4
    · refine State.handPlan_keeps ?_
      exact h4
  clear_value v7
  extract_lets -underBinder -merge -useContext +onlyGivenNames v9
  have h10 : Keeps s0 v9 := by
    refine Keeps.ite ?_ ?_
    · refine State.bump_keeps ?_
      exact h8
    · exact h8
  clear_value v9
  refine Keeps.parts ?_ rfl rfl
  exact h10

theorem State.handAfter_keeps {s0} {a1} {a2} {a3} (g1 : Keeps s0 a1) : Keeps s0 (State.handAfter a1 a2 a3) := by
  unfold State.handAfter
  extract_lets -underBinder -merge -useContext +onlyGivenNames v1
  have h2 : Keeps s0 v1 := by
    refine State.recordTick_keeps ?_
    refine State.kick_keeps ?_
    exact g1
  clear_value v1
  extract_lets -underBinder -merge -useContext +onlyGivenNames v3
  have h4 : Keeps s0 v3 := by
    refine Keeps.ite ?_ ?_
    · refine State.sendState_keeps ?_
      exact h2
    · exact h2
  clear_value v3
  extract_lets -underBinder -merge -useContext +onlyGivenNames v5
  have h6 : Keeps s0 v5 := by
    refine State.sendDones_keeps ?_
    refine State.sendAcks_keeps ?_
    refine State.commitHead_keeps ?_
    exact h4
  clear_value v5
  refine State.sendCatchup_keeps ?_
  refine State.sendTelemetry_keeps ?_
  exact h6

theorem State.consecEnd_keeps {s0} {a1} (g1 : Keeps s0 a1) : Keeps s0 (State.consecEnd a1) := by
  unfold State.consecEnd
  refine Keeps.ite ?_ ?_
  · refine State.set_keeps ?_
    exact g1
  · exact g1

theorem State.handFrames_keeps {s0} {a1} (g1 : Keeps s0 a1) : Keeps s0 (State.handFrames a1) := by
  unfold State.handFrames
  extract_lets -underBinder -merge -useContext +onlyGivenNames v1
  have h2 : Keeps s0 v1 := by
    refine Keeps.ite ?_ ?_
    · refine State.loopSafe_keeps ?_
      exact g1
    · exact g1
  clear_value v1
  extract_lets -underBinder -merge -useContext +onlyGivenNames v3
  have h4 : Keeps s0 v3 := by
    refine State.handPlanned_keeps ?_
    exact h2
  clear_value v3
  refine State.consecEnd_keeps ?_
  refine State.handAfter_keeps ?_
  exact h4

theorem State.handOver_keeps {s0} {a1} (g1 : Keeps s0 a1) : Keeps s0 (State.handOver a1) := by
  unfold State.handOver
  refine Keeps.ite ?_ ?_
  · exact g1
  · extract_lets -underBinder -merge -useContext +onlyGivenNames v1
    extract_lets -underBinder -merge -useContext +onlyGivenNames v2
    have h3 : Keeps s0 v2 := by
      refine Keeps.parts ?_ rfl rfl
      exact g1
    clear_value v2
    refine Keeps.ite ?_ ?_
    · refine State.handFrames_keeps ?_
      exact h3
    · refine State.recordTick_keeps ?_
      exact h3

theorem execReportCutoff_keeps {s0} {a1} (g1 : Keeps s0 a1) : KeepsN s0 (execReportCutoff a1) := by
  unfold execReportCutoff
  refine KeepsN.next ?_
  refine State.reportCutoff_keeps ?_
  exact g1

theorem execComputeWindowOpen_keeps {s0} {a1} {a2} (g2 : Keeps s0 a2) : KeepsN s0 (execComputeWindowOpen a1 a2) := by
  unfold execComputeWindowOpen
  refine KeepsN.next ?_
  refine State.openCompute_keeps ?_
  exact g2

theorem execOverrun_keeps {s0} {a1} (g1 : Keeps s0 a1) : KeepsN s0 (execOverrun a1) := by
  unfold execOverrun
  refine KeepsN.next ?_
  refine State.overrun_keeps ?_
  exact g1

theorem execConsecOverrun_keeps {s0} {a1} (g1 : Keeps s0 a1) : KeepsN s0 (execConsecOverrun a1) := by
  unfold execConsecOverrun
  refine KeepsN.next ?_
  refine State.consecOverrun_keeps ?_
  exact g1

theorem execLateCompletion_keeps {s0} {a1} {a2} (g2 : Keeps s0 a2) : KeepsN s0 (execLateCompletion a1 a2) := by
  unfold execLateCompletion
  refine KeepsN.next ?_
  refine State.lateCompletion_keeps ?_
  exact g2

theorem execHandOver_keeps {s0} {a1} (g1 : Keeps s0 a1) : KeepsN s0 (execHandOver a1) := by
  unfold execHandOver
  refine KeepsN.next ?_
  refine State.handOver_keeps ?_
  exact g1

end Sys2Proof.Machine
end

