-- ==== Sys2Proof/Laws/KeepsRejoin.lean ====
section
/-!
SUPPORT. What the operations of Machine/Rejoin.lean do to the queue, the fuses and the tables.
-/

namespace Sys2Proof.Machine

theorem State.mapLog_keeps {s0} {a1} {a2} {a3} (g1 : Keeps s0 a1) : Keeps s0 (State.mapLog a1 a2 a3) := by
  unfold State.mapLog
  extract_lets -underBinder -merge -useContext +onlyGivenNames v1
  clear_value v1
  refine Keeps.parts ?_ rfl rfl
  exact g1

theorem State.takeState_keeps {s0} {a1} {a2} (g1 : Keeps s0 a1) : Keeps s0 (State.takeState a1 a2) := by
  unfold State.takeState
  split
  · extract_lets -underBinder -merge -useContext +onlyGivenNames v1
    clear_value v1
    extract_lets -underBinder -merge -useContext +onlyGivenNames v2
    clear_value v2
    refine Keeps.ite ?_ ?_
    · exact g1
    · extract_lets -underBinder -merge -useContext +onlyGivenNames v3
      clear_value v3
      extract_lets -underBinder -merge -useContext +onlyGivenNames v4
      clear_value v4
      extract_lets -underBinder -merge -useContext +onlyGivenNames v5
      clear_value v5
      extract_lets -underBinder -merge -useContext +onlyGivenNames v6
      have h7 : Keeps s0 v6 := by
        refine Keeps.parts ?_ rfl rfl
        exact g1
      clear_value v6
      extract_lets -underBinder -merge -useContext +onlyGivenNames v8
      have h9 : Keeps s0 v8 := by
        refine State.mapLog_keeps ?_
        exact h7
      clear_value v8
      refine State.compareDigests_keeps ?_
      exact h9
  · exact g1

theorem State.takeCatchup_keeps {s0} {a1} {a2} (g1 : Keeps s0 a1) : Keeps s0 (State.takeCatchup a1 a2) := by
  unfold State.takeCatchup
  refine Keeps.ite ?_ ?_
  · exact g1
  · extract_lets -underBinder -merge -useContext +onlyGivenNames v1
    clear_value v1
    extract_lets -underBinder -merge -useContext +onlyGivenNames v2
    have h3 : Keeps s0 v2 := by
      refine State.mapLog_keeps ?_
      exact g1
    clear_value v2
    extract_lets -underBinder -merge -useContext +onlyGivenNames v4
    have h5 : Keeps s0 v4 := by
      refine Keeps.each ?_ fun s6 x7 h8 => ?_
      · exact h3
      · refine State.addChange_keeps ?_
        exact h8
    clear_value v4
    refine Keeps.each ?_ fun s9 x10 h11 => ?_
    · exact h5
    · split
      · refine Keeps.ite ?_ ?_
        · exact h11
        · refine State.takeJournal_keeps ?_
          exact h11
      · refine State.takeJournal_keeps ?_
        exact h11

theorem State.installCell_keeps {s0} {a1} {a2} {a3} (g1 : Keeps s0 a1) : Keeps s0 (State.installCell a1 a2 a3) := by
  unfold State.installCell
  refine State.setCell_keeps ?_
  exact g1

theorem State.installSessions_keeps {s0} {a1} {a2} (g1 : Keeps s0 a1) : Keeps s0 (State.installSessions a1 a2) := by
  unfold State.installSessions
  extract_lets -underBinder -merge -useContext +onlyGivenNames v1
  have h2 : Keeps s0 v1 := by
    refine Keeps.each ?_ fun s3 x4 h5 => ?_
    · exact g1
    · refine State.dropSess_keeps ?_
      exact h5
  clear_value v1
  extract_lets -underBinder -merge -useContext +onlyGivenNames v6
  have h7 : Keeps s0 v6 := by
    refine Keeps.each ?_ fun s8 x9 h10 => ?_
    · exact h2
    · refine State.putSess_keeps ?_
      exact h10
  clear_value v6
  extract_lets -underBinder -merge -useContext +onlyGivenNames v11
  clear_value v11
  extract_lets -underBinder -merge -useContext +onlyGivenNames v12
  clear_value v12
  extract_lets -underBinder -merge -useContext +onlyGivenNames v13
  clear_value v13
  extract_lets -underBinder -merge -useContext +onlyGivenNames v14
  have h15 : Keeps s0 v14 := by
    refine Keeps.parts ?_ rfl rfl
    exact h7
  clear_value v14
  refine Keeps.each ?_ fun s16 x17 h18 => ?_
  · exact h15
  · refine State.showCredit_keeps ?_
    exact h18

theorem State.install_keeps {s0} {a1} {a2} (g1 : Keeps s0 a1) : Keeps s0 (State.install a1 a2) := by
  unfold State.install
  extract_lets -underBinder -merge -useContext +onlyGivenNames v1
  have h2 : Keeps s0 v1 := by
    exact g1.of_canonical rfl rfl rfl fun c => ⟨AMap.filter_wf _ _ _ c.1, c.2⟩
  clear_value v1
  extract_lets -underBinder -merge -useContext +onlyGivenNames v3
  have h4 : Keeps s0 v3 := by
    refine Keeps.each ?_ fun s5 x6 h7 => ?_
    · exact h2
    · refine Keeps.ite ?_ ?_
      · refine State.setReg_keeps ?_
        exact h7
      · exact h7
  clear_value v3
  extract_lets -underBinder -merge -useContext +onlyGivenNames v8
  clear_value v8
  extract_lets -underBinder -merge -useContext +onlyGivenNames v9
  have h10 : Keeps s0 v9 := by
    refine Keeps.each ?_ fun s11 x12 h13 => ?_
    · exact h4
    · refine State.installCell_keeps ?_
      exact h13
  clear_value v9
  extract_lets -underBinder -merge -useContext +onlyGivenNames v14
  have h15 : Keeps s0 v14 := by
    refine Keeps.each ?_ fun s16 x17 h18 => ?_
    · exact h10
    · refine State.setLink_keeps ?_
      exact h18
  clear_value v14
  extract_lets -underBinder -merge -useContext +onlyGivenNames v19
  extract_lets -underBinder -merge -useContext +onlyGivenNames v20
  have h21 : Keeps s0 v20 := by
    exact h15.of_canonical rfl rfl rfl fun ⟨h0, h1, h2, h3, h4, _, _, _, h8, _, h10⟩ =>
      ⟨h0, h1, h2, h3, h4, AMap.ofList_wf _ _, AMap.ofList_wf _ _, AMap.ofList_wf _ _, h8, AMap.ofList_wf _ _, h10⟩
  clear_value v20
  extract_lets -underBinder -merge -useContext +onlyGivenNames v22
  clear_value v22
  extract_lets -underBinder -merge -useContext +onlyGivenNames v23
  have h24 : Keeps s0 v23 := by
    refine Keeps.parts ?_ rfl rfl
    exact h21
  clear_value v23
  extract_lets -underBinder -merge -useContext +onlyGivenNames v25
  have h26 : Keeps s0 v25 := by
    refine Keeps.each ?_ fun s27 x28 h29 => ?_
    · exact h24
    · refine State.addChange_keeps ?_
      exact h29
  clear_value v25
  extract_lets -underBinder -merge -useContext +onlyGivenNames v30
  have h31 : Keeps s0 v30 := by
    refine State.installSessions_keeps ?_
    exact h26
  clear_value v30
  extract_lets -underBinder -merge -useContext +onlyGivenNames v32
  have h33 : Keeps s0 v32 := by
    refine State.set_keeps ?_
    refine State.set_keeps ?_
    exact h31
  clear_value v32
  refine Keeps.parts ?_ rfl rfl
  exact h33

theorem State.takeSnapshot_keeps {s0} {a1} {a2} {a3} (g1 : Keeps s0 a1) : Keeps s0 (State.takeSnapshot a1 a2 a3) := by
  unfold State.takeSnapshot
  refine Keeps.ite ?_ ?_
  · exact g1
  · refine Keeps.ite ?_ ?_
    · refine State.rejoinFail_keeps ?_
      refine State.bump_keeps ?_
      exact g1
    · split
      · refine Keeps.ite ?_ ?_
        · refine State.install_keeps ?_
          exact g1
        · exact g1
      · exact g1

theorem State.replayInputs_keeps {s0} {a1} {a2} (g1 : Keeps s0 a1) : Keeps s0 (State.replayInputs a1 a2) := by
  unfold State.replayInputs
  extract_lets -underBinder -merge -useContext +onlyGivenNames v1
  have h2 : Keeps s0 v1 := by
    refine State.setReg_keeps ?_
    refine State.set64_keeps ?_
    exact g1
  clear_value v1
  extract_lets -underBinder -merge -useContext +onlyGivenNames v3
  extract_lets -underBinder -merge -useContext +onlyGivenNames v4
  have h5 : Keeps s0 v4 := by
    refine State.landGroup_keeps ?_
    refine Keeps.cleared ?_ (by first | exact .inl rfl | exact .inr rfl) rfl
    exact h2
  clear_value v4
  extract_lets -underBinder -merge -useContext +onlyGivenNames v6
  have h7 : Keeps s0 v6 := by
    refine Keeps.each ?_ fun s8 x9 h10 => ?_
    · exact h5
    · refine State.decideCell_keeps ?_
      exact h10
  clear_value v6
  refine Keeps.each ?_ fun s11 x12 h13 => ?_
  · exact h7
  · refine State.putMeasure_keeps ?_
    exact h13

theorem State.replayTick_keeps {s0} {a1} {a2} (g1 : Keeps s0 a1) : Keeps s0 (State.replayTick a1 a2).2 := by
  unfold State.replayTick
  extract_lets -underBinder -merge -useContext +onlyGivenNames v1
  have h2 : Keeps s0 v1 := by
    refine State.loopOpen_keeps ?_
    refine State.ledgerStage_keeps ?_
    refine State.obsStage_keeps ?_
    refine State.applyDue_keeps ?_
    refine State.blockNamed_keeps ?_
    refine State.landChanges_keeps ?_
    refine State.replayInputs_keeps ?_
    exact g1
  clear_value v1
  extract_lets -underBinder -merge -useContext +onlyGivenNames v3
  have h4 : Keeps s0 v3 := by
    exact h2
  clear_value v3
  extract_lets -underBinder -merge -useContext +onlyGivenNames v5
  have h6 : Keeps s0 v5 := by
    refine State.keepUndo_keeps ?_ ?_
    · refine State.planTick_keeps ?_
      exact h2
    · exact h4
  clear_value v5
  extract_lets -underBinder -merge -useContext +onlyGivenNames v7
  have h8 : Keeps s0 v7 := by
    refine Keeps.ite ?_ ?_
    · refine State.coastStage_keeps ?_
      refine State.loopMissed_keeps ?_
      refine State.abandon_keeps ?_
      exact h6
    · refine State.loopSafe_keeps ?_
      exact h6
  clear_value v7
  extract_lets -underBinder -merge -useContext +onlyGivenNames v9
  have h10 : Keeps s0 v9 := by
    refine State.handPlan_keeps ?_
    exact h8
  clear_value v9
  refine Keeps.mk2 ?_
  refine Keeps.dropUndo ?_ rfl rfl
  exact h10

theorem State.replayAll_keeps {s0} {a1} {a2} (g1 : Keeps s0 a1) : Keeps s0 (State.replayAll a1 a2).2 := by
  induction a2 generalizing a1 with
  | nil => exact g1
  | cons x l ih =>
    unfold State.replayAll
    exact Keeps.ite2 (ih (State.replayTick_keeps g1)) (State.replayTick_keeps g1)

theorem State.replayLog_keeps {s0} {a1} (g1 : Keeps s0 a1) : Keeps s0 (State.replayLog a1).2 := by
  unfold State.replayLog
  extract_lets -underBinder -merge -useContext +onlyGivenNames v1
  clear_value v1
  extract_lets -underBinder -merge -useContext +onlyGivenNames v2
  clear_value v2
  extract_lets -underBinder -merge -useContext +onlyGivenNames v3
  extract_lets -underBinder -merge -useContext +onlyGivenNames v4
  extract_lets -underBinder -merge -useContext +onlyGivenNames v5
  clear_value v5
  extract_lets -underBinder -merge -useContext +onlyGivenNames v6
  have h7 : Keeps s0 v6.2 := by
    refine State.replayAll_keeps ?_
    exact g1
  clear_value v6
  extract_lets -underBinder -merge -useContext +onlyGivenNames v8
  have h9 : Keeps s0 v8 := by
    refine State.setReg_keeps ?_
    refine State.set64_keeps ?_
    exact h7
  clear_value v8
  extract_lets -underBinder -merge -useContext +onlyGivenNames v10
  clear_value v10
  extract_lets -underBinder -merge -useContext +onlyGivenNames v11
  extract_lets -underBinder -merge -useContext +onlyGivenNames v12
  clear_value v12
  extract_lets -underBinder -merge -useContext +onlyGivenNames v13
  clear_value v13
  extract_lets -underBinder -merge -useContext +onlyGivenNames v14
  have h15 : Keeps s0 v14 := by
    refine ⟨h9.1, h9.2.1, fun x => ⟨?_, (h9.2.2 x).2⟩⟩
    obtain ⟨_, _, _, _, k4, _, _, _, _, _, _, _, _, _, k14⟩ := (g1.2.2 x).1
    obtain ⟨h0, h1, h2, h3, _, h5, h6, h7, h8, h9, h10, h11, h12, h13, _⟩ := (h9.2.2 x).1
    exact ⟨h0, h1, h2, h3, k4, h5, h6, h7, h8, h9, h10, h11, h12, h13, k14⟩
  clear_value v14
  extract_lets -underBinder -merge -useContext +onlyGivenNames v16
  have h17 : Keeps s0 v16 := by
    refine State.set_keeps ?_
    exact h15
  clear_value v16
  refine Keeps.ite2 ?_ ?_
  · refine Keeps.mk2 ?_
    exact h17
  · refine Keeps.mk2 ?_
    refine State.rejoinFail_keeps ?_
    exact h17

theorem State.replayDone_keeps {s0} {a1} (g1 : Keeps s0 a1) : Keeps s0 (State.replayDone a1) := by
  unfold State.replayDone
  refine Keeps.ite ?_ ?_
  · exact g1
  · extract_lets -underBinder -merge -useContext +onlyGivenNames v1
    have h2 : Keeps s0 v1.2 := by
      refine State.replayLog_keeps ?_
      exact g1
    clear_value v1
    refine Keeps.ite ?_ ?_
    · refine State.sendPair_keeps ?_
      refine State.set_keeps ?_
      exact h2
    · exact h2

theorem State.duplexEntry_keeps {s0} {a1} (g1 : Keeps s0 a1) : Keeps s0 (State.duplexEntry a1) := by
  unfold State.duplexEntry
  split
  · exact g1
  · split
    · refine State.setMode_keeps ?_
      refine State.adoptTick_keeps ?_
      exact g1
    · refine Keeps.ite ?_ ?_
      · exact g1
      · refine Keeps.ite ?_ ?_
        · extract_lets -underBinder -merge -useContext +onlyGivenNames v1
          have h2 : Keeps s0 v1.2 := by
            refine State.replayLog_keeps ?_
            exact g1
          clear_value v1
          refine Keeps.ite ?_ ?_
          · refine State.setMode_keeps ?_
            exact h2
          · exact h2
        · refine State.setMode_keeps ?_
          exact g1

theorem execStateRx_keeps {s0} {a1} {a2} (g2 : Keeps s0 a2) : KeepsN s0 (execStateRx a1 a2) := by
  unfold execStateRx
  refine KeepsN.next ?_
  refine State.rxX_keeps ?_ ?_
  · exact g2
  · intro x1 x3 h2
    refine State.takeState_keeps ?_
    exact h2

theorem execCatchupRx_keeps {s0} {a1} {a2} (g2 : Keeps s0 a2) : KeepsN s0 (execCatchupRx a1 a2) := by
  unfold execCatchupRx
  refine KeepsN.next ?_
  split
  · refine State.takeCatchup_keeps ?_
    exact g2
  · refine State.bump_keeps ?_
    exact g2

theorem execSnapshotRx_keeps {s0} {a1} {a2} {a3} (g3 : Keeps s0 a3) : KeepsN s0 (execSnapshotRx a1 a2 a3) := by
  unfold execSnapshotRx
  refine KeepsN.next ?_
  refine State.takeSnapshot_keeps ?_
  exact g3

theorem execReplayComplete_keeps {s0} {a1} (g1 : Keeps s0 a1) : KeepsN s0 (execReplayComplete a1) := by
  unfold execReplayComplete
  refine KeepsN.next ?_
  refine State.replayDone_keeps ?_
  exact g1

theorem execDuplexEntry_keeps {s0} {a1} (g1 : Keeps s0 a1) : KeepsN s0 (execDuplexEntry a1) := by
  unfold execDuplexEntry
  refine KeepsN.next ?_
  refine State.duplexEntry_keeps ?_
  exact g1

end Sys2Proof.Machine
end

