-- ==== Sys2Proof/Laws/KeepsStation.lean ====
section
/-!
SUPPORT. What the operations of Machine/Station.lean do to the queue, the fuses and the tables.
-/

namespace Sys2Proof.Machine

theorem State.msgBad_keeps {s0} {a1} {a2} (g1 : Keeps s0 a1) : Keeps s0 (State.msgBad a1 a2) := by
  unfold State.msgBad
  refine State.bump_keeps ?_
  exact g1

theorem State.rxDrop_keeps {s0} {a1} {a2} (g1 : Keeps s0 a1) : Keeps s0 (State.rxDrop a1 a2) := by
  unfold State.rxDrop
  refine State.bump_keeps ?_
  exact g1

theorem State.rxStn_keeps {s0} {a1} {a2} {a3} {a4} {a5} (g1 : Keeps s0 a1) (g5 : ∀ y1 y2, Keeps s0 y1 → Keeps s0 (a5 y1 y2)) : Keeps s0 (State.rxStn a1 a2 a3 a4 a5) := by
  unfold State.rxStn
  refine Keeps.ite ?_ ?_
  · refine State.rxDrop_keeps ?_
    exact g1
  · split
    · refine Keeps.ite ?_ ?_
      · refine g5 _ _ ?_
        exact g1
      · refine State.msgBad_keeps ?_
        exact g1
    · refine State.msgBad_keeps ?_
      exact g1

theorem State.forSess_keeps {s0} {a1} {a2} {a3} {a4} {a5} (g1 : Keeps s0 a1) (g5 : ∀ y1 y2, Keeps s0 y1 → Keeps s0 (a5 y1 y2)) : Keeps s0 (State.forSess a1 a2 a3 a4 a5) := by
  unfold State.forSess
  split
  · refine State.msgBad_keeps ?_
    exact g1
  · refine Keeps.ite ?_ ?_
    · refine State.msgBad_keeps ?_
      exact g1
    · refine g5 _ _ ?_
      refine State.setSess_keeps ?_
      exact g1

theorem State.nak_keeps {s0} {a1} {a2} {a3} {a4} {a5} {a6} (g1 : Keeps s0 a1) : Keeps s0 (State.nak a1 a2 a3 a4 a5 a6) := by
  unfold State.nak
  refine State.emit_keeps ?_
  exact g1

theorem State.openRefuse_keeps {s0} {a1} {a2} {a3} {a4} {a5} (g1 : Keeps s0 a1) : Keeps s0 (State.openRefuse a1 a2 a3 a4 a5) := by
  unfold State.openRefuse
  extract_lets -underBinder -merge -useContext +onlyGivenNames v1
  clear_value v1
  refine State.emit_keeps ?_
  exact g1

theorem State.openDone_keeps {s0} {a1} {a2} {a3} (g1 : Keeps s0 a1) : Keeps s0 (State.openDone a1 a2 a3) := by
  unfold State.openDone
  extract_lets -underBinder -merge -useContext +onlyGivenNames v1
  clear_value v1
  extract_lets -underBinder -merge -useContext +onlyGivenNames v2
  clear_value v2
  extract_lets -underBinder -merge -useContext +onlyGivenNames v3
  clear_value v3
  extract_lets -underBinder -merge -useContext +onlyGivenNames v4
  have h5 : Keeps s0 v4 := by
    refine Keeps.ite ?_ ?_
    · refine Keeps.parts ?_ rfl rfl
      exact g1
    · exact g1
  clear_value v4
  refine Keeps.ite ?_ ?_
  · extract_lets -underBinder -merge -useContext +onlyGivenNames v6
    have h7 : Keeps s0 v6 := by
      refine State.setSess_keeps ?_
      exact h5
    clear_value v6
    refine State.sendEvt_keeps ?_
    exact h7
  · refine State.openAck_keeps ?_
    exact h5

theorem State.openNew_keeps {s0} {a1} {a2} {a3} {a4} {a5} {a6} (g1 : Keeps s0 a1) : Keeps s0 (State.openNew a1 a2 a3 a4 a5 a6) := by
  unfold State.openNew
  split
  · refine State.openRefuse_keeps ?_
    exact g1
  · extract_lets -underBinder -merge -useContext +onlyGivenNames v1
    clear_value v1
    extract_lets -underBinder -merge -useContext +onlyGivenNames v2
    clear_value v2
    extract_lets -underBinder -merge -useContext +onlyGivenNames v3
    clear_value v3
    extract_lets -underBinder -merge -useContext +onlyGivenNames v4
    have h5 : Keeps s0 v4 := by
      refine Keeps.parts ?_ rfl rfl
      exact g1
    clear_value v4
    refine State.openDone_keeps ?_
    refine State.putSess_keeps ?_
    exact h5

theorem State.openMsg_keeps {s0} {a1} {a2} {a3} {a4} (g1 : Keeps s0 a1) : Keeps s0 (State.openMsg a1 a2 a3 a4) := by
  unfold State.openMsg
  refine Keeps.ite ?_ ?_
  · refine State.msgBad_keeps ?_
    exact g1
  · refine Keeps.ite ?_ ?_
    · refine State.nak_keeps ?_
      exact g1
    · refine Keeps.ite ?_ ?_
      · refine State.openRefuse_keeps ?_
        exact g1
      · split
        · refine State.openRefuse_keeps ?_
          exact g1
        · split
          · refine Keeps.ite ?_ ?_
            · refine State.nak_keeps ?_
              exact g1
            · extract_lets -underBinder -merge -useContext +onlyGivenNames v1
              clear_value v1
              extract_lets -underBinder -merge -useContext +onlyGivenNames v2
              have h3 : Keeps s0 v2 := by
                refine State.setSess_keeps ?_
                refine State.set_keeps ?_
                exact g1
              clear_value v2
              refine State.openDone_keeps ?_
              exact h3
          · refine Keeps.ite ?_ ?_
            · exact g1
            · refine State.openNew_keeps ?_
              exact g1

theorem State.closeSess_keeps {s0} {a1} {a2} (g1 : Keeps s0 a1) : Keeps s0 (State.closeSess a1 a2) := by
  unfold State.closeSess
  refine Keeps.ite ?_ ?_
  · exact g1
  · extract_lets -underBinder -merge -useContext +onlyGivenNames v1
    have h2 : Keeps s0 v1 := by
      refine State.dropSess_keeps ?_
      exact g1
    clear_value v1
    refine Keeps.ite ?_ ?_
    · refine State.sendEvt_keeps ?_
      exact h2
    · exact h2

theorem State.sendPause_keeps {s0} {a1} {a2} {a3} (g1 : Keeps s0 a1) : Keeps s0 (State.sendPause a1 a2 a3) := by
  unfold State.sendPause
  refine State.bump_keeps ?_
  refine State.emit_keeps ?_
  exact g1

theorem State.pauseOn_keeps {s0} {a1} {a2} (g1 : Keeps s0 a1) : Keeps s0 (State.pauseOn a1 a2) := by
  unfold State.pauseOn
  extract_lets -underBinder -merge -useContext +onlyGivenNames v1
  clear_value v1
  refine State.sendPause_keeps ?_
  refine Keeps.parts ?_ rfl rfl
  exact g1

theorem State.pauseRepeat_keeps {s0} {a1} {a2} {a3} (g1 : Keeps s0 a1) : Keeps s0 (State.pauseRepeat a1 a2 a3) := by
  unfold State.pauseRepeat
  extract_lets -underBinder -merge -useContext +onlyGivenNames v1
  clear_value v1
  extract_lets -underBinder -merge -useContext +onlyGivenNames v2
  clear_value v2
  extract_lets -underBinder -merge -useContext +onlyGivenNames v3
  have h4 : Keeps s0 v3 := by
    refine Keeps.parts ?_ rfl rfl
    exact g1
  clear_value v3
  refine Keeps.ite ?_ ?_
  · refine State.pauseOn_keeps ?_
    exact h4
  · refine Keeps.ite ?_ ?_
    · refine State.sendPause_keeps ?_
      refine Keeps.parts ?_ rfl rfl
      exact h4
    · exact h4

theorem State.journalOrder_keeps {s0} {a1} {a2} {a3} {a4} {a5} {a6} (g1 : Keeps s0 a1) : Keeps s0 (State.journalOrder a1 a2 a3 a4 a5 a6) := by
  unfold State.journalOrder
  extract_lets -underBinder -merge -useContext +onlyGivenNames v1
  clear_value v1
  extract_lets -underBinder -merge -useContext +onlyGivenNames v2
  extract_lets -underBinder -merge -useContext +onlyGivenNames v3
  clear_value v3
  extract_lets -underBinder -merge -useContext +onlyGivenNames v4
  extract_lets -underBinder -merge -useContext +onlyGivenNames v5
  clear_value v5
  extract_lets -underBinder -merge -useContext +onlyGivenNames v6
  clear_value v6
  extract_lets -underBinder -merge -useContext +onlyGivenNames v7
  have h8 : Keeps s0 v7 := by
    refine Keeps.parts ?_ rfl rfl
    exact g1
  clear_value v7
  extract_lets -underBinder -merge -useContext +onlyGivenNames v9
  have h10 : Keeps s0 v9 := by
    refine State.showCredit_keeps ?_
    refine State.setExpected_keeps ?_
    exact h8
  clear_value v9
  refine Keeps.ite ?_ ?_
  · refine State.sendEvt_keeps ?_
    exact h10
  · refine State.acceptOrder_keeps ?_
    exact h10

theorem State.orderIn_keeps {s0} {a1} {a2} {a3} {a4} {a5} (g1 : Keeps s0 a1) : Keeps s0 (State.orderIn a1 a2 a3 a4 a5) := by
  unfold State.orderIn
  extract_lets -underBinder -merge -useContext +onlyGivenNames v1
  clear_value v1
  extract_lets -underBinder -merge -useContext +onlyGivenNames v2
  clear_value v2
  refine Keeps.ite ?_ ?_
  · refine State.msgBad_keeps ?_
    exact g1
  · refine Keeps.ite ?_ ?_
    · refine State.nak_keeps ?_
      exact g1
    · refine Keeps.ite ?_ ?_
      · refine State.nak_keeps ?_
        exact g1
      · refine Keeps.ite ?_ ?_
        · refine State.nak_keeps ?_
          exact g1
        · refine Keeps.ite ?_ ?_
          · refine State.sendAck_keeps ?_
            refine State.bump_keeps ?_
            exact g1
          · refine Keeps.ite ?_ ?_
            · extract_lets -underBinder -merge -useContext +onlyGivenNames v3
              have h4 : Keeps s0 v3 := by
                refine State.bump_keeps ?_
                exact g1
              clear_value v3
              refine Keeps.ite ?_ ?_
              · exact h4
              · refine State.nak_keeps ?_
                refine State.setSess_keeps ?_
                exact h4
            · refine Keeps.ite ?_ ?_
              · extract_lets -underBinder -merge -useContext +onlyGivenNames v5
                have h6 : Keeps s0 v5 := by
                  refine State.bump_keeps ?_
                  exact g1
                clear_value v5
                refine State.pauseOn_keeps ?_
                refine Keeps.parts ?_ rfl rfl
                exact h6
              · refine Keeps.ite ?_ ?_
                · refine State.nak_keeps ?_
                  exact g1
                · refine State.journalOrder_keeps ?_
                  exact g1

theorem State.orderMsg_keeps {s0} {a1} {a2} {a3} {a4} (g1 : Keeps s0 a1) : Keeps s0 (State.orderMsg a1 a2 a3 a4) := by
  unfold State.orderMsg
  refine Keeps.ite ?_ ?_
  · refine State.nak_keeps ?_
    exact g1
  · refine Keeps.ite ?_ ?_
    · refine State.nak_keeps ?_
      exact g1
    · refine State.forSess_keeps ?_ ?_
      · exact g1
      · intro x1 x3 h2
        refine State.orderIn_keeps ?_
        exact h2

theorem State.subscribe_keeps {s0} {a1} {a2} {a3} {a4} {a5} (g1 : Keeps s0 a1) : Keeps s0 (State.subscribe a1 a2 a3 a4 a5) := by
  unfold State.subscribe
  extract_lets -underBinder -merge -useContext +onlyGivenNames v1
  clear_value v1
  extract_lets -underBinder -merge -useContext +onlyGivenNames v2
  clear_value v2
  extract_lets -underBinder -merge -useContext +onlyGivenNames v3
  clear_value v3
  extract_lets -underBinder -merge -useContext +onlyGivenNames v4
  clear_value v4
  extract_lets -underBinder -merge -useContext +onlyGivenNames v5
  clear_value v5
  extract_lets -underBinder -merge -useContext +onlyGivenNames v6
  clear_value v6
  refine Keeps.ite ?_ ?_
  · refine State.msgBad_keeps ?_
    exact g1
  · refine Keeps.ite ?_ ?_
    · exact g1
    · refine Keeps.ite ?_ ?_
      · refine State.msgBad_keeps ?_
        exact g1
      · extract_lets -underBinder -merge -useContext +onlyGivenNames v7
        clear_value v7
        refine Keeps.parts ?_ rfl rfl
        exact g1

theorem State.beacon_keeps {s0} {a1} (g1 : Keeps s0 a1) : Keeps s0 (State.beacon a1) := by
  unfold State.beacon
  refine Keeps.ite ?_ ?_
  · exact g1
  · extract_lets -underBinder -merge -useContext +onlyGivenNames v1
    clear_value v1
    extract_lets -underBinder -merge -useContext +onlyGivenNames v2
    have h3 : Keeps s0 v2 := by
      refine Keeps.each ?_ fun s4 x5 h6 => ?_
      · exact g1
      · refine State.emit_keeps ?_
        exact h6
    clear_value v2
    extract_lets -underBinder -merge -useContext +onlyGivenNames v7
    clear_value v7
    extract_lets -underBinder -merge -useContext +onlyGivenNames v8
    have h9 : Keeps s0 v8 := by
      refine Keeps.each ?_ fun s10 x11 h12 => ?_
      · exact h3
      · refine State.emit_keeps ?_
        exact h12
    clear_value v8
    refine Keeps.parts ?_ rfl rfl
    exact h9

theorem State.stnCntClear_keeps {s0} {a1} (g1 : Keeps s0 a1) : Keeps s0 (State.stnCntClear a1) := by
  unfold State.stnCntClear
  extract_lets -underBinder -merge -useContext +onlyGivenNames v1
  have h2 : Keeps s0 v1 := by
    refine Keeps.each ?_ fun s3 x4 h5 => ?_
    · exact g1
    · refine State.clearAll_keeps ?_
      exact h5
  clear_value v1
  extract_lets -underBinder -merge -useContext +onlyGivenNames v6
  have h7 : Keeps s0 v6 := by
    refine Keeps.each ?_ fun s8 x9 h10 => ?_
    · exact h2
    · refine State.clearAll_keeps ?_
      exact h10
  clear_value v6
  refine State.clearAll_keeps ?_
  exact h7

theorem execArpRequest_keeps {s0} {a1} {a2} {a3} {a4} (g4 : Keeps s0 a4) : KeepsN s0 (execArpRequest a1 a2 a3 a4) := by
  unfold execArpRequest
  refine KeepsN.next ?_
  refine Keeps.ite ?_ ?_
  · refine State.emit_keeps ?_
    exact g4
  · refine State.rxDrop_keeps ?_
    exact g4

theorem execIcmpEcho_keeps {s0} {a1} {a2} {a3} {a4} {a5} (g5 : Keeps s0 a5) : KeepsN s0 (execIcmpEcho a1 a2 a3 a4 a5) := by
  unfold execIcmpEcho
  refine KeepsN.next ?_
  refine Keeps.ite ?_ ?_
  · refine State.emit_keeps ?_
    exact g5
  · refine State.rxDrop_keeps ?_
    exact g5

theorem execStnFrameDiscard_keeps {s0} {a1} {a2} {a3} (g3 : Keeps s0 a3) : KeepsN s0 (execStnFrameDiscard a1 a2 a3) := by
  unfold execStnFrameDiscard
  refine KeepsN.next ?_
  refine Keeps.ite ?_ ?_
  · refine State.msgBad_keeps ?_
    exact g3
  · refine State.rxDrop_keeps ?_
    exact g3

theorem execOpen_keeps {s0} {a1} {a2} {a3} {a4} (g4 : Keeps s0 a4) : KeepsN s0 (execOpen a1 a2 a3 a4) := by
  unfold execOpen
  refine KeepsN.next ?_
  refine State.rxStn_keeps ?_ ?_
  · exact g4
  · intro x1 x3 h2
    refine State.openMsg_keeps ?_
    exact h2

theorem execClose_keeps {s0} {a1} {a2} {a3} {a4} (g4 : Keeps s0 a4) : KeepsN s0 (execClose a1 a2 a3 a4) := by
  unfold execClose
  refine KeepsN.next ?_
  refine State.rxStn_keeps ?_ ?_
  · exact g4
  · intro x1 x3 h2
    refine State.forSess_keeps ?_ ?_
    · exact h2
    · intro x4 x6 h5
      refine State.closeSess_keeps ?_
      exact h5

theorem execOrder_keeps {s0} {a1} {a2} {a3} {a4} (g4 : Keeps s0 a4) : KeepsN s0 (execOrder a1 a2 a3 a4) := by
  unfold execOrder
  refine KeepsN.next ?_
  refine State.rxStn_keeps ?_ ?_
  · exact g4
  · intro x1 x3 h2
    refine State.orderMsg_keeps ?_
    exact h2

theorem execSubscribe_keeps {s0} {a1} {a2} {a3} {a4} (g4 : Keeps s0 a4) : KeepsN s0 (execSubscribe a1 a2 a3 a4) := by
  unfold execSubscribe
  refine KeepsN.next ?_
  refine State.rxStn_keeps ?_ ?_
  · exact g4
  · intro x1 x3 h2
    refine State.forSess_keeps ?_ ?_
    · exact h2
    · intro x4 x6 h5
      refine State.subscribe_keeps ?_
      exact h5

theorem execBeaconSend_keeps {s0} {a1} (g1 : Keeps s0 a1) : KeepsN s0 (execBeaconSend a1) := by
  unfold execBeaconSend
  refine KeepsN.next ?_
  refine State.beacon_keeps ?_
  exact g1

theorem execSessionTimeout_keeps {s0} {a1} {a2} (g2 : Keeps s0 a2) : KeepsN s0 (execSessionTimeout a1 a2) := by
  unfold execSessionTimeout
  refine KeepsN.next ?_
  refine State.closeSess_keeps ?_
  exact g2

theorem execPauseRepeat_keeps {s0} {a1} {a2} {a3} (g3 : Keeps s0 a3) : KeepsN s0 (execPauseRepeat a1 a2 a3) := by
  unfold execPauseRepeat
  refine KeepsN.next ?_
  refine State.pauseRepeat_keeps ?_
  exact g3

end Sys2Proof.Machine
end

