-- ==== Sys2Proof/Laws/KeepsImageCheck.lean ====
section
/-!
SUPPORT. What the operations of Machine/ImageCheck.lean do to the queue, the fuses and the tables.
-/

namespace Sys2Proof.Machine

theorem State.loadWord_keeps {s0} {a1} {a2} (g1 : Keeps s0 a1) : Keeps s0 (State.loadWord a1 a2) := by
  unfold State.loadWord
  refine Keeps.ite ?_ ?_
  · refine State.setReg_keeps ?_
    exact g1
  · split
    · extract_lets -underBinder -merge -useContext +onlyGivenNames v1
      clear_value v1
      refine State.setReg_keeps ?_
      exact g1
    · exact g1

theorem State.loadCell_keeps {s0} {a1} {a2} {a3} {a4} (g1 : Keeps s0 a1) : Keeps s0 (State.loadCell a1 a2 a3 a4) := by
  unfold State.loadCell
  extract_lets -underBinder -merge -useContext +onlyGivenNames v1
  clear_value v1
  extract_lets -underBinder -merge -useContext +onlyGivenNames v2
  clear_value v2
  extract_lets -underBinder -merge -useContext +onlyGivenNames v3
  have h4 : Keeps s0 v3 := by
    refine State.set_keeps ?_
    refine State.set_keeps ?_
    refine State.set_keeps ?_
    exact g1
  clear_value v3
  refine State.setB_keeps ?_
  refine State.setB_keeps ?_
  exact h4

theorem State.loadStrings_keeps {s0} {a1} (g1 : Keeps s0 a1) : Keeps s0 (State.loadStrings a1) := by
  unfold State.loadStrings
  refine Keeps.each ?_ fun s1 x2 h3 => ?_
  · exact g1
  · refine Keeps.ite ?_ ?_
    · refine State.set_keeps ?_
      exact h3
    · exact h3

theorem State.loadSignals_keeps {s0} {a1} (g1 : Keeps s0 a1) : Keeps s0 (State.loadSignals a1) := by
  unfold State.loadSignals
  extract_lets -underBinder -merge -useContext +onlyGivenNames v1
  have h2 : Keeps s0 v1 := by
    refine Keeps.each ?_ fun s3 x4 h5 => ?_
    · exact g1
    · refine Keeps.ite ?_ ?_
      · refine State.setSigOk_keeps ?_
        exact h5
      · exact h5
  clear_value v1
  refine Keeps.each ?_ fun s6 x7 h8 => ?_
  · exact h2
  · refine Keeps.ite ?_ ?_
    · refine State.setShadowOk_keeps ?_
      exact h8
    · exact h8

theorem State.storeSchedules_keeps {s0} {a1} (g1 : Keeps s0 a1) : Keeps s0 (State.storeSchedules a1) := by
  unfold State.storeSchedules
  split
  · extract_lets -underBinder -merge -useContext +onlyGivenNames v1
    have h2 : Keeps s0 v1 := by
      refine State.set_keeps ?_
      refine State.set_keeps ?_
      exact g1
    clear_value v1
    refine State.set_keeps ?_
    refine State.set_keeps ?_
    exact h2

theorem State.loadImage_keeps {s0} {a1} {a2} (g1 : Keeps s0 a1) : Keeps s0 (State.loadImage a1 a2) := by
  unfold State.loadImage
  extract_lets -underBinder -merge -useContext +onlyGivenNames v1
  have h2 : Keeps s0 v1 := by
    refine Keeps.each ?_ fun s6 x7 h8 => ?_
    · refine Keeps.each ?_ fun s3 x4 h5 => ?_
      · exact g1
      · refine State.loadWord_keeps ?_
        exact h5
    · refine State.loadWord_keeps ?_
      exact h8
  clear_value v1
  extract_lets -underBinder -merge -useContext +onlyGivenNames v9
  have h10 : Keeps s0 v9 := by
    refine Keeps.parts ?_ rfl rfl
    exact h2
  clear_value v9
  extract_lets -underBinder -merge -useContext +onlyGivenNames v11
  have h12 : Keeps s0 v11 := by
    refine Keeps.each ?_ fun s13 x14 h15 => ?_
    · exact h10
    · refine Keeps.each ?_ fun s16 x17 h18 => ?_
      · exact h15
      · refine State.loadCell_keeps ?_
        exact h18
  clear_value v11
  extract_lets -underBinder -merge -useContext +onlyGivenNames v19
  have h20 : Keeps s0 v19 := by
    refine State.loadSignals_keeps ?_
    refine State.loadStrings_keeps ?_
    exact h12
  clear_value v19
  extract_lets -underBinder -merge -useContext +onlyGivenNames v21
  have h22 : Keeps s0 v21 := by
    refine Keeps.each ?_ fun s23 x24 h25 => ?_
    · exact h20
    · refine State.setB_keeps ?_
      refine State.clearHeader_keeps ?_
      exact h25
  clear_value v21
  extract_lets -underBinder -merge -useContext +onlyGivenNames v26
  have h27 : Keeps s0 v26 := by
    refine State.set_keeps ?_
    refine State.set_keeps ?_
    exact h22
  clear_value v26
  extract_lets -underBinder -merge -useContext +onlyGivenNames v28
  have h29 : Keeps s0 v28 := by
    refine Keeps.ite ?_ ?_
    · exact h27
    · refine State.setB_keeps ?_
      exact h27
  clear_value v28
  refine State.recheck_keeps ?_
  refine State.periodCheck_keeps ?_
  refine State.storeWindow_keeps ?_
  refine State.storeSchedules_keeps ?_
  exact h29

end Sys2Proof.Machine
end

