-- ==== Sys2Proof/Laws/KeepsBoot.lean ====
section
/-!
SUPPORT. What the operations of Machine/Boot.lean do to the queue, the fuses and the tables.
-/

namespace Sys2Proof.Machine

theorem State.faultsHold_keeps {s0} {a1} {a2} (g1 : Keeps s0 a1) : Keeps s0 (State.faultsHold a1 a2) := by
  unfold State.faultsHold
  extract_lets -underBinder -merge -useContext +onlyGivenNames v1
  clear_value v1
  extract_lets -underBinder -merge -useContext +onlyGivenNames v2
  have h3 : Keeps s0 v2 := by
    refine Keeps.parts ?_ rfl rfl
    exact g1
  clear_value v2
  refine Keeps.ite ?_ ?_
  · exact h3
  · extract_lets -underBinder -merge -useContext +onlyGivenNames v4
    have h5 : Keeps s0 v4 := by
      refine State.set_keeps ?_
      exact h3
    clear_value v4
    extract_lets -underBinder -merge -useContext +onlyGivenNames v6
    have h7 : Keeps s0 v6 := by
      refine State.set_keeps ?_
      exact h5
    clear_value v6
    extract_lets -underBinder -merge -useContext +onlyGivenNames v8
    have h9 : Keeps s0 v8 := by
      refine State.set_keeps ?_
      exact h7
    clear_value v8
    extract_lets -underBinder -merge -useContext +onlyGivenNames v10
    have h11 : Keeps s0 v10 := by
      refine Keeps.ite ?_ ?_
      · exact h9
      · refine State.setBit_keeps ?_
        refine State.setB_keeps ?_
        exact h9
    clear_value v10
    extract_lets -underBinder -merge -useContext +onlyGivenNames v12
    have h13 : Keeps s0 v12 := by
      refine Keeps.ite ?_ ?_
      · refine State.release_keeps ?_
        exact h11
      · exact h11
    clear_value v12
    extract_lets -underBinder -merge -useContext +onlyGivenNames v14
    have h15 : Keeps s0 v14 := by
      refine Keeps.ite ?_ ?_
      · refine State.setB_keeps ?_
        exact h13
      · exact h13
    clear_value v14
    refine Keeps.ite ?_ ?_
    · refine State.freeze_keeps ?_
      exact h15
    · exact h15

theorem State.grown_cutBurn (s : State) : s.fuse.grown s.cutBurn := by
  unfold State.cutBurn Fuses.grown
  split
  · exact Fuses.grown_refl _
  · rename_i t v _
    cases v <;> by_cases ht : t = 5 <;> simp [ht]

theorem State.cutBurn_room {s : State} (h : s.fuseRoom) : s.cutBurn.rows.length ≤ 63 ∧ s.cutBurn.slots.length ≤ 8 := by
  obtain ⟨h1, h2, h3⟩ := h
  unfold State.cutBurn
  split
  · exact ⟨h1, h2⟩
  · rename_i t v hb
    obtain ⟨k1, k2⟩ := h3 t v hb
    cases v <;> by_cases ht : t = 5 <;> simp_all <;> omega

theorem State.resetTo_keeps {s0} {a1} {a2} {a3} (g1 : Keeps s0 a1) : Keeps s0 (State.resetTo a1 a2 a3) := by
  unfold State.resetTo
  extract_lets v1 v2 v3 v5
  have h4 : Keeps s0 v3 := by
    refine ⟨g1.1, Fuses.grown_trans g1.2.1 (State.grown_cutBurn a1), fun x => ⟨?_, ?_⟩⟩
    · exact ⟨rfl, rfl, rfl, rfl, rfl, rfl, rfl, rfl, rfl, rfl, rfl, rfl, rfl, rfl, fun u hu => (Option.some_ne_none u hu.symm).elim⟩
    · have := State.cutBurn_room (g1.2.2 x).2
      exact ⟨this.1, this.2, fun t v hb => (Option.some_ne_none _ hb.symm).elim⟩
  have h6 : Keeps s0 v5 := State.set_keeps (State.set_keeps h4)
  exact Keeps.ite (State.faultsHold_keeps h6) h6

theorem State.warmReset_keeps {s0} {a1} {a2} (g1 : Keeps s0 a1) : Keeps s0 (State.warmReset a1 a2) := by
  unfold State.warmReset
  refine Keeps.ite ?_ ?_
  · exact g1
  · extract_lets -underBinder -merge -useContext +onlyGivenNames v1
    have h2 : Keeps s0 v1 := by
      refine Keeps.ite ?_ ?_
      · exact g1
      · refine State.resetTo_keeps ?_
        exact g1
    clear_value v1
    refine Keeps.parts ?_ rfl rfl
    exact h2

theorem State.showFuses_keeps {s0} {a1} (g1 : Keeps s0 a1) : Keeps s0 (State.showFuses a1) := by
  unfold State.showFuses
  extract_lets -underBinder -merge -useContext +onlyGivenNames v1
  clear_value v1
  extract_lets -underBinder -merge -useContext +onlyGivenNames v2
  have h3 : Keeps s0 v2 := by
    refine State.set_keeps ?_
    refine State.set_keeps ?_
    exact g1
  clear_value v2
  extract_lets -underBinder -merge -useContext +onlyGivenNames v4
  have h5 : Keeps s0 v4 := by
    refine State.setB_keeps ?_
    refine State.set_keeps ?_
    exact h3
  clear_value v4
  refine State.set_keeps ?_
  exact h5

theorem State.restoreSessions_keeps {s0} {a1} {a2} (g1 : Keeps s0 a1) : Keeps s0 (State.restoreSessions a1 a2) := by
  unfold State.restoreSessions
  refine Keeps.each ?_ fun s1 x2 h3 => ?_
  · exact g1
  · extract_lets -underBinder -merge -useContext +onlyGivenNames v4
    clear_value v4
    extract_lets -underBinder -merge -useContext +onlyGivenNames v5
    clear_value v5
    refine Keeps.ite ?_ ?_
    · exact h3
    · refine State.putSess_keeps ?_
      exact h3

theorem State.testHead_keeps {s0} {a1} (g1 : Keeps s0 a1) : Keeps s0 (State.testHead a1) := by
  unfold State.testHead
  refine Keeps.ite ?_ ?_
  · exact g1
  · extract_lets -underBinder -merge -useContext +onlyGivenNames v1
    clear_value v1
    refine Keeps.ite ?_ ?_
    · extract_lets -underBinder -merge -useContext +onlyGivenNames v2
      have h3 : Keeps s0 v2 := by
        refine State.set_keeps ?_
        exact g1
      clear_value v2
      refine State.restoreSessions_keeps ?_
      refine Keeps.parts ?_ rfl rfl
      exact h3
    · refine State.setB_keeps ?_
      refine State.set_keeps ?_
      exact g1

theorem State.stopBoot_keeps {s0} {a1} {a2} (g1 : Keeps s0 a1) : Keeps s0 (State.stopBoot a1 a2) := by
  unfold State.stopBoot
  refine State.setB_keeps ?_
  refine State.set_keeps ?_
  exact g1

theorem State.refuseReady_keeps {s0} {a1} {a2} (g1 : Keeps s0 a1) : Keeps s0 (State.refuseReady a1 a2) := by
  unfold State.refuseReady
  refine State.set_keeps ?_
  refine Keeps.parts ?_ rfl rfl
  exact g1

theorem State.toStep_keeps {s0} {a1} {a2} (g1 : Keeps s0 a1) : Keeps s0 (State.toStep a1 a2) := by
  unfold State.toStep
  refine State.set_keeps ?_
  exact g1

theorem State.tryStep3_keeps {s0} {a1} (g1 : Keeps s0 a1) : Keeps s0 (State.tryStep3 a1) := by
  unfold State.tryStep3
  refine Keeps.ite ?_ ?_
  · refine State.toStep_keeps ?_
    exact g1
  · exact g1

theorem State.releaseReset_keeps {s0} {a1} {a2} {a3} {a4} (g1 : Keeps s0 a1) : Keeps s0 (State.releaseReset a1 a2 a3 a4) := by
  unfold State.releaseReset
  refine Keeps.ite ?_ ?_
  · exact g1
  · extract_lets -underBinder -merge -useContext +onlyGivenNames v1
    extract_lets -underBinder -merge -useContext +onlyGivenNames v2
    have h3 : Keeps s0 v2 := by
      refine Keeps.parts ?_ rfl rfl
      exact g1
    clear_value v2
    extract_lets -underBinder -merge -useContext +onlyGivenNames v4
    have h5 : Keeps s0 v4 := by
      refine State.setB_keeps ?_
      refine State.set_keeps ?_
      exact h3
    clear_value v4
    refine Keeps.ite ?_ ?_
    · exact h5
    · extract_lets -underBinder -merge -useContext +onlyGivenNames v6
      have h7 : Keeps s0 v6 := by
        refine State.toStep_keeps ?_
        exact h5
      clear_value v6
      refine Keeps.ite ?_ ?_
      · refine State.stopBoot_keeps ?_
        exact h7
      · extract_lets -underBinder -merge -useContext +onlyGivenNames v8
        have h9 : Keeps s0 v8 := by
          refine State.showFuses_keeps ?_
          exact h7
        clear_value v8
        extract_lets -underBinder -merge -useContext +onlyGivenNames v10
        have h11 : Keeps s0 v10 := by
          refine State.testHead_keeps ?_
          refine State.set_keeps ?_
          exact h9
        clear_value v10
        refine State.tryStep3_keeps ?_
        refine Keeps.parts ?_ rfl rfl
        exact h11

theorem State.refuseSlot_keeps {s0} {a1} {a2} {a3} {a4} {a5} (g1 : Keeps s0 a1) : Keeps s0 (State.refuseSlot a1 a2 a3 a4 a5) := by
  unfold State.refuseSlot
  extract_lets -underBinder -merge -useContext +onlyGivenNames v1
  have h2 : Keeps s0 v1 := by
    refine State.setB_keeps ?_
    refine State.set_keeps ?_
    exact g1
  clear_value v1
  extract_lets -underBinder -merge -useContext +onlyGivenNames v3
  extract_lets -underBinder -merge -useContext +onlyGivenNames v4
  have h5 : Keeps s0 v4 := by
    refine Keeps.parts ?_ rfl rfl
    exact h2
  clear_value v4
  split
  · exact h5
  · refine State.stopBoot_keeps ?_
    exact h5

theorem State.acceptImage_keeps {s0} {a1} {a2} {a3} (g1 : Keeps s0 a1) : Keeps s0 (State.acceptImage a1 a2 a3) := by
  unfold State.acceptImage
  extract_lets -underBinder -merge -useContext +onlyGivenNames v1
  have h2 : Keeps s0 v1 := by
    refine State.set_keeps ?_
    refine State.set_keeps ?_
    exact g1
  clear_value v1
  extract_lets -underBinder -merge -useContext +onlyGivenNames v3
  have h4 : Keeps s0 v3 := by
    refine State.set_keeps ?_
    exact h2
  clear_value v3
  refine State.toStep_keeps ?_
  refine Keeps.parts ?_ rfl rfl
  exact h4

theorem State.imageRead_keeps {s0} {a1} {a2} {a3} {a4} (g1 : Keeps s0 a1) : Keeps s0 (State.imageRead a1 a2 a3 a4) := by
  unfold State.imageRead
  refine Keeps.ite ?_ ?_
  · exact g1
  · split
    · refine State.stopBoot_keeps ?_
      exact g1
    · extract_lets -underBinder -merge -useContext +onlyGivenNames v1
      have h2 : Keeps s0 v1 := by
        refine State.bump_keeps ?_
        exact g1
      clear_value v1
      extract_lets -underBinder -merge -useContext +onlyGivenNames v3
      clear_value v3
      refine Keeps.ite ?_ ?_
      · refine State.refuseSlot_keeps ?_
        exact h2
      · extract_lets -underBinder -merge -useContext +onlyGivenNames v4
        have h5 : Keeps s0 v4 := by
          refine State.loadImage_keeps ?_
          exact h2
        clear_value v4
        extract_lets -underBinder -merge -useContext +onlyGivenNames v6
        clear_value v6
        refine Keeps.ite ?_ ?_
        · refine State.acceptImage_keeps ?_
          refine State.storeBudget_keeps ?_
          exact h5
        · extract_lets -underBinder -merge -useContext +onlyGivenNames v7
          have h8 : Keeps s0 v7 := by
            refine Keeps.ite ?_ ?_
            · refine State.storeBudget_keeps ?_
              exact h2
            · exact h2
          clear_value v7
          refine State.refuseSlot_keeps ?_
          exact h8

theorem State.wipeCheck_keeps {s0} {a1} {a2} (g1 : Keeps s0 a1) : Keeps s0 (State.wipeCheck a1 a2) := by
  unfold State.wipeCheck
  refine Keeps.ite ?_ ?_
  · exact g1
  · refine Keeps.ite ?_ ?_
    · refine State.toStep_keeps ?_
      exact g1
    · refine State.stopBoot_keeps ?_
      exact g1

theorem State.pllLock_keeps {s0} {a1} {a2} {a3} (g1 : Keeps s0 a1) : Keeps s0 (State.pllLock a1 a2 a3) := by
  unfold State.pllLock
  refine Keeps.ite ?_ ?_
  · exact g1
  · refine Keeps.ite ?_ ?_
    · refine State.stopBoot_keeps ?_
      exact g1
    · extract_lets -underBinder -merge -useContext +onlyGivenNames v1
      extract_lets -underBinder -merge -useContext +onlyGivenNames v2
      have h3 : Keeps s0 v2 := by
        refine State.toStep_keeps ?_
        refine Keeps.parts ?_ rfl rfl
        exact g1
      clear_value v2
      extract_lets -underBinder -merge -useContext +onlyGivenNames v4
      have h5 : Keeps s0 v4 := by
        refine State.set_keeps ?_
        exact h3
      clear_value v4
      extract_lets -underBinder -merge -useContext +onlyGivenNames v6
      have h7 : Keeps s0 v6 := by
        refine State.startTraining_keeps ?_
        exact h5
      clear_value v6
      refine Keeps.ite ?_ ?_
      · refine State.refuseReady_keeps ?_
        exact h7
      · exact h7

theorem State.trained_keeps {s0} {a1} {a2} (g1 : Keeps s0 a1) : Keeps s0 (State.trained a1 a2) := by
  unfold State.trained
  refine Keeps.ite ?_ ?_
  · exact g1
  · extract_lets -underBinder -merge -useContext +onlyGivenNames v1
    have h2 : Keeps s0 v1 := by
      refine State.countDir_keeps ?_
      refine State.setB_keeps ?_
      exact g1
    clear_value v1
    extract_lets -underBinder -merge -useContext +onlyGivenNames v3
    have h4 : Keeps s0 v3 := by
      refine Keeps.ite ?_ ?_
      · refine Keeps.each ?_ fun s5 x6 h7 => ?_
        · exact h2
        · refine State.setCapState_keeps ?_
          exact h7
      · exact h2
    clear_value v3
    refine Keeps.ite ?_ ?_
    · exact h4
    · refine Keeps.ite ?_ ?_
      · refine State.setB_keeps ?_
        exact h4
      · extract_lets -underBinder -merge -useContext +onlyGivenNames v8
        have h9 : Keeps s0 v8 := by
          refine Keeps.each ?_ fun s10 x11 h12 => ?_
          · exact h4
          · refine Keeps.ite ?_ ?_
            · exact h12
            · refine State.set_keeps ?_
              exact h12
        clear_value v8
        refine State.runAll_keeps ?_
        refine State.toStep_keeps ?_
        exact h9

theorem State.discovered_keeps {s0} {a1} (g1 : Keeps s0 a1) : Keeps s0 (State.discovered a1) := by
  unfold State.discovered
  refine Keeps.ite ?_ ?_
  · exact g1
  · extract_lets -underBinder -merge -useContext +onlyGivenNames v1
    clear_value v1
    extract_lets -underBinder -merge -useContext +onlyGivenNames v2
    have h3 : Keeps s0 v2 := by
      refine State.storeBudget_keeps ?_
      exact g1
    clear_value v2
    refine Keeps.ite ?_ ?_
    · refine State.toStep_keeps ?_
      exact h3
    · refine State.refuseReady_keeps ?_
      exact h3

theorem State.testSegment_keeps {s0} {a1} {a2} {a3} (g1 : Keeps s0 a1) : Keeps s0 (State.testSegment a1 a2 a3) := by
  unfold State.testSegment
  extract_lets -underBinder -merge -useContext +onlyGivenNames v1
  clear_value v1
  extract_lets -underBinder -merge -useContext +onlyGivenNames v2
  clear_value v2
  refine Keeps.ite ?_ ?_
  · extract_lets -underBinder -merge -useContext +onlyGivenNames v3
    clear_value v3
    extract_lets -underBinder -merge -useContext +onlyGivenNames v4
    have h5 : Keeps s0 v4 := by
      refine Keeps.parts ?_ rfl rfl
      exact g1
    clear_value v4
    refine State.set_keeps ?_
    exact h5
  · exact g1

theorem State.beginPairing_keeps {s0} {a1} (g1 : Keeps s0 a1) : Keeps s0 (State.beginPairing a1) := by
  unfold State.beginPairing
  extract_lets -underBinder -merge -useContext +onlyGivenNames v1
  have h2 : Keeps s0 v1 := by
    refine State.toStep_keeps ?_
    exact g1
  clear_value v1
  refine Keeps.ite ?_ ?_
  · refine State.setMode_keeps ?_
    exact h2
  · refine State.toStep_keeps ?_
    exact h2

theorem State.tryStep10_keeps {s0} {a1} (g1 : Keeps s0 a1) : Keeps s0 (State.tryStep10 a1) := by
  unfold State.tryStep10
  refine Keeps.ite ?_ ?_
  · refine State.beginPairing_keeps ?_
    exact g1
  · exact g1

theorem State.selfTested_keeps {s0} {a1} (g1 : Keeps s0 a1) : Keeps s0 (State.selfTested a1) := by
  unfold State.selfTested
  refine Keeps.ite ?_ ?_
  · exact g1
  · extract_lets -underBinder -merge -useContext +onlyGivenNames v1
    have h2 : Keeps s0 v1 := by
      refine Keeps.each ?_ fun s3 x4 h5 => ?_
      · exact g1
      · refine Keeps.foldl ?_ fun s6 x7 h8 => ?_
        · exact h5
        · refine State.testSegment_keeps ?_
          exact h8
    clear_value v1
    refine State.tryStep10_keeps ?_
    refine State.toStep_keeps ?_
    exact h2

theorem State.becomeReady_keeps {s0} {a1} {a2} (g1 : Keeps s0 a1) : Keeps s0 (State.becomeReady a1 a2) := by
  unfold State.becomeReady
  refine Keeps.ite ?_ ?_
  · exact g1
  · refine Keeps.ite ?_ ?_
    · refine Keeps.parts ?_ rfl rfl
      exact g1
    · extract_lets -underBinder -merge -useContext +onlyGivenNames v1
      extract_lets -underBinder -merge -useContext +onlyGivenNames v2
      have h3 : Keeps s0 v2 := by
        refine Keeps.parts ?_ rfl rfl
        exact g1
      clear_value v2
      refine State.set_keeps ?_
      refine State.setB_keeps ?_
      exact h3

theorem State.lcRefuse_keeps {s0} {a1} {a2} (g1 : Keeps s0 a1) : Keeps s0 (State.lcRefuse a1 a2) := by
  unfold State.lcRefuse
  extract_lets -underBinder -merge -useContext +onlyGivenNames v1
  extract_lets -underBinder -merge -useContext +onlyGivenNames v2
  have h3 : Keeps s0 v2 := by
    refine Keeps.parts ?_ rfl rfl
    exact g1
  clear_value v2
  extract_lets -underBinder -merge -useContext +onlyGivenNames v4
  have h5 : Keeps s0 v4 := by
    refine State.set_keeps ?_
    refine State.setB_keeps ?_
    exact h3
  clear_value v4
  refine State.set_keeps ?_
  refine State.setB_keeps ?_
  exact h5

theorem State.lcArm_keeps {s0} {a1} {a2} (g1 : Keeps s0 a1) : Keeps s0 (State.lcArm a1 a2) := by
  unfold State.lcArm
  refine Keeps.ite ?_ ?_
  · exact g1
  · extract_lets -underBinder -merge -useContext +onlyGivenNames v1
    extract_lets -underBinder -merge -useContext +onlyGivenNames v2
    have h3 : Keeps s0 v2 := by
      refine Keeps.parts ?_ rfl rfl
      exact g1
    clear_value v2
    refine State.setB_keeps ?_
    exact h3

theorem State.lcCommit_keeps {s0} {a1} {a2} (g1 : Keeps s0 a1) : Keeps s0 (State.lcCommit a1 a2) := by
  unfold State.lcCommit
  refine Keeps.ite g1 ?_
  extract_lets v1
  by_cases hc : v1 = 0
  · rw [if_neg (by simpa using hc)]
    refine State.setB_keeps ⟨g1.1, g1.2.1, fun x => ⟨(g1.2.2 x).1, ?_⟩⟩
    obtain ⟨h1, h2, _⟩ := (g1.2.2 x).2
    refine ⟨h1, h2, fun t v hb => ?_⟩
    obtain ⟨rfl, rfl⟩ := Prod.mk.inj (Option.some.inj hb)
    have hc' : a1.lcCode a2 = 0 := hc
    unfold State.lcCode at hc'
    (repeat' split at hc') <;> simp_all
    · rename_i h3 h4
      refine ⟨h4, fun h => ?_⟩
      cases hs : a1.lcSlot a2
      · exact absurd hs h
      · exact h3 (by rw [hs]; rfl)
  · rw [if_pos hc]
    exact State.lcRefuse_keeps g1

theorem State.burnDone_keeps {s0} {a1} (g1 : Keeps s0 a1) : Keeps s0 (State.burnDone a1) := by
  unfold State.burnDone
  split
  · exact g1
  · rename_i t v hb
    refine State.resetTo_keeps ⟨g1.1, Fuses.grown_trans g1.2.1 ?_, fun x => ⟨(g1.2.2 x).1, ?_⟩⟩
    · unfold State.burnt Fuses.grown
      cases v <;> by_cases ht : t = 5 <;> by_cases h1 : t = 1 <;> simp [ht, h1]
    · obtain ⟨h1, h2, h3⟩ := (g1.2.2 x).2
      obtain ⟨k1, k2⟩ := h3 t v hb
      refine ⟨?_, ?_, fun t v hb => (Option.some_ne_none _ hb.symm).elim⟩ <;> unfold State.burnt
      · cases v <;> by_cases ht : t = 5 <;> by_cases h1 : t = 1 <;> simp_all <;> omega
      · cases v <;> by_cases ht : t = 5 <;> by_cases h1 : t = 1 <;> simp_all <;> omega

theorem State.lcExpired_keeps {s0} {a1} (g1 : Keeps s0 a1) : Keeps s0 (State.lcExpired a1) := by
  unfold State.lcExpired
  refine Keeps.ite ?_ ?_
  · exact g1
  · refine State.setB_keeps ?_
    refine Keeps.parts ?_ rfl rfl
    exact g1

theorem State.checkSet_keeps {s0} {a1} (g1 : Keeps s0 a1) : Keeps s0 (State.checkSet a1) := by
  unfold State.checkSet
  extract_lets -underBinder -merge -useContext +onlyGivenNames v1
  have h2 : Keeps s0 v1 := by
    refine State.recheck_keeps ?_
    exact g1
  clear_value v1
  refine Keeps.ite ?_ ?_
  · refine State.curatorFault_keeps ?_
    exact h2
  · exact h2

theorem execPowerOn_keeps {s0} {a1} (g1 : Keeps s0 a1) : KeepsN s0 (execPowerOn a1) := by
  unfold execPowerOn
  refine KeepsN.next ?_
  refine State.resetTo_keeps ?_
  exact g1

theorem execColdReset_keeps {s0} {a1} {a2} (g2 : Keeps s0 a2) : KeepsN s0 (execColdReset a1 a2) := by
  unfold execColdReset
  refine KeepsN.next ?_
  refine State.resetTo_keeps ?_
  exact g2

theorem execWarmReset_keeps {s0} {a1} {a2} (g2 : Keeps s0 a2) : KeepsN s0 (execWarmReset a1 a2) := by
  unfold execWarmReset
  refine KeepsN.next ?_
  refine State.warmReset_keeps ?_
  exact g2

theorem execRailFault_keeps {s0} {a1} (g1 : Keeps s0 a1) : KeepsN s0 (execRailFault a1) := by
  unfold execRailFault
  refine KeepsN.next ?_
  refine State.resetTo_keeps ?_
  exact g1

theorem execResetRelease_keeps {s0} {a1} {a2} {a3} {a4} (g4 : Keeps s0 a4) : KeepsN s0 (execResetRelease a1 a2 a3 a4) := by
  unfold execResetRelease
  refine KeepsN.next ?_
  refine State.releaseReset_keeps ?_
  exact g4

theorem execOnChipWipeComplete_keeps {s0} {a1} (g1 : Keeps s0 a1) : KeepsN s0 (execOnChipWipeComplete a1) := by
  unfold execOnChipWipeComplete
  refine KeepsN.next ?_
  refine State.tryStep3_keeps ?_
  refine Keeps.parts ?_ rfl rfl
  exact g1

theorem execImageReadComplete_keeps {s0} {a1} {a2} {a3} {a4} (g4 : Keeps s0 a4) : KeepsN s0 (execImageReadComplete a1 a2 a3 a4) := by
  unfold execImageReadComplete
  refine KeepsN.next ?_
  refine State.imageRead_keeps ?_
  exact g4

theorem execWipeCheckComplete_keeps {s0} {a1} {a2} (g2 : Keeps s0 a2) : KeepsN s0 (execWipeCheckComplete a1 a2) := by
  unfold execWipeCheckComplete
  refine KeepsN.next ?_
  refine State.wipeCheck_keeps ?_
  exact g2

theorem execPllLock_keeps {s0} {a1} {a2} {a3} (g3 : Keeps s0 a3) : KeepsN s0 (execPllLock a1 a2 a3) := by
  unfold execPllLock
  refine KeepsN.next ?_
  refine State.pllLock_keeps ?_
  exact g3

theorem execTrainingComplete_keeps {s0} {a1} {a2} (g2 : Keeps s0 a2) : KeepsN s0 (execTrainingComplete a1 a2) := by
  unfold execTrainingComplete
  refine KeepsN.next ?_
  refine Keeps.ite ?_ ?_
  · refine State.trained_keeps ?_
    exact g2
  · exact g2

theorem execTrainWaitExpiry_keeps {s0} {a1} {a2} (g2 : Keeps s0 a2) : KeepsN s0 (execTrainWaitExpiry a1 a2) := by
  unfold execTrainWaitExpiry
  refine KeepsN.next ?_
  refine State.trained_keeps ?_
  exact g2

theorem execStartupDiscoveryComplete_keeps {s0} {a1} (g1 : Keeps s0 a1) : KeepsN s0 (execStartupDiscoveryComplete a1) := by
  unfold execStartupDiscoveryComplete
  refine KeepsN.next ?_
  refine State.discovered_keeps ?_
  exact g1

theorem execStartupSelftestComplete_keeps {s0} {a1} (g1 : Keeps s0 a1) : KeepsN s0 (execStartupSelftestComplete a1) := by
  unfold execStartupSelftestComplete
  refine KeepsN.next ?_
  refine State.selfTested_keeps ?_
  exact g1

theorem execCalComplete_keeps {s0} {a1} {a2} {a3} (g3 : Keeps s0 a3) : KeepsN s0 (execCalComplete a1 a2 a3) := by
  unfold execCalComplete
  refine KeepsN.next ?_
  refine State.tryStep10_keeps ?_
  refine State.calFinish_keeps ?_
  exact g3

theorem execReady_keeps {s0} {a1} {a2} (g2 : Keeps s0 a2) : KeepsN s0 (execReady a1 a2) := by
  unfold execReady
  refine KeepsN.next ?_
  refine State.becomeReady_keeps ?_
  exact g2

theorem execLcArmExpired_keeps {s0} {a1} (g1 : Keeps s0 a1) : KeepsN s0 (execLcArmExpired a1) := by
  unfold execLcArmExpired
  refine KeepsN.next ?_
  refine State.lcExpired_keeps ?_
  exact g1

theorem execFuseBurnComplete_keeps {s0} {a1} (g1 : Keeps s0 a1) : KeepsN s0 (execFuseBurnComplete a1) := by
  unfold execFuseBurnComplete
  refine KeepsN.next ?_
  refine State.burnDone_keeps ?_
  exact g1

theorem execSafeCheckRecompute_keeps {s0} {a1} (g1 : Keeps s0 a1) : KeepsN s0 (execSafeCheckRecompute a1) := by
  unfold execSafeCheckRecompute
  refine KeepsN.next ?_
  refine State.checkSet_keeps ?_
  exact g1

end Sys2Proof.Machine
end

