-- ==== Sys2Proof/Laws/KeepsDebug.lean ====
section
/-!
SUPPORT. What the operations of Machine/Debug.lean do to the queue, the fuses and the tables.
-/

namespace Sys2Proof.Machine

theorem State.nvmCommand_keeps {s0} {a1} {a2} {a3} (g1 : Keeps s0 a1) : KeepsO s0 (State.nvmCommand a1 a2 a3) := by
  unfold State.nvmCommand
  refine KeepsO.ite ?_ ?_
  · refine KeepsO.some ?_
    exact g1
  · refine KeepsO.ite ?_ ?_
    · exact KeepsO.none
    · extract_lets -underBinder -merge -useContext +onlyGivenNames v1
      clear_value v1
      extract_lets -underBinder -merge -useContext +onlyGivenNames v2
      extract_lets -underBinder -merge -useContext +onlyGivenNames v3
      have h4 : Keeps s0 v3 := by
        refine State.setB_keeps ?_
        refine Keeps.parts ?_ rfl rfl
        exact g1
      clear_value v3
      refine KeepsO.some ?_
      refine State.emit_keeps ?_
      exact h4

theorem State.nvmDone_keeps {s0} {a1} (g1 : Keeps s0 a1) : Keeps s0 (State.nvmDone a1) := by
  unfold State.nvmDone
  refine State.setB_keeps ?_
  refine Keeps.parts ?_ rfl rfl
  exact g1

theorem State.drawChallenge_keeps {s0} {a1} (g1 : Keeps s0 a1) : Keeps s0 (State.drawChallenge a1) := by
  unfold State.drawChallenge
  extract_lets -underBinder -merge -useContext +onlyGivenNames v1
  have h2 : Keeps s0 v1 := by
    refine Keeps.foldl ?_ fun s3 x4 h5 => ?_
    · exact g1
    · split
      rename_i x7 x8 q10
      have e9 : _ = x8 := congrArg Prod.snd q10
      have h6 : Keeps s0 x8 := by
        rw [← e9]
        refine State.free_keeps ?_
        exact h5
      refine State.setReg_keeps ?_
      exact h6
  clear_value v1
  refine State.setB_keeps ?_
  refine Keeps.parts ?_ rfl rfl
  exact h2

theorem State.dbgVerify_keeps {s0} {a1} {a2} (g1 : Keeps s0 a1) : Keeps s0 (State.dbgVerify a1 a2) := by
  unfold State.dbgVerify
  refine Keeps.ite ?_ ?_
  · exact g1
  · refine State.setB_keeps ?_
    refine Keeps.parts ?_ rfl rfl
    exact g1

theorem State.dbgVerified_keeps {s0} {a1} {a2} (g1 : Keeps s0 a1) : Keeps s0 (State.dbgVerified a1 a2) := by
  unfold State.dbgVerified
  split
  · exact g1
  · extract_lets -underBinder -merge -useContext +onlyGivenNames v1
    clear_value v1
    extract_lets -underBinder -merge -useContext +onlyGivenNames v2
    have h3 : Keeps s0 v2 := by
      refine State.setB_keeps ?_
      refine Keeps.parts ?_ rfl rfl
      exact g1
    clear_value v2
    refine Keeps.ite ?_ ?_
    · refine State.set_keeps ?_
      exact h3
    · refine State.bump_keeps ?_
      exact h3

theorem State.dbgRelock_keeps {s0} {a1} (g1 : Keeps s0 a1) : Keeps s0 (State.dbgRelock a1) := by
  unfold State.dbgRelock
  refine State.set_keeps ?_
  exact g1

theorem State.setIr_keeps {s0} {a1} {a2} (g1 : Keeps s0 a1) : Keeps s0 (State.setIr a1 a2) := by
  unfold State.setIr
  refine Keeps.parts ?_ rfl rfl
  exact g1

theorem execNvmCommandComplete_keeps {s0} {a1} (g1 : Keeps s0 a1) : KeepsN s0 (execNvmCommandComplete a1) := by
  unfold execNvmCommandComplete
  refine KeepsN.next ?_
  refine State.nvmDone_keeps ?_
  exact g1

theorem execDbgVerifyComplete_keeps {s0} {a1} {a2} (g2 : Keeps s0 a2) : KeepsN s0 (execDbgVerifyComplete a1 a2) := by
  unfold execDbgVerifyComplete
  refine KeepsN.next ?_
  refine State.dbgVerified_keeps ?_
  exact g2

theorem execJtagIdcode_keeps {s0} {a1} (g1 : Keeps s0 a1) : KeepsN s0 (execJtagIdcode a1) := by
  unfold execJtagIdcode
  refine KeepsN.next ?_
  refine State.emit_keeps ?_
  refine State.setIr_keeps ?_
  exact g1

theorem execJtagSamplePreload_keeps {s0} {a1} {a2} (g2 : Keeps s0 a2) : KeepsN s0 (execJtagSamplePreload a1 a2) := by
  unfold execJtagSamplePreload
  refine KeepsN.next ?_
  extract_lets -underBinder -merge -useContext +onlyGivenNames v1
  have h2 : Keeps s0 v1 := by
    refine State.setIr_keeps ?_
    exact g2
  clear_value v1
  refine Keeps.parts ?_ rfl rfl
  exact h2

theorem execJtagExtest_keeps {s0} {a1} (g1 : Keeps s0 a1) : KeepsN s0 (execJtagExtest a1) := by
  unfold execJtagExtest
  refine KeepsN.next ?_
  refine Keeps.ite ?_ ?_
  · refine State.emit_keeps ?_
    refine State.setIr_keeps ?_
    exact g1
  · exact g1

theorem execJtagBypass_keeps {s0} {a1} (g1 : Keeps s0 a1) : KeepsN s0 (execJtagBypass a1) := by
  unfold execJtagBypass
  refine KeepsN.next ?_
  refine State.setIr_keeps ?_
  exact g1

theorem execJtagTrst_keeps {s0} {a1} (g1 : Keeps s0 a1) : KeepsN s0 (execJtagTrst a1) := by
  unfold execJtagTrst
  refine KeepsN.next ?_
  refine State.setIr_keeps ?_
  exact g1

end Sys2Proof.Machine
end

