-- ==== Sys2Proof/Laws/KeepsSched.lean ====
section
/-!
SUPPORT. What the operations of Machine/Sched.lean do to the queue, the fuses and the tables.
-/

namespace Sys2Proof.Machine

theorem State.showPool_keeps {s0} {a1} (g1 : Keeps s0 a1) : Keeps s0 (State.showPool a1) := by
  unfold State.showPool
  extract_lets -underBinder -merge -useContext +onlyGivenNames v1
  clear_value v1
  extract_lets -underBinder -merge -useContext +onlyGivenNames v2
  have h3 : Keeps s0 v2 := by
    refine State.set_keeps ?_
    refine State.set_keeps ?_
    exact g1
  clear_value v2
  refine State.setB_keeps ?_
  exact h3

theorem State.makeReady_keeps {s0} {a1} {a2} (g1 : Keeps s0 a1) : Keeps s0 (State.makeReady a1 a2) := by
  unfold State.makeReady
  extract_lets -underBinder -merge -useContext +onlyGivenNames v1
  clear_value v1
  extract_lets -underBinder -merge -useContext +onlyGivenNames v2
  clear_value v2
  refine Keeps.parts ?_ rfl rfl
  exact g1

theorem State.refill_keeps {s0} {a1} (g1 : Keeps s0 a1) : Keeps s0 (State.refill a1) := by
  unfold State.refill
  extract_lets -underBinder -merge -useContext +onlyGivenNames v1
  clear_value v1
  extract_lets -underBinder -merge -useContext +onlyGivenNames v2
  clear_value v2
  extract_lets -underBinder -merge -useContext +onlyGivenNames v3
  clear_value v3
  extract_lets -underBinder -merge -useContext +onlyGivenNames v4
  have h5 : Keeps s0 v4 := by
    refine Keeps.parts ?_ rfl rfl
    exact g1
  clear_value v4
  refine State.showPool_keeps ?_
  refine Keeps.each ?_ fun s6 x7 h8 => ?_
  · exact h5
  · refine State.makeReady_keeps ?_
    exact h8

theorem State.dispatchOne_keeps {s0} {a1} (g1 : Keeps s0 a1) : Keeps s0 (State.dispatchOne a1) := by
  unfold State.dispatchOne
  split
  · extract_lets -underBinder -merge -useContext +onlyGivenNames v1
    clear_value v1
    extract_lets -underBinder -merge -useContext +onlyGivenNames v2
    clear_value v2
    extract_lets -underBinder -merge -useContext +onlyGivenNames v3
    have h4 : Keeps s0 v3 := by
      refine Keeps.parts ?_ rfl rfl
      exact g1
    clear_value v3
    extract_lets -underBinder -merge -useContext +onlyGivenNames v5
    have h6 : Keeps s0 v5 := by
      refine Keeps.ite ?_ ?_
      · refine State.bump_keeps ?_
        exact h4
      · exact h4
    clear_value v5
    extract_lets -underBinder -merge -useContext +onlyGivenNames v7
    clear_value v7
    extract_lets -underBinder -merge -useContext +onlyGivenNames v8
    have h9 : Keeps s0 v8 := by
      refine State.setCore_keeps ?_
      exact h6
    clear_value v8
    refine State.set_keeps ?_
    refine State.set_keeps ?_
    exact h9
  · exact g1

theorem State.dispatchAll_keeps {s0} {a1} (g1 : Keeps s0 a1) : Keeps s0 (State.dispatchAll a1) := by
  unfold State.dispatchAll
  refine State.refill_keeps ?_
  refine Keeps.foldl ?_ fun s1 x2 h3 => ?_
  · exact g1
  · refine State.dispatchOne_keeps ?_
    exact h3

theorem State.holdBack_keeps {s0} {a1} {a2} (g1 : Keeps s0 a1) : Keeps s0 (State.holdBack a1 a2) := by
  unfold State.holdBack
  extract_lets -underBinder -merge -useContext +onlyGivenNames v1
  clear_value v1
  extract_lets -underBinder -merge -useContext +onlyGivenNames v2
  clear_value v2
  refine Keeps.ite ?_ ?_
  · extract_lets -underBinder -merge -useContext +onlyGivenNames v3
    clear_value v3
    extract_lets -underBinder -merge -useContext +onlyGivenNames v4
    have h5 : Keeps s0 v4 := by
      refine Keeps.parts ?_ rfl rfl
      exact g1
    clear_value v4
    extract_lets -underBinder -merge -useContext +onlyGivenNames v6
    have h7 : Keeps s0 v6 := by
      refine State.showPool_keeps ?_
      exact h5
    clear_value v6
    refine Keeps.ite ?_ ?_
    · refine State.pauseOn_keeps ?_
      exact h7
    · exact h7
  · exact g1

theorem State.submit_keeps {s0} {a1} {a2} {a3} (g1 : Keeps s0 a1) : Keeps s0 (State.submit a1 a2 a3) := by
  unfold State.submit
  extract_lets -underBinder -merge -useContext +onlyGivenNames v1
  clear_value v1
  refine Keeps.ite ?_ ?_
  · refine Keeps.ite ?_ ?_
    · refine State.bump_keeps ?_
      exact g1
    · refine State.dispatchAll_keeps ?_
      refine State.showPool_keeps ?_
      refine State.makeReady_keeps ?_
      exact g1
  · refine Keeps.ite ?_ ?_
    · refine State.bump_keeps ?_
      exact g1
    · refine State.holdBack_keeps ?_
      exact g1

theorem State.cancelItem_keeps {s0} {a1} {a2} (g1 : Keeps s0 a1) : Keeps s0 (State.cancelItem a1 a2) := by
  unfold State.cancelItem
  refine Keeps.ite ?_ ?_
  · refine State.refill_keeps ?_
    refine Keeps.parts ?_ rfl rfl
    exact g1
  · refine State.emit_keeps ?_
    exact g1

theorem State.sweep_keeps {s0} {a1} (g1 : Keeps s0 a1) : Keeps s0 (State.sweep a1) := by
  unfold State.sweep
  extract_lets -underBinder -merge -useContext +onlyGivenNames v1
  clear_value v1
  refine Keeps.parts ?_ rfl rfl
  exact g1

theorem State.coreEnds_keeps {s0} {a1} {a2} {a3} (g1 : Keeps s0 a1) : Keeps s0 (State.coreEnds a1 a2 a3) := by
  unfold State.coreEnds
  extract_lets -underBinder -merge -useContext +onlyGivenNames v1
  clear_value v1
  refine State.clearAll_keeps ?_
  refine State.setCore_keeps ?_
  exact g1

theorem State.itemDone_keeps {s0} {a1} {a2} {a3} (g1 : Keeps s0 a1) : Keeps s0 (State.itemDone a1 a2 a3) := by
  unfold State.itemDone
  split
  · exact g1
  · extract_lets -underBinder -merge -useContext +onlyGivenNames v1
    have h2 : Keeps s0 v1 := by
      unfold v1
      split
      · refine State.eccLost_keeps ?_
        exact g1
      · exact g1
    clear_value v1
    extract_lets -underBinder -merge -useContext +onlyGivenNames v3
    clear_value v3
    extract_lets -underBinder -merge -useContext +onlyGivenNames v4
    have h5 : Keeps s0 v4 := by
      refine Keeps.ite ?_ ?_
      · refine State.bump_keeps ?_
        exact h2
      · exact h2
    clear_value v4
    refine State.dispatchAll_keeps ?_
    refine State.coreEnds_keeps ?_
    exact h5

theorem State.itemLimit_keeps {s0} {a1} {a2} (g1 : Keeps s0 a1) : Keeps s0 (State.itemLimit a1 a2) := by
  unfold State.itemLimit
  split
  · exact g1
  · extract_lets -underBinder -merge -useContext +onlyGivenNames v1
    have h2 : Keeps s0 v1 := by
      refine State.bump_keeps ?_
      refine State.bump_keeps ?_
      exact g1
    clear_value v1
    extract_lets -underBinder -merge -useContext +onlyGivenNames v3
    have h4 : Keeps s0 v3 := by
      refine State.coreEnds_keeps ?_
      exact h2
    clear_value v3
    extract_lets -underBinder -merge -useContext +onlyGivenNames v5
    clear_value v5
    extract_lets -underBinder -merge -useContext +onlyGivenNames v6
    have h7 : Keeps s0 v6 := by
      refine State.setCore_keeps ?_
      exact h4
    clear_value v6
    refine State.setBit_keeps ?_
    refine State.set_keeps ?_
    exact h7

theorem State.coreBack_keeps {s0} {a1} {a2} (g1 : Keeps s0 a1) : Keeps s0 (State.coreBack a1 a2) := by
  unfold State.coreBack
  refine Keeps.ite ?_ ?_
  · exact g1
  · extract_lets -underBinder -merge -useContext +onlyGivenNames v1
    clear_value v1
    extract_lets -underBinder -merge -useContext +onlyGivenNames v2
    have h3 : Keeps s0 v2 := by
      refine State.setCore_keeps ?_
      exact g1
    clear_value v2
    refine State.dispatchAll_keeps ?_
    refine State.setBit_keeps ?_
    refine State.set_keeps ?_
    exact h3

theorem State.schedCntClear_keeps {s0} {a1} (g1 : Keeps s0 a1) : Keeps s0 (State.schedCntClear a1) := by
  unfold State.schedCntClear
  extract_lets -underBinder -merge -useContext +onlyGivenNames v1
  have h2 : Keeps s0 v1 := by
    refine State.clearAll_keeps ?_
    exact g1
  clear_value v1
  refine Keeps.each ?_ fun s3 x4 h5 => ?_
  · exact h2
  · refine State.clearAll_keeps ?_
    exact h5

theorem State.senseSag_keeps {s0} {a1} {a2} {a3} (g1 : Keeps s0 a1) : Keeps s0 (State.senseSag a1 a2 a3) := by
  unfold State.senseSag
  extract_lets -underBinder -merge -useContext +onlyGivenNames v1
  clear_value v1
  extract_lets -underBinder -merge -useContext +onlyGivenNames v2
  clear_value v2
  extract_lets -underBinder -merge -useContext +onlyGivenNames v3
  have h4 : Keeps s0 v3 := by
    refine State.setB_keeps ?_
    refine State.setB_keeps ?_
    exact g1
  clear_value v3
  refine Keeps.parts ?_ rfl rfl
  exact h4

theorem State.droopRise_keeps {s0} {a1} {a2} {a3} (g1 : Keeps s0 a1) : Keeps s0 (State.droopRise a1 a2 a3) := by
  unfold State.droopRise
  extract_lets -underBinder -merge -useContext +onlyGivenNames v1
  have h2 : Keeps s0 v1 := by
    refine State.senseSag_keeps ?_
    exact g1
  clear_value v1
  extract_lets -underBinder -merge -useContext +onlyGivenNames v3
  clear_value v3
  extract_lets -underBinder -merge -useContext +onlyGivenNames v4
  clear_value v4
  refine Keeps.ite ?_ ?_
  · exact h2
  · extract_lets -underBinder -merge -useContext +onlyGivenNames v5
    have h6 : Keeps s0 v5 := by
      refine Keeps.ite ?_ ?_
      · refine State.bump_keeps ?_
        exact h2
      · exact h2
    clear_value v5
    refine State.set_keeps ?_
    refine State.set_keeps ?_
    exact h6

theorem State.droopStep_keeps {s0} {a1} {a2} {a3} (g1 : Keeps s0 a1) : Keeps s0 (State.droopStep a1 a2 a3) := by
  unfold State.droopStep
  extract_lets -underBinder -merge -useContext +onlyGivenNames v1
  have h2 : Keeps s0 v1 := by
    refine State.droopRise_keeps ?_
    exact g1
  clear_value v1
  extract_lets -underBinder -merge -useContext +onlyGivenNames v3
  clear_value v3
  refine Keeps.ite ?_ ?_
  · refine State.set_keeps ?_
    exact h2
  · exact h2

theorem State.powerAdd_keeps {s0} {a1} {a2} (g1 : Keeps s0 a1) : Keeps s0 (State.powerAdd a1 a2) := by
  unfold State.powerAdd
  extract_lets -underBinder -merge -useContext +onlyGivenNames v1
  have h2 : Keeps s0 v1 := by
    refine Keeps.each ?_ fun s3 x4 h5 => ?_
    · exact g1
    · extract_lets -underBinder -merge -useContext +onlyGivenNames v6
      clear_value v6
      refine State.set64_keeps ?_
      exact h5
  clear_value v1
  refine Keeps.ite ?_ ?_
  · refine State.bump_keeps ?_
    exact h2
  · exact h2

theorem State.powerWindow_keeps {s0} {a1} (g1 : Keeps s0 a1) : Keeps s0 (State.powerWindow a1) := by
  unfold State.powerWindow
  extract_lets -underBinder -merge -useContext +onlyGivenNames v1
  clear_value v1
  extract_lets -underBinder -merge -useContext +onlyGivenNames v2
  clear_value v2
  extract_lets -underBinder -merge -useContext +onlyGivenNames v3
  clear_value v3
  extract_lets -underBinder -merge -useContext +onlyGivenNames v4
  clear_value v4
  extract_lets -underBinder -merge -useContext +onlyGivenNames v5
  clear_value v5
  extract_lets -underBinder -merge -useContext +onlyGivenNames v6
  clear_value v6
  extract_lets -underBinder -merge -useContext +onlyGivenNames v7
  clear_value v7
  extract_lets -underBinder -merge -useContext +onlyGivenNames v8
  have h9 : Keeps s0 v8 := by
    refine State.setB_keeps ?_
    refine State.set_keeps ?_
    exact g1
  clear_value v8
  extract_lets -underBinder -merge -useContext +onlyGivenNames v10
  have h11 : Keeps s0 v10 := by
    refine Keeps.ite ?_ ?_
    · refine State.bump_keeps ?_
      exact h9
    · refine Keeps.ite ?_ ?_
      · refine State.bump_keeps ?_
        refine State.set_keeps ?_
        exact h9
      · refine Keeps.ite ?_ ?_
        · refine State.set_keeps ?_
          exact h9
        · exact h9
  clear_value v10
  refine State.powerBegin_keeps ?_
  exact h11

theorem State.clkCntClear_keeps {s0} {a1} (g1 : Keeps s0 a1) : Keeps s0 (State.clkCntClear a1) := by
  unfold State.clkCntClear
  refine State.clearAll_keeps ?_
  exact g1

theorem execItemReady_keeps {s0} {a1} {a2} {a3} {a4} {a5} {a6} {a7} {a8} (g8 : Keeps s0 a8) : KeepsN s0 (execItemReady a1 a2 a3 a4 a5 a6 a7 a8) := by
  unfold execItemReady
  refine KeepsN.next ?_
  refine State.submit_keeps ?_
  exact g8

theorem execItemComplete_keeps {s0} {a1} {a2} {a3} (g3 : Keeps s0 a3) : KeepsN s0 (execItemComplete a1 a2 a3) := by
  unfold execItemComplete
  refine KeepsN.next ?_
  refine State.itemDone_keeps ?_
  exact g3

theorem execItemCancel_keeps {s0} {a1} {a2} (g2 : Keeps s0 a2) : KeepsN s0 (execItemCancel a1 a2) := by
  unfold execItemCancel
  refine KeepsN.next ?_
  refine State.cancelItem_keeps ?_
  exact g2

theorem execOverdueSweep_keeps {s0} {a1} (g1 : Keeps s0 a1) : KeepsN s0 (execOverdueSweep a1) := by
  unfold execOverdueSweep
  refine KeepsN.next ?_
  refine State.sweep_keeps ?_
  exact g1

theorem execItemLimitExpiry_keeps {s0} {a1} {a2} (g2 : Keeps s0 a2) : KeepsN s0 (execItemLimitExpiry a1 a2) := by
  unfold execItemLimitExpiry
  refine KeepsN.next ?_
  refine State.itemLimit_keeps ?_
  exact g2

theorem execCoreResetComplete_keeps {s0} {a1} {a2} (g2 : Keeps s0 a2) : KeepsN s0 (execCoreResetComplete a1 a2) := by
  unfold execCoreResetComplete
  refine KeepsN.next ?_
  refine State.coreBack_keeps ?_
  exact g2

theorem execDroopLevelRise_keeps {s0} {a1} {a2} {a3} (g3 : Keeps s0 a3) : KeepsN s0 (execDroopLevelRise a1 a2 a3) := by
  unfold execDroopLevelRise
  refine KeepsN.next ?_
  refine State.droopRise_keeps ?_
  exact g3

theorem execDroopRecoveryStep_keeps {s0} {a1} {a2} {a3} (g3 : Keeps s0 a3) : KeepsN s0 (execDroopRecoveryStep a1 a2 a3) := by
  unfold execDroopRecoveryStep
  refine KeepsN.next ?_
  refine State.droopStep_keeps ?_
  exact g3

theorem execPowerCounterUpdate_keeps {s0} {a1} {a2} (g2 : Keeps s0 a2) : KeepsN s0 (execPowerCounterUpdate a1 a2) := by
  unfold execPowerCounterUpdate
  refine KeepsN.next ?_
  refine State.powerAdd_keeps ?_
  exact g2

theorem execPowerWindowEnd_keeps {s0} {a1} (g1 : Keeps s0 a1) : KeepsN s0 (execPowerWindowEnd a1) := by
  unfold execPowerWindowEnd
  refine KeepsN.next ?_
  refine State.powerWindow_keeps ?_
  exact g1

end Sys2Proof.Machine
end

