-- ==== Sys2Proof/Laws/KeepsInteg.lean ====
section
/-!
SUPPORT. What the operations of Machine/Integ.lean do to the queue, the fuses and the tables.
-/

namespace Sys2Proof.Machine

theorem State.scrubPass_keeps {s0} {a1} {a2} (g1 : Keeps s0 a1) : Keeps s0 (State.scrubPass a1 a2) := by
  unfold State.scrubPass
  extract_lets -underBinder -merge -useContext +onlyGivenNames v1
  have h2 : Keeps s0 v1 := by
    refine Keeps.each ?_ fun s3 x4 h5 => ?_
    · exact g1
    · split
      · refine State.bump_keeps ?_
        exact h5
      · refine State.eccLost_keeps ?_
        exact h5
      · exact h5
      · exact h5
      · refine State.eccLost_keeps ?_
        exact h5
  clear_value v1
  refine State.bump_keeps ?_
  exact h2

theorem State.patrolPass_keeps {s0} {a1} {a2} {a3} (g1 : Keeps s0 a1) : Keeps s0 (State.patrolPass a1 a2 a3) := by
  unfold State.patrolPass
  refine Keeps.ite ?_ ?_
  · exact g1
  · extract_lets -underBinder -merge -useContext +onlyGivenNames v1
    have h2 : Keeps s0 v1 := by
      refine State.bump_keeps ?_
      exact g1
    clear_value v1
    extract_lets -underBinder -merge -useContext +onlyGivenNames v3
    have h4 : Keeps s0 v3 := by
      refine Keeps.each ?_ fun s5 x6 h7 => ?_
      · exact h2
      · refine State.set_keeps ?_
        refine State.bump_keeps ?_
        exact h7
    clear_value v3
    refine State.bump_keeps ?_
    exact h4

theorem State.integCntClear_keeps {s0} {a1} (g1 : Keeps s0 a1) : Keeps s0 (State.integCntClear a1) := by
  unfold State.integCntClear
  extract_lets -underBinder -merge -useContext +onlyGivenNames v1
  have h2 : Keeps s0 v1 := by
    refine Keeps.each ?_ fun s3 x4 h5 => ?_
    · exact g1
    · refine State.clearAll_keeps ?_
      exact h5
  clear_value v1
  refine State.clearAll_keeps ?_
  exact h2

theorem State.chkSet_keeps {s0} {a1} {a2} {a3} (g1 : Keeps s0 a1) : Keeps s0 (State.chkSet a1 a2 a3) := by
  unfold State.chkSet
  refine State.set_keeps ?_
  refine State.setChk_keeps ?_
  exact g1

theorem State.chkInit_keeps {s0} {a1} {a2} (g1 : Keeps s0 a1) : Keeps s0 (State.chkInit a1 a2) := by
  unfold State.chkInit
  refine State.clearAll_keeps ?_
  refine State.chkSet_keeps ?_
  exact g1

theorem State.chkFeed_keeps {s0} {a1} {a2} {a3} (g1 : Keeps s0 a1) : Keeps s0 (State.chkFeed a1 a2 a3) := by
  unfold State.chkFeed
  refine State.chkSet_keeps ?_
  exact g1

theorem State.chkDone_keeps {s0} {a1} {a2} (g1 : Keeps s0 a1) : Keeps s0 (State.chkDone a1 a2) := by
  unfold State.chkDone
  extract_lets -underBinder -merge -useContext +onlyGivenNames v1
  have h2 : Keeps s0 v1 := by
    refine State.setB_keeps ?_
    exact g1
  clear_value v1
  refine Keeps.ite ?_ ?_
  · exact h2
  · refine Keeps.ite ?_ ?_
    · refine State.bump_keeps ?_
      exact h2
    · extract_lets -underBinder -merge -useContext +onlyGivenNames v3
      have h4 : Keeps s0 v3 := by
        refine State.setB_keeps ?_
        refine State.bump_keeps ?_
        exact h2
      clear_value v3
      refine State.submit_keeps ?_
      exact h4

theorem State.chkData_keeps {s0} {a1} {a2} {a3} (g1 : Keeps s0 a1) : KeepsO s0 (State.chkData a1 a2 a3) := by
  unfold State.chkData
  refine KeepsO.ite ?_ ?_
  · exact KeepsO.none
  · refine KeepsO.ite ?_ ?_
    · refine KeepsO.some ?_
      exact g1
    · refine KeepsO.some ?_
      refine State.chkFeed_keeps ?_
      exact g1

theorem State.chkFinish_keeps {s0} {a1} {a2} (g1 : Keeps s0 a1) : KeepsO s0 (State.chkFinish a1 a2) := by
  unfold State.chkFinish
  refine KeepsO.ite ?_ ?_
  · exact KeepsO.none
  · refine KeepsO.ite ?_ ?_
    · refine KeepsO.some ?_
      exact g1
    · refine KeepsO.some ?_
      refine State.chkDone_keeps ?_
      exact g1

theorem State.chkStart_keeps {s0} {a1} {a2} (g1 : Keeps s0 a1) : KeepsO s0 (State.chkStart a1 a2) := by
  unfold State.chkStart
  refine KeepsO.ite ?_ ?_
  · exact KeepsO.none
  · refine KeepsO.ite ?_ ?_
    · refine KeepsO.some ?_
      exact g1
    · refine KeepsO.some ?_
      refine State.setB_keeps ?_
      exact g1

theorem State.chkAbort_keeps {s0} {a1} {a2} (g1 : Keeps s0 a1) : Keeps s0 (State.chkAbort a1 a2) := by
  unfold State.chkAbort
  refine Keeps.ite ?_ ?_
  · split
    rename_i x2 x3 q7
    have e6 : _ = x3 := congrArg Prod.snd q7
    have h1 : Keeps s0 x3 := by
      rw [← e6]
      refine State.free_keeps ?_
      exact g1
    extract_lets -underBinder -merge -useContext +onlyGivenNames v4
    have h5 : Keeps s0 v4 := by
      refine State.setReg_keeps ?_
      refine State.setChk_keeps ?_
      exact h1
    clear_value v4
    refine State.setB_keeps ?_
    refine State.setB_keeps ?_
    exact h5
  · refine State.setB_keeps ?_
    exact g1

theorem State.chkRefuse_keeps {s0} {a1} {a2} (g1 : Keeps s0 a1) : Keeps s0 (State.chkRefuse a1 a2) := by
  unfold State.chkRefuse
  refine State.setB_keeps ?_
  exact g1

theorem State.chkCntClear_keeps {s0} {a1} {a2} (g1 : Keeps s0 a1) : Keeps s0 (State.chkCntClear a1 a2) := by
  unfold State.chkCntClear
  refine State.clearAll_keeps ?_
  exact g1

theorem execSramScrubPass_keeps {s0} {a1} {a2} (g2 : Keeps s0 a2) : KeepsN s0 (execSramScrubPass a1 a2) := by
  unfold execSramScrubPass
  refine KeepsN.next ?_
  refine State.scrubPass_keeps ?_
  exact g2

theorem execRecPatrolPass_keeps {s0} {a1} {a2} {a3} (g3 : Keeps s0 a3) : KeepsN s0 (execRecPatrolPass a1 a2 a3) := by
  unfold execRecPatrolPass
  refine KeepsN.next ?_
  refine State.patrolPass_keeps ?_
  exact g3

end Sys2Proof.Machine
end

