-- ==== Sys2Proof/Laws/KeepsMgmt.lean ====
section
/-!
SUPPORT. What the operations of Machine/Mgmt.lean do to the queue, the fuses and the tables.
-/

namespace Sys2Proof.Machine

theorem State.mgmtRead_keeps {s0} {a1} {a2} {a3} (g1 : Keeps s0 a1) : Keeps s0 (State.mgmtRead a1 a2 a3).2.2 := by
  unfold State.mgmtRead
  refine Keeps.ite3 ?_ ?_
  · refine Keeps.mk3 ?_
    refine Keeps.mk2 ?_
    exact g1
  · refine Keeps.ite3 ?_ ?_
    · refine Keeps.mk3 ?_
      refine Keeps.mk2 ?_
      exact g1
    · refine Keeps.ite3 ?_ ?_
      · refine Keeps.mk3 ?_
        refine Keeps.mk2 ?_
        exact g1
      · refine Keeps.ite3 ?_ ?_
        · refine Keeps.mk3 ?_
          refine Keeps.mk2 ?_
          refine State.setPath_keeps ?_
          exact g1
        · refine Keeps.ite3 ?_ ?_
          · extract_lets -underBinder -merge -useContext +onlyGivenNames v1
            have h2 : Keeps s0 v1 := by
              refine State.drawChallenge_keeps ?_
              exact g1
            clear_value v1
            refine Keeps.mk3 ?_
            refine Keeps.mk2 ?_
            exact h2
          · extract_lets -underBinder -merge -useContext +onlyGivenNames v3
            clear_value v3
            refine Keeps.mk3 ?_
            refine Keeps.mk2 ?_
            exact g1

theorem State.refuseTick_keeps {s0} {a1} {a2} {a3} (g1 : Keeps s0 a1) : KeepsP s0 (State.refuseTick a1 a2 a3) := by
  unfold State.refuseTick
  refine KeepsP.ite ?_ ?_
  · refine KeepsP.ite ?_ ?_
    · refine KeepsP.some ?_
      refine Keeps.mk2 ?_
      exact g1
    · exact KeepsP.none
  · extract_lets -underBinder -merge -useContext +onlyGivenNames v1
    extract_lets -underBinder -merge -useContext +onlyGivenNames v2
    refine KeepsP.ite ?_ ?_
    · refine KeepsP.some ?_
      refine Keeps.mk2 ?_
      exact g1
    · refine KeepsP.ite ?_ ?_
      · extract_lets -underBinder -merge -useContext +onlyGivenNames v3
        have h4 : Keeps s0 v3.2 := by
          refine State.commit_keeps ?_
          exact g1
        clear_value v3
        refine KeepsP.ite ?_ ?_
        · exact KeepsP.none
        · refine KeepsP.some ?_
          refine Keeps.mk2 ?_
          exact h4
      · exact KeepsP.none

theorem State.refuseCtx_keeps {s0} {a1} {a2} {a3} {a4} (g1 : Keeps s0 a1) : KeepsP s0 (State.refuseCtx a1 a2 a3 a4) := by
  unfold State.refuseCtx
  refine KeepsP.ite ?_ ?_
  · extract_lets -underBinder -merge -useContext +onlyGivenNames v1
    clear_value v1
    refine KeepsP.ite ?_ ?_
    · refine KeepsP.some ?_
      refine Keeps.mk2 ?_
      exact g1
    · exact KeepsP.none
  · refine KeepsP.ite ?_ ?_
    · refine KeepsP.ite ?_ ?_
      · exact KeepsP.none
      · refine KeepsP.some ?_
        refine Keeps.mk2 ?_
        exact g1
    · refine KeepsP.ite ?_ ?_
      · refine KeepsP.some ?_
        refine Keeps.mk2 ?_
        exact g1
      · exact KeepsP.none

theorem State.refuseTime_keeps {s0} {a1} {a2} {a3} (g1 : Keeps s0 a1) : KeepsP s0 (State.refuseTime a1 a2 a3) := by
  unfold State.refuseTime
  refine KeepsP.ite ?_ ?_
  · refine KeepsP.ite ?_ ?_
    · refine KeepsP.some ?_
      refine Keeps.mk2 ?_
      refine State.timeStep_keeps ?_
      exact g1
    · exact KeepsP.none
  · refine KeepsP.ite ?_ ?_
    · exact KeepsP.none
    · refine KeepsP.some ?_
      refine Keeps.mk2 ?_
      refine State.timeSet_keeps ?_
      exact g1

theorem State.refuseRec_keeps {s0} {a1} {a2} (g1 : Keeps s0 a1) : KeepsP s0 (State.refuseRec a1 a2) := by
  unfold State.refuseRec
  extract_lets -underBinder -merge -useContext +onlyGivenNames v1
  clear_value v1
  extract_lets -underBinder -merge -useContext +onlyGivenNames v2
  clear_value v2
  extract_lets -underBinder -merge -useContext +onlyGivenNames v3
  clear_value v3
  refine KeepsP.ite ?_ ?_
  · refine KeepsP.some ?_
    refine Keeps.mk2 ?_
    exact g1
  · refine KeepsP.ite ?_ ?_
    · refine KeepsP.some ?_
      refine Keeps.mk2 ?_
      exact g1
    · exact KeepsP.none

theorem State.refuseSafe_keeps {s0} {a1} {a2} {a3} (g1 : Keeps s0 a1) : KeepsP s0 (State.refuseSafe a1 a2 a3) := by
  unfold State.refuseSafe
  refine KeepsP.ite ?_ ?_
  · refine KeepsP.ite ?_ ?_
    · refine KeepsP.some ?_
      refine Keeps.mk2 ?_
      refine State.sbkClear_keeps ?_
      exact g1
    · refine KeepsP.ite ?_ ?_
      · refine KeepsP.some ?_
        refine Keeps.mk2 ?_
        exact g1
      · exact KeepsP.none
  · refine KeepsP.ite ?_ ?_
    · extract_lets -underBinder -merge -useContext +onlyGivenNames v1
      clear_value v1
      refine KeepsP.ite ?_ ?_
      · exact KeepsP.none
      · refine KeepsP.some ?_
        refine Keeps.mk2 ?_
        refine Keeps.each ?_ fun s2 x3 h4 => ?_
        · exact g1
        · refine State.setBit_keeps ?_
          exact h4
    · refine KeepsP.ite ?_ ?_
      · refine KeepsP.some ?_
        refine Keeps.mk2 ?_
        exact g1
      · exact KeepsP.none

theorem State.refuseBoot_keeps {s0} {a1} {a2} {a3} (g1 : Keeps s0 a1) : KeepsP s0 (State.refuseBoot a1 a2 a3) := by
  unfold State.refuseBoot
  refine KeepsP.ite ?_ ?_
  · extract_lets -underBinder -merge -useContext +onlyGivenNames v1
    clear_value v1
    extract_lets -underBinder -merge -useContext +onlyGivenNames v2
    have h3 : Keeps s0 v2 := by
      refine Keeps.ite ?_ ?_
      · refine State.lcArm_keeps ?_
        exact g1
      · exact g1
    clear_value v2
    refine KeepsP.ite ?_ ?_
    · refine KeepsP.some ?_
      refine Keeps.mk2 ?_
      refine State.lcCommit_keeps ?_
      exact h3
    · exact KeepsP.none
  · refine KeepsP.ite ?_ ?_
    · refine KeepsP.some ?_
      refine Keeps.mk2 ?_
      refine State.setB_keeps ?_
      exact g1
    · exact KeepsP.none

theorem State.refuseChk_keeps {s0} {a1} {a2} {a3} {a4} (g1 : Keeps s0 a1) : KeepsP s0 (State.refuseChk a1 a2 a3 a4) := by
  unfold State.refuseChk
  refine KeepsP.ite ?_ ?_
  · refine KeepsP.ite ?_ ?_
    · exact KeepsP.none
    · refine KeepsP.some ?_
      refine Keeps.mk2 ?_
      exact g1
  · refine KeepsP.ite ?_ ?_
    · exact KeepsP.none
    · refine KeepsP.ite ?_ ?_
      · refine KeepsP.some ?_
        refine Keeps.mk2 ?_
        refine State.chkRefuse_keeps ?_
        exact g1
      · extract_lets -underBinder -merge -useContext +onlyGivenNames v1
        clear_value v1
        refine KeepsP.ite ?_ ?_
        · refine KeepsP.some ?_
          refine Keeps.mk2 ?_
          refine State.chkRefuse_keeps ?_
          exact g1
        · exact KeepsP.none

theorem State.ownRefusal_keeps {s0} {a1} {a2} {a3} {a4} {a5} (g1 : Keeps s0 a1) : KeepsP s0 (State.ownRefusal a1 a2 a3 a4 a5) := by
  unfold State.ownRefusal
  refine KeepsP.ite ?_ ?_
  · refine KeepsP.some ?_
    refine Keeps.mk2 ?_
    exact g1
  · refine KeepsP.ite ?_ ?_
    · refine KeepsP.ite ?_ ?_
      · refine KeepsP.some ?_
        refine Keeps.mk2 ?_
        refine State.refuseLane_keeps ?_
        exact g1
      · exact KeepsP.none
    · refine KeepsP.ite ?_ ?_
      · refine KeepsP.ite ?_ ?_
        · refine KeepsP.some ?_
          refine Keeps.mk2 ?_
          exact g1
        · refine KeepsP.ite ?_ ?_
          · refine KeepsP.some ?_
            refine Keeps.mk2 ?_
            exact g1
          · exact KeepsP.none
      · refine KeepsP.ite ?_ ?_
        · refine KeepsP.ite ?_ ?_
          · refine KeepsP.some ?_
            refine Keeps.mk2 ?_
            refine State.calStart_keeps ?_
            exact g1
          · exact KeepsP.none
        · refine KeepsP.ite ?_ ?_
          · refine State.refuseTick_keeps ?_
            exact g1
          · refine KeepsP.ite ?_ ?_
            · refine KeepsP.ite ?_ ?_
              · refine KeepsP.some ?_
                refine Keeps.mk2 ?_
                refine State.haltRequest_keeps ?_
                exact g1
              · exact KeepsP.none
            · refine KeepsP.ite ?_ ?_
              · refine State.refuseCtx_keeps ?_
                exact g1
              · refine KeepsP.ite ?_ ?_
                · refine KeepsP.ite ?_ ?_
                  · refine KeepsP.some ?_
                    refine Keeps.mk2 ?_
                    exact g1
                  · refine KeepsP.ite ?_ ?_
                    · refine KeepsP.some ?_
                      refine Keeps.mk2 ?_
                      exact g1
                    · exact KeepsP.none
                · refine KeepsP.ite ?_ ?_
                  · refine State.refuseTime_keeps ?_
                    exact g1
                  · refine KeepsP.ite ?_ ?_
                    · refine State.refuseRec_keeps ?_
                      exact g1
                    · refine KeepsP.ite ?_ ?_
                      · refine State.refuseSafe_keeps ?_
                        exact g1
                      · refine KeepsP.ite ?_ ?_
                        · refine State.refuseBoot_keeps ?_
                          exact g1
                        · refine KeepsP.ite ?_ ?_
                          · refine State.refuseChk_keeps ?_
                            exact g1
                          · exact KeepsP.none

theorem State.refusalMark_keeps {s0} {a1} {a2} {a3} {a4} {a5} (g1 : Keeps s0 a1) : Keeps s0 (State.refusalMark a1 a2 a3 a4 a5) := by
  unfold State.refusalMark
  refine Keeps.ite ?_ ?_
  · refine Keeps.ite ?_ ?_
    · refine State.refuseLane_keeps ?_
      exact g1
    · exact g1
  · refine Keeps.ite ?_ ?_
    · refine State.commit_keeps ?_
      exact g1
    · refine Keeps.ite ?_ ?_
      · refine State.haltRequest_keeps ?_
        exact g1
      · refine Keeps.ite ?_ ?_
        · refine State.setB_keeps ?_
          exact g1
        · exact g1

theorem State.ifBit_keeps {s0} {a1} {a2} {a3} {a4} (g1 : Keeps s0 a1) (g4 : ∀ y1, Keeps s0 y1 → Keeps s0 (a4 y1)) : Keeps s0 (State.ifBit a1 a2 a3 a4) := by
  unfold State.ifBit
  refine Keeps.ite ?_ ?_
  · refine g4 _ ?_
    exact g1
  · exact g1

theorem State.urgentWith_keeps {s0} {a1} {a2} (g1 : Keeps s0 a1) : Keeps s0 (State.urgentWith a1 a2) := by
  unfold State.urgentWith
  split
  · refine State.urgent_keeps ?_
    exact g1
  · extract_lets -underBinder -merge -useContext +onlyGivenNames v1
    have h2 : Keeps s0 v1.2 := by
      exact Keeps.foldl2 g1 fun p x h => State.free_keeps h
    clear_value v1
    refine State.urgent_keeps ?_
    exact h2

theorem State.presetWrite_keeps {s0} {a1} {a2} {a3} {a4} (g1 : Keeps s0 a1) : Keeps s0 (State.presetWrite a1 a2 a3 a4) := by
  unfold State.presetWrite
  refine Keeps.ite ?_ ?_
  · refine State.presetLane_keeps ?_
    exact g1
  · exact g1

theorem State.actTick_keeps {s0} {a1} {a2} {a3} {a4} {a5} {a6} (g1 : Keeps s0 a1) : Keeps s0 (State.actTick a1 a2 a3 a4 a5 a6) := by
  unfold State.actTick
  extract_lets -underBinder -merge -useContext +onlyGivenNames v1
  have h2 : ∀ x3 x4, (∀ y1, Keeps s0 y1 → Keeps s0 (x4 y1)) → Keeps s0 (v1 x3 x4) := by
    intro x3 x4 h5
    dsimp -zeta only [v1]
    refine State.ifBit_keeps ?_ ?_
    · exact g1
    · intro x6 h7
      refine h5 _ ?_
      exact h7
  clear_value v1
  refine Keeps.ite ?_ ?_
  · extract_lets -underBinder -merge -useContext +onlyGivenNames v8
    have h9 : Keeps s0 v8 := by
      refine Keeps.ite ?_ ?_
      · exact g1
      · refine State.enableWrite_keeps ?_
        exact g1
    clear_value v8
    refine State.ifBit_keeps ?_ ?_
    · refine State.ifBit_keeps ?_ ?_
      · refine State.presetWrite_keeps ?_
        exact h9
      · intro x10 h11
        refine State.retrain_keeps ?_
        exact h11
    · intro x12 h13
      refine State.bitSlip_keeps ?_
      exact h13
  · refine Keeps.ite ?_ ?_
    · refine h2 _ _ ?_
      intro x14 h15
      refine State.laneCntClear_keeps ?_
      exact h15
    · refine Keeps.ite ?_ ?_
      · refine h2 _ _ ?_
        intro x16 h17
        refine State.linkCntClear_keeps ?_
        exact h17
      · refine Keeps.ite ?_ ?_
        · refine State.ifBit_keeps ?_ ?_
          · refine h2 _ _ ?_
            intro x18 h19
            refine State.catCntClear_keeps ?_
            exact h19
          · intro x20 h21
            refine State.runAll_keeps ?_
            exact h21
        · refine Keeps.ite ?_ ?_
          · refine h2 _ _ ?_
            intro x22 h23
            refine State.obsCntClear_keeps ?_
            exact h23
          · refine Keeps.ite ?_ ?_
            · refine h2 _ _ ?_
              intro x24 h25
              refine State.selCntClear_keeps ?_
              exact h25
            · refine Keeps.ite ?_ ?_
              · refine h2 _ _ ?_
                intro x26 h27
                refine State.edgeCntClear_keeps ?_
                exact h27
              · refine Keeps.ite ?_ ?_
                · refine Keeps.getD ?_ ?_
                  · refine State.stageWrite_keeps ?_
                    exact g1
                  · exact g1
                · refine Keeps.ite ?_ ?_
                  · refine State.ifBit_keeps ?_ ?_
                    · refine h2 _ _ ?_
                      intro x28 h29
                      refine State.commit_keeps ?_
                      exact h29
                    · intro x30 h31
                      refine Keeps.getD ?_ ?_
                      · refine State.discard_keeps ?_
                        exact h31
                      · exact h31
                  · refine Keeps.ite ?_ ?_
                    · refine h2 _ _ ?_
                      intro x32 h33
                      refine State.clearAll_keeps ?_
                      exact h33
                    · refine Keeps.ite ?_ ?_
                      · refine State.ifBit_keeps ?_ ?_
                        · refine h2 _ _ ?_
                          intro x34 h35
                          refine State.haltRequest_keeps ?_
                          exact h35
                        · intro x36 h37
                          refine State.resume_keeps ?_
                          exact h37
                      · extract_lets -underBinder -merge -useContext +onlyGivenNames v38
                        have h39 : Keeps s0 v38 := by
                          refine h2 _ _ ?_
                          intro x40 h41
                          refine State.adcCntClear_keeps ?_
                          exact h41
                        clear_value v38
                        extract_lets -underBinder -merge -useContext +onlyGivenNames v42
                        have h43 : Keeps s0 v42 := by
                          refine State.ifBit_keeps ?_ ?_
                          · exact h39
                          · intro x44 h45
                            refine State.calStart_keeps ?_
                            exact h45
                        clear_value v42
                        refine State.ifBit_keeps ?_ ?_
                        · exact h43
                        · intro x46 h47
                          refine State.urgentWith_keeps ?_
                          exact h47

theorem State.actLoop_keeps {s0} {a1} {a2} {a3} {a4} {a5} (g1 : Keeps s0 a1) : Keeps s0 (State.actLoop a1 a2 a3 a4 a5) := by
  unfold State.actLoop
  extract_lets -underBinder -merge -useContext +onlyGivenNames v1
  have h2 : ∀ x3 x4, (∀ y1, Keeps s0 y1 → Keeps s0 (x4 y1)) → Keeps s0 (v1 x3 x4) := by
    intro x3 x4 h5
    dsimp -zeta only [v1]
    refine State.ifBit_keeps ?_ ?_
    · exact g1
    · intro x6 h7
      refine h5 _ ?_
      exact h7
  clear_value v1
  refine Keeps.ite ?_ ?_
  · extract_lets -underBinder -merge -useContext +onlyGivenNames v8
    clear_value v8
    refine Keeps.ite ?_ ?_
    · exact g1
    · extract_lets -underBinder -merge -useContext +onlyGivenNames v9
      clear_value v9
      refine State.ctxAsk_keeps ?_
      refine State.set_keeps ?_
      exact g1
  · refine Keeps.ite ?_ ?_
    · extract_lets -underBinder -merge -useContext +onlyGivenNames v10
      have h11 : Keeps s0 v10 := by
        refine h2 _ _ ?_
        intro x12 h13
        refine State.ctxCntClear_keeps ?_
        exact h13
      clear_value v10
      extract_lets -underBinder -merge -useContext +onlyGivenNames v14
      have h15 : Keeps s0 v14 := by
        refine State.ifBit_keeps ?_ ?_
        · exact h11
        · intro x16 h17
          refine State.ctxAsk_keeps ?_
          exact h17
      clear_value v14
      extract_lets -underBinder -merge -useContext +onlyGivenNames v18
      have h19 : Keeps s0 v18 := by
        refine State.ifBit_keeps ?_ ?_
        · exact h15
        · intro x20 h21
          refine State.sealBlock_keeps ?_
          exact h21
      clear_value v18
      extract_lets -underBinder -merge -useContext +onlyGivenNames v22
      have h23 : Keeps s0 v22 := by
        refine State.ifBit_keeps ?_ ?_
        · exact h19
        · intro x24 h25
          refine State.injStop_keeps ?_
          exact h25
      clear_value v22
      refine State.ifBit_keeps ?_ ?_
      · exact h23
      · intro x26 h27
        refine Keeps.getD ?_ ?_
        · refine State.injStart_keeps ?_
          exact h27
        · exact h27
    · refine Keeps.ite ?_ ?_
      · refine h2 _ _ ?_
        intro x28 h29
        refine State.loopCntClear_keeps ?_
        exact h29
      · refine Keeps.ite ?_ ?_
        · extract_lets -underBinder -merge -useContext +onlyGivenNames v30
          have h31 : Keeps s0 v30 := by
            refine h2 _ _ ?_
            intro x32 h33
            refine State.twinCntClear_keeps ?_
            exact h33
          clear_value v30
          refine State.ifBit_keeps ?_ ?_
          · refine State.ifBit_keeps ?_ ?_
            · exact h31
            · intro x34 h35
              refine State.withdraw_keeps ?_
              exact h35
          · intro x36 h37
            refine State.rejoinRetry_keeps ?_
            exact h37
        · refine Keeps.ite ?_ ?_
          · refine h2 _ _ ?_
            intro x38 h39
            refine State.stnCntClear_keeps ?_
            exact h39
          · refine Keeps.ite ?_ ?_
            · refine h2 _ _ ?_
              intro x40 h41
              refine State.timeCntClear_keeps ?_
              exact h41
            · refine Keeps.ite ?_ ?_
              · refine State.timeStep_keeps ?_
                exact g1
              · refine Keeps.ite ?_ ?_
                · refine State.timeSet_keeps ?_
                  exact g1
                · refine Keeps.ite ?_ ?_
                  · refine h2 _ _ ?_
                    intro x42 h43
                    refine State.recCntClear_keeps ?_
                    exact h43
                  · refine Keeps.ite ?_ ?_
                    · refine State.windowSelect_keeps ?_
                      exact g1
                    · extract_lets -underBinder -merge -useContext +onlyGivenNames v44
                      clear_value v44
                      refine Keeps.getD ?_ ?_
                      · refine State.recOp_keeps ?_
                        exact g1
                      · exact g1

theorem State.actSafe_keeps {s0} {a1} {a2} {a3} {a4} (g1 : Keeps s0 a1) : Keeps s0 (State.actSafe a1 a2 a3 a4) := by
  unfold State.actSafe
  extract_lets -underBinder -merge -useContext +onlyGivenNames v1
  have h2 : ∀ x3 x4, (∀ y1, Keeps s0 y1 → Keeps s0 (x4 y1)) → Keeps s0 (v1 x3 x4) := by
    intro x3 x4 h5
    dsimp -zeta only [v1]
    refine State.ifBit_keeps ?_ ?_
    · exact g1
    · intro x6 h7
      refine h5 _ ?_
      exact h7
  clear_value v1
  refine Keeps.ite ?_ ?_
  · extract_lets -underBinder -merge -useContext +onlyGivenNames v8
    have h9 : Keeps s0 v8 := by
      refine h2 _ _ ?_
      intro x10 h11
      refine State.sbkClear_keeps ?_
      exact h11
    clear_value v8
    extract_lets -underBinder -merge -useContext +onlyGivenNames v12
    have h13 : Keeps s0 v12 := by
      refine State.ifBit_keeps ?_ ?_
      · exact h9
      · intro x14 h15
        refine State.requestSbk_keeps ?_
        exact h15
    clear_value v12
    extract_lets -underBinder -merge -useContext +onlyGivenNames v16
    have h17 : Keeps s0 v16 := by
      refine State.ifBit_keeps ?_ ?_
      · exact h13
      · intro x18 h19
        refine State.ilpRequest_keeps ?_
        exact h19
    clear_value v16
    extract_lets -underBinder -merge -useContext +onlyGivenNames v20
    have h21 : Keeps s0 v20 := by
      refine State.ifBit_keeps ?_ ?_
      · exact h17
      · intro x22 h23
        refine State.dropIlp_keeps ?_
        exact h23
    clear_value v20
    extract_lets -underBinder -merge -useContext +onlyGivenNames v24
    have h25 : Keeps s0 v24 := by
      refine Keeps.each ?_ fun s26 x27 h28 => ?_
      · exact h21
      · refine Keeps.ite ?_ ?_
        · refine State.sopClear_keeps ?_
          exact h28
        · exact h28
    clear_value v24
    refine State.ifBit_keeps ?_ ?_
    · exact h25
    · intro x29 h30
      refine State.safeCntClear_keeps ?_
      exact h30
  · refine Keeps.ite ?_ ?_
    · refine State.setB_keeps ?_
      exact g1
    · refine Keeps.ite ?_ ?_
      · extract_lets -underBinder -merge -useContext +onlyGivenNames v31
        clear_value v31
        refine State.ifBit_keeps ?_ ?_
        · refine h2 _ _ ?_
          intro x32 h33
          refine State.lcArm_keeps ?_
          exact h33
        · intro x34 h35
          refine State.lcCommit_keeps ?_
          exact h35
      · refine Keeps.ite ?_ ?_
        · refine State.ifBit_keeps ?_ ?_
          · refine h2 _ _ ?_
            intro x36 h37
            refine State.dbgRelock_keeps ?_
            exact h37
          · intro x38 h39
            refine State.dbgVerify_keeps ?_
            exact h39
        · refine Keeps.ite ?_ ?_
          · refine State.setReg_keeps ?_
            exact g1
          · refine Keeps.ite ?_ ?_
            · refine Keeps.getD ?_ ?_
              · refine State.nvmCommand_keeps ?_
                exact g1
              · exact g1
            · refine Keeps.ite ?_ ?_
              · refine h2 _ _ ?_
                intro x40 h41
                refine State.integCntClear_keeps ?_
                exact h41
              · refine Keeps.ite ?_ ?_
                · extract_lets -underBinder -merge -useContext +onlyGivenNames v42
                  have h43 : Keeps s0 v42 := by
                    refine h2 _ _ ?_
                    intro x44 h45
                    refine State.chkInit_keeps ?_
                    exact h45
                  clear_value v42
                  extract_lets -underBinder -merge -useContext +onlyGivenNames v46
                  have h47 : Keeps s0 v46 := by
                    refine State.ifBit_keeps ?_ ?_
                    · exact h43
                    · intro x48 h49
                      refine Keeps.getD ?_ ?_
                      · refine State.chkStart_keeps ?_
                        exact h49
                      · refine State.chkRefuse_keeps ?_
                        exact h49
                  clear_value v46
                  extract_lets -underBinder -merge -useContext +onlyGivenNames v50
                  have h51 : Keeps s0 v50 := by
                    refine State.ifBit_keeps ?_ ?_
                    · exact h47
                    · intro x52 h53
                      refine Keeps.getD ?_ ?_
                      · refine State.chkFinish_keeps ?_
                        exact h53
                      · refine State.chkRefuse_keeps ?_
                        exact h53
                  clear_value v50
                  refine State.ifBit_keeps ?_ ?_
                  · exact h51
                  · intro x54 h55
                    refine State.chkAbort_keeps ?_
                    exact h55
                · refine Keeps.ite ?_ ?_
                  · refine Keeps.getD ?_ ?_
                    · refine State.chkData_keeps ?_
                      exact g1
                    · exact g1
                  · refine Keeps.ite ?_ ?_
                    · refine h2 _ _ ?_
                      intro x56 h57
                      refine State.chkCntClear_keeps ?_
                      exact h57
                    · refine Keeps.ite ?_ ?_
                      · refine State.ifBit_keeps ?_ ?_
                        · refine h2 _ _ ?_
                          intro x58 h59
                          refine State.schedCntClear_keeps ?_
                          exact h59
                        · intro x60 h61
                          refine State.set_keeps ?_
                          exact h61
                      · refine h2 _ _ ?_
                        intro x62 h63
                        refine State.clkCntClear_keeps ?_
                        exact h63

theorem State.act_keeps {s0} {a1} {a2} {a3} {a4} {a5} {a6} (g1 : Keeps s0 a1) : Keeps s0 (State.act a1 a2 a3 a4 a5 a6) := by
  unfold State.act
  refine Keeps.ite ?_ ?_
  · refine State.actTick_keeps ?_
    exact g1
  · refine Keeps.ite ?_ ?_
    · refine State.actLoop_keeps ?_
      exact g1
    · refine Keeps.ite ?_ ?_
      · refine State.actSafe_keeps ?_
        exact g1
      · exact g1

theorem State.writeWord_keeps {s0} {a1} {a2} {a3} {a4} {a5} {a6} (g1 : Keeps s0 a1) : Keeps s0 (State.writeWord a1 a2 a3 a4 a5 a6).2 := by
  unfold State.writeWord
  extract_lets -underBinder -merge -useContext +onlyGivenNames v1
  clear_value v1
  extract_lets -underBinder -merge -useContext +onlyGivenNames v2
  clear_value v2
  refine Keeps.ite2 ?_ ?_
  · refine Keeps.mk2 ?_
    exact g1
  · extract_lets -underBinder -merge -useContext +onlyGivenNames v3
    clear_value v3
    refine Keeps.ite2 ?_ ?_
    · refine Keeps.mk2 ?_
      refine State.refusalMark_keeps ?_
      exact g1
    · split
      · rename_i r e
        exact State.ownRefusal_keeps g1 r e
      · extract_lets -underBinder -merge -useContext +onlyGivenNames v6
        have h7 : Keeps s0 v6 := by
          refine State.setReg_keeps ?_
          exact g1
        clear_value v6
        refine Keeps.mk2 ?_
        refine State.stored_keeps ?_
        refine State.act_keeps ?_
        exact h7

theorem State.writeCoef_keeps {s0} {a1} {a2} {a3} (g1 : Keeps s0 a1) : Keeps s0 (State.writeCoef a1 a2 a3).2 := by
  unfold State.writeCoef
  extract_lets -underBinder -merge -useContext +onlyGivenNames v1
  clear_value v1
  extract_lets -underBinder -merge -useContext +onlyGivenNames v2
  clear_value v2
  refine Keeps.ite2 ?_ ?_
  · refine Keeps.mk2 ?_
    exact g1
  · refine Keeps.ite2 ?_ ?_
    · refine Keeps.mk2 ?_
      exact g1
    · refine Keeps.ite2 ?_ ?_
      · refine Keeps.mk2 ?_
        exact g1
      · refine Keeps.ite2 ?_ ?_
        · refine Keeps.mk2 ?_
          exact g1
        · refine Keeps.mk2 ?_
          refine Keeps.each ?_ fun s3 x4 h5 => ?_
          · refine State.setReg_keeps ?_
            exact g1
          · refine State.coefTouched_keeps ?_
            exact h5

theorem State.writeLo_keeps {s0} {a1} {a2} {a3} {a4} {a5} (g1 : Keeps s0 a1) : Keeps s0 (State.writeLo a1 a2 a3 a4 a5).2 := by
  unfold State.writeLo
  extract_lets -underBinder -merge -useContext +onlyGivenNames v1
  clear_value v1
  extract_lets -underBinder -merge -useContext +onlyGivenNames v2
  clear_value v2
  refine Keeps.ite2 ?_ ?_
  · refine Keeps.mk2 ?_
    exact g1
  · refine Keeps.ite2 ?_ ?_
    · refine Keeps.mk2 ?_
      exact g1
    · refine Keeps.mk2 ?_
      refine State.setPath_keeps ?_
      exact g1

theorem State.writeHi_keeps {s0} {a1} {a2} {a3} {a4} {a5} {a6} (g1 : Keeps s0 a1) : Keeps s0 (State.writeHi a1 a2 a3 a4 a5 a6).2 := by
  unfold State.writeHi
  extract_lets v1 v2 v3 v4 v5
  refine Keeps.ite2 ?_ (Keeps.ite2 ?_ (Keeps.ite2 ?_ (Keeps.ite2 ?_ ?_)))
  · exact Keeps.mk2 (State.setPath_keeps g1)
  · exact Keeps.mk2 g1
  · exact Keeps.mk2 g1
  · refine Keeps.ite2 ?_ ?_
    · exact Keeps.mk2 (State.commitInc_keeps g1)
    · exact Keeps.mk2 (State.setPath_keeps (State.commitInc_keeps g1))
  · exact Keeps.mk2 (State.setPath_keeps (State.setReg_keeps (State.setReg_keeps g1)))

theorem State.writeExt_keeps {s0} {a1} {a2} {a3} {a4} (g1 : Keeps s0 a1) : Keeps s0 (State.writeExt a1 a2 a3 a4).2 := by
  unfold State.writeExt
  refine Keeps.ite2 ?_ ?_
  · refine Keeps.mk2 ?_
    exact g1
  · refine Keeps.ite2 ?_ ?_
    · refine Keeps.mk2 ?_
      refine State.setPath_keeps ?_
      exact g1
    · refine Keeps.ite2 ?_ ?_
      · extract_lets -underBinder -merge -useContext +onlyGivenNames v1
        clear_value v1
        refine Keeps.mk2 ?_
        refine State.setPath_keeps ?_
        refine State.set_keeps ?_
        refine State.setReg_keeps ?_
        exact g1
      · refine Keeps.ite2 ?_ ?_
        · refine Keeps.mk2 ?_
          exact g1
        · refine Keeps.mk2 ?_
          refine State.setReg_keeps ?_
          exact g1

theorem State.writeAt_keeps {s0} {a1} {a2} {a3} {a4} {a5} (g1 : Keeps s0 a1) : Keeps s0 (State.writeAt a1 a2 a3 a4 a5).2 := by
  unfold State.writeAt
  refine Keeps.ite2 ?_ ?_
  · refine State.writeCoef_keeps ?_
    exact g1
  · refine Keeps.ite2 ?_ ?_
    · refine State.writeExt_keeps ?_
      exact g1
    · split
      · refine Keeps.mk2 ?_
        exact g1
      · refine Keeps.ite2 ?_ ?_
        · refine State.writeLo_keeps ?_
          exact g1
        · refine Keeps.ite2 ?_ ?_
          · split
            · refine State.writeHi_keeps ?_
              exact g1
            · refine Keeps.mk2 ?_
              exact g1
          · refine State.writeWord_keeps ?_
            exact g1

theorem State.mgmtWrite_keeps {s0} {a1} {a2} {a3} {a4} {a5} (g1 : Keeps s0 a1) : Keeps s0 (State.mgmtWrite a1 a2 a3 a4 a5).2 := by
  unfold State.mgmtWrite
  extract_lets -underBinder -merge -useContext +onlyGivenNames v1
  have h2 : Keeps s0 v1.2 := by
    refine Keeps.ite2 ?_ ?_
    · refine Keeps.mk2 ?_
      exact g1
    · refine Keeps.ite2 ?_ ?_
      · refine Keeps.mk2 ?_
        exact g1
      · refine Keeps.ite2 ?_ ?_
        · refine Keeps.mk2 ?_
          exact g1
        · refine State.writeAt_keeps ?_
          exact g1
  clear_value v1
  refine Keeps.mk2 ?_
  refine State.setPath_keeps ?_
  exact h2

theorem State.wrote_keeps {s0} {a1} {a2} {a3} {a4} (g1 : Keeps s0 a1) : Keeps s0 (State.wrote a1 a2 a3 a4) := by
  unfold State.wrote
  refine State.mgmtWrite_keeps ?_
  exact g1

theorem State.wroteField_keeps {s0} {a1} {a2} {a3} {a4} {a5} {a6} (g1 : Keeps s0 a1) : Keeps s0 (State.wroteField a1 a2 a3 a4 a5 a6) := by
  unfold State.wroteField
  extract_lets -underBinder -merge -useContext +onlyGivenNames v1
  clear_value v1
  extract_lets -underBinder -merge -useContext +onlyGivenNames v2
  clear_value v2
  refine State.mgmtWrite_keeps ?_
  exact g1

end Sys2Proof.Machine
end

