-- ==== Sys2Proof/Laws/KeepsPorts.lean ====
section
/-!
SUPPORT. What the operations of Machine/Ports.lean do to the queue, the fuses and the tables.
-/

namespace Sys2Proof.Machine

theorem State.readWords_keeps {s0} {a1} {a2} {a3} {a4} (g1 : Keeps s0 a1) : Keeps s0 (State.readWords a1 a2 a3 a4).2 := by
  induction a4 generalizing a1 a3 with
  | zero => exact g1
  | succ n ih => exact ih (State.mgmtRead_keeps g1)

theorem State.writeWords_keeps {s0} {a1} {a2} {a3} (g1 : Keeps s0 a1) : Keeps s0 (State.writeWords a1 a2 a3).2 := by
  induction a3 generalizing a1 with
  | nil => exact g1
  | cons x l ih => exact ih (State.mgmtWrite_keeps g1)

theorem State.mgmtResp_keeps {s0} {a1} {a2} {a3} {a4} {a5} {a6} {a7} (g1 : Keeps s0 a1) : Keeps s0 (State.mgmtResp a1 a2 a3 a4 a5 a6 a7) := by
  unfold State.mgmtResp
  extract_lets -underBinder -merge -useContext +onlyGivenNames v1
  clear_value v1
  extract_lets -underBinder -merge -useContext +onlyGivenNames v2
  clear_value v2
  extract_lets -underBinder -merge -useContext +onlyGivenNames v3
  clear_value v3
  refine State.emit_keeps ?_
  exact g1

theorem State.mgmtIn_keeps {s0} {a1} {a2} {a3} {a4} {a5} {a6} {a7} (g1 : Keeps s0 a1) (g7 : ∀ y1 y2 y3, Keeps s0 y1 → Keeps s0 (a7 y1 y2 y3)) : Keeps s0 (State.mgmtIn a1 a2 a3 a4 a5 a6 a7) := by
  unfold State.mgmtIn
  split
  · refine State.msgBad_keeps ?_
    exact g1
  · extract_lets -underBinder -merge -useContext +onlyGivenNames v1
    clear_value v1
    extract_lets -underBinder -merge -useContext +onlyGivenNames v2
    clear_value v2
    refine Keeps.ite ?_ ?_
    · refine State.msgBad_keeps ?_
      exact g1
    · refine Keeps.ite ?_ ?_
      · refine State.nak_keeps ?_
        exact g1
      · refine Keeps.ite ?_ ?_
        · refine State.bump_keeps ?_
          exact g1
        · refine Keeps.ite ?_ ?_
          · refine State.bump_keeps ?_
            exact g1
          · refine Keeps.ite ?_ ?_
            · refine State.msgBad_keeps ?_
              exact g1
            · refine g7 _ _ _ ?_
              refine State.setSess_keeps ?_
              exact g1

theorem State.mgmtReadMsg_keeps {s0} {a1} {a2} {a3} {a4} (g1 : Keeps s0 a1) : Keeps s0 (State.mgmtReadMsg a1 a2 a3 a4) := by
  unfold State.mgmtReadMsg
  refine State.mgmtIn_keeps ?_ ?_
  · exact g1
  · intro x1 x3 x4 h2
    extract_lets -underBinder -merge -useContext +onlyGivenNames v5
    have h6 : Keeps s0 v5.2 := by
      refine State.readWords_keeps ?_
      exact h2
    clear_value v5
    refine State.mgmtResp_keeps ?_
    exact h6

theorem State.mgmtWriteMsg_keeps {s0} {a1} {a2} {a3} {a4} (g1 : Keeps s0 a1) : Keeps s0 (State.mgmtWriteMsg a1 a2 a3 a4) := by
  unfold State.mgmtWriteMsg
  refine State.mgmtIn_keeps ?_ ?_
  · exact g1
  · intro x1 x3 x4 h2
    extract_lets -underBinder -merge -useContext +onlyGivenNames v5
    clear_value v5
    extract_lets -underBinder -merge -useContext +onlyGivenNames v6
    have h7 : Keeps s0 v6.2 := by
      refine State.writeWords_keeps ?_
      exact h2
    clear_value v6
    refine State.mgmtResp_keeps ?_
    exact h7

theorem State.setLast_keeps {s0} {a1} {a2} {a3} (g1 : Keeps s0 a1) : Keeps s0 (State.setLast a1 a2 a3) := by
  unfold State.setLast
  refine State.setPath_keeps ?_
  exact g1

theorem State.spiRead_keeps {s0} {a1} {a2} {a3} (g1 : Keeps s0 a1) : Keeps s0 (State.spiRead a1 a2 a3) := by
  unfold State.spiRead
  extract_lets -underBinder -merge -useContext +onlyGivenNames v1
  have h2 : Keeps s0 v1.2 := by
    refine State.readWords_keeps ?_
    exact g1
  clear_value v1
  extract_lets -underBinder -merge -useContext +onlyGivenNames v3
  have h4 : Keeps s0 v3 := by
    unfold v3
    split
    · refine State.setLast_keeps ?_
      exact h2
    · exact h2
  clear_value v3
  refine State.emit_keeps ?_
  exact h4

theorem State.spiWrite_keeps {s0} {a1} {a2} {a3} (g1 : Keeps s0 a1) : Keeps s0 (State.spiWrite a1 a2 a3) := by
  unfold State.spiWrite
  refine State.writeWords_keeps ?_
  exact g1

theorem State.debugAccess_keeps {s0} {a1} {a2} (g1 : Keeps s0 a1) : Keeps s0 (State.debugAccess a1 a2) := by
  unfold State.debugAccess
  extract_lets -underBinder -merge -useContext +onlyGivenNames v1
  clear_value v1
  extract_lets -underBinder -merge -useContext +onlyGivenNames v2
  clear_value v2
  extract_lets -underBinder -merge -useContext +onlyGivenNames v3
  have h4 : Keeps s0 v3 := by
    refine State.setIr_keeps ?_
    exact g1
  clear_value v3
  refine Keeps.ite ?_ ?_
  · split
    rename_i x6 x7 q9
    have e8 : _ = x7 := congrArg Prod.snd q9
    have h5 : Keeps s0 x7 := by
      rw [← e8]
      refine State.mgmtWrite_keeps ?_
      exact h4
    refine Keeps.parts ?_ rfl rfl
    exact h5
  · split
    rename_i x11 x12 x13 q17
    have e16 : _ = x13 := congrArg Prod.snd (congrArg Prod.snd q17)
    have h10 : Keeps s0 x13 := by
      rw [← e16]
      refine State.mgmtRead_keeps ?_
      exact h4
    extract_lets -underBinder -merge -useContext +onlyGivenNames v14
    have h15 : Keeps s0 v14 := by
      refine State.setLast_keeps ?_
      exact h10
    clear_value v14
    refine Keeps.parts ?_ rfl rfl
    exact h15

theorem State.chkComplete_keeps {s0} {a1} {a2} (g1 : Keeps s0 a1) : Keeps s0 (State.chkComplete a1 a2) := by
  unfold State.chkComplete
  refine Keeps.ite ?_ ?_
  · exact g1
  · refine State.chkDone_keeps ?_
    refine State.setB_keeps ?_
    refine State.chkFeed_keeps ?_
    exact g1

theorem execMgmtRead_keeps {s0} {a1} {a2} {a3} {a4} (g4 : Keeps s0 a4) : KeepsN s0 (execMgmtRead a1 a2 a3 a4) := by
  unfold execMgmtRead
  refine KeepsN.next ?_
  refine State.rxStn_keeps ?_ ?_
  · exact g4
  · intro x1 x3 h2
    refine State.mgmtReadMsg_keeps ?_
    exact h2

theorem execMgmtWrite_keeps {s0} {a1} {a2} {a3} {a4} (g4 : Keeps s0 a4) : KeepsN s0 (execMgmtWrite a1 a2 a3 a4) := by
  unfold execMgmtWrite
  refine KeepsN.next ?_
  refine State.rxStn_keeps ?_ ?_
  · exact g4
  · intro x1 x3 h2
    refine State.mgmtWriteMsg_keeps ?_
    exact h2

theorem execMntWrite_keeps {s0} {a1} {a2} {a3} {a4} (g4 : Keeps s0 a4) : KeepsN s0 (execMntWrite a1 a2 a3 a4) := by
  unfold execMntWrite
  refine KeepsN.next ?_
  refine Keeps.ite ?_ ?_
  · refine State.spiWrite_keeps ?_
    exact g4
  · exact g4

theorem execMntRead_keeps {s0} {a1} {a2} {a3} {a4} (g4 : Keeps s0 a4) : KeepsN s0 (execMntRead a1 a2 a3 a4) := by
  unfold execMntRead
  refine KeepsN.next ?_
  refine Keeps.ite ?_ ?_
  · refine State.spiRead_keeps ?_
    exact g4
  · exact g4

theorem execMntStatus_keeps {s0} {a1} {a2} (g2 : Keeps s0 a2) : KeepsN s0 (execMntStatus a1 a2) := by
  unfold execMntStatus
  refine KeepsN.next ?_
  refine Keeps.ite ?_ ?_
  · refine State.emit_keeps ?_
    exact g2
  · exact g2

theorem execJtagDebugAccess_keeps {s0} {a1} {a2} (g2 : Keeps s0 a2) : KeepsN s0 (execJtagDebugAccess a1 a2) := by
  unfold execJtagDebugAccess
  refine KeepsN.next ?_
  refine State.debugAccess_keeps ?_
  exact g2

theorem execChkComplete_keeps {s0} {a1} {a2} (g2 : Keeps s0 a2) : KeepsN s0 (execChkComplete a1 a2) := by
  unfold execChkComplete
  refine KeepsN.next ?_
  refine State.chkComplete_keeps ?_
  exact g2

theorem execDbgChalRead_keeps {s0} {a1} {a2} (g2 : Keeps s0 a2) : KeepsN s0 (execDbgChalRead a1 a2) := by
  unfold execDbgChalRead
  refine KeepsN.next ?_
  refine State.mgmtRead_keeps ?_
  exact g2

theorem execLoRead_keeps {s0} {a1} {a2} {a3} (g3 : Keeps s0 a3) : KeepsN s0 (execLoRead a1 a2 a3) := by
  unfold execLoRead
  refine KeepsN.next ?_
  refine Keeps.ite ?_ ?_
  · refine State.mgmtRead_keeps ?_
    exact g3
  · exact g3

theorem execDebugPortHalt_keeps {s0} {a1} (g1 : Keeps s0 a1) : KeepsN s0 (execDebugPortHalt a1) := by
  unfold execDebugPortHalt
  refine KeepsN.next ?_
  refine Keeps.ite ?_ ?_
  · refine State.haltRequest_keeps ?_
    exact g1
  · exact g1

end Sys2Proof.Machine
end

