-- ==== Sys2Proof/Laws/KeepsWrites.lean ====
section
/-!
SUPPORT. What the operations of Machine/Writes.lean do to the queue, the fuses and the tables.
-/

namespace Sys2Proof.Machine

theorem execRegisterWrite_keeps {s0} {a1} {a2} {a3} {a4} (g4 : Keeps s0 a4) : KeepsN s0 (execRegisterWrite a1 a2 a3 a4) := by
  unfold execRegisterWrite
  refine KeepsN.next ?_
  refine State.wrote_keeps ?_
  exact g4

theorem execLoWrite_keeps {s0} {a1} {a2} {a3} {a4} (g4 : Keeps s0 a4) : KeepsN s0 (execLoWrite a1 a2 a3 a4) := by
  unfold execLoWrite
  refine KeepsN.next ?_
  refine Keeps.ite ?_ ?_
  · refine State.wrote_keeps ?_
    exact g4
  · exact g4

theorem execHiWrite_keeps {s0} {a1} {a2} {a3} {a4} (g4 : Keeps s0 a4) : KeepsN s0 (execHiWrite a1 a2 a3 a4) := by
  unfold execHiWrite
  refine KeepsN.next ?_
  refine Keeps.ite ?_ ?_
  · refine State.wrote_keeps ?_
    exact g4
  · exact g4

theorem execStagedWrite_keeps {s0} {a1} {a2} {a3} {a4} (g4 : Keeps s0 a4) : KeepsN s0 (execStagedWrite a1 a2 a3 a4) := by
  unfold execStagedWrite
  refine KeepsN.next ?_
  refine State.wrote_keeps ?_
  exact g4

theorem execCommit_keeps {s0} {a1} {a2} (g2 : Keeps s0 a2) : KeepsN s0 (execCommit a1 a2) := by
  unfold execCommit
  refine KeepsN.next ?_
  refine State.wroteField_keeps ?_
  exact g2

theorem execDiscard_keeps {s0} {a1} {a2} (g2 : Keeps s0 a2) : KeepsN s0 (execDiscard a1 a2) := by
  unfold execDiscard
  refine KeepsN.next ?_
  refine State.wroteField_keeps ?_
  exact g2

theorem execOverrunClr_keeps {s0} {a1} {a2} (g2 : Keeps s0 a2) : KeepsN s0 (execOverrunClr a1 a2) := by
  unfold execOverrunClr
  refine KeepsN.next ?_
  refine State.wroteField_keeps ?_
  exact g2

theorem execLinkCntClr_keeps {s0} {a1} {a2} {a3} (g3 : Keeps s0 a3) : KeepsN s0 (execLinkCntClr a1 a2 a3) := by
  unfold execLinkCntClr
  refine KeepsN.next ?_
  refine State.wroteField_keeps ?_
  exact g3

theorem execCatRediscover_keeps {s0} {a1} {a2} (g2 : Keeps s0 a2) : KeepsN s0 (execCatRediscover a1 a2) := by
  unfold execCatRediscover
  refine KeepsN.next ?_
  refine State.wroteField_keeps ?_
  exact g2

theorem execCatCntClr_keeps {s0} {a1} {a2} (g2 : Keeps s0 a2) : KeepsN s0 (execCatCntClr a1 a2) := by
  unfold execCatCntClr
  refine KeepsN.next ?_
  refine State.wroteField_keeps ?_
  exact g2

theorem execWearWrite_keeps {s0} {a1} {a2} {a3} {a4} (g4 : Keeps s0 a4) : KeepsN s0 (execWearWrite a1 a2 a3 a4) := by
  unfold execWearWrite
  refine KeepsN.next ?_
  refine State.wroteField_keeps ?_
  exact g4

theorem execRetrain_keeps {s0} {a1} {a2} {a3} (g3 : Keeps s0 a3) : KeepsN s0 (execRetrain a1 a2 a3) := by
  unfold execRetrain
  refine KeepsN.next ?_
  refine State.wroteField_keeps ?_
  exact g3

theorem execBitSlip_keeps {s0} {a1} {a2} {a3} (g3 : Keeps s0 a3) : KeepsN s0 (execBitSlip a1 a2 a3) := by
  unfold execBitSlip
  refine KeepsN.next ?_
  refine State.wroteField_keeps ?_
  exact g3

theorem execTxPwrReq_keeps {s0} {a1} {a2} {a3} {a4} (g4 : Keeps s0 a4) : KeepsN s0 (execTxPwrReq a1 a2 a3 a4) := by
  unfold execTxPwrReq
  refine KeepsN.next ?_
  refine State.wroteField_keeps ?_
  exact g4

theorem execRxPwrReq_keeps {s0} {a1} {a2} {a3} {a4} (g4 : Keeps s0 a4) : KeepsN s0 (execRxPwrReq a1 a2 a3 a4) := by
  unfold execRxPwrReq
  refine KeepsN.next ?_
  refine State.wroteField_keeps ?_
  exact g4

theorem execLaneEnableWrite_keeps {s0} {a1} {a2} {a3} {a4} (g4 : Keeps s0 a4) : KeepsN s0 (execLaneEnableWrite a1 a2 a3 a4) := by
  unfold execLaneEnableWrite
  refine KeepsN.next ?_
  refine State.wroteField_keeps ?_
  exact g4

theorem execLaneCntClr_keeps {s0} {a1} {a2} {a3} (g3 : Keeps s0 a3) : KeepsN s0 (execLaneCntClr a1 a2 a3) := by
  unfold execLaneCntClr
  refine KeepsN.next ?_
  refine State.wroteField_keeps ?_
  exact g3

theorem execUrgent_keeps {s0} {a1} {a2} {a3} {a4} (g4 : Keeps s0 a4) : KeepsN s0 (execUrgent a1 a2 a3 a4) := by
  unfold execUrgent
  refine KeepsN.next ?_
  refine State.wroteField_keeps ?_
  exact g4

theorem execCalStart_keeps {s0} {a1} {a2} (g2 : Keeps s0 a2) : KeepsN s0 (execCalStart a1 a2) := by
  unfold execCalStart
  refine KeepsN.next ?_
  refine State.wroteField_keeps ?_
  exact g2

theorem execMchRangeWrite_keeps {s0} {a1} {a2} {a3} {a4} (g4 : Keeps s0 a4) : KeepsN s0 (execMchRangeWrite a1 a2 a3 a4) := by
  unfold execMchRangeWrite
  refine KeepsN.next ?_
  refine State.wroteField_keeps ?_
  exact g4

theorem execAdcCntClr_keeps {s0} {a1} {a2} (g2 : Keeps s0 a2) : KeepsN s0 (execAdcCntClr a1 a2) := by
  unfold execAdcCntClr
  refine KeepsN.next ?_
  refine State.wroteField_keeps ?_
  exact g2

theorem execObsCntClr_keeps {s0} {a1} {a2} (g2 : Keeps s0 a2) : KeepsN s0 (execObsCntClr a1 a2) := by
  unfold execObsCntClr
  refine KeepsN.next ?_
  refine State.wroteField_keeps ?_
  exact g2

theorem execSelCntClr_keeps {s0} {a1} {a2} (g2 : Keeps s0 a2) : KeepsN s0 (execSelCntClr a1 a2) := by
  unfold execSelCntClr
  refine KeepsN.next ?_
  refine State.wroteField_keeps ?_
  exact g2

theorem execHaltReq_keeps {s0} {a1} {a2} (g2 : Keeps s0 a2) : KeepsN s0 (execHaltReq a1 a2) := by
  unfold execHaltReq
  refine KeepsN.next ?_
  refine State.wroteField_keeps ?_
  exact g2

theorem execResume_keeps {s0} {a1} {a2} (g2 : Keeps s0 a2) : KeepsN s0 (execResume a1 a2) := by
  unfold execResume
  refine KeepsN.next ?_
  refine State.wroteField_keeps ?_
  exact g2

theorem execEdgeCntClr_keeps {s0} {a1} {a2} (g2 : Keeps s0 a2) : KeepsN s0 (execEdgeCntClr a1 a2) := by
  unfold execEdgeCntClr
  refine KeepsN.next ?_
  refine State.wroteField_keeps ?_
  exact g2

theorem execCtxModeWrite_keeps {s0} {a1} {a2} {a3} {a4} (g4 : Keeps s0 a4) : KeepsN s0 (execCtxModeWrite a1 a2 a3 a4) := by
  unfold execCtxModeWrite
  refine KeepsN.next ?_
  refine State.wroteField_keeps ?_
  exact g4

theorem execInjStart_keeps {s0} {a1} {a2} {a3} (g3 : Keeps s0 a3) : KeepsN s0 (execInjStart a1 a2 a3) := by
  unfold execInjStart
  refine KeepsN.next ?_
  refine State.wroteField_keeps ?_
  exact g3

theorem execInjStop_keeps {s0} {a1} {a2} {a3} (g3 : Keeps s0 a3) : KeepsN s0 (execInjStop a1 a2 a3) := by
  unfold execInjStop
  refine KeepsN.next ?_
  refine State.wroteField_keeps ?_
  exact g3

theorem execSeal_keeps {s0} {a1} {a2} {a3} (g3 : Keeps s0 a3) : KeepsN s0 (execSeal a1 a2 a3) := by
  unfold execSeal
  refine KeepsN.next ?_
  refine State.wroteField_keeps ?_
  exact g3

theorem execFaultReset_keeps {s0} {a1} {a2} {a3} (g3 : Keeps s0 a3) : KeepsN s0 (execFaultReset a1 a2 a3) := by
  unfold execFaultReset
  refine KeepsN.next ?_
  refine State.wroteField_keeps ?_
  exact g3

theorem execCtxCntClr_keeps {s0} {a1} {a2} {a3} (g3 : Keeps s0 a3) : KeepsN s0 (execCtxCntClr a1 a2 a3) := by
  unfold execCtxCntClr
  refine KeepsN.next ?_
  refine State.wroteField_keeps ?_
  exact g3

theorem execLoopCntClr_keeps {s0} {a1} {a2} (g2 : Keeps s0 a2) : KeepsN s0 (execLoopCntClr a1 a2) := by
  unfold execLoopCntClr
  refine KeepsN.next ?_
  refine State.wroteField_keeps ?_
  exact g2

theorem execCoefWrite_keeps {s0} {a1} {a2} {a3} {a4} (g4 : Keeps s0 a4) : KeepsN s0 (execCoefWrite a1 a2 a3 a4) := by
  unfold execCoefWrite
  refine KeepsN.next ?_
  refine State.wrote_keeps ?_
  exact g4

theorem execSigValueWrite_keeps {s0} {a1} {a2} {a3} {a4} (g4 : Keeps s0 a4) : KeepsN s0 (execSigValueWrite a1 a2 a3 a4) := by
  unfold execSigValueWrite
  refine KeepsN.next ?_
  refine State.wroteField_keeps ?_
  exact g4

theorem execWithdraw_keeps {s0} {a1} {a2} (g2 : Keeps s0 a2) : KeepsN s0 (execWithdraw a1 a2) := by
  unfold execWithdraw
  refine KeepsN.next ?_
  refine State.wroteField_keeps ?_
  exact g2

theorem execRejoinNow_keeps {s0} {a1} {a2} (g2 : Keeps s0 a2) : KeepsN s0 (execRejoinNow a1 a2) := by
  unfold execRejoinNow
  refine KeepsN.next ?_
  refine State.wroteField_keeps ?_
  exact g2

theorem execTwinCntClr_keeps {s0} {a1} {a2} (g2 : Keeps s0 a2) : KeepsN s0 (execTwinCntClr a1 a2) := by
  unfold execTwinCntClr
  refine KeepsN.next ?_
  refine State.wroteField_keeps ?_
  exact g2

theorem execRecCmdTrigger_keeps {s0} {a1} {a2} {a3} (g3 : Keeps s0 a3) : KeepsN s0 (execRecCmdTrigger a1 a2 a3) := by
  unfold execRecCmdTrigger
  refine KeepsN.next ?_
  refine State.wrote_keeps ?_
  exact g3

theorem execRecCmdArm_keeps {s0} {a1} {a2} {a3} (g3 : Keeps s0 a3) : KeepsN s0 (execRecCmdArm a1 a2 a3) := by
  unfold execRecCmdArm
  refine KeepsN.next ?_
  refine State.wrote_keeps ?_
  exact g3

theorem execRecCmdDisarm_keeps {s0} {a1} {a2} {a3} (g3 : Keeps s0 a3) : KeepsN s0 (execRecCmdDisarm a1 a2 a3) := by
  unfold execRecCmdDisarm
  refine KeepsN.next ?_
  refine State.wrote_keeps ?_
  exact g3

theorem execRecCmdOffload_keeps {s0} {a1} {a2} {a3} (g3 : Keeps s0 a3) : KeepsN s0 (execRecCmdOffload a1 a2 a3) := by
  unfold execRecCmdOffload
  refine KeepsN.next ?_
  refine State.wrote_keeps ?_
  exact g3

theorem execRecCmdRelease_keeps {s0} {a1} {a2} {a3} (g3 : Keeps s0 a3) : KeepsN s0 (execRecCmdRelease a1 a2 a3) := by
  unfold execRecCmdRelease
  refine KeepsN.next ?_
  refine State.wrote_keeps ?_
  exact g3

theorem execRecCmdAbort_keeps {s0} {a1} {a2} {a3} (g3 : Keeps s0 a3) : KeepsN s0 (execRecCmdAbort a1 a2 a3) := by
  unfold execRecCmdAbort
  refine KeepsN.next ?_
  refine State.wrote_keeps ?_
  exact g3

theorem execRecCmdThaw_keeps {s0} {a1} {a2} (g2 : Keeps s0 a2) : KeepsN s0 (execRecCmdThaw a1 a2) := by
  unfold execRecCmdThaw
  refine KeepsN.next ?_
  refine State.wrote_keeps ?_
  exact g2

theorem execStnCntClr_keeps {s0} {a1} {a2} (g2 : Keeps s0 a2) : KeepsN s0 (execStnCntClr a1 a2) := by
  unfold execStnCntClr
  refine KeepsN.next ?_
  refine State.wroteField_keeps ?_
  exact g2

theorem execTimeIncHiWrite_keeps {s0} {a1} {a2} {a3} (g3 : Keeps s0 a3) : KeepsN s0 (execTimeIncHiWrite a1 a2 a3) := by
  unfold execTimeIncHiWrite
  refine KeepsN.next ?_
  refine State.wrote_keeps ?_
  exact g3

theorem execTimeStep_keeps {s0} {a1} {a2} {a3} (g3 : Keeps s0 a3) : KeepsN s0 (execTimeStep a1 a2 a3) := by
  unfold execTimeStep
  refine KeepsN.next ?_
  refine State.wrote_keeps ?_
  exact g3

theorem execTimeSet_keeps {s0} {a1} {a2} {a3} (g3 : Keeps s0 a3) : KeepsN s0 (execTimeSet a1 a2 a3) := by
  unfold execTimeSet
  refine KeepsN.next ?_
  refine State.wrote_keeps ?_
  exact g3

theorem execTimeCntClr_keeps {s0} {a1} {a2} (g2 : Keeps s0 a2) : KeepsN s0 (execTimeCntClr a1 a2) := by
  unfold execTimeCntClr
  refine KeepsN.next ?_
  refine State.wroteField_keeps ?_
  exact g2

theorem execRecWinSelWrite_keeps {s0} {a1} {a2} {a3} {a4} (g4 : Keeps s0 a4) : KeepsN s0 (execRecWinSelWrite a1 a2 a3 a4) := by
  unfold execRecWinSelWrite
  refine KeepsN.next ?_
  refine State.wrote_keeps ?_
  exact g4

theorem execUnitEnable_keeps {s0} {a1} {a2} {a3} {a4} (g4 : Keeps s0 a4) : KeepsN s0 (execUnitEnable a1 a2 a3 a4) := by
  unfold execUnitEnable
  refine KeepsN.next ?_
  refine State.wroteField_keeps ?_
  exact g4

theorem execRecCntClr_keeps {s0} {a1} {a2} (g2 : Keeps s0 a2) : KeepsN s0 (execRecCntClr a1 a2) := by
  unfold execRecCntClr
  refine KeepsN.next ?_
  refine State.wroteField_keeps ?_
  exact g2

theorem execTripLatchClear_keeps {s0} {a1} {a2} {a3} (g3 : Keeps s0 a3) : KeepsN s0 (execTripLatchClear a1 a2 a3) := by
  unfold execTripLatchClear
  refine KeepsN.next ?_
  refine State.wroteField_keeps ?_
  exact g3

theorem execFbDiscrepClear_keeps {s0} {a1} {a2} {a3} (g3 : Keeps s0 a3) : KeepsN s0 (execFbDiscrepClear a1 a2 a3) := by
  unfold execFbDiscrepClear
  refine KeepsN.next ?_
  refine State.wroteField_keeps ?_
  exact g3

theorem execSbkReq_keeps {s0} {a1} {a2} (g2 : Keeps s0 a2) : KeepsN s0 (execSbkReq a1 a2) := by
  unfold execSbkReq
  refine KeepsN.next ?_
  refine State.wroteField_keeps ?_
  exact g2

theorem execSbkClr_keeps {s0} {a1} {a2} (g2 : Keeps s0 a2) : KeepsN s0 (execSbkClr a1 a2) := by
  unfold execSbkClr
  refine KeepsN.next ?_
  refine State.wroteField_keeps ?_
  exact g2

theorem execSopClr_keeps {s0} {a1} {a2} {a3} (g3 : Keeps s0 a3) : KeepsN s0 (execSopClr a1 a2 a3) := by
  unfold execSopClr
  refine KeepsN.next ?_
  refine State.wroteField_keeps ?_
  exact g3

theorem execIlpReq_keeps {s0} {a1} {a2} (g2 : Keeps s0 a2) : KeepsN s0 (execIlpReq a1 a2) := by
  unfold execIlpReq
  refine KeepsN.next ?_
  refine State.wroteField_keeps ?_
  exact g2

theorem execIlpDrop_keeps {s0} {a1} {a2} (g2 : Keeps s0 a2) : KeepsN s0 (execIlpDrop a1 a2) := by
  unfold execIlpDrop
  refine KeepsN.next ?_
  refine State.wroteField_keeps ?_
  exact g2

theorem execSafeCntClr_keeps {s0} {a1} {a2} (g2 : Keeps s0 a2) : KeepsN s0 (execSafeCntClr a1 a2) := by
  unfold execSafeCntClr
  refine KeepsN.next ?_
  refine State.wroteField_keeps ?_
  exact g2

theorem execSafeConfirmWrite_keeps {s0} {a1} {a2} {a3} (g3 : Keeps s0 a3) : KeepsN s0 (execSafeConfirmWrite a1 a2 a3) := by
  unfold execSafeConfirmWrite
  refine KeepsN.next ?_
  refine State.wrote_keeps ?_
  exact g3

theorem execPowerCapWrite_keeps {s0} {a1} {a2} {a3} (g3 : Keeps s0 a3) : KeepsN s0 (execPowerCapWrite a1 a2 a3) := by
  unfold execPowerCapWrite
  refine KeepsN.next ?_
  refine State.wroteField_keeps ?_
  exact g3

theorem execLcArm_keeps {s0} {a1} {a2} {a3} (g3 : Keeps s0 a3) : KeepsN s0 (execLcArm a1 a2 a3) := by
  unfold execLcArm
  refine KeepsN.next ?_
  refine State.wrote_keeps ?_
  exact g3

theorem execLcCommit_keeps {s0} {a1} {a2} {a3} (g3 : Keeps s0 a3) : KeepsN s0 (execLcCommit a1 a2 a3) := by
  unfold execLcCommit
  refine KeepsN.next ?_
  refine State.wrote_keeps ?_
  exact g3

theorem execNvmProgramBlock_keeps {s0} {a1} {a2} {a3} (g3 : Keeps s0 a3) : KeepsN s0 (execNvmProgramBlock a1 a2 a3) := by
  unfold execNvmProgramBlock
  refine KeepsN.next ?_
  refine State.wrote_keeps ?_
  exact g3

theorem execNvmEraseSector_keeps {s0} {a1} {a2} {a3} (g3 : Keeps s0 a3) : KeepsN s0 (execNvmEraseSector a1 a2 a3) := by
  unfold execNvmEraseSector
  refine KeepsN.next ?_
  refine State.wrote_keeps ?_
  exact g3

theorem execDbgVerify_keeps {s0} {a1} {a2} {a3} (g3 : Keeps s0 a3) : KeepsN s0 (execDbgVerify a1 a2 a3) := by
  unfold execDbgVerify
  refine KeepsN.next ?_
  refine State.wrote_keeps ?_
  exact g3

theorem execDbgRelock_keeps {s0} {a1} {a2} (g2 : Keeps s0 a2) : KeepsN s0 (execDbgRelock a1 a2) := by
  unfold execDbgRelock
  refine KeepsN.next ?_
  refine State.wrote_keeps ?_
  exact g2

theorem execChkInit_keeps {s0} {a1} {a2} {a3} (g3 : Keeps s0 a3) : KeepsN s0 (execChkInit a1 a2 a3) := by
  unfold execChkInit
  refine KeepsN.next ?_
  refine State.wroteField_keeps ?_
  exact g3

theorem execChkDataWrite_keeps {s0} {a1} {a2} {a3} {a4} (g4 : Keeps s0 a4) : KeepsN s0 (execChkDataWrite a1 a2 a3 a4) := by
  unfold execChkDataWrite
  refine KeepsN.next ?_
  refine State.wroteField_keeps ?_
  exact g4

theorem execChkFinish_keeps {s0} {a1} {a2} {a3} (g3 : Keeps s0 a3) : KeepsN s0 (execChkFinish a1 a2 a3) := by
  unfold execChkFinish
  refine KeepsN.next ?_
  refine State.wroteField_keeps ?_
  exact g3

theorem execChkStart_keeps {s0} {a1} {a2} {a3} (g3 : Keeps s0 a3) : KeepsN s0 (execChkStart a1 a2 a3) := by
  unfold execChkStart
  refine KeepsN.next ?_
  refine State.wroteField_keeps ?_
  exact g3

theorem execChkAbort_keeps {s0} {a1} {a2} {a3} (g3 : Keeps s0 a3) : KeepsN s0 (execChkAbort a1 a2 a3) := by
  unfold execChkAbort
  refine KeepsN.next ?_
  refine State.wroteField_keeps ?_
  exact g3

theorem execChkCntClr_keeps {s0} {a1} {a2} {a3} (g3 : Keeps s0 a3) : KeepsN s0 (execChkCntClr a1 a2 a3) := by
  unfold execChkCntClr
  refine KeepsN.next ?_
  refine State.wroteField_keeps ?_
  exact g3

theorem execIntegCntClr_keeps {s0} {a1} {a2} (g2 : Keeps s0 a2) : KeepsN s0 (execIntegCntClr a1 a2) := by
  unfold execIntegCntClr
  refine KeepsN.next ?_
  refine State.wroteField_keeps ?_
  exact g2

theorem execSchedCntClr_keeps {s0} {a1} {a2} (g2 : Keeps s0 a2) : KeepsN s0 (execSchedCntClr a1 a2) := by
  unfold execSchedCntClr
  refine KeepsN.next ?_
  refine State.wroteField_keeps ?_
  exact g2

theorem execPeakClr_keeps {s0} {a1} {a2} (g2 : Keeps s0 a2) : KeepsN s0 (execPeakClr a1 a2) := by
  unfold execPeakClr
  refine KeepsN.next ?_
  refine State.wroteField_keeps ?_
  exact g2

theorem execClkCntClr_keeps {s0} {a1} {a2} (g2 : Keeps s0 a2) : KeepsN s0 (execClkCntClr a1 a2) := by
  unfold execClkCntClr
  refine KeepsN.next ?_
  refine State.wroteField_keeps ?_
  exact g2

end Sys2Proof.Machine
end

