-- ==== Sys2Proof/Laws/KeepsTransmit.lean ====
section
/-!
SUPPORT. What the operations of Machine/Transmit.lean do to the queue, the fuses and the tables.
-/

namespace Sys2Proof.Machine

theorem State.sendBlock_keeps {s0} {a1} {a2} {a3} {a4} (g1 : Keeps s0 a1) : Keeps s0 (State.sendBlock a1 a2 a3 a4) := by
  unfold State.sendBlock
  extract_lets -underBinder -merge -useContext +onlyGivenNames v1
  clear_value v1
  extract_lets -underBinder -merge -useContext +onlyGivenNames v2
  clear_value v2
  refine State.setLane_keeps ?_
  exact g1

theorem State.drawRequest_keeps {s0} {a1} {a2} (g1 : Keeps s0 a1) : Keeps s0 (State.drawRequest a1 a2) := by
  unfold State.drawRequest
  refine Keeps.ite ?_ ?_
  · split
    rename_i x2 x3 q6
    have e5 : _ = x3 := congrArg Prod.snd q6
    have h1 : Keeps s0 x3 := by
      rw [← e5]
      refine State.free_keeps ?_
      exact g1
    extract_lets -underBinder -merge -useContext +onlyGivenNames v4
    clear_value v4
    refine Keeps.ite ?_ ?_
    · refine State.setLane_keeps ?_
      exact h1
    · exact h1
  · exact g1

theorem State.sendTraining_keeps {s0} {a1} {a2} (g1 : Keeps s0 a1) : Keeps s0 (State.sendTraining a1 a2) := by
  unfold State.sendTraining
  extract_lets -underBinder -merge -useContext +onlyGivenNames v1
  have h2 : Keeps s0 v1 := by
    refine State.drawRequest_keeps ?_
    exact g1
  clear_value v1
  extract_lets -underBinder -merge -useContext +onlyGivenNames v3
  clear_value v3
  extract_lets -underBinder -merge -useContext +onlyGivenNames v4
  clear_value v4
  extract_lets -underBinder -merge -useContext +onlyGivenNames v5
  have h6 : Keeps s0 v5 := by
    refine State.setLane_keeps ?_
    exact h2
  clear_value v5
  refine State.sendBlock_keeps ?_
  exact h6

theorem State.xlinkItems_keeps {s0} {a1} {a2} {a3} (g1 : Keeps s0 a1) : Keeps s0 (State.xlinkItems a1 a2 a3).2 := by
  unfold State.xlinkItems
  extract_lets -underBinder -merge -useContext +onlyGivenNames v1
  clear_value v1
  split
  · refine Keeps.mk2 ?_
    exact g1
  · refine Keeps.mk2 ?_
    exact g1
  · refine Keeps.mk2 ?_
    exact g1
  · extract_lets -underBinder -merge -useContext +onlyGivenNames v2
    have h3 : Keeps s0 v2.2 := by
      refine State.free_keeps ?_
      exact g1
    clear_value v2
    refine Keeps.mk2 ?_
    exact h3
  · extract_lets -underBinder -merge -useContext +onlyGivenNames v4
    have h5 : Keeps s0 v4.2 := by
      refine State.free_keeps ?_
      exact g1
    clear_value v4
    refine Keeps.mk2 ?_
    exact h5
  · extract_lets -underBinder -merge -useContext +onlyGivenNames v6
    clear_value v6
    refine Keeps.mk2 ?_
    exact g1
  · refine Keeps.mk2 ?_
    exact g1

theorem State.takeWire_keeps {s0} {a1} {a2} {a3} (g1 : Keeps s0 a1) : Keeps s0 (State.takeWire a1 a2 a3) := by
  unfold State.takeWire
  split
  · refine State.setLane_keeps ?_
    exact g1
  · extract_lets -underBinder -merge -useContext +onlyGivenNames v1
    clear_value v1
    refine Keeps.ite ?_ ?_
    · exact g1
    · split
      · refine State.setLane_keeps ?_
        exact g1
      · refine Keeps.ite ?_ ?_
        · refine State.setLane_keeps ?_
          exact g1
        · refine State.setLane_keeps ?_
          exact g1
  · extract_lets -underBinder -merge -useContext +onlyGivenNames v2
    have h3 : Keeps s0 v2.2 := by
      refine State.xlinkItems_keeps ?_
      exact g1
    clear_value v2
    extract_lets -underBinder -merge -useContext +onlyGivenNames v4
    have h5 : Keeps s0 v4 := by
      exact h3
    clear_value v4
    refine Keeps.parts ?_ rfl rfl
    exact h5

theorem State.laneBoundary_keeps {s0} {a1} {a2} (g1 : Keeps s0 a1) : Keeps s0 (State.laneBoundary a1 a2) := by
  unfold State.laneBoundary
  extract_lets -underBinder -merge -useContext +onlyGivenNames v1
  clear_value v1
  refine Keeps.ite ?_ ?_
  · exact g1
  · refine Keeps.ite ?_ ?_
    · extract_lets -underBinder -merge -useContext +onlyGivenNames v2
      clear_value v2
      refine State.sendBlock_keeps ?_
      refine State.setLane_keeps ?_
      exact g1
    · refine Keeps.ite ?_ ?_
      · refine State.sendBlock_keeps ?_
        refine State.setLane_keeps ?_
        exact g1
      · refine State.sendTraining_keeps ?_
        exact g1

theorem State.laneCycle_keeps {s0} {a1} {a2} (g1 : Keeps s0 a1) : Keeps s0 (State.laneCycle a1 a2) := by
  unfold State.laneCycle
  refine Keeps.ite ?_ ?_
  · exact g1
  · extract_lets -underBinder -merge -useContext +onlyGivenNames v1
    clear_value v1
    extract_lets -underBinder -merge -useContext +onlyGivenNames v2
    clear_value v2
    refine Keeps.ite ?_ ?_
    · refine State.setLane_keeps ?_
      exact g1
    · refine State.laneBoundary_keeps ?_
      refine State.setLane_keeps ?_
      exact g1

theorem State.xlinkBlock_keeps {s0} {a1} {a2} (g1 : Keeps s0 a1) : Keeps s0 (State.xlinkBlock a1 a2).2.2 := by
  unfold State.xlinkBlock
  extract_lets -underBinder -merge -useContext +onlyGivenNames v1
  clear_value v1
  split
  · refine Keeps.mk3 ?_
    refine Keeps.mk2 ?_
    exact g1
  · refine Keeps.ite3 ?_ ?_
    · refine Keeps.mk3 ?_
      refine Keeps.mk2 ?_
      exact g1
    · split
      rename_i x3 x4 q11
      have e10 : _ = x4 := congrArg Prod.snd q11
      have h2 : Keeps s0 x4 := by
        rw [← e10]
        refine State.free_keeps ?_
        exact g1
      split
      rename_i x6 x7 q9
      have e8 : _ = x7 := congrArg Prod.snd q9
      have h5 : Keeps s0 x7 := by
        rw [← e8]
        refine State.free_keeps ?_
        exact h2
      refine Keeps.ite3 ?_ ?_
      · refine Keeps.mk3 ?_
        refine Keeps.mk2 ?_
        exact h5
      · refine Keeps.mk3 ?_
        refine Keeps.mk2 ?_
        exact h5
  · refine Keeps.mk3 ?_
    refine Keeps.mk2 ?_
    exact g1

theorem State.bondPayload_keeps {s0} {a1} (g1 : Keeps s0 a1) : Keeps s0 (State.bondPayload a1).2.2 := by
  unfold State.bondPayload
  split
  · refine Keeps.mk3 ?_
    refine Keeps.mk2 ?_
    exact g1
  · extract_lets -underBinder -merge -useContext +onlyGivenNames v1
    have h2 : Keeps s0 v1.2.2 := by
      refine State.xlinkBlock_keeps ?_
      exact g1
    clear_value v1
    extract_lets -underBinder -merge -useContext +onlyGivenNames v3
    clear_value v3
    refine Keeps.mk3 ?_
    refine Keeps.mk2 ?_
    extract_lets -underBinder -merge -useContext +onlyGivenNames v4
    have h5 : Keeps s0 v4 := by
      exact h2
    clear_value v4
    refine Keeps.parts ?_ rfl rfl
    exact h5

theorem State.bondSlot_keeps {s0} {a1} (g1 : Keeps s0 a1) : Keeps s0 (State.bondSlot a1) := by
  unfold State.bondSlot
  extract_lets -underBinder -merge -useContext +onlyGivenNames v1
  clear_value v1
  extract_lets -underBinder -merge -useContext +onlyGivenNames v2
  clear_value v2
  extract_lets -underBinder -merge -useContext +onlyGivenNames v3
  have h4 : Keeps s0 v3 := by
    refine Keeps.parts ?_ rfl rfl
    exact g1
  clear_value v3
  refine Keeps.ite ?_ ?_
  · refine Keeps.each ?_ fun s5 x6 h7 => ?_
    · exact h4
    · refine State.sendBlock_keeps ?_
      exact h7
  · refine Keeps.each ?_ fun s8 x9 h10 => ?_
    · exact h4
    · extract_lets -underBinder -merge -useContext +onlyGivenNames v11
      have h12 : Keeps s0 v11.2.2 := by
        refine State.bondPayload_keeps ?_
        exact h10
      clear_value v11
      refine State.sendBlock_keeps ?_
      exact h12

theorem State.bondCycle_keeps {s0} {a1} (g1 : Keeps s0 a1) : Keeps s0 (State.bondCycle a1) := by
  unfold State.bondCycle
  refine Keeps.ite ?_ ?_
  · exact g1
  · refine Keeps.ite ?_ ?_
    · refine Keeps.parts ?_ rfl rfl
      exact g1
    · refine State.bondSlot_keeps ?_
      refine Keeps.parts ?_ rfl rfl
      exact g1

theorem State.idleCycle_keeps {s0} {a1} (g1 : Keeps s0 a1) : Keeps s0 (State.idleCycle a1) := by
  unfold State.idleCycle
  extract_lets -underBinder -merge -useContext +onlyGivenNames v1
  have h2 : Keeps s0 v1 := by
    refine State.timeCycle_keeps ?_
    exact g1
  clear_value v1
  extract_lets -underBinder -merge -useContext +onlyGivenNames v3
  have h4 : Keeps s0 v3 := by
    refine Keeps.each ?_ fun s5 x6 h7 => ?_
    · exact h2
    · refine State.takeWire_keeps ?_
      exact h7
  clear_value v3
  extract_lets -underBinder -merge -useContext +onlyGivenNames v8
  have h9 : Keeps s0 v8 := by
    refine Keeps.parts ?_ rfl rfl
    exact h4
  clear_value v8
  refine State.bondCycle_keeps ?_
  refine Keeps.each ?_ fun s10 x11 h12 => ?_
  · exact h9
  · refine State.laneCycle_keeps ?_
    exact h12

end Sys2Proof.Machine
end

