-- ==== Sys2Proof/Laws/Transmit.lean ====
section
/-!
SUPPORT. The receiver's inverse of the scrambler gives the sender's bits back (R43).
-/

namespace Sys2Proof.Machine

/-- From equal registers a receiver recovers what was scrambled and keeps step with the sender. -/
theorem descrambleBits_scrambleBits (r : BitVec 58) (l : List Bool) :
    descrambleBits r (scrambleBits r l).2 = ((scrambleBits r l).1, l) := by
  induction l generalizing r with
  | nil => rfl
  | cons d l ih =>
    simp only [scrambleBits, descrambleBits, ih, Prod.mk.injEq, List.cons.injEq, and_true, true_and]
    cases d <;> cases r.getLsbD 38 <;> cases r.getLsbD 57 <;> rfl

/-- Scrambling keeps the number of bits. -/
theorem scrambleBits_length (r : BitVec 58) (l : List Bool) : (scrambleBits r l).2.length = l.length := by
  induction l generalizing r with
  | nil => rfl
  | cons d l ih => simp [scrambleBits, ih]

end Sys2Proof.Machine
end

