-- ==== Sys2Proof/Tests/Slice0.lean ====
section
/-!
SUPPORT. Tests. First what WellFormed refuses; then, for each statement of
Certificates/Slice0/Obligations.lean, states and operands that meet its hypotheses, clause by clause
(test_hyp_ and the statement's name), so that no statement holds for want of a case; then a few single
commands with results worked out by hand from the spec.
-/

namespace Sys2Proof.Machine

/-- A state with fields written one after another: field, index, value. -/
def State.having (s : State) (l : List (Field × Nat × Nat)) : State := s.each l fun s x => s.set x.1 x.2.2 x.2.1

end Sys2Proof.Machine

namespace Sys2Proof.Tests

open Sys2Proof Sys2Proof.Machine

-- One test after another: each waits for the kernel, and a thread each would be many.
set_option Elab.async false

-- Helpers

/-- The canonical form as a truth value, for states without an abandoned stage. -/
def canon (s : State) : Bool :=
  AMap.wf resetWord s.regs && AMap.wf (fun _ => {}) s.lanes && AMap.wf (fun _ => {}) s.links
  && AMap.wf (fun _ => {}) s.cells && AMap.wf (fun _ => {}) s.inputs && AMap.wf (fun _ => {}) s.obs
  && AMap.wf (fun _ => {}) s.orders && AMap.wf (fun _ => {}) s.arms && AMap.wf (fun _ => {}) s.plan
  && AMap.wf (fun _ => {}) s.ctxs && AMap.wf (fun _ => {}) s.chans && AMap.wf (fun _ => {}) s.streams
  && AMap.wf (fun _ => {}) s.paths && AMap.wf (fun _ => {}) s.chks && s.tick.undo.isNone

/-- What canon checks is the statements' hypothesis. -/
theorem canon_sound {s : State} (h : canon s = true) : s.canonical := by
  simp only [canon, Bool.and_eq_true, Option.isNone_iff_eq_none] at h
  obtain ⟨⟨⟨⟨⟨⟨⟨⟨⟨⟨⟨⟨⟨⟨h1, h2⟩, h3⟩, h4⟩, h5⟩, h6⟩, h7⟩, h8⟩, h9⟩, h10⟩, h11⟩, h12⟩, h13⟩, h14⟩, hu⟩ := h
  exact ⟨h1, h2, h3, h4, h5, h6, h7, h8, h9, h10, h11, h12, h13, h14, fun u hs => by rw [hu] at hs; cases hs⟩

/-- The state after a reset with fields written. -/
def at_ (l : List (Field × Nat × Nat)) : State := State.having State.reset l

/-- Path p is shut out of nothing that l locks. -/
def open_ (s : State) (p : Nat) (l : Lock) : Bool :=
  (decide (p < 12) || s.level == 2) && l.admits (s.get F.LC_STATE.STATE) false && (l == .any || !s.twinShut)

theorem open_sound {s : State} {p : Nat} {l : Lock} (h : open_ s p l = true) : s.admits p l := by
  simp only [open_, Bool.and_eq_true, Bool.or_eq_true, decide_eq_true_eq, beq_iff_eq, Bool.not_eq_true'] at h
  exact ⟨h.1.1, h.1.2, h.2⟩

-- WellFormed: an ill-formed term for each check, refused

theorem test_wf_refuses_ecc : Instr.wf (.sramScrubPass [.corrected 10 0]) = false
    ∧ Instr.wf (.sramScrubPass [.uncorrected 9 (2 ^ 21)]) = false ∧ Instr.wf (.computeWindowOpen [.sigParity 4096]) = false
    ∧ Instr.wf (.computeWindowOpen [.journalLost (2 ^ 21)]) = false ∧ Instr.wf (.sramScrubPass [.corrected 9 0, .journalCopy]) = true := by
  decide +kernel

theorem test_wf_refuses_lengths : Instr.wf (.adcBurst [[], []]) = false ∧ Instr.wf (.adcBurst []) = false
    ∧ Instr.wf (.adcStreamConversion []) = false ∧ Instr.wf (.urgent 0 [] false) = false ∧ Instr.wf (.powerCounterUpdate []) = false
    ∧ Instr.wf (.calComplete [] 0) = false ∧ Instr.wf (.adcBurst (List.replicate 4 (List.replicate 24 0))) = true := by
  decide +kernel

theorem test_wf_refuses_ranges : Instr.wf (.recPatrolPass 0 [2 ^ 32]) = false ∧ Instr.wf (.recInterval 800 [] (List.replicate 24 0) false) = false
    ∧ Instr.wf (.recInterval 799 [((1, 0), 1600)] (List.replicate 24 0) false) = false
    ∧ Instr.wf (.recInterval 799 [((1, 0), 1599)] (List.replicate 24 0) false) = true := by
  decide +kernel

theorem test_wf_refuses_twin : Instr.wf (.changeRx (some 1) (.arise 6144 1) 2) = false ∧ Instr.wf (.changeRx (some 1) (.clear 6143 0) 2) = false
    ∧ Instr.wf (.changeRx (some 1) (.fault 0 256) 2) = false ∧ Instr.wf (.changeRx (some 1) (.admission 0 .a 32) 2) = false
    ∧ Instr.wf (.changeRx (some 1) (.lat 64 .a []) 2) = false ∧ Instr.wf (.changeRx (some 1) (.disc 63 .a ⟨0, 129, false, []⟩) 2) = false
    ∧ Instr.wf (.journalRx (some 1) (.closed 4)) = false ∧ Instr.wf (.journalRx (some 1) (.session ⟨0, 0, 4, true, 0, 0, ⟨0, 0, 0⟩, 0⟩)) = false
    ∧ Instr.wf (.changeRx (some 1) (.arise 6143 31) 2) = true := by
  decide +kernel

-- Hypotheses of the statements

theorem test_hyp_StepRunsFront : ({ State.reset with pending := [.powerOn] } : State).pending = .powerOn :: [] := rfl

theorem test_hyp_IdleAdvancesTime : canon State.reset = true ∧ State.reset.pending = [] ∧ State.reset.clk.sub < 2 ^ 16
    ∧ canon ({ State.reset with clk := { sub := 2 ^ 16 - 1 } } : State) = true := by decide +kernel

/-- The reset state is sound: its tables are empty and nothing burns. -/
theorem test_hyp_StepKeepsSound : State.reset.sound ∧ step State.reset = .next State.reset.idleCycle :=
  ⟨⟨canon_sound (by decide +kernel), by decide, by decide, fun _ _ h => by cases h⟩, rfl⟩

theorem test_hyp_FusesOnlyGrow : step ({ State.reset with fuse := { rows := [⟨1, 0, true⟩], row63 := some true } } : State)
    = .next ({ State.reset with fuse := { rows := [⟨1, 0, true⟩], row63 := some true } } : State).idleCycle := rfl

/-- OBS_ARM_GAIN, whose words only store: one float of 0 to 1, locked LIVE. -/
def gainReg : RegDesc := ⟨"OBS_ARM_GAIN", 0x0009800C, 16, 32, 1, 0,
  [⟨"OBS_GAIN", 31, 0, .rw, .live, 0, [(0, 1065353216), (2147483648, 2147483648)], true⟩]⟩

/-- The word of the last arm: an equal word, a word under lock, one the twin mode shuts, one just beyond 1.0, 1.0 itself. -/
theorem test_hyp_WordWholeOrNothing :
    let a := 0x981EC
    let fs := fun (s : State) (v : Word) => State.writtenFields gainReg (s.reg a) v
    let op := at_ [(F.LC_STATE.STATE, 0, 3)]
    let du := at_ [(F.TWIN_STATUS.MODE, 0, 2)]
    plainAt a gainReg 15 ∧ a % 4 = 0 ∧ canon op = true ∧ canon du = true ∧ (∀ s ∈ [State.reset, op, du], s.mayWrite 11 a = true)
    ∧ fs State.reset 0 = []
    ∧ (∃ f ∈ fs op 1, f.lock.admits (op.get F.LC_STATE.STATE) false = false)
    ∧ ((∀ f ∈ fs du 1, f.lock.admits (du.get F.LC_STATE.STATE) false = true) ∧ du.twinShut = true ∧ ∃ f ∈ fs du 1, f.lock ≠ .any)
    ∧ ((∀ f ∈ fs State.reset 0x3F800001, f.lock.admits 0 false = true) ∧ State.reset.twinShut = false
        ∧ ∃ f ∈ fs State.reset 0x3F800001, f.inRange (f.val 0x3F800001) = false)
    ∧ (∀ f ∈ fs State.reset 0x3F800000, f.lock.admits 0 false = true ∧ f.inRange (f.val 0x3F800000) = true) := by
  unfold plainAt; decide +kernel

theorem test_hyp_AccessRefused : (0x59FFFF : Nat) % 4 ≠ 0 ∧ State.reset.mayWrite 13 0x20000 = false
    ∧ State.reset.mayWrite 11 0x5A0000 = true ∧ State.reset.mayRead 11 0x5A0000 = true := by decide +kernel

/-- MASK of the last trigger unit, TIME_STATUS beside TIME_EXT; TIME_INC at both limits of R332. -/
theorem test_hyp_PairsOfWords : isLoRw 0x550404 = true ∧ (0x550404 : Nat) ≠ 0x540008 ∧ open_ State.reset 0 .live = true
    ∧ isLo 0xB0028 = true ∧ State.reset.mayRead 0 0xB0028 = true ∧ State.reset.mayRead 0 0xB002C = true
    ∧ open_ State.reset 0 .any = true ∧ State.reset.get F.TIME_SERVO.SOURCE = 0 ∧ State.reset.anyDeblocked = false
    ∧ (let s := State.reset.setPath 0 { held := some (0x540008, 0xFFBE76C9#32) }
       0x1FFBE76C9 ≤ (1#32).toNat % 256 * 2 ^ 32 + (0xFFBE76C9#32).toNat ∧ canon s = true)
    ∧ (2#32).toNat % 256 * 2 ^ 32 + (0x00418937#32).toNat ≤ 0x200418937 := by decide +kernel

/-- The last word of the coefficient memory, which no context owns; and the first word of a context's block, OFF and LIVE. -/
theorem test_hyp_CoefficientWrite :
    let off := at_ [(F.CTX_COEF.LENGTH, 0, 1)]
    let live := at_ [(F.CTX_COEF.LENGTH, 0, 1), (F.CTX_CTRL.MODE, 0, 1)]
    open_ State.reset 0 .cfg = true ∧ State.reset.reg (0x100000 + 4 * 1048575) ≠ 1#32
    ∧ (∀ c ∈ State.reset.coefOwners (0x100000 + 4 * 1048575), State.reset.coefOpen c = true)
    ∧ (open_ off 0 .cfg = true ∧ off.coefOwners 0x100000 = [0] ∧ off.coefOpen 0 = true)
    ∧ (open_ live 0 .cfg = true ∧ canon live = true ∧ ∃ c ∈ live.coefOwners 0x100000, live.coefOpen c = false) := by decide +kernel

theorem test_hyp_StageCountersCleared : canon State.reset = true ∧ open_ State.reset 11 .any = true
    ∧ open_ (at_ [(F.DBG_STATUS.LEVEL, 0, 2)]) 13 .any = true ∧ canon (at_ [(F.OVERRUN_CNT.COUNT, 0, 2 ^ 32 - 1)]) = true := by decide +kernel

theorem test_hyp_ServiceCountersCleared : canon (at_ [(F.CTX_RUN_CNT.COUNT, 191, 2 ^ 32 - 1), (F.PWR_CNT.RAISES, 0, 1)]) = true
    ∧ open_ (at_ [(F.CTX_RUN_CNT.COUNT, 191, 2 ^ 32 - 1), (F.PWR_CNT.RAISES, 0, 1)]) 0 .any = true := by decide +kernel

/-- A lane of the bond while UP in DUPLEX is busy; the other states on a string lane, FINAL on a TWIN lane. -/
theorem test_hyp_LaneRestarts :
    let st := fun (l v : Nat) => at_ [(F.LANE_STATUS.STATE, l, v)]
    let busy := at_ [(F.LANE_STATUS.STATE, 64, 5), (F.TWIN_STATUS.MODE, 0, 2)]
    canon (st 0 1) = true ∧ (st 0 1).laneSt 0 ≠ 0 ∧ (st 71 1).laneBusy 71 = false ∧ open_ (st 71 1) 0 .any = true
    ∧ State.reset.laneSt 0 = 0 ∧ State.reset.laneBusy 0 = false ∧ open_ State.reset 0 .any = true
    ∧ busy.laneBusy 64 = true ∧ open_ busy 0 .any = true ∧ canon busy = true
    ∧ (st 63 7).laneSt 63 = 7 ∧ (st 0 6).laneSt 0 = 6 ∧ (st 67 4).laneSt 67 = 4 ∧ isTwin 67 = true := by decide +kernel

theorem test_hyp_LaneRequests :
    let en := at_ [(F.LANE_CTRL.ENABLE, 64, 1), (F.LANE_STATUS.STATE, 64, 5)]
    let busy := en.having [(F.TWIN_STATUS.MODE, 0, 4)]
    let man := at_ [(F.LANE_CTRL.ALIGN_MODE, 0, 1)]
    (open_ man 0 .any = true ∧ man.flag F.LANE_CTRL.ALIGN_MODE 0 = true ∧ man.flag F.LANE_STATUS.BLOCK_LOCK 0 = false)
    ∧ State.reset.flag F.LANE_CTRL.ALIGN_MODE 0 = false
    ∧ (State.reset.laneBusy 0 = false ∧ busy.laneBusy 64 = true ∧ open_ busy 0 .any = true ∧ busy.get F.LANE_CTRL.TX_PWR_REQ 64 ≠ 2)
    ∧ (open_ State.reset 0 .cfg = true ∧ State.reset.flag F.LANE_CTRL.ENABLE 0 = false ∧ State.reset.laneSt 0 = 0
        ∧ (at_ [(F.BOOT_STATUS.STEP, 0, 5)]).get F.BOOT_STATUS.STEP < 6 ∧ 6 ≤ (at_ [(F.BOOT_STATUS.STEP, 0, 6)]).get F.BOOT_STATUS.STEP)
    ∧ (open_ en 0 .cfg = true ∧ en.flag F.LANE_CTRL.ENABLE 64 = true ∧ en.laneBusy 64 = false) 
    ∧ (let arm := (at_ [(F.LANE_CTRL.ENABLE, 0, 1), (F.CAT_STR_INFO.DECLARED, 0, 1)]).setArm 0 { deblocked := true }
       open_ arm 0 .cfg = true ∧ arm.flag F.LANE_CTRL.ENABLE 0 = true ∧ arm.laneBusy 0 = true ∧ canon arm = true) := by decide +kernel

theorem test_hyp_LaneDetectors :
    let st := fun (l v : Nat) => at_ [(F.LANE_STATUS.STATE, l, v)]
    (st 0 2).laneSt 0 ≠ 1 ∧ (st 0 1).laneSt 0 = 1 ∧ canon (st 0 1) = true
    ∧ State.reset.flag (if refOf 0 = 0 then F.LANE_COMMON.REFCLK_0_LOSS else F.LANE_COMMON.REFCLK_1_LOSS) = false
    ∧ State.reset.laneSt 0 ≠ 6 ∧ (st 0 6).laneSt 0 = 6 ∧ isCell 0 = true ∧ (st 0 4).laneSt 0 = 4
    ∧ (∃ m : Fin 72, refOf m = 0) ∧ (∃ m : Fin 72, refOf m = 1) := by decide +kernel

/-- A training block whose CHECK holds: the CRC-16 of R51 over zero fields. -/
def trainBlock : Block :=
  let body : Nat := 0xE1 * 2 ^ 56
  BitVec.ofNat 64 (body + Crc.crc16 (Crc.bytesBE 6 (body / 2 ^ 16)))

theorem test_hyp_LaneTraining :
    let st := fun (v : Nat) (x : LaneState) => (at_ [(F.LANE_STATUS.STATE, 0, v), (F.LANE_CTRL.GEN_MAX, 0, 3)]).setLane 0 x
    let neg := (st 3 { matched := 16 }).having [(F.LANE_TAPS.FAR_GEN_CAP, 0, 7)]
    (neg.laneSt 0 = 3 ∧ 16 ≤ (neg.lane 0).matched ∧ neg.genSel 0 ≠ 0 ∧ canon neg = true)
    ∧ ((st 4 { ownReady := true, readyRun := 8 }).laneSt 0 = 4 ∧ ((st 4 { ownReady := true, readyRun := 8 }).lane 0).ownReady = true
        ∧ 8 ≤ ((st 4 { ownReady := true, readyRun := 8 }).lane 0).readyRun ∧ isTwin 0 = false)
    ∧ (let s := at_ [(F.LANE_STATUS.STATE, 63, 2), (F.LANE_STATUS.BLOCK_LOCK, 63, 1)]
       s.laneSt 63 = 2 ∧ isCell 63 = true ∧ s.flag F.LANE_STATUS.BLOCK_LOCK 63 = true ∧ (s.lane 63).heard = false)
    ∧ ((st 2 {}).laneSt 0 = 2 ∧ (st 2 {}).flag F.LANE_STATUS.BLOCK_LOCK 0 = false)
    ∧ isStn 0 = false ∧ trainingOk trainBlock = true ∧ trainingOk (~~~ (~~~ trainBlock)) = true ∧ trainingOk 0 = false := by decide +kernel

theorem test_hyp_TapsStayLegal : let s := at_ [(F.LANE_TAPS.C_MAIN, 0, (presetTaps 0).2.1), (F.LANE_STATUS.STATE, 0, 5)]
    tapsOk ((s.get F.LANE_TAPS.C_PRE 0 : Int), (s.get F.LANE_TAPS.C_MAIN 0 : Int), (s.get F.LANE_TAPS.C_POST 0 : Int)) = true
    ∧ s.laneSt 0 = 5 ∧ canon s = true := by decide +kernel

theorem test_hyp_BondAndPower :
    let s := at_ [(F.BOND_STATUS.WIDTH, 0, 2), (F.LANE_STATUS.RX_PWR, 64, 1), (F.LANE_STATUS.STATE, 64, 5)]
    State.reset.get F.BOND_STATUS.WIDTH = 0 ∧ s.get F.BOND_STATUS.WIDTH ≠ 0 ∧ canon s = true ∧ (32 : Nat) < 33
    ∧ State.reset.get F.LANE_STATUS.RX_PWR 64 = 0 ∧ s.get F.LANE_CTRL.RX_PWR_REQ 64 = 0 ∧ s.get F.LANE_STATUS.RX_PWR 64 ≠ 0 ∧ s.laneSt 64 ≠ 0 := by
  decide +kernel

theorem test_hyp_StagedWrites : open_ State.reset 0 .live = true ∧ State.reset.flag F.TICK_STAGE.PENDING = false
    ∧ open_ (at_ [(F.TICK_STAGE.PENDING, 0, 1)]) 0 .live = true ∧ (at_ [(F.TICK_STAGE.PENDING, 0, 1)]).flag F.TICK_STAGE.PENDING = true
    ∧ canon (at_ [(F.TICK_STAGE.PENDING, 0, 1)]) = true := by decide +kernel

/-- A tick of 20 µs, staged to stay so, with one string of two cells that the last run from the senior's end reached at SL-3. -/
def tickState : State :=
  (at_ [(F.TICK_PERIOD.PERIOD, 0, 10000), (F.TICK_CUTOFF.CUTOFF, 0, 2000), (F.TICK_OUTPUT.OUTPUT, 0, 8000), (F.TICK_PIP.PIP_DIV, 0, 1),
    (F.TICK_STG_PERIOD.VALUE, 0, 10000), (F.TICK_STG_CUTOFF.VALUE, 0, 2000), (F.TICK_STG_OUTPUT.VALUE, 0, 8000), (F.TICK_STG_PIP.VALUE, 0, 1),
    (F.TICK_STAGE.STAGED, 0, 15), (F.CAT_STR_INFO.DECLARED, 0, 2), (F.CAT_STR_INFO.GEN_DECL, 0, 3)]).setLink 0
    { resA := some ⟨1, 2, false, []⟩ }

theorem test_hyp_CommitJudged :
    let s := tickState
    let g := s.stagedGroup
    let slow := s.having [(F.COMPUTE_SCHEDULE.CYCLES, 0, 65535)]
    let wide := s.having [(F.TICK_STG_PERIOD.VALUE, 0, 1999)]
    canon s = true ∧ open_ s 0 .live = true ∧ s.flag F.TICK_STAGE.PENDING = false ∧ s.get F.TICK_STAGE.STAGED = 15
    ∧ s.rangesOk g = true ∧ s.transitionOk g = true
    ∧ (s.get F.COMPUTE_SCHEDULE.CYCLES * 16 + 11) / 12 ≤ computeWindow (2 * g.period) (2 * g.cutoff)
    ∧ s.strings = [0] ∧ s.reach 0 .a = 2 ∧ (∀ k ∈ s.strings, s.ceilingOk g k (s.slowestGen k) = true ∧ ∀ e ∈ s.drivenEnds,
        (∀ h ∈ List.range (s.reach k e), 3 * (s.reach k e - h) * blockPs (s.hopGen k e h) + 100000 ≤ 2000 * g.cutoff)
        ∧ (∀ d ∈ List.range (s.reach k e), 0 ≤ s.dispatchMargin g k e d))
    ∧ (s.having [(F.TWIN_STATUS.MODE, 0, 2)]).mode = 2 ∧ (s.having [(F.TWIN_STATUS.MODE, 0, 4)]).mode = 4
    ∧ (s.having [(F.TICK_STAGE.PENDING, 0, 1)]).flag F.TICK_STAGE.PENDING = true ∧ s.twinShut = false
    ∧ (s.having [(F.TICK_STAGE.STAGED, 0, 14)]).get F.TICK_STAGE.STAGED ≠ 15
    ∧ wide.rangesOk wide.stagedGroup = false
    ∧ (slow.rangesOk slow.stagedGroup = true ∧ slow.transitionOk slow.stagedGroup = true
        ∧ computeWindow (2 * slow.stagedGroup.period) (2 * slow.stagedGroup.cutoff) < (slow.get F.COMPUTE_SCHEDULE.CYCLES * 16 + 11) / 12) := by
  decide +kernel

theorem test_hyp_TickBegins :
    let land := { tickState with tick := { landing := some ⟨10000, 2000, 8000, 1, 5⟩ } }
    let run := { tickState with tick := { running := true, begun := true, absT := 2 ^ 32 - 1 }, clk := { step := some (1, false) } }
    (State.reset.tick.landing = none) ∧ (land.tickNo ≤ 5) ∧ (5 < (land.having [(F.TICK_CNT_LO.COUNT, 0, 6)]).tickNo)
    ∧ canon land = true ∧ canon run = true ∧ run.mode ≠ 5 ∧ State.reset.tick.running = false ∧ run.clk.step ≠ none
    ∧ ({ State.reset with tick := { running := true } } : State).tick.begun = false := by decide +kernel

theorem test_hyp_MeasurementRequests :
    let cal := at_ [(F.ADC_STATUS.CAL_STATE, 0, 1)]
    let stream := at_ [(F.ADC_CTRL.ADC_MODE, 0, 1)]
    let deb := State.reset.setArm 15 { deblocked := true }
    let on := at_ [(F.MCH_CTRL.ENABLE, 23, 1)]
    canon deb = true ∧ canon on = true ∧ (∀ s ∈ [State.reset, cal, stream, deb, on], open_ s 0 .any = true ∧ open_ s 0 .cfg = true)
    ∧ cal.calRunning = true ∧ stream.flag F.ADC_CTRL.ADC_MODE = true
    ∧ State.reset.calRunning = false ∧ State.reset.flag F.ADC_CTRL.ADC_MODE = false
    ∧ on.analogue 23 = true ∧ on.analogue 22 = false ∧ ((List.replicate 24 (0x8000#16))[23]?).isSome = true
    ∧ deb.calRunning = false ∧ deb.anyDeblocked = true ∧ State.reset.anyDeblocked = false
    ∧ State.reset.get F.MCH_CTRL.RANGE 23 = 0 ∧ State.reset.get F.MCH_CTRL.RANGE 23 ≠ 2 := by decide +kernel

theorem test_hyp_Conversions :
    let on := at_ [(F.MCH_CTRL.ENABLE, 0, 1)]
    let stream := on.having [(F.ADC_CTRL.ADC_MODE, 0, 1)]
    let cal := on.having [(F.ADC_STATUS.CAL_STATE, 0, 1), (F.BOOT_STATUS.STEP, 0, 8)]
    canon stream = true ∧ on.analogue 0 = true ∧ on.analogue 1 = false ∧ overCode 32767 = true ∧ overCode 0 = false
    ∧ on.flag F.ADC_CTRL.ADC_MODE = false ∧ stream.flag F.ADC_CTRL.ADC_MODE = true
    ∧ cal.calRunning = true ∧ cal.get F.BOOT_STATUS.STEP ≠ 9 ∧ cal.flag F.MCH_CTRL.SOURCE 0 = false
    ∧ State.reset.get F.ADC_STATUS.CAL_TEMP + 15 < (16#8).toNat := by decide +kernel

/-- A frame of one sample for stream 7, whose svID is empty, by port 3. -/
def svFrame : SvFrame := ⟨3, 0x4000, [], 1, false, [(0, 2, [(0, 0)])]⟩

theorem test_hyp_SampledValueFrames :
    let s := at_ [(F.SV_CTRL.ENABLE, 7, 1), (F.SV_CTRL.PORT, 7, 3), (F.SV_CTRL.APPID, 7, 0x4000),
      (F.SV_MATCH.SVID_CRC, 7, Crc.crc16 []), (F.SV_MATCH.CONF_REV, 7, 1)]
    canon s = true ∧ (∀ j ∈ List.range 8, State.reset.svPort j svFrame = false)
    ∧ s.svPort 7 svFrame = true ∧ s.svBelongs 7 svFrame = true ∧ s.flag F.SV_CTRL.ANY_PORT 7 = false
    ∧ (∀ j ∈ List.range 8, (s.svPort j { svFrame with appid := 0x4001 } && s.svBelongs j { svFrame with appid := 0x4001 }) = false) := by
  decide +kernel

theorem test_hyp_DebugHalt :
    let md := fun (m : Nat) => at_ [(F.TWIN_STATUS.MODE, 0, m)]
    let halted := at_ [(F.EDGE_HALT.HALTED, 0, 1)]
    (∀ m ∈ [0, 1, 3], open_ (md m) 0 .cfg = true ∧ canon (md m) = true)
    ∧ ((0 : Nat) < 12 ∧ Lock.admits .cfg ((md 5).get F.LC_STATE.STATE) false = true ∧ (md 5).twinShut = true)
    ∧ (at_ [(F.DBG_STATUS.LEVEL, 0, 2)]).level = 2 ∧ (at_ [(F.DBG_STATUS.LEVEL, 0, 1)]).level ≠ 2
    ∧ State.reset.flag F.EDGE_HALT.HALTED = false ∧ halted.flag F.EDGE_HALT.HALTED = true ∧ open_ halted 0 .cfg = true := by decide +kernel

theorem test_hyp_FramesLeave :
    let s := { at_ [(F.LANE_STATUS.STATE, 63, 5), (F.LINK_STR_STATUS.HOP0_VER, 63, 1)] with tick := { frames := [(0, []), (63, [0])] } }
    canon s = true ∧ (s.tick.frames.map (·.1)).Nodup ∧ s.hopOpen 63 = true ∧ s.hopOpen 0 = false := by decide +kernel

/-- A declared and sealed context 191 in a mode, with its life-cycle state. -/
def ctxState (mode lc : Nat) : State :=
  at_ [(F.CTX_COEF.LENGTH, 191, 1), (F.CTX_STATUS.SEALED, 191, 1), (F.CTX_CTRL.MODE, 191, mode), (F.LC_STATE.STATE, 0, lc)]

theorem test_hyp_ContextWrites :
    let s := ctxState 0 2
    let inj := fun (st : Nat) => (ctxState 1 2).having [(F.CTX_INJ_STATUS.STATE, 191, st)]
    canon s = true ∧ open_ s 0 .live = true ∧ s.ctxDeclared 191 = true ∧ s.ctxFaulted 191 = false
    ∧ (s.ctxModeOf 191 = 0 ∧ s.ctxSealed 191 = true ∧ s.ctxArmed 191 = false) ∧ (ctxState 2 2).ctxModeOf 191 = 2 ∧ (ctxState 1 2).ctxModeOf 191 = 1
    ∧ (State.reset.ctxModeOf 191 ≠ 2 ∧ State.reset.ctxDeclared 191 = false)
    ∧ (open_ (inj 0) 0 .live = true ∧ (inj 0).ctxDeclared 191 = true ∧ (inj 0).get F.CTX_INJ_STATUS.STATE 191 = 0 ∧ (inj 0).get F.LC_STATE.STATE = 2)
    ∧ (inj 1).get F.CTX_INJ_STATUS.STATE 191 = 1 ∧ (inj 3).get F.CTX_INJ_STATUS.STATE 191 ≠ 1
    ∧ ((inj 2).get F.CTX_INJ_STATUS.STATE 191 = 2 ∧ (inj 2).get F.CTX_INJ_CTRL.DURATION 191 ≤ ((inj 2).ctx 191).injM)
    ∧ (let r := (inj 2).having [(F.CTX_INJ_CTRL.DURATION, 191, 1)]; (r.ctx 191).injM < r.get F.CTX_INJ_CTRL.DURATION 191) := by decide +kernel

theorem test_hyp_SealAndConstants :
    let const := at_ [(F.SIG_PROD.KIND, 4095, 1)]
    let deb := State.reset.setArm 0 { deblocked := true }
    open_ (ctxState 0 0) 0 .cfg = true ∧ (ctxState 0 0).ctxDeclared 191 = true ∧ State.reset.ctxDeclared 0 = false
    ∧ open_ const 0 .cfg = true ∧ const.mode = 0 ∧ const.sigKind 4095 = 1 ∧ canon const = true
    ∧ State.reset.sigKind 0 ≠ 1 ∧ State.reset.sig 0 ≠ 1#32
    ∧ open_ State.reset 0 .any = true ∧ (State.reset.arm (State.reset.cellArm 6143)).deblocked = false
    ∧ (deb.arm (deb.cellArm 0)).deblocked = true ∧ deb.get F.CAT_ENTRY_W3.WEAR 0 ≠ (1#32).toNat := by decide +kernel

theorem test_hyp_ContextSupervision :
    let s := (ctxState 1 2).having [(F.CTX_STATUS.LOST_CNT, 191, 1), (F.CTX_LIMITS.FRZ_RUNS, 191, 1), (F.CTX_LIMITS.CMP_WIN, 191, 1)]
    let x := s.setCtx 191 { frz := List.replicate 16 1, cmpRuns := 1, fe := [1] }
    let f := (x.setReg (x.coefAddr 191 0) (BitVec.ofNat 32 (2 ^ 8))).having [(F.CTX_FE_TIME.FE_TIME_0, 191, 1)]
    canon s = true ∧ s.ctxDeclared 191 = true ∧ s.ctxFaulted 191 = false ∧ s.ctxModeOf 191 ≠ 0
    ∧ s.get F.CTX_LIMITS.LOST_MAX 191 < s.get F.CTX_STATUS.LOST_CNT 191
    ∧ State.reset.get F.CTX_STATUS.LOST_CNT 0 ≤ State.reset.get F.CTX_LIMITS.LOST_MAX 0
    ∧ f.feDue 191 = some 0 ∧ canon f = true ∧ s.feDue 191 = none
    ∧ (x.get F.CTX_LIMITS.FRZ_RUNS 191 ≠ 0 ∧ x.get F.CTX_LIMITS.FRZ_RUNS 191 ≤ (x.ctx 191).frz.getD 15 0)
    ∧ (x.get F.CTX_LIMITS.CMP_WIN 191 ≠ 0 ∧ x.get F.CTX_LIMITS.CMP_WIN 191 ≤ (x.ctx 191).cmpRuns) := by decide +kernel

theorem test_hyp_ScrubFindsMismatch :
    let s := ctxState 1 2
    let good := s.setReg (s.coefAddr 191 2) (BitVec.ofNat 32 (s.coefCrc 191))
    canon good = true ∧ State.reset.ctxDeclared 191 = false ∧ s.ctxDeclared 191 = true ∧ s.ctxSealed 191 = true
    ∧ good.coefCrc 191 = (good.coef 191 2).toNat
    ∧ (let bad := good.setReg (good.coefAddr 191 2) 1#32; bad.coefCrc 191 ≠ (bad.coef 191 2).toNat) := by decide +kernel

/-- A twin with its bond at full width, in a mode. -/
def twinState (mode : Nat) : State :=
  at_ [(F.TWIN_CTRL.TWIN_EN, 0, 1), (F.BOND_STATUS.WIDTH, 0, 2), (F.BOND_STATUS.FORMED, 0, 1), (F.TWIN_STATUS.MODE, 0, mode),
    (F.LANE_STATUS.STATE, 64, 5), (F.LANE_STATUS.STATE, 65, 5), (F.LANE_STATUS.STATE, 66, 5), (F.LANE_STATUS.STATE, 67, 5)]

theorem test_hyp_TwinRequests :
    let j := { twinState 5 with twin := { join := { waiting := true } } }
    open_ (twinState 2) 0 .any = true ∧ canon (twinState 2) = true ∧ (j.mode = 5 ∧ j.twin.join.waiting = true ∧ j.bondOpen = true ∧ open_ j 0 .any = true)
    ∧ (twinState 5).twin.join.waiting = false ∧ ((twinState 1).mode = 1 ∧ (twinState 1).bondOpen = true)
    ∧ ((twinState 1).twin.entry = none ∧ (twinState 1).get F.TWIN_STATUS.FAIL_REASON ≠ 1 ∧ ((twinState 1).junior && (twinState 1).twin.pairFailed) = false)
    ∧ ((twinState 2).mode ≠ 1 ∧ (twinState 2).mode ≠ 5) := by decide +kernel

/-- HEART of a mode and tick, with its CHECK. -/
def heart (mode tick : Nat) : List Block := xlMsg [mkBlock [(0x01, 56), (mode, 53)], BitVec.ofNat 64 tick, 0]

theorem test_hyp_Heartbeat :
    let s := (twinState 2).having [(F.TWIN_CTRL.HB_MISS, 0, 2)]
    let m1 := { s with twin := { missed := 1 } }
    xlBody 0x01 [0] = none ∧ xlBody 0x01 (heart 5 0) = some (heart 5 0).dropLast ∧ (heart 5 0).dropLast.length = 3
    ∧ (((heart 5 0).dropLast.getD 1 0).toNat = s.tickNo ∧ Block.get ((heart 5 0).dropLast.getD 0 0) 55 53 = 5 ∧ Block.get ((heart 2 0).dropLast.getD 0 0) 55 53 ≠ 5)
    ∧ canon s = true ∧ State.reset.mode = 0 ∧ ({ s with twin := { heart := some 0 } } : State).twin.heart = some s.tickNo
    ∧ (s.mode ≠ 0 ∧ s.twin.heart ≠ some s.tickNo ∧ s.twin.missed + 1 < s.get F.TWIN_CTRL.HB_MISS)
    ∧ (m1.mode = 2 ∧ m1.get F.TWIN_CTRL.HB_MISS ≤ m1.twin.missed + 1 ∧ m1.twin.missed < m1.get F.TWIN_CTRL.HB_MISS)
    ∧ (let m2 : State := { s with twin := { missed := 2 } }; m2.get F.TWIN_CTRL.HB_MISS ≤ m2.twin.missed) := by decide +kernel

/-- An order frame of the other end for string 63 in a role, as a hop of version 2 carries it. -/
def otherFrame (role : Nat) : List Block :=
  let msg := [mkBlock [(0x10, 56), (63, 26), (2, 24), (role, 22), (1, 14)], 0]
  msg ++ [checkBlock 2 1 false msg]

theorem test_hyp_Partition :
    let md := fun (m role : Nat) => at_ [(F.TWIN_CTRL.TWIN_EN, 0, 1), (F.TWIN_STATUS.MODE, 0, m), (F.TWIN_STATUS.ROLE, 0, role),
      (F.LINK_STR_STATUS.HOP0_VER, 63, 2), (F.LANE_STATUS.STATE, 63, 5), (F.TWIN_CTRL.PART_CONFIRM, 0, 3), (F.LINK_CTRL.ORDER_TIMEOUT, 0, 4)]
    let jr := md 4 1
    let late := jr.having [(F.TICK_CNT_LO.COUNT, 0, 5)]
    let due := at_ [(F.CAT_STR_INFO.DECLARED, 63, 1), (F.TWIN_STR.RUN, 63, 2), (F.TWIN_CTRL.REDISC_AFTER, 0, 2)]
    canon jr = true ∧ jr.hopVer 63 ≠ 0 ∧ jr.get F.LANE_STATUS.STATE 63 = 5
    ∧ checkRx (jr.hopVer 63) (jr.link 63).rxSeq (otherFrame 1) = .ok (otherFrame 1).dropLast 1
    ∧ ((otherFrame 1).dropLast.head?.all fun h => bType h = 0x10 ∧ Block.get h 31 26 = 63 ∧ Block.get h 23 22 = 1) = true
    ∧ (jr.junior = true ∧ jr.mode = 4 ∧ (md 3 1).mode = 3 ∧ (md 4 0).junior = false ∧ (md 4 0).mode = 4)
    ∧ ((md 4 0).get F.TWIN_CTRL.PART_CONFIRM ≤ ({ md 4 0 with twin := { silent := 3 } } : State).twin.silent
        ∧ (md 4 0).twin.silent < (md 4 0).get F.TWIN_CTRL.PART_CONFIRM)
    ∧ (late.twin.atDispatch = none ∧ late.twin.partTick + late.get F.LINK_CTRL.ORDER_TIMEOUT < late.tickNo)
    ∧ (let edge := jr.having [(F.TICK_CNT_LO.COUNT, 0, 4)]; edge.tickNo ≤ edge.twin.partTick + edge.get F.LINK_CTRL.ORDER_TIMEOUT)
    ∧ (due.declared 63 ≠ 0 ∧ due.get F.TWIN_STR.RUN 63 = due.get F.TWIN_CTRL.REDISC_AFTER ∧ (due.link 63).run = none)
    ∧ (due.having [(F.TWIN_STR.RUN, 63, 1)]).get F.TWIN_STR.RUN 63 ≠ due.get F.TWIN_CTRL.REDISC_AFTER := by decide +kernel

/-- What a peer in a mode tells of itself, as s would tell it in the other role. -/
def peerOf (s : State) (mode : Nat) : PairMsg := { s.pairMsg false none none with mode := mode, junior := !s.junior }

theorem test_hyp_EventMessages :
    let p := twinState 1
    let solo := twinState 3
    let late : State := { twinState 2 with twin := { unacked := [(1, 0, .pair (p.pairMsg false none none))] } }
    canon p = true ∧ State.seqLe (0#16).toNat p.twin.ackSeq = true
    ∧ ((1#16).toNat = (p.twin.ackSeq + 1) % 2 ^ 16 ∧ p.twin.ackSeq < 2 ^ 16 ∧ p.twin.ahead = [])
    ∧ (let w : State := { p with twin := { ackSeq := 2 ^ 16 - 1 } }; (0#16).toNat = (w.twin.ackSeq + 1) % 2 ^ 16)
    ∧ (twinState 5).mode = 5 ∧ p.tickNo < 1
    ∧ ((peerOf p 3).mode ≠ 1 ∧ (peerOf p 1).mode = 1 ∧ p.mode = 1)
    ∧ (p.pairCheck { peerOf p 1 with junior := p.junior } ≠ 0)
    ∧ (p.pairCheck (peerOf p 1) = 0 ∧ p.junior = false ∧ p.twin.entry = none)
    ∧ (solo.mode = 3 ∧ solo.pairCheck (peerOf solo 1) = 0 ∧ (peerOf solo 1).ready = false ∧ solo.bondOpen = true)
    ∧ late.bondOpen = true ∧ (late.having [(F.TICK_CNT_LO.COUNT, 0, 2)]).tickNo = 2 ∧ State.reset.bondOpen = false := by decide +kernel

/-- A twin in DUPLEX with one string of two cells driven from both ends. -/
def duplexState : State :=
  ((twinState 2).having [(F.CAT_STR_INFO.DECLARED, 0, 2)]).setLink 0 { resA := some ⟨1, 2, false, []⟩, resB := some ⟨1, 2, false, []⟩ }

theorem test_hyp_ReportAgreement :
    let s := duplexState
    let got : State := { s with twin := { peer := some (0, ⟨[⟨0, false, false, 0, 0⟩], []⟩) } }
    let msg := s.agreeMsg s.agreeOf
    canon s = true ∧ s.mode = 2 ∧ s.bondOpen = true ∧ (State.reset.mode ≠ 2 ∧ State.reset.mode ≠ 5)
    ∧ xlBody 0x03 [] = none ∧ xlBody 0x03 (xlMsg msg) = some msg ∧ (readAgree msg).isSome = true
    ∧ ({ s with twin := { decided := some 0 } } : State).twin.decided = some s.tickNo
    ∧ (s.twin.decided ≠ some s.tickNo ∧ s.twin.peer = none)
    ∧ (got.twin.decided ≠ some got.tickNo ∧ got.allCells.Nodup ∧ got.strings = [0] ∧ got.shared 0 1 = true)
    ∧ xlBody 0x05 (xlMsg s.presenceMsg) = some s.presenceMsg ∧ s.twin.odd = [] := by decide +kernel

theorem test_hyp_ChannelExchange :
    let s := twinState 2
    let got : State := { s with twin := { adc := some (0, []) } }
    let msg : List Block := [mkBlock [(0x02, 56)], mkBlock [(23, 0)]]
    canon s = true ∧ s.mode = 2 ∧ s.bondOpen = true ∧ xlBody 0x02 [] = none ∧ xlBody 0x02 (xlMsg msg) = some msg
    ∧ (got.twin.adc.any fun p => p.1 = got.tickNo) = true ∧ (s.twin.adc.all fun p => p.1 ≠ s.tickNo) = true
    ∧ (msg.head?.all fun h => Block.get h 31 0 = s.tickNo % 2 ^ 32) = true
    ∧ (let later := s.having [(F.TICK_CNT_LO.COUNT, 0, 1)]; (msg.head?.all fun h => Block.get h 31 0 ≠ later.tickNo % 2 ^ 32) = true)
    ∧ ((msg.drop 1).find? fun d => Block.get d 4 0 = 23).isSome = true := by decide +kernel

theorem test_hyp_DivergenceFound :
    let mine : TickDigest := ⟨0, 1, false, false, false⟩
    let s : State := { twinState 2 with twin := { mine := some mine } }
    let h := mkBlock [(0x04, 56)]
    canon s = true ∧ xlBody 0x04 (xlMsg [h, 0]) = some [h, 0] ∧ s.mode = 2 ∧ Block.get h 31 0 = s.tickNo % 2 ^ 32 ∧ s.twin.theirs = none
    ∧ s.twin.mine = some mine ∧ mine.tick = s.tickNo ∧ s.twin.compared = none
    ∧ mine.digest ≠ BitVec.ofNat 32 (Block.get 0 63 32) ∧ mine.digest = BitVec.ofNat 32 (Block.get (mkBlock [(1, 32)]) 63 32)
    ∧ (Block.get (mkBlock [(0x04, 56), (1, 54)]) 54 54 = 1 ∧ s.junior = false) := by decide +kernel

theorem test_hyp_Rejoining :
    let s := twinState 5
    let named : State := { s with twin := { join := { snapTick := some 7 } } }
    let inst : State := { s.having [(F.TWIN_REJOIN.PHASE, 0, 2)] with twin := { join := { installed := true } } }
    let entry := fun (m : Nat) => ({ twinState m with twin := { entry := some 0 } } : State)
    (twinState 3).mode ≠ 5 ∧ canon s = true ∧ s.mode = 5 ∧ s.twin.join.waiting = false ∧ s.twin.join.installed = false
    ∧ named.twin.join.snapTick = some 7 ∧ (inst.twin.join.installed = true ∧ inst.get F.TWIN_REJOIN.PHASE = 2 ∧ inst.twin.join.log = [] ∧ inst.bondOpen = true)
    ∧ canon inst = true ∧ s.get F.TWIN_REJOIN.PHASE ≠ 2 ∧ s.twin.entry = none
    ∧ (0 ≤ (entry 3).tickNo ∧ (entry 3).mode = 3 ∧ (entry 1).mode = 1 ∧ (entry 1).junior = false)
    ∧ ((twinState 3).tickNo < ({ twinState 3 with twin := { entry := some 1 } } : State).twin.entry.getD 0) := by decide +kernel

/-- A device past READY in a tick whose compute has run. -/
def runState (mode : Nat) (st : Stage) : State :=
  { (twinState mode).having [(F.BOOT_STATUS.READY, 0, 1), (F.CAT_STR_INFO.DECLARED, 63, 128)] with
    tick := { running := true, begun := true, opened := true, stage := st } }

theorem test_hyp_TickPhases :
    let s := runState 0 .computed
    let closed : State := { s with tick := { s.tick with opened := false, stage := .idle } }
    let rep : State := { s with tick := { s.tick with reportsOpen := true } }
    State.reset.tick.running = false ∧ s.tick.reportsOpen = false ∧ (rep.tick.running = true ∧ rep.tick.reportsOpen = true ∧ rep.strings = [63])
    ∧ s.tick.opened = true ∧ (closed.tick.running = true ∧ closed.tick.begun = true ∧ closed.tick.opened = false ∧ closed.isReady = true
        ∧ closed.mode ≠ 1 ∧ closed.mode ≠ 5) ∧ (EccEvent.corrected 9 0).overruns = false
    ∧ ({ s with tick := { s.tick with handed := true } } : State).tick.handed = true
    ∧ (s.tick.handed = false ∧ s.isReady = true ∧ s.twin.atDispatch = none ∧ s.tick.haltReq = false ∧ s.tick.stage ≠ .withheld)
    ∧ canon s = true := by decide +kernel

theorem test_hyp_Overruns :
    let s := runState 2 .computed
    let third := fun (m c : Nat) => (runState m .computed).having [(F.OVERRUN_STATUS.CONSEC, 0, c)]
    canon s = true ∧ State.reset.tick.stage ≠ .computed ∧ s.tick.stage = .computed ∧ s.tick.handed = false
    ∧ (s.mode = 2 ∧ 2 ≤ (third 2 2).get F.OVERRUN_STATUS.CONSEC ∧ s.twin.atDispatch = none) ∧ ((third 0 2).mode = 0 ∧ (third 4 2).mode = 4)
    ∧ s.get F.OVERRUN_STATUS.CONSEC ≠ 3 ∧ (third 2 3).get F.OVERRUN_STATUS.CONSEC = 3 ∧ (third 3 3).mode = 3
    ∧ s.tick.lateDue = false ∧ ({ s with tick := { s.tick with lateDue := true } } : State).tick.lateDue = true
    ∧ open_ s 0 .any = true ∧ (s.tick.running = true ∧ s.tick.begun = true ∧ s.isReady = true ∧ s.tick.haltReq = false) := by decide +kernel

/-- A record of capture 7 at directory entry 63, in a slot of the capture's region. -/
def rec63 (slot : Nat) : Rec :=
  { id := 1, kind := 0, cap := 7, status := 0, rowBytes := 8, nVal := 0, intervalNs := 50, pre := 0, preAct := 0, post := 1, slot := slot }

/-- The vitrine with capture 7 enabled, in a state, its region of two slots, and entry 63 holding rec63 in a state. -/
def recState (cap dir : Nat) : State :=
  ((at_ [(F.CAP_CTRL.ENABLE, 7, 1), (F.CAP_STATUS.SLOTS, 7, 2), (F.CAP_STATUS.STATE, 7, cap), (F.DIR_W0.STATE, 63, dir),
    (F.REC_STATUS.WIPE_DONE, 0, 1), (F.CAP_CTRL.COMPRESS, 7, 1), (F.REC_STATUS.MEM_PRESENT, 0, 1)]).setDirRec 63 (some (rec63 1))).setCap 7
    { slot := 1, dir := some 63 }

theorem test_hyp_RecordCommands :
    let s := recState 3 1
    let done := recState 5 2
    let frz := s.having [(F.REC_STATUS.FREEZE_REQ, 0, 1)]
    canon s = true ∧ open_ s 0 .any = true ∧ open_ s 0 .live = true
    ∧ State.reset.flag F.CAP_CTRL.ENABLE 7 = false ∧ (s.flag F.CAP_CTRL.ENABLE 7 = true ∧ s.flag F.REC_STATUS.WIPE_DONE = true ∧ s.capState 7 ∈ [2, 3, 4])
    ∧ (done.capState 7 ∉ [2, 3, 4] ∧ done.capSession 7 = false ∧ ∃ k ∈ List.range (done.get F.CAP_STATUS.SLOTS 7), k ∉ done.usedSlots 7)
    ∧ done.capState 7 = 5 ∧ (s.capState 7 = 3 ∧ s.capSession 7 = false ∧ (s.cap 7).dir = some 63 ∧ s.dirRec 63 = some (rec63 1))
    ∧ State.reset.capState 7 ≠ 3 ∧ State.reset.dirState 63 = 0 ∧ s.dirState 63 = 1 ∧ (done.dirState 63 ≠ 0 ∧ done.dirState 63 ≠ 1)
    ∧ ((recState 6 2).capState 7 ≠ 5) ∧ (7 < 8 ∧ (rec63 1).kind ≠ 2 ∧ (rec63 1).slot < done.get F.CAP_STATUS.SLOTS 7 ∧ (done.usedSlots 7).count 1 = 1)
    ∧ frz.flag F.REC_STATUS.FREEZE_REQ = true ∧ s.flag F.REC_STATUS.FREEZE_REQ = false ∧ hasBit 256 8 = true
    ∧ (State.reset.unitOn 9 = false ∧ (at_ [(F.SEQ_CTRL.ENABLE, 1, 1)]).unitOn 9 = true) := by decide +kernel

theorem test_hyp_RecordEvents :
    let cond := (List.range 64).map (State.reset.condBit [])
    let pat := (at_ [(F.PAT_CTRL.ENABLE, 7, 1), (F.PAT_CTRL.HOLDOFF, 7, 1)]).setUnit 7 { armed := true }
    let hold := pat.setUnit 7 { hold := true, prevMatch := true }
    let man : State := { recState 2 2 with vit := { (recState 2 2).vit with manual := some (2 ^ 7, 0) } }
    let seq := (at_ [(F.SEQ_CTRL.ENABLE, 1, 1), (F.SEQ_S_COUNT.COUNT_MAX, 1, 1), (F.SEQ_STATUS.COUNT, 1, 1), (F.SEQ_S_TIMER.TIMER, 1, 1)]).setUnit 9 { armed := true }
    canon pat = true ∧ canon man = true ∧ canon seq = true
    ∧ (at_ [(F.REC_STATUS.FREEZE_REQ, 0, 1)]).flag F.REC_STATUS.FREEZE_REQ = true ∧ pat.flag F.REC_STATUS.FREEZE_REQ = false
    ∧ (pat.unitOn 7 = true ∧ State.careMatch cond (pat.unitCare 7 0) = true ∧ pat.flag F.PAT_CTRL.EDGE 7 = false ∧ (pat.unit 7).hold = false ∧ (pat.unit 7).armed = true)
    ∧ ((hold.unit 7).hold = true ∧ (hold.unit 7).ended = false ∧ hold.get F.PAT_CTRL.HOLDOFF 7 ≠ 0 ∧ hold.get F.PAT_CTRL.HOLD_MODE 7 = 0)
    ∧ ((hold.having [(F.PAT_CTRL.EDGE, 7, 1)]).flag F.PAT_CTRL.EDGE 7 = true ∧ (hold.unit 7).prevMatch = true)
    ∧ State.careMatch cond ((at_ [(F.PAT_MASK_LO.BITS, 7, 1), (F.PAT_VALUE_LO.BITS, 7, 1)]).unitCare 7 0) = false
    ∧ ((∀ u ∈ List.range 10, man.unitOn u = false) ∧ man.vit.manual.map (·.1) = some (2 ^ 7) ∧ man.capState 7 = 2 ∧ man.capSession 7 = false ∧ man.freeDir = some 0)
    ∧ (seq.get F.SEQ_S_COUNT.COUNT_MAX 1 0 ≤ seq.get F.SEQ_STATUS.COUNT 1 ∧ seq.get F.SEQ_S_COUNT.COUNT_MAX 1 0 ≠ 0
        ∧ seq.get F.SEQ_STATUS.STATE 1 = seq.get F.SEQ_CTRL.LAST_STATE 1 ∧ (seq.unit 9).armed = true
        ∧ (seq.having [(F.SEQ_CTRL.LAST_STATE, 1, 1)]).get F.SEQ_CTRL.LAST_STATE 1 ≠ seq.get F.SEQ_STATUS.STATE 1
        ∧ (seq.having [(F.SEQ_STATUS.COUNT, 1, 0)]).get F.SEQ_STATUS.COUNT 1 < 1)
    ∧ (seq.get F.SEQ_S_TIMER.TIMER 1 0 ≠ 0 ∧ seq.get F.SEQ_S_TIMER.TIMER 1 0 ≤ (seq.unit 9).timer + 1)
    ∧ ((recState 3 1).capState 7 = 3 ∧ ((recState 3 1).cap 7).left = 0 ∧ (recState 3 1).capSession 7 = false)
    ∧ ((recState 4 1).capState 7 = 4 ∧ (recState 2 1).capState 7 = 2 ∧ (recState 6 1).capState 7 ≠ 2)
    ∧ ((recState 6 2).dirState 63 = 2 ∧ (rec63 1).packed = none ∧ (recState 6 2).flag F.CAP_CTRL.COMPRESS 7 = true ∧ (recState 6 2).get F.PWR_STATUS.CURTAIL = 0)
    ∧ (recState 6 3).dirState 63 = 3
    ∧ ((recState 6 3).flag F.REC_STATUS.WIPE_DONE = true ∧ ((recState 1 0).having [(F.REC_STATUS.WIPE_DONE, 0, 0)]).flag F.REC_STATUS.WIPE_DONE = false) := by
  decide +kernel

theorem test_hyp_TimeWrites :
    let deb := State.reset.setArm 0 { deblocked := true }
    let run : State := { at_ [(F.TICK_PERIOD.PERIOD, 0, 1000), (F.TIME_STATUS.EXT_VALID, 0, 1), (F.TIME_EXT_SEC_LO.SEC_LO, 0, 10)] with
      tick := { begun := true, running := true } }
    (∀ s ∈ [State.reset, deb, run, at_ [(F.TIME_SERVO.SOURCE, 0, 1)]], open_ s 0 .any = true ∧ canon s = true)
    ∧ State.reset.get F.TIME_SERVO.SOURCE = 0 ∧ (at_ [(F.TIME_SERVO.SOURCE, 0, 1)]).get F.TIME_SERVO.SOURCE ≠ 0
    ∧ (0x1FFBE76C9 ≤ (2#32).toNat % 256 * 2 ^ 32 + (0#32).toNat ∧ ¬ 0x1FFBE76C9 ≤ (1#32).toNat % 256 * 2 ^ 32 + (0#32).toNat)
    ∧ (let near := deb.setPath 0 { held := some (0x540008, 859#32) }
       near.anyDeblocked = true ∧ (2#32).toNat % 256 * 2 ^ 32 + (859#32).toNat ≤ near.timeInc + 859 ∧ canon near = true)
    ∧ State.reset.periodNs < (0#32).toInt.natAbs + 2000 ∧ ¬ run.periodNs < (0#32).toInt.natAbs + 2000 ∧ run.anyDeblocked = false
    ∧ (run.mode < 6 ∧ run.mode ≠ 2 ∧ run.tick.begun = true ∧ run.flag F.TIME_STATUS.EXT_VALID = true ∧ 2 ^ 33 ≤ run.extNs ∧ run.extNs < 2 ^ 62) := by
  decide +kernel

theorem test_hyp_TimeServices :
    let st := fun (v : Nat) => at_ [(F.TIME_STATUS.STATE, 0, v), (F.PTP_PORT.ROLE, 3, 1), (F.PTP_PORT.DOMAIN, 3, 255)]
    let acq : State := { st 1 with clk := { good := 1 } }
    let pps : State := { State.reset with clk := { lastPps := some 0 } }
    let diff : State := { State.reset with twin := { rxDiff := some 0 } }
    let sync : State := { st 1 with clk := { sync := some (7, ⟨0, 0⟩, 0), delayReq := some (7, 0), down := some 0 } }
    (∀ s ∈ [st 1, acq, pps, diff, sync], canon s = true)
    ∧ State.reset.clk.wraps ≤ State.reset.clk.extWraps ∧ ({ State.reset with clk := { wraps := 1 } } : State).clk.extWraps < 1
    ∧ (acq.servoState = 1 ∧ 0 < acq.clk.good ∧ acq.get F.TIME_SERVO.LOCK_CNT ≤ acq.clk.good) ∧ (State.reset.servoState ≠ 1 ∧ (st 2).servoState = 2)
    ∧ (pps.nearestAbs (499999999#32).toNat < 0 + 500000000 ∧ 0 + 500000000 ≤ pps.nearestAbs (500000000#32).toNat ∧ pps.get F.TIME_SERVO.SOURCE ≠ 2)
    ∧ State.reset.twin.rxDiff = none ∧ (diff.followsSenior = false ∧ diff.mode ≠ 2 ∧ ((0 - 0 + 65536 : Int) / 131072).natAbs ≤ diff.get F.TWIN_CTRL.SKEW_LIM)
    ∧ ((st 1).get F.PTP_PORT.ROLE 3 = 1 ∧ (st 1).get F.PTP_PORT.DOMAIN 3 = (255#8).toNat ∧ (st 1).get F.TIME_SERVO.SOURCE ≠ 1)
    ∧ (State.reset.get F.PTP_PORT.ROLE 3 ≠ 1 ∧ State.reset.clk.sync = none ∧ sync.clk.sync.isSome = true ∧ sync.clk.delayReq.isSome = true)
    ∧ (let tx := at_ [(F.TIME_STATUS.STATE, 0, 3), (F.PTP_PORT.ROLE, 0, 2)]; tx.get F.PTP_PORT.ROLE 0 = 2 ∧ tx.servoState = 3 ∧ tx.get F.PTP_PORT.DOMAIN 0 = (0#8).toNat) := by
  decide +kernel

theorem test_hyp_CuratorCommands :
    let s := at_ [(F.TRIP_STATUS.ACTIVE, 0, 128), (F.FB_CFG.ENABLE, 7, 1), (F.FB_STATUS.LEVEL, 0, 128)]
    let lat := at_ [(F.TRIP_STATUS.LATCH, 0, 1), (F.TRIP_CFG.ACT_SBK, 0, 1), (F.TRIP_CFG.ACT_OUT, 0, 8)]
    canon s = true ∧ canon lat = true ∧ open_ s 0 .any = true ∧ open_ lat 0 .any = true
    ∧ s.bit F.TRIP_STATUS.ACTIVE 7 = true ∧ s.bit F.TRIP_STATUS.ACTIVE 6 = false ∧ s.fbDiffers 7 = true ∧ s.fbDiffers 6 = false
    ∧ lat.sbkHolds = true ∧ State.reset.sbkHolds = false ∧ ((8#4).getLsbD 3 = true ∧ lat.releaseHolds 3 = true) ∧ (∀ o : Fin 4, State.reset.releaseHolds o = false)
    ∧ State.reset.flag F.SAFE_STATUS.ILP_GRANTED = false
    ∧ ((0 : Nat) < 12 ∧ Lock.admits .com ((at_ [(F.LC_STATE.STATE, 0, 2)]).get F.LC_STATE.STATE) false = true ∧ (1#32) ≠ State.reset.reg F.SAFE_CONFIRM.CONFIRM.base) := by
  decide +kernel

theorem test_hyp_CuratorEvents :
    let act := at_ [(F.TRIP_STATUS.ACTIVE, 0, 128)]
    let en := at_ [(F.TRIP_CFG.ENABLE, 7, 1), (F.TRIP_CFG.ACT_SBK, 7, 1)]
    let fb := at_ [(F.FB_CFG.ENABLE, 7, 1), (F.FB_STATUS.LEVEL, 0, 128), (F.FB_CFG.ACT_SOP, 7, 1)]
    let k : Kick := { count := 1, energy := 0, valid := true, mode := 2 }
    let ilp : State := { at_ [(F.ILP_ENERGY.LIMIT, 0, 0x3F800000), (F.TRIP_OUT_CFG.OUT_0, 0, 6)] with cur := { ilpReq := true, kick := some k } }
    let rdy := at_ [(F.BOOT_STATUS.READY, 0, 1)]
    (∀ s ∈ [act, en, fb, ilp, rdy], canon s = true)
    ∧ act.bit F.TRIP_STATUS.ACTIVE 7 = true ∧ en.bit F.TRIP_STATUS.ACTIVE 7 = false ∧ en.flag F.TRIP_CFG.ENABLE 7 = true ∧ act.flag F.TRIP_CFG.ENABLE 6 = false
    ∧ en.flag F.TRIP_CFG.ACT_SBK 7 = true ∧ act.flag F.TRIP_CFG.ACT_SBK 7 = false
    ∧ (at_ [(F.TRIP_STATUS.PAIR_FAULT, 0, 128)]).bit F.TRIP_STATUS.PAIR_FAULT 7 = true ∧ act.bit F.TRIP_STATUS.PAIR_FAULT 7 = false
    ∧ fb.fbDiffers 7 = true ∧ act.fbDiffers 7 = false ∧ fb.flag F.FB_CFG.ACT_SOP 7 = true
    ∧ (ilp.cur.ilpReq = true ∧ ilp.ilpOk = true) ∧ State.reset.cur.ilpReq = false ∧ State.reset.cur.kick = none ∧ ilp.cur.kick.isSome = true
    ∧ State.reset.isReady = false ∧ (rdy.isReady = true ∧ rdy.cur.wdExpired = false) ∧ k.mode = 2
    ∧ (rdy.cur.oscFail = false ∧ (-100001 : Int) < -100000) ∧ State.reset.boot.loaded = false
    ∧ (let b : State := { at_ [(F.LC_STATE.STATE, 0, 3)] with boot := { loaded := true } }
       b.boot.loaded = true ∧ b.get F.LC_STATE.STATE = 3 ∧ b.lastSlot = none ∧ hasBit b.cur.faults 7 = false) := by decide +kernel

theorem test_hyp_LifeCycleAndFlash :
    let bl := fun (b : Boot) => ({ State.reset with boot := b } : State)
    let com := fun (lc : Nat) (b : Boot) => ({ at_ [(F.LC_STATE.STATE, 0, lc), (F.SAFE_STATUS.CONFIRMED, 0, 1)] with boot := b } : State)
    open_ State.reset 0 .any = true ∧ State.reset.get F.LC_CMD.TARGET ≤ 5 ∧ (bl { burning := some (5, none) }).boot.burning ≠ none
    ∧ State.reset.boot.burning = none ∧ State.reset.lcCode 1 ≠ 0 ∧ (bl { armed := some 1, armExpired := true }).lcCode 1 = 6
    ∧ (let s := com 2 { armed := some 3, armBlocked := true }
       s.boot.armExpired = false ∧ s.boot.armed = some 3 ∧ s.lcAllowed 3 = true ∧ s.boot.armBlocked = true ∧ s.anyDeblocked = false
        ∧ s.flag F.SAFE_STATUS.CONFIRMED = true ∧ s.fuse.slots.length < 8 ∧ s.fuse.rows.length < 63 ∧ canon s = true ∧ open_ s 0 .any = true)
    ∧ (let s := com 0 { armed := some 5, armBlocked := true }; s.lcAllowed 5 = true)
    ∧ State.reset.boot.armed = none ∧ (bl { armed := some 1 }).boot.armed ≠ none ∧ State.reset.boot.flash = none ∧ (bl { flash := some (1, 0) }).boot.flash ≠ none
    ∧ (let s : State := { at_ [(F.BOOT_STATUS.SLOT, 0, 1)] with boot := { loaded := true } }; s.boot.loaded = true ∧ 8191 / 4096 = s.get F.BOOT_STATUS.SLOT) := by
  decide +kernel

/-- The buffer of zeros closed by a word. -/
def bufState (last : Nat) : State := State.reset.setReg (F.NVM_BUF.DATA.addr 1023) (BitVec.ofNat 32 last)

theorem stepLsb_lt (p c b : Nat) (hp : p < 2 ^ 32) (hc : c < 2 ^ 32) (hb : b < 2 ^ 32) : Crc.stepLsb p c b < 2 ^ 32 := by
  unfold Crc.stepLsb
  refine List.foldlRecOn (motive := fun x => x < 2 ^ 32) _ _ (Nat.xor_lt_two_pow hc hb) fun x hx _ _ => ?_
  have hd : x / 2 < 2 ^ 32 := by omega
  split
  · exact Nat.xor_lt_two_pow hd hp
  · exact hd

theorem crc32c_lt (l : List Nat) (h : ∀ b ∈ l, b < 2 ^ 32) : Crc.crc32c l < 2 ^ 32 := by
  unfold Crc.crc32c
  refine Nat.xor_lt_two_pow ?_ (by decide)
  exact List.foldlRecOn (motive := fun x => x < 2 ^ 32) _ _ (by decide) fun x hx b hb => stepLsb_lt _ _ _ (by decide) hx (h b hb)

/-- The words of the buffer of zeros. -/
theorem bufState_reg (x a : Nat) : (bufState x).reg a = if a = 0x571FFC then BitVec.ofNat 32 x else State.reset.reg a :=
  State.reg_setReg State.reset _ _ _ rfl

/-- The bytes of n words of zeros. -/
def zeroBytes (n : Nat) : List Nat := ((List.range n).map fun _ => (0 : Word)).flatMap Crc.wordBytes

theorem bufState_zeros (x : Nat) : ((List.range 1023).map fun w => (bufState x).reg (F.NVM_BUF.DATA.addr w)).flatMap Crc.wordBytes = zeroBytes 1023 := by
  unfold zeroBytes
  refine congrArg (List.flatMap Crc.wordBytes) (List.map_congr_left fun w hw => ?_)
  have hw := List.mem_range.mp hw
  have ha : F.NVM_BUF.DATA.addr w = 0x571000 + 4 * w := by simp [F.NVM_BUF.DATA, Field.addr]
  rw [bufState_reg, if_neg (by omega), ha]
  show resetWord _ = 0
  unfold resetWord
  repeat rw [if_neg (by omega)]
  rfl

theorem zero_bytes_lt (n : Nat) : ∀ b ∈ zeroBytes n, b < 2 ^ 32 := by
  intro b hb
  simp only [zeroBytes, List.mem_flatMap, List.mem_map] at hb
  obtain ⟨w, ⟨_, _, rfl⟩, hb⟩ := hb
  revert b
  decide

theorem bufState_ok (x : Nat) (hx : Crc.crc32c (zeroBytes 1023) = x) (hb : x < 2 ^ 32) : (bufState x).nvmBufOk = true := by
  have hw : (bufState x).reg (F.NVM_BUF.DATA.addr 1023) = BitVec.ofNat 32 x := (bufState_reg x _).trans (if_pos rfl)
  unfold State.nvmBufOk
  simp only [hw, bufState_zeros, hx, decide_eq_true_eq]
  exact (Nat.mod_eq_of_lt hb).symm

theorem bufState_open (x : Nat) : (bufState x).admits 0 .any := by
  refine ⟨Or.inl (by decide), ?_, Or.inl rfl⟩
  show Lock.any.admits (F.LC_STATE.STATE.ofWord ((bufState x).reg (F.LC_STATE.STATE.addr 0))) false = true
  rw [bufState_reg, if_neg (by decide)]
  rfl

/-- A buffer of zeros closed by its CRC-32C is a block that may be programmed. -/
theorem test_hyp_LifeCycleAndFlash_buffer : ∃ s : State, s.canonical ∧ s.nvmBufOk = true ∧ s.boot.loaded = false ∧ s.boot.flash = none ∧ s.admits 0 .any := by
  obtain ⟨x, hx⟩ : ∃ x, Crc.crc32c (zeroBytes 1023) = x := ⟨_, rfl⟩
  have hb : x < 2 ^ 32 := hx ▸ crc32c_lt _ (zero_bytes_lt 1023)
  exact ⟨bufState x, State.canonical_setReg (canon_sound (by decide)), bufState_ok x hx hb, rfl, rfl, bufState_open x⟩

/-- OBS_PROBE, whose word only stores. -/
def probeReg : RegDesc := ⟨"OBS_PROBE", 623632, 1, 0, 1, 0, [⟨"INDEX", 12, 0, .rw, .any, 0, [], false⟩]⟩

/-- DEBUG_ACCESS at level 2: a write of the last index to OBS_PROBE. -/
theorem test_hyp_DebugAccess :
    let drawn : State := { State.reset with dbg := { chal := true } }
    let ver : State := { at_ [(F.LC_STATE.STATE, 0, 5), (F.DBG_STATUS.DBG_FAIL, 0, 7)] with dbg := { verify := some 2 } }
    let two := at_ [(F.DBG_STATUS.LEVEL, 0, 2)]
    let dr : BitVec 64 := BitVec.ofNat 64 (2 ^ 63 + (623632 / 4) * 2 ^ 32 + 6143)
    let a := 4 * Block.get dr 61 32
    let v := BitVec.ofNat 32 (Block.get dr 31 0)
    (canon drawn = true ∧ drawn.get F.DBG_STATUS.DBG_FAIL < 8 ∧ drawn.dbg.chal = true ∧ drawn.dbg.verify = none)
    ∧ State.reset.dbg.chal = false ∧ (canon ver = true ∧ ver.dbg.verify = some 2 ∧ ver.get F.LC_STATE.STATE = 5)
    ∧ ((0 : BitVec 64).getLsbD 63 = false ∧ 4 * Block.get (0 : BitVec 64) 61 32 ≠ F.DBG_CHAL.CHAL.base)
    ∧ (dr.getLsbD 63 = true ∧ State.reset.mayWrite 12 a = false)
    ∧ (open_ two 12 .cfg = true ∧ two.level = 2 ∧ plainAt a probeReg 0 ∧ State.writtenFields probeReg (two.reg a) v ≠ []
        ∧ ∀ f ∈ State.writtenFields probeReg (two.reg a) v, (f.lock = .any ∨ f.lock = .cfg) ∧ f.inRange (f.val v) = true) := by
  unfold plainAt; decide +kernel

/-- A head with a valid CRC over its first 60 bytes, zeros, and one with an upset bit. -/
theorem test_hyp_Resets :
    let run : State := { State.reset with boot := { asserted := false } }
    let warm := at_ [(F.RESET_CAUSE.CAUSE, 0, 2)]
    let faulted : State := { run with cur := { faults := 2 ^ 7 } }
    let good : BitVec 512 := BitVec.ofNat 512 (Crc.crc32c (List.replicate 60 0))
    let held : State := { warm with kept := { head := good } }
    (canon run = true ∧ State.reset.boot.burning = none ∧ ({ run with boot := { burning := some (2, none) } } : State).boot.burning = some (2, none))
    ∧ (State.reset.boot.asserted = true ∧ State.reset.get F.RESET_CAUSE.CAUSE ≠ 2) ∧ (warm.boot.asserted = true ∧ warm.get F.RESET_CAUSE.CAUSE = 2)
    ∧ (run.boot.asserted = false ∧ run.cur.faults = 0 ∧ run.cur.oscFail = false) ∧ faulted.cur.faults ≠ 0
    ∧ (State.reset.flag F.BOOT_STATUS.STOPPED = false ∧ State.reset.isReady = false ∧ State.reset.cur.oscFail = false)
    ∧ (held.kept.head ≠ 0 ∧ canon held = true ∧ Crc.crc32c ((headList good).take 60) = fieldAt (headList good) 60 4)
    ∧ (let bad := good ^^^ 1; bad ≠ 0 ∧ Crc.crc32c ((headList bad).take 60) ≠ fieldAt (headList bad) 60 4) := by decide +kernel

/-- A device in start-up at a step, its reset released. -/
def bootState (step : Nat) : State := { at_ [(F.BOOT_STATUS.STEP, 0, step)] with boot := { asserted := false, fusesRead := true } }

/-- Block 0 of a slot for the first silicon revision, and a slot's read that holds nothing. -/
def headA : ImageHead := ⟨true, 0x5052_4F4E#32, 3#16, BitVec.ofNat 8 (State.reset.get F.DEVICE_ID.SILICON_REV), 1#32, 2#32⟩
def readA : ImageRead :=
  { rereads := 0, blockFail := false, fwSigOk := true, imgSigOk := true, keyDigest := 0, installDigest := 0, imageTag := 0, plantTag := 0
    acceptTag := 0, plantDigest := 0, regs := [], coefs := [], cells := [], models := [], ratings := [], gates := [], keys := []
    stream0 := ([], 0), memGiB := 0, dims := [] }

/-- Only slot 0 is a candidate; a bad signature of it is refused with 0x23. -/
theorem test_hyp_StartUp_image :
    let none_ : ImageHead := { headA with crcOk := false }
    let three := bootState 3
    canon three = true ∧ State.reset.atStep 3 = false ∧ three.atStep 3 = true ∧ (three.nextSlotOf none_ none_).1 = none
    ∧ (three.nextSlotOf headA none_).1 = some 0 ∧ (three.nextSlotOf headA headA).1 = some 0
    ∧ three.authCode { readA with fwSigOk := false } ≠ 0 ∧ three.authCode readA = 0
    ∧ (let again : State := { three with boot := { three.boot with tried := [0] } }
       (again.nextSlotOf headA headA).1 = some 1 ∧ (again.nextSlotOf headA none_).1 = none) := by decide +kernel

theorem test_hyp_StartUp :
    let st := bootState
    let down := (st 6).having [(F.LANE_CTRL.ENABLE, 0, 1)]
    let cal := (st 9).having [(F.ADC_STATUS.CAL_STATE, 0, 1)]
    let held : State := { st 11 with cur := { faults := 2 ^ 7 } }
    let dis := (st 7).having [(F.LC_STATE.STATE, 0, 5)]
    (∀ s ∈ [st 4, st 5, down, st 7, st 8, cal, held], canon s = true) ∧ State.reset.atStep 4 = false ∧ (st 4).atStep 4 = true
    ∧ (st 5).atStep 5 = true ∧ (st 4).atStep 5 = false ∧ (∃ l : Fin 72, l.val ∉ (st 5).bootLanes 0)
    ∧ (down.lanesUp = false ∧ (st 6).lanesUp = true ∧ (st 6).atStep 6 = true ∧ (st 5).atStep 6 = false)
    ∧ ((st 6).boot.refused = false ∧ (st 6).get F.LC_STATE.STATE ≠ 5 ∧ dis.get F.LC_STATE.STATE = 5)
    ∧ ((st 7).atStep 7 = true ∧ (st 7).boot.refused = false ∧ (st 6).atStep 7 = false)
    ∧ ((st 8).atStep 8 = true ∧ (st 8).get F.ADC_STATUS.CAL_STATE < 2 ∧ 2 ≤ ((st 8).having [(F.ADC_STATUS.CAL_STATE, 0, 2)]).get F.ADC_STATUS.CAL_STATE)
    ∧ (cal.atStep 9 = true ∧ cal.boot.refused = false ∧ cal.calRunning = true)
    ∧ ((st 11).atStep 11 = true ∧ (st 10).atStep 11 = false ∧ hasBit held.cur.faults 7 = true)
    ∧ ¬ (hasBit (st 11).cur.faults 7 = true ∨ hasBit (st 11).cur.faults 6 = true) := by decide +kernel

theorem test_hyp_CheckUnits :
    let st := fun (l : List (Field × Nat × Nat)) => at_ l
    let busy := st [(F.CHK_STATUS.BUSY, 3, 1)]
    let block := st [(F.CHK_CTRL.SRC, 3, 1)]
    let fall := st [(F.CHK_CTRL.MODE, 3, 1)]
    let other := fall.having [(F.CHK_EXPECTED.VALUE, 3, 1)]
    (∀ s ∈ [busy, block, fall, other], canon s = true ∧ open_ s 0 .any = true)
    ∧ busy.flag F.CHK_STATUS.BUSY 3 = true ∧ busy.flag F.CHK_CTRL.MODE 3 = false ∧ State.reset.flag F.CHK_STATUS.BUSY 3 = false
    ∧ block.flag F.CHK_CTRL.SRC 3 = true ∧ State.reset.flag F.CHK_CTRL.SRC 3 = false ∧ fall.flag F.CHK_CTRL.MODE 3 = true
    ∧ fall.reg (F.CHK_RESULT.RESULT.addr 3) = fall.reg (F.CHK_EXPECTED.VALUE.addr 3)
    ∧ other.reg (F.CHK_RESULT.RESULT.addr 3) ≠ other.reg (F.CHK_EXPECTED.VALUE.addr 3)
    ∧ (∀ e ∈ [EccEvent.corrected 9 0, .uncorrected 9 0, .journalLost 0, .journalCopy],
        (match e with | .corrected m _ => decide (m < 10) | .uncorrected m _ => decide (m < 10) | _ => true) = true)
    ∧ State.reset.flag F.REC_STATUS.WIPE_DONE = false ∧ (st [(F.REC_STATUS.WIPE_DONE, 0, 1)]).flag F.REC_STATUS.WIPE_DONE = true := by decide +kernel

/-- An item of the pool. -/
def itemOf (h : Nat) : Item := ⟨BitVec.ofNat 32 h, 11, 8, false, h, 0, 0, h⟩

/-- Pools of 512, 496, two items and one; cores 0 to 7 busy or in use. -/
theorem test_hyp_Dispatcher :
    let pool := fun (n : Nat) => ({ State.reset with sched := { pool := (List.range n).map itemOf } } : State)
    let up := at_ [(F.SCHED_STATUS.CORE_UP, 0, 255)]
    let runs := ((pool 2).having [(F.SCHED_STATUS.CORE_UP, 0, 2 ^ 7)]).setCore 7 { run := some (itemOf 2, 0) }
    let alone := State.reset.setCore 7 { run := some (itemOf 2, 0) }
    let rst := State.reset.setCore 0 { resetting := true }
    let wait : State := { State.reset with sched := { waiting := [⟨10, 0, 0, none, 0, 0⟩] } }
    (∀ s ∈ [pool 2, up, runs, alone, rst, wait], canon s = true)
    ∧ 512 ≤ (pool 512).sched.pool.length ∧ (pool 511).sched.pool.length < 512 ∧ 496 ≤ (pool 496).sched.pool.length
    ∧ ((pool 495).sched.pool.length < 496 ∧ (pool 495).sched.waiting = [] ∧ State.holdLimit 10 = none ∧ wait.sched.waiting ≠ [])
    ∧ (∀ c ∈ List.range 8, State.reset.coreFree c = false) ∧ (up.sched.pool = [] ∧ up.sched.waiting = [] ∧ (List.range 8).find? up.coreFree = some 0)
    ∧ (State.reset.core 7).run = none
    ∧ (((alone.core 7).run.all fun r => decide (r.1.cls < 16 ∧ r.1.overdue = false) && !wrapBefore r.1.deadline alone.now.ns) = true
        ∧ (((State.reset.setCore 7 { run := some ({ itemOf 2 with overdue := true }, 0) }).core 7).run.all fun r => r.1.overdue) = true
        ∧ alone.sched.pool = [] ∧ alone.sched.waiting = [])
    ∧ (runs.sched.pool = [itemOf 0, itemOf 1] ∧ (itemOf 0).handle ≠ (itemOf 1).handle ∧ runs.bit F.SCHED_STATUS.CORE_UP 7 = true
        ∧ (runs.core 7).resetting = false ∧ runs.sched.waiting = [] ∧ (∀ d ∈ List.range 8, d ≠ 7 → runs.coreFree d = false))
    ∧ ((∀ i ∈ (pool 2).sched.pool, i.handle ≠ 511) ∧ ∃ i ∈ (pool 2).sched.pool, i.handle = 1)
    ∧ ((rst.core 0).resetting = true ∧ rst.sched.pool = [] ∧ (State.reset.core 0).resetting = false) := by decide +kernel

/-- Both limits of POWER_CAP, a sag at the threshold of one rail and one level deeper, a window above the cap and one below. -/
theorem test_hyp_Power :
    let s := at_ [(F.PWR_CTRL.POWER_CAP, 0, 600), (F.DROOP_CTRL.THR_CORE, 0, 20), (F.DROOP_CTRL.THR_LOOP, 0, 20), (F.DROOP_STATUS.LEVEL, 0, 1)]
    let step := fun (thr sag : Nat) => if sag < thr then 0 else min 4 ((sag - thr) / 10 + 1)
    let high : State := (s.having [(F.PWR_BLK_HI.ENERGY, 0, 1), (F.PWR_STATUS.CURTAIL, 0, 4)])
    let low : State := { s with tick := { absT := 10 ^ 6 } }
    open_ s 0 .live = true ∧ canon s = true ∧ s.get F.PWR_CTRL.POWER_CAP = 600 ∧ (100 ≤ 599 ∧ 599 ≤ 600)
    ∧ State.reset.get F.PWR_CTRL.POWER_CAP ≠ 99 ∧ State.reset.get F.PWR_CTRL.POWER_CAP ≠ 601
    ∧ (max (step 20 20) (step 20 0) ≤ s.get F.DROOP_STATUS.LEVEL ∧ s.get F.DROOP_STATUS.LEVEL < max (step 20 30) (step 20 0)
        ∧ max (step 20 19) (step 20 0) < s.get F.DROOP_STATUS.LEVEL)
    ∧ (s.get F.PWR_STATUS.CURTAIL ≤ 4 ∧ high.get F.PWR_STATUS.CURTAIL = 4
        ∧ high.get F.PWR_CTRL.POWER_CAP * (high.tick.absT - high.pwr.winAbs) < (high.powerTotal - high.pwr.winEnergy) * 10000)
    ∧ (low.powerTotal - low.pwr.winEnergy) * 10000 + low.get F.PWR_CTRL.HYST * (low.tick.absT - low.pwr.winAbs)
        < low.get F.PWR_CTRL.POWER_CAP * (low.tick.absT - low.pwr.winAbs) := by decide +kernel
/-- String 63 with 128 cells from index 6016, its hop UP at version 2. -/
def hopState (l : List (Field × Nat × Nat)) (x : LinkState) : State :=
  (at_ ([(F.LANE_STATUS.STATE, 63, 5), (F.LINK_STR_STATUS.HOP0_VER, 63, 2), (F.CAT_STR_INFO.DECLARED, 63, 128), (F.CAT_STR_INFO.BASE, 63, 6016)] ++ l)).setLink 63 x

/-- A message as a hop of version 2 brings it, with HOP_SEQ 1. -/
def onHop (msg : List Block) : List Block := msg ++ [checkBlock 2 1 false msg]

/-- A reply of position 127 with TAG 255. -/
def replyHdr (type : Nat) : Block := mkBlock [(type, 56), (63, 50), (127, 43), (255, 35)]

/-- A FAULT of a position of string 63, with its CRC-8. -/
def faultBlock (str : Nat) : Block :=
  let b := mkBlock [(0x30, 56), (str, 50), (127, 43), (1, 35)]
  mkBlock [(b.toNat, 0), (crc8 (Crc.bytesBE 7 (Block.get b 63 8)), 0)]

/-- Each outcome of the check: bit 47 of CHECK, no CHECK, another message's CRC with and without a NAK. -/
theorem test_hyp_LinkMessages_check :
    let s := hopState [(F.LINK_CTRL.RESEND_EN, 0, 1)] {}
    canon s = true ∧ State.reset.hopVer 63 = 0 ∧ s.hopVer 63 = 2 ∧ s.get F.LANE_STATUS.STATE 63 = 5 ∧ s.hopOpen 63 = true
    ∧ checkRx 2 0 [0, mkBlock [(0xF0, 56), (1, 47)]] = .fwdBad ∧ checkRx 2 0 [] = .abandoned
    ∧ checkRx 2 0 [1, checkBlock 2 1 false [0]] = .failed (some 1) ∧ checkRx 1 0 [0, mkBlock [(0xF0, 56)]] = .failed none
    ∧ s.flag F.LINK_CTRL.RESEND_EN = true ∧ (hopState [] {}).flag F.LINK_CTRL.RESEND_EN = false := by decide +kernel

theorem test_hyp_LinkMessages_kinds :
    let open_ : State := { hopState [] {} with tick := { reportsOpen := true } }
    let rep := mkBlock [(0x20, 56), (63, 26), (127, 17)]
    let far := mkBlock [(0x20, 56), (62, 26), (127, 17)]
    let asked := hopState [] { reqs := [⟨.config .gateSet, 127, 255, 1, 0, []⟩] }
    let run := hopState [] { run := some ⟨1, 1, some 0, [], none⟩, echo := some (1, 0) }
    let ann := mkBlock [(0x71, 56), (127, 48), (1, 40)]
    let echo := mkBlock [(0x50, 56), (2, 52), (1, 47)]
    canon open_ = true ∧ checkRx 2 0 (onHop [rep, 0]) = .ok [rep, 0] 1 ∧ checkRx 2 0 (onHop [far, 0]) = .ok [far, 0] 1
    ∧ (bType rep = 0x20 ∧ Block.get rep 31 26 = 63 ∧ Block.get rep 23 17 < open_.declared 63 ∧ Block.get far 31 26 ≠ 63)
    ∧ (Block.get rep 55 32 = open_.tickNo % 2 ^ 24 ∧ open_.tick.reportsOpen = true ∧ (hopState [] {}).tick.reportsOpen = false)
    ∧ (∀ t ∈ [0x80, 0x81], checkRx 2 0 (onHop [replyHdr t]) = .ok [replyHdr t] 1 ∧ bType (replyHdr t) = t ∧ Block.get (replyHdr t) 55 50 = 63)
    ∧ (open_.findReq 63 127 255 = none ∧ asked.findReq 63 127 255 = some ⟨.config .gateSet, 127, 255, 1, 0, []⟩ ∧ canon asked = true)
    ∧ (checkRx 2 0 (onHop [ann, 0, 0]) = .ok [ann, 0, 0] 1 ∧ bType ann = 0x71 ∧ (⟨ann, 0, 0⟩ : Announce).callId = 1
        ∧ (⟨ann, 0, 0⟩ : Announce).endOf = run.ownEnd ∧ (open_.link 63).run = none ∧ canon run = true)
    ∧ (checkRx 2 0 (onHop [echo, 0, 0, 0]) = .ok [echo, 0, 0, 0] 1 ∧ bType echo = 0x50 ∧ Block.get echo 55 52 = 2
        ∧ (run.link 63).echo = some (Block.get echo 50 47, Block.get (0 : Block) 63 16)) := by decide +kernel

theorem test_hyp_LinkMessages_sets :
    let s := hopState [(F.LINK_CTRL.RESEND_EN, 0, 1), (F.FAULT_SCOPE.SCOPE_0, 0, 4)] { kept := [(7, false, [0]), (6, true, [])] }
    let nak := fun (q : Nat) => nakSet q
    let b := faultBlock 63
    let had := hopState [] { faults := [(Block.get b 55 35 * 2 ^ 24 + Block.get b 31 8, 0)] }
    let m := fun (v : Nat) => (hopState [(F.TWIN_STATUS.MODE, 0, v)] {})
    canon s = true ∧ (Block.get (nak 7) 55 48 = 7 ∧ Block.get (nak 7) 55 48 + Block.get (nak 7) 47 40 = 255 ∧ Block.get (0 : Block) 55 48 + Block.get (0 : Block) 47 40 ≠ 255)
    ∧ (s.hopVer 63 = 2 ∧ (s.link 63).kept.find? (fun m => m.1 = 7) = some (7, false, [0]) ∧ (s.link 63).kept.find? (fun m => m.1 = 6) = some (6, true, []))
    ∧ (crc8 (Crc.bytesBE 7 (Block.get b 63 8)) = Block.get b 7 0 ∧ bType b = 0x30 ∧ Block.get b 55 50 = 63 ∧ Block.get b 49 43 < s.declared 63)
    ∧ crc8 (Crc.bytesBE 7 (Block.get (1 : Block) 63 8)) ≠ Block.get (1 : Block) 7 0 ∧ Block.get (faultBlock 62) 55 50 ≠ 63
    ∧ ((∃ f ∈ (had.link 63).faults, f.1 = Block.get b 55 35 * 2 ^ 24 + Block.get b 31 8 ∧ 64 ≤ f.2 + 64) ∧ ¬ ∃ f ∈ (had.link 63).faults, f.1 = Block.get b 55 35 * 2 ^ 24 + Block.get b 31 8 ∧ 65 ≤ f.2 + 64)
    ∧ (s.mode ≠ 2 ∧ s.twin.serve = none ∧ (m 2).mode = 2 ∧ s.faultScope (Block.get b 42 35) = 4)
    ∧ (State.reset.get F.LANE_STATUS.STATE 63 ≠ 5 ∧ (at_ [(F.LANE_STATUS.STATE, 63, 5)]).hopVer 63 = 0) := by decide +kernel

/-- Outside the report window with a slot free; the last try of a request, runs in each phase, and admission with a failed and a passed set of checks. -/
theorem test_hyp_LinkService :
    let s := hopState [] {}
    let v3 := hopState [(F.LINK_STR_STATUS.STR_VER, 63, 3), (F.LINK_CTRL.REQ_TRIES, 0, 2), (F.CAT_CTRL.DISC_TRIES, 0, 2)] {}
    let req := fun (n : Nat) => v3.setLink 63 { reqs := [⟨.config .probe, 127, 9, n, 0, []⟩] }
    let run := fun (calls : Nat) (prev : Option DiscResult) => v3.setLink 63 { run := some ⟨1, calls, some 0, [], prev⟩ }
    let meas := hopState [(F.TWIN_STATUS.MODE, 0, 2)] { measuring := true, devRun := 4 }
    canon v3 = true ∧ State.reset.declared 63 = 0 ∧ s.declared 63 ≠ 0 ∧ s.hopOpen 63 = true ∧ s.requestSlot 63 = true ∧ State.reset.requestSlot 63 = false
    ∧ (v3.declared 63 ≤ (255 : Nat) ∧ (127 : Nat) < v3.declared 63 ∧ v3.get F.LINK_STR_STATUS.STR_VER 63 = 3 ∧ v3.latDeliverable 63 (v3.base 63 + 127) true = true ∧ v3.tick.reportsOpen = false)
    ∧ s.get F.LINK_STR_STATUS.STR_VER 63 < 2
    ∧ ((s.link 63).run = none ∧ (s.link 63).runDue = false ∧ (hopState [] { runDue := true }).requestSlot 63 = true)
    ∧ (∀ n ∈ [1, 2], (((req n).link 63).reqs.find? fun r => r.tag = (9#8).toNat).isSome = true)
    ∧ (1 < (req 1).get F.LINK_CTRL.REQ_TRIES ∧ (req 1).requestSlot 63 = true ∧ (req 2).get F.LINK_CTRL.REQ_TRIES ≤ 2)
    ∧ (canon (run 1 none) = true ∧ 1 < (run 1 none).get F.CAT_CTRL.DISC_TRIES ∧ (run 2 none).get F.CAT_CTRL.DISC_TRIES ≤ 2
        ∧ State.sameRun ⟨0, 0, false, []⟩ ⟨1, 0, false, []⟩ = true)
    ∧ ((meas.link 63).measuring = true ∧ 4 ≤ (meas.link 63).devRun ∧ meas.mode = 2 ∧ canon meas = true ∧ (s.link 63).devRun < 4) := by decide +kernel

/-- What the cell at position 0 of string 0 announces: version 1, vendor and model of the image. -/
def annOf : Announce := ⟨mkBlock [(1, 29)], mkBlock [(0x5359, 48), (1, 32)], mkBlock [(600, 48), (2000, 32)]⟩

theorem test_hyp_LinkService_admission :
    let base : State := at_ [(F.CAT_STR_INFO.DECLARED, 0, 1), (F.CAT_ENTRY_W2.SVC, 0, 1), (F.LINK_STR_STATUS.STR_VER, 0, 1)]
    let bare := base.setCell 0 { adm := .full }
    let cell : CellLink := { adm := .full, timeOk := true, probeOk := true, gateOk := true, tagSeen := true, measOk := true, schedOk := true, repRun := 64, tests := 8 }
    let pass : State := { (base.setCell 0 cell).setLink 0 { resA := some ⟨1, 1, false, [(0, annOf)]⟩ } with
      img := { models := [(0x5359, 1)], ratings := [(0, (600, 2000))] } }
    let out := (base.having [(F.CAT_ENTRY_W2.SVC, 0, 3)]).setCell 0 { reasons := State.fullMask true }
    canon pass = true ∧ canon bare = true ∧ pass.mode ≠ 2 ∧ pass.twin.serve = none
    ∧ (State.reset.svc 0 ≠ 1 ∧ (base.cell 0).adm = .none) ∧ (bare.svc 0 = 1 ∧ (bare.cell 0).adm = .full ∧ bare.admissionCode 0 = 2 ∧ (bare.cell 0).reasons = 0)
    ∧ (pass.svc 0 = 1 ∧ (pass.cell 0).adm = .full ∧ pass.admissionCode 0 = 0)
    ∧ (out.allCells = [0] ∧ out.cellDeblocked 0 = false ∧ out.svc 0 = 3 ∧ (out.cell 0).reasons &&& State.fullMask true = (out.cell 0).reasons)
    ∧ ((out.setArm 0 { deblocked := true }).cellDeblocked 0 = true) := by decide +kernel
-- The hypotheses of the statements' other clauses

/-- String 63 UP at SL-1 with a transmitter one cycle before a block boundary. -/
def txState (x : LaneTx) : State :=
  (at_ [(F.LANE_STATUS.STATE, 63, 5), (F.LANE_STATUS.GEN, 63, 1)]).setLane 63 { tx := { x with phase := blockPs 1 - 2000 } }

/-- Each class of R90 waits alone; the largest message that still leaves before an IDLE and the next larger one. -/
theorem test_hyp_IdleAdvancesTime_send :
    let big := fun (n : Nat) => txState { sinceIdle := n, own := [[1, 2]] }
    (∀ s ∈ [txState { husk := 4 }, txState { naks := [1] }, txState { cur := [1] }, txState { resent := [[1, 2]] }, big 1020, big 1021, txState {}],
      canon s = true ∧ s.taken = s.wire.length ∧ s.laneSt 63 = 5 ∧ s.transmits 63 = true ∧ blockPs (s.txGen 63) ≤ (s.lane 63).tx.phase + 2000
        ∧ s.pending = [] ∧ s.clk.sub < 2 ^ 16)
    ∧ 0 < ((txState { husk := 4 }).lane 63).tx.husk ∧ ((txState { naks := [1] }).lane 63).tx.naks = 1 :: []
    ∧ (((txState { naks := [1] }).lane 63).tx.husk = 0 ∧ ((txState { cur := [1] }).lane 63).tx.cur = 1 :: [] ∧ ((txState { cur := [1] }).lane 63).tx.naks = [])
    ∧ (((txState { resent := [[1, 2]] }).lane 63).tx.resent = [1, 2] :: [] ∧ ((txState { resent := [[1, 2]] }).lane 63).tx.cur = [])
    ∧ (((big 1020).lane 63).tx.own = [1, 2] :: [] ∧ 1020 + [1, 2].length < 1023 ∧ ¬ 1021 + [1, 2].length < 1023)
    ∧ (((txState {}).lane 63).tx.own = [] ∧ ((txState {}).lane 63).tx.resent = []) := by decide +kernel

/-- CAT_LAT_SEL beside a counter clear of the loop engine: what the twin mode shuts and what it does not. -/
theorem test_hyp_WordWholeOrNothing_twin :
    let du := at_ [(F.TWIN_STATUS.MODE, 0, 2)]
    let fs := State.writtenFields probeReg (du.reg 623632) 6143
    plainAt 623632 probeReg 0 ∧ du.mayWrite 0 623632 = true ∧ du.twinShut = true ∧ fs ≠ [] ∧ (∀ f ∈ fs, f.lock = .any) ∧ State.isLoopReg probeReg = false
    ∧ (∀ f ∈ fs, f.lock.admits 0 false = true ∧ f.inRange (f.val 6143) = true) := by unfold plainAt; decide +kernel

theorem test_hyp_CoefficientWrite_header :
    let off := at_ [(F.CTX_COEF.LENGTH, 0, 1)]
    off.coefMask 0x100000 ≠ 0xFFFFFFFF#32 ∧ off.reg 0x100000 ≠ 0xFFFFFFFF#32 &&& off.coefMask 0x100000
    ∧ State.reset.reg (0x100000 + 4 * 1048575) ≠ 1#32 &&& State.reset.coefMask (0x100000 + 4 * 1048575) := by decide +kernel

theorem test_hyp_ServiceCountersCleared_twin : State.reset.twinShut = false
    ∧ (∀ m ∈ [2, 4, 5], (at_ [(F.TWIN_STATUS.MODE, 0, m)]).twinShut = true ∧ open_ (at_ [(F.TWIN_STATUS.MODE, 0, m)]) 0 .any = true) := by decide +kernel

theorem test_hyp_LaneRequests_husk :
    let husk : State := { State.reset with wire := [.husk 63 1 true] }
    let off := at_ [(F.BOOT_STATUS.STEP, 0, 6)]
    let twin := off.having [(F.TWIN_CTRL.TWIN_EN, 0, 1)]
    let shut := at_ [(F.TWIN_STATUS.MODE, 0, 2), (F.LANE_CTRL.ENABLE, 67, 1)]
    canon husk = true ∧ open_ husk 0 .any = true ∧ husk.huskNow 63 = true ∧ husk.huskNow 62 = false ∧ husk.get F.LANE_CTRL.TX_PWR_REQ 63 ≠ 2
    ∧ ((off.laneSt 64 = 0 ∧ isTwin 64 = true ∧ off.flag F.TWIN_CTRL.TWIN_EN = false) ∧ twin.flag F.TWIN_CTRL.TWIN_EN = true ∧ open_ twin 0 .cfg = true)
    ∧ ((0 : Nat) < 12 ∧ Lock.cfg.admits (shut.get F.LC_STATE.STATE) false = true ∧ isTwin 67 = true ∧ shut.twinShut = true ∧ shut.flag F.LANE_CTRL.ENABLE 67 = true
        ∧ canon shut = true) := by decide +kernel

theorem test_hyp_LaneDetectors_locks :
    let st := fun (l v : Nat) => at_ [(F.LANE_STATUS.STATE, l, v)]
    let locked := (st 63 6).having [(F.LANE_STATUS.BLOCK_LOCK, 63, 1)]
    let bond := (st 67 6).having [(F.LANE_STATUS.BLOCK_LOCK, 67, 1)]
    let q := fun (lock : Bool) (hs : List Bool) => hs.foldl (State.HdrScan.next true) (⟨lock, 0, [], 0⟩ : State.HdrScan)
    isStn 63 = false ∧ isStn 68 = true ∧ canon locked = true ∧ canon bond = true
    ∧ (State.reset.flag F.LANE_STATUS.BLOCK_LOCK 63 = false ∧ locked.flag F.LANE_STATUS.BLOCK_LOCK 63 = true)
    ∧ ((q false (List.replicate 64 true)).lock = true ∧ (q false (List.replicate 63 true)).lock = false)
    ∧ ((q true (List.replicate 16 false)).lock = false ∧ (q true (List.replicate 15 false)).lock = true)
    ∧ (bond.laneSt 67 = 6 ∧ isTwin 67 = true ∧ bond.flag F.LANE_STATUS.LOL 67 = false)
    ∧ bond.flag (if refOf 67 = 0 then F.LANE_COMMON.REFCLK_0_LOSS else F.LANE_COMMON.REFCLK_1_LOSS) = false
    ∧ (at_ [(F.LANE_COMMON.REFCLK_0_LOSS, 0, 1)]).flag (if refOf 0 = 0 then F.LANE_COMMON.REFCLK_0_LOSS else F.LANE_COMMON.REFCLK_1_LOSS) = true
    ∧ ((st 68 2).laneSt 68 = 2 ∧ (st 68 5).laneSt 68 = 5) := by decide +kernel

theorem test_hyp_LaneTraining_rest :
    let st := fun (l v : Nat) (x : LaneState) => (at_ [(F.LANE_STATUS.STATE, l, v), (F.LANE_CTRL.GEN_MAX, l, 3), (F.LANE_TAPS.FAR_GEN_CAP, l, 7)]).setLane l x
    let sent := st 0 3 { matched := 16, tx := { trained := 32 } }
    let twin : State := { st 67 4 { ownReady := true, readyRun := 8, laneId := some 0 } with bond := { map := [0, 1, 2, 3] } }
    (sent.laneSt 0 = 3 ∧ 16 ≤ (sent.lane 0).matched ∧ 32 ≤ (sent.lane 0).tx.trained ∧ sent.genSel 0 ≠ 0 ∧ canon sent = true)
    ∧ (((st 0 3 { matched := 16, tx := { trained := 31 } }).lane 0).tx.trained < 32 ∧ State.reset.laneSt 0 ≠ 3)
    ∧ (twin.laneSt 67 = 4 ∧ (twin.lane 67).ownReady = true ∧ 8 ≤ (twin.lane 67).readyRun ∧ isTwin 67 = true ∧ twin.bond.map ≠ []
        ∧ (twin.lane 67).laneId ≠ none ∧ (twin.lane 67).laneId ≠ twin.bond.map[(67 : Fin 72).val - 64]? ∧ canon twin = true)
    ∧ ((st 0 4 { ownReady := true, readyRun := 8 }).laneSt 0 = 4 ∧ isCell 0 = true ∧ ((st 0 4 { readyRun := 7 }).lane 0).readyRun < 8)
    ∧ (State.reset.laneSt 0 ≠ 2 ∧ isCell 64 = false ∧ State.reset.flag F.LANE_STATUS.BLOCK_LOCK 0 = false ∧ State.reset.laneSt 0 = 0)
    ∧ (at_ [(F.LANE_STATUS.BLOCK_LOCK, 0, 1)]).flag F.LANE_STATUS.BLOCK_LOCK 0 = true := by decide +kernel

theorem test_hyp_BondAndPower_receiver :
    let sleep := at_ [(F.LANE_STATUS.RX_PWR, 71, 1), (F.LANE_CTRL.RX_PWR_REQ, 71, 2)]
    let go := at_ [(F.LANE_CTRL.RX_PWR_REQ, 71, 1), (F.LANE_STATUS.STATE, 71, 5)]
    (sleep.get F.LANE_STATUS.RX_PWR 71 ≠ 0 ∧ sleep.get F.LANE_CTRL.RX_PWR_REQ 71 ≠ 0 ∧ canon sleep = true)
    ∧ (go.get F.LANE_STATUS.RX_PWR 71 = 0 ∧ go.get F.LANE_CTRL.RX_PWR_REQ 71 ≠ 0 ∧ go.laneSt 71 = 5 ∧ canon go = true) := by decide +kernel

/-- A conversion that still runs, one that has just ended, one that a request shares. -/
theorem test_hyp_MeasurementRequests_busy :
    let on := at_ [(F.MCH_CTRL.ENABLE, 23, 1)]
    let c := State.adcCycle on.sinceT
    let u := fun (t : Nat) => ({ at_ [(F.MCH_CTRL.ENABLE, 23, 1), (F.TIME_HI.TIME_NS, 0, 10 ^ 6)] with tick := { urgent := some t } } : State)
    let at_ := fun (s : State) => s.tick.absT + State.adcCycle s.sinceT
    (on.burstBusy c = false ∧ on.urgentBusy (on.tick.absT + c) = false ∧ on.tick.urgent = none)
    ∧ ((u (at_ (u 0) - 1)).urgentBusy (at_ (u 0)) = true ∧ (u (at_ (u 0) - 49)).urgentBusy (at_ (u 0)) = true)
    ∧ ((u (at_ (u 0) - 50)).urgentBusy (at_ (u 0)) = false ∧ (u (at_ (u 0))).tick.urgent = some (at_ (u 0)) ∧ (u (at_ (u 0))).urgentBusy (at_ (u 0)) = false)
    ∧ (u 0).analogue 23 = true := by decide +kernel

theorem test_hyp_Conversions_osr :
    let osr := fun (v : Nat) => (at_ [(F.ADC_CTRL.OSR, 0, v)]).get F.ADC_CTRL.OSR
    osr 0 = 0 ∧ osr 1 = 1 ∧ osr 2 = 2 ∧ (List.replicate 4 (List.replicate 24 0#16)).length = 4
    ∧ ((List.replicate 24 ((0, 0, 0) : Int × Int × Int))[23]?).isSome = true := by decide +kernel

theorem test_hyp_ContextWrites_promotes :
    let s := (ctxState 2 2).having [(F.CTX_CTRL.CMP_CTX, 191, 0), (F.CTX_COEF.LENGTH, 0, 1), (F.CTX_CTRL.MODE, 0, 1)]
    canon s = true ∧ open_ s 0 .live = true ∧ s.ctxModeOf 191 = 2 ∧ s.ctxFaulted 191 = false ∧ s.ctxSealed 191 = true
    ∧ (∃ a ∈ s.partner 191, s.ctxModeOf a = 1 ∧ s.ctxFaulted a = false) ∧ s.ctxModeOf 191 < 3 := by decide +kernel

/-- Context 191 is the only sealed one, so the next; context 190, declared, is not due. -/
theorem test_hyp_ScrubFindsMismatch_due :
    let s := ctxState 1 2
    let order := (List.range 192).filter fun d => s.ctxDeclared d && s.ctxSealed d
    order = [191] ∧ ((order.filter fun x => decide (s.get F.LOOP_SCRUB.CTX ≤ x)).head?.or order.head?) = some 191
    ∧ (order.filter fun x => decide (192 ≤ x)).head?.or order.head? = some 191 ∧ (190 : Nat) ≠ 191 := by decide +kernel

theorem test_hyp_Heartbeat_due :
    let s := (twinState 2).having [(F.TWIN_CTRL.HB_MISS, 0, 2)]
    let past : State := { s with twin := { hbDue := some 0 } }
    s.twin.hbDue ≠ some s.tickNo ∧ past.twin.hbDue = some past.tickNo ∧ canon past = true
    ∧ (xlBody 0x01 (heart 2 1) = some (heart 2 1).dropLast ∧ (heart 2 1).dropLast.length = 3 ∧ ((heart 2 1).dropLast.getD 1 0).toNat ≠ s.tickNo ∧ s.mode = 2)
    ∧ Block.get ((heart 1 0).dropLast.getD 0 0) 55 53 = 1 := by decide +kernel

theorem test_hyp_Partition_arrives :
    let s := at_ [(F.LINK_STR_STATUS.HOP0_VER, 63, 2), (F.LANE_STATUS.STATE, 63, 5)]
    s.arrives 63 (onLane (otherFrame 1)) = some ((otherFrame 1).dropLast, 1)
    ∧ s.arrives 63 (onLane (otherFrame 2)) = some ((otherFrame 2).dropLast, 1)
    ∧ ((otherFrame 2).dropLast.head?.all fun h => Block.get h 23 22 = 2) = true := by decide +kernel

theorem test_hyp_EventMessages_based :
    let p := twinState 1
    let based : State := { p with twin := { based := true, ackSeq := 7, ahead := [9] } }
    let next : State := { p with twin := { based := true, ackSeq := 7 } }
    let asked : State := { p with twin := { based := true, pairing := true } }
    canon based = true ∧ (based.twin.based = true ∧ State.seqLe (7#16).toNat based.twin.ackSeq = true ∧ (9#16).toNat ∈ based.twin.ahead)
    ∧ (p.twin.based = false ∧ p.twin.pairing = false ∧ asked.twin.pairing = true)
    ∧ (next.twin.based = true ∧ (8#16).toNat = (next.twin.ackSeq + 1) % 2 ^ 16 ∧ next.twin.ackSeq < 2 ^ 16 ∧ next.twin.ahead = [])
    ∧ (let s := twinState 2; (peerOf s 5).mode = 5 ∧ s.mode = 2 ∧ s.pairCheck (peerOf s 5) = 0) := by decide +kernel

/-- A string of two cells, the second shared; the peer's digest differs, a relay section is cut, one is not. -/
theorem test_hyp_ReportAgreement_sides :
    let s := ((twinState 2).having [(F.CAT_STR_INFO.DECLARED, 0, 3)]).setLink 0 { resA := some ⟨1, 2, false, []⟩, resB := some ⟨1, 2, false, []⟩ }
    let got := fun (cut : Bool) (dig : Nat) => ({ s with twin := { peer := some (0, ⟨[⟨0, false, cut, 0, dig⟩], [(0, [(2, 0)])]⟩) } } : State)
    canon s = true ∧ (s.shared 0 1 = true ∧ s.oneSided 0 s.ownEnd 0 = true ∧ s.oneSided 0 s.ownEnd.other 2 = true)
    ∧ ((got true 0).twin.decided ≠ some (got true 0).tickNo ∧ (got true 0).mode = 2 ∧ (got true 0).allCells.Nodup)
    ∧ (s.agreeOf.strs.map fun x => (x.str, x.held, x.cut)) = [(0, 0, false)]
    ∧ (s.agreeOf.strs.map (·.digest)) ≠ [1]
    ∧ (Block.get (s.presenceMsg.headD 0) 31 0 = s.tickNo % 2 ^ 32 ∧ Block.get (s.presenceMsg.headD 0) 31 0 ≠ (s.having [(F.TICK_CNT_LO.COUNT, 0, 1)]).tickNo % 2 ^ 32)
    ∧ (s.twin.decided ≠ some s.tickNo ∧ ({ s with twin := { decided := some 0, odd := [0] } } : State).twin.decided = some s.tickNo) := by decide +kernel

theorem test_hyp_ChannelExchange_window :
    let s := twinState 2
    let win : State := { s with tick := { reportsOpen := true } }
    s.mode = 2 ∧ s.tick.reportsOpen = false ∧ win.tick.reportsOpen = true ∧ canon win = true := by decide +kernel

theorem test_hyp_RecordCommands_session :
    let s := (recState 4 1).having [(F.CAP_CTRL.KIND, 7, 1)]
    let plain := recState 3 1
    (s.capSession 7 = true ∧ s.capState 7 = 4 ∧ (s.cap 7).dir = some 63 ∧ s.dirRec 63 = some (rec63 1) ∧ canon s = true)
    ∧ ((plain.cap 7).dir ≠ none ∧ plain.capState 7 = 3) ∧ (State.reset.cap 7).dir = none ∧ (rec63 1).cap < 8 := by decide +kernel

theorem test_hyp_RecordEvents_rest :
    let pat := (at_ [(F.PAT_CTRL.ENABLE, 7, 1), (F.PAT_CTRL.HOLD_MODE, 7, 1)]).setUnit 7 { hold := true }
    pat.unitOn 6 = false ∧ (pat.unit 7).hold = true ∧ pat.get F.PAT_CTRL.HOLD_MODE 7 ≠ 0 ∧ (recState 6 2).pwr.governs = 0 := by decide +kernel

/-- Blocks that bring no message: a data block alone, a header that nothing closes. -/
theorem test_hyp_LinkMessages_framing :
    let s := hopState [(F.LINK_CTRL.RESEND_EN, 0, 1)] {}
    frame none [.data 0] = [.stray] ∧ frame none [.ctrl (replyHdr 0x80)] = [.abandoned]
    ∧ frame none (onLane (onHop [replyHdr 0x80])) = [.msg (onHop [replyHdr 0x80])]
    ∧ (opensMsg (bType (replyHdr 0x80)) = true ∧ isHusk (replyHdr 0x80) = false ∧ bType (mkBlock [(0xF0, 56)]) = 0xF0 ∧ isHusk (mkBlock [(0xF0, 56)]) = false)
    ∧ s.arrives 63 (onLane (onHop [replyHdr 0x80])) = some ([replyHdr 0x80], 1) ∧ s.arrives 63 (onLane (onHop [replyHdr 0x81])) = some ([replyHdr 0x81], 1) := by
  decide +kernel

theorem test_hyp_LinkMessages_reports :
    let rep := fun (flags : Nat) => [mkBlock [(0x20, 56), (63, 26), (127, 17)], mkBlock [(2, 35), (flags, 19), (255, 9)]]
    let open_ : State := { hopState [] {} with tick := { reportsOpen := true } }
    let other := open_.setCell (open_.base 63 + 127) { tag := some 7 }
    (∀ fl ∈ [0, 4, 32], open_.arrives 63 (onLane (onHop (rep fl))) = some (rep fl, 1))
    ∧ (hasBit 4 2 = true ∧ hasBit 4 5 = false ∧ hasBit 32 5 = true ∧ Block.get (mkBlock [(2, 35), (4, 19), (255, 9)]) 34 19 = 4)
    ∧ (open_.link 63).cast = none ∧ (open_.cell (open_.base 63 + 127)).tag = none
    ∧ (let i := other.base 63 + 127
       let late : State := other.having [(F.TICK_CNT_LO.COUNT, 0, 1)]
       (other.cell i).adm ≠ .full ∧ (other.cell i).tag ≠ none ∧ (other.cell i).tag ≠ some 255 ∧ (late.cell i).tagAt < late.tickNo ∧ (other.link 63).reqs = [])
    ∧ (Block.get ((rep 0).headD 0) 55 32 ≠ (open_.having [(F.TICK_CNT_LO.COUNT, 0, 1)]).tickNo % 2 ^ 24) := by decide +kernel

theorem test_hyp_LinkMessages_answers :
    let run := hopState [] { run := some ⟨1, 1, some 0, [], none⟩, echo := some (1, 0) }
    let ann := mkBlock [(0x71, 56), (127, 48), (1, 40)]
    let echo := mkBlock [(0x50, 56), (2, 52), (1, 47)]
    run.arrives 63 (onLane (onHop [ann, 0, 0])) = some ([ann, 0, 0], 1) ∧ run.arrives 63 (onLane (onHop [echo, 0, 0, 0])) = some ([echo, 0, 0, 0], 1)
    ∧ ((run.link 63).run.any fun r => r.sent ≠ none && r.callId = 1) = true
    ∧ (let b := faultBlock 63; let had := hopState [] { faults := [(Block.get b 55 35 * 2 ^ 24 + Block.get b 31 8, 0)] }
       ((had.link 63).faults.any fun f => f.1 = Block.get b 55 35 * 2 ^ 24 + Block.get b 31 8 && 64 ≤ f.2 + 64) = true)
    ∧ (let near := fun (b : Block) => ((List.range 64).filter fun j => b.getLsbD j != (0xD29669A55AC33CE1#64).getLsbD j).length ≤ 3
       near (0xD29669A55AC33CE1#64 ^^^ 7#64) ∧ ¬ near (0xD29669A55AC33CE1#64 ^^^ 15#64)) := by decide +kernel

/-- The service time of a tick; a SYNC due by its period, by a group that waits, by a change that is followed; the request slot taken. -/
theorem test_hyp_LinkService_times :
    let s := hopState [] {}
    let sync := fun (a : Nat) => (hopState [(F.TICK_CNT_LO.COUNT, 0, 5), (F.TIME_STR_CTRL.SYNC_TICKS, 0, 4)] { syncAt := some a })
    let used := hopState [] { reqTick := some 0 }
    let echo := fun (n : Nat) => hopState [(F.LINK_CTRL.REQ_TRIES, 0, 2)] { echo := some (1, 0), echoTries := n }
    let shut : State := { s with tick := { sent := true } }
    let full : State := { s with sched := { waiting := List.replicate 16 ⟨9, 63, 0, none, 0, 0⟩ } }
    (s.tick.reportsOpen = false ∧ s.tick.sent = false ∧ shut.tick.sent = true)
    ∧ ((s.link 63).syncAt = none ∧ 1 + (sync 1).get F.TIME_STR_CTRL.SYNC_TICKS ≤ (sync 1).tickNo ∧ ¬ 2 + (sync 2).get F.TIME_STR_CTRL.SYNC_TICKS ≤ (sync 2).tickNo
        ∧ (sync 5).link 63 = { syncAt := some (sync 5).tickNo })
    ∧ ((s.having [(F.TICK_STAGE.PENDING, 0, 1)]).flag F.TICK_STAGE.PENDING = true)
    ∧ ((s.link 63).reqTick ≠ some s.tickNo ∧ (used.link 63).reqTick = some used.tickNo ∧ s.sched.waiting = [])
    ∧ ¬ (full.sched.waiting.filter fun (w : Waiting) => decide (w.source = 9 ∧ w.sub = 63)).length < 16
    ∧ ((State.reset.link 63).echo = none ∧ ((echo 1).link 63).echo ≠ none ∧ ((echo 1).link 63).echoTries < (echo 1).get F.LINK_CTRL.REQ_TRIES
        ∧ (echo 2).get F.LINK_CTRL.REQ_TRIES ≤ ((echo 2).link 63).echoTries ∧ canon (echo 2) = true)
    ∧ ((9#8) ≠ 0 ∧ ((hopState [] { run := some ⟨0, 0, none, [], none⟩ }).link 63).run = some ⟨0, 0, none, [], none⟩)
    ∧ State.reset.hopOpen 63 = false := by decide +kernel

/-- DECOMMISSIONED; the run of completion still to come, and past. -/
theorem test_hyp_StationOrders_locked :
    let gone := at_ [(F.LC_STATE.STATE, 0, 5)]
    let inj := fun (st n : Nat) => ((ctxState 1 2).having [(F.CTX_INJ_STATUS.STATE, 191, st), (F.CTX_INJ_CTRL.DURATION, 191, n)]).setCtx 191 { injM := 1 }
    canon gone = true ∧ gone.get F.LC_STATE.STATE = 5 ∧ State.reset.get F.LC_STATE.STATE ≠ 5
    ∧ ((inj 2 2).tick.stage = .idle ∧ (inj 2 2).ctxSlot 191 = true ∧ (inj 2 2).shadowSkip = false ∧ (inj 2 2).get F.CTX_INJ_STATUS.STATE 191 = 2
        ∧ (inj 2 2).get F.CTX_INJ_CTRL.DURATION 191 ≤ ((inj 2 2).ctx 191).injM + 1 ∧ ((inj 1 2).ctx 191).injAt ≤ (inj 1 2).tickNo ∧ canon (inj 2 2) = true)
    ∧ ¬ (inj 2 3).get F.CTX_INJ_CTRL.DURATION 191 ≤ ((inj 2 3).ctx 191).injM + 1
    ∧ ((at_ [(F.SIG_PROD.KIND, 4095, 5)]).sigKind 4095 = 5) := by decide +kernel
/-- A device past READY whose port 3 takes sessions, with slot 3 held: TAG 7 in a version, its next order e. -/
def stnState (ver e : Nat) (l : List (Field × Nat × Nat)) : State :=
  (at_ ([(F.BOOT_STATUS.READY, 0, 1), (F.STN_PORT_CTRL.SESS_EN, 3, 1), (F.STN_SESS_STATUS.TAG, 3, 7), (F.STN_SESS_STATUS.VER, 3, ver),
    (F.STN_SESS_STATUS.HOME, 3, 1)] ++ l)).setExpected 3 e

/-- OPEN from version lo to hi for a tag, an ORDER and a SUBSCRIBE of one item, as a station sends them. -/
def openRaw (tag lo hi : Nat) : List Byte := stnMsg 1 0x01 tag 0 ([lo, hi] ++ Crc.bytesBE 6 1) []
def orderRaw (seq : Nat) : List Byte := stnMsg 3 0x10 7 seq (List.replicate 12 0) []
def subRaw (decim item : Nat) : List Byte := stnMsg 3 0x20 7 0 ([15, 1] ++ Crc.bytesBE 2 decim ++ Crc.bytesBE 2 item) []

theorem test_hyp_StationSessions_open :
    let s := stnState 3 5 []
    let tags := fun (raw : List Byte) => (readStn raw).map fun m => [m.kind, m.tag, m.body.length, fieldAt m.body 0 1, fieldAt m.body 1 1]
    canon s = true ∧ State.reset.flag F.STN_PORT_CTRL.SESS_EN 3 = false ∧ s.flag F.STN_PORT_CTRL.SESS_EN 3 = true ∧ (readStn []).isNone = true
    ∧ (tags (openRaw 0 1 3) = some [0x01, 0, 8, 1, 3] ∧ tags (openRaw 7 1 1) = some [0x01, 7, 8, 1, 1] ∧ tags (openRaw 0 4 4) = some [0x01, 0, 8, 4, 4])
    ∧ (max 1 1 ≤ min 3 3 ∧ min 4 3 < max 4 1) ∧ (s.slotOf 9 = none ∧ s.slotOf 7 = some 3) := by decide +kernel

theorem test_hyp_StationSessions_slots :
    let s := stnState 3 5 []
    let full := s.having [(F.STN_SESS_STATUS.TAG, 0, 4), (F.STN_SESS_STATUS.TAG, 1, 5), (F.STN_SESS_STATUS.TAG, 2, 6)]
    canon full = true
    ∧ (s.mode ≠ 1 ∧ s.mode ≠ 5 ∧ s.mode ≠ 4 ∧ s.mode ≠ 2 ∧ s.isReady = true ∧ State.reset.isReady = false)
    ∧ ((twinState 1).mode = 1 ∧ (twinState 5).mode = 5)
    ∧ (full.heldSlots.length = 4 ∧ s.sessTag 0 = 0 ∧ (full.having [(F.STN_SESS_STATUS.TAG, 2, 0)]).sessTag 2 = 0
        ∧ ∀ j ∈ [0, 1], (full.having [(F.STN_SESS_STATUS.TAG, 2, 0)]).sessTag j ≠ 0)
    ∧ (s.sessHome 3 = true ∧ (s.having [(F.TWIN_STATUS.MODE, 0, 2), (F.STN_SESS_STATUS.HOME, 3, 0)]).sessHome 3 = false)
    ∧ ((0x7F000001#32) ≠ s.reg (F.STN_PORT_IP.IPV4.addr 3) ∧ (0#32) = s.reg (F.STN_PORT_IP.IPV4.addr 3)) := by decide +kernel

/-- Orders before, at and past the next number, one below its largest and the largest; a journal of 4,096 takes all credit. -/
theorem test_hyp_StationSessions_order :
    let s := stnState 3 5 []
    let last := stnState 3 (2 ^ 48 - 1) []
    let v1 := stnState 1 5 []
    let o : JOrder := { slot := 3, tag := 7, seq := 1, apply := 0, tooFar := false, code := 0, count := 0, items := [], port := 0, evt := none }
    let none_ : State := { s with stn := { s.stn with journal := List.replicate 4096 o } }
    (∀ q ∈ [4, 5, 6, 2 ^ 48 - 1], ((readStn (orderRaw q)).map fun m => (m.kind, m.tag, m.seq, m.ver, m.body.length)) = some (0x10, 7, q, 3, 12))
    ∧ (s.expected 3 = 5 ∧ last.expected 3 = 2 ^ 48 - 1 ∧ s.sessVer 3 = 3 ∧ v1.sessVer 3 = 1 ∧ canon s = true)
    ∧ (s.credit 3 ≠ 0 ∧ s.sessTag 3 = 7 ∧ none_.credit 3 = 0 ∧ (s.having [(F.TWIN_STATUS.MODE, 0, 4)]).mode = 4) := by decide +kernel

/-- A close, a subscription of stream 15 with and without a divider, causes of PAUSE, and BEACON from step 6. -/
theorem test_hyp_StationSessions_rest :
    let s := stnState 3 5 [(F.BOOT_STATUS.STEP, 0, 6), (F.STN_PORT_CTRL.BCAST, 3, 1)]
    let starved : State := { s with stn := { s.stn with starved := [(3, 3)] } }
    let paused : State := { s with stn := { s.stn with pause := [3] } }
    ((readStn (stnMsg 3 0x03 7 0 [] [])).map fun m => (m.kind, m.tag, m.ver)) = some (0x03, 7, 3)
    ∧ ((readStn (subRaw 1 4095)).map fun m => (fieldAt m.body 0 1, m.body.length, fieldAt m.body 2 2)) = some (15, 6, 1)
    ∧ ((readStn (subRaw (2 ^ 15) 0)).map fun m => fieldAt m.body 2 2 % 2 ^ 15) = some 0
    ∧ (AMap.read (fun _ => none) s.stn.tele 15 = none ∧ s.stn.tele = [] ∧ s.sessHome 3 = true)
    ∧ ((∀ e ∈ starved.stn.starved, e.2 < 4) ∧ (starved.having [(F.TWIN_STATUS.MODE, 0, 4)]).mode = 4 ∧ s.stnStalled = false ∧ s.stn.starved = [])
    ∧ (3 ∈ paused.stn.pause ∧ 3 ∉ s.stn.pause) ∧ (canon starved = true ∧ canon paused = true)
    ∧ (State.reset.get F.BOOT_STATUS.STEP < 6 ∧ 6 ≤ s.get F.BOOT_STATUS.STEP ∧ s.flag F.STN_PORT_CTRL.BCAST 3 = true)
    ∧ (let k := s.setSess 3 { src := ⟨1, 2, 3⟩, port := 3 }; k.sessTag 3 ≠ 0 ∧ (k.sess 3).src ≠ ⟨0, 0, 0⟩ ∧ 1 ≤ k.sessVer 3 ∧ canon k = true) := by decide +kernel

/-- MGMT_READ of one word under key 1, with and without its TAG. -/
theorem test_hyp_StationSessions_management :
    let s : State := { stnState 3 5 [] with img := { keys := [(1, [0])] } }
    let body := [1, 0, 0, 1, 0, 0, 0, 0]
    let tag := (s.mgmtTag 1 (stnHead 3 0x30 7 1 body)).getD []
    let good := readStn (stnMsg 3 0x30 7 1 body tag)
    canon s = true ∧ (s.sessVer 3 = 3 ∧ s.slotOf 7 = some 3 ∧ (s.sess 3).mgmtSeq = 0 ∧ (stnState 2 5 []).sessVer 3 ≠ 3)
    ∧ (good.any fun m => m.kind = 0x30 && m.tag = 7 && m.seq = 1 && s.mgmtTag (fieldAt m.body 0 1) m.signed = some m.auth
        && fieldAt m.body 2 2 = 1 && m.body.length = 8) = true
    ∧ ((readStn (stnMsg 3 0x30 7 1 body (List.replicate 16 0))).any fun m => s.mgmtTag (fieldAt m.body 0 1) m.signed ≠ some m.auth) = true
    ∧ ((s.setSess 3 { mgmtSeq := 1 }).sess 3).mgmtSeq = 1 := by decide +kernel

/-- Arms 15 and 0, a context that shadows its partner, cell 6143 of the largest catalogue, a LIVE word and a CFG word. -/
theorem test_hyp_StationOrders :
    let s := at_ [(F.CAT_STR_INFO.DECLARED, 63, 1), (F.CAT_STR_INFO.ARM, 63, 15), (F.LC_STATE.STATE, 0, 2)]
    let short := s.having [(F.CAT_ARM.MIN_CELLS, 15, 1)]
    let deb := s.setArm 15 { deblocked := true }
    let cat := s.having (((List.range 48).map fun k => (F.CAT_STR_INFO.DECLARED, k, 128)) ++ [(F.CAT_ENTRY_W0.ARM, 6143, 15)])
    let held := cat.setCell 6143 { reasons := 2 ^ 16 + 2 ^ 14 }
    let station := at_ [(F.SIG_PROD.KIND, 4095, 6)]
    let wr := fun (a : Nat) => fun (d : RegDesc) (mask : Nat) => d.fields.filter fun f => bits mask f.hi f.lo != 0 && decide (d.base ≤ a)
    (canon s = true ∧ State.reset.sigKind 4095 ≠ 6 ∧ station.sigKind 4095 = 6)
    ∧ (15 ∈ s.declaredArms ∧ (0x8000#16).getLsbD 15 = true ∧ (s.arm 15).deblocked = false ∧ s.get F.CAT_ARM.AVAIL 15 = s.get F.CAT_ARM.MIN_CELLS 15
        ∧ short.get F.CAT_ARM.AVAIL 15 < short.get F.CAT_ARM.MIN_CELLS 15 ∧ s.flag F.SAFE_STATUS.SBK = false ∧ s.boot.armed = none
        ∧ s.cur.ilpReq = false ∧ s.flag F.SAFE_STATUS.ILP_GRANTED = false ∧ (deb.arm 15).deblocked = true)
    ∧ (s.inCatalogue 1 = false ∧ cat.inCatalogue 6143 = true ∧ cat.holds 6143 16 = false ∧ held.holds 6143 16 = true ∧ held.holds 6143 14 = true
        ∧ cat.holds 6143 14 = false ∧ (cat.arm (cat.cellArm 6143)).deblocked = false ∧ ((cat.setArm 15 { deblocked := true }).arm (cat.cellArm 6143)).deblocked = true
        ∧ canon cat = true ∧ (cat.having [(F.CAT_ENTRY_W2.SVC, 6143, 2)]).svc 6143 = 2)
    ∧ (plainAt 0x981EC gainReg 15 ∧ wr 0x981EC gainReg (2 ^ 32 - 1) ≠ [] ∧ (∀ f ∈ wr 0x981EC gainReg (2 ^ 32 - 1), f.lock = .live ∧ f.inRange (f.val 0x3F800000) = true)
        ∧ ∃ f ∈ wr 0x981EC gainReg (2 ^ 32 - 1), f.inRange (f.val 0x3F800001) = false) := by
  unfold plainAt; decide +kernel

theorem test_hyp_StationOrders_contexts :
    let off := ctxState 0 2
    let pair := (ctxState 2 2).having [(F.CTX_CTRL.CMP_CTX, 191, 0), (F.CTX_COEF.LENGTH, 0, 1), (F.CTX_CTRL.MODE, 0, 1)]
    let faulted := off.having [(F.CTX_STATUS.FAULTED, 191, 1)]
    (canon pair = true ∧ off.ctxModeOf 191 = 0 ∧ off.ctxDeclared 191 = true ∧ off.ctxFaulted 191 = false ∧ off.ctxSealed 191 = true ∧ off.ctxArmed 191 = false)
    ∧ ((ctxState 1 2).ctxModeOf 191 = 1 ∧ (ctxState 2 2).ctxModeOf 191 = 2 ∧ (ctxState 1 2).ctxArmed 191 = false)
    ∧ (State.reset.partner 191 = none ∨ State.reset.ctxModeOf 191 ≠ 2)
    ∧ (pair.partner 191 = some 0 ∧ pair.ctxModeOf 191 = 2 ∧ pair.ctxModeOf 0 = 1 ∧ pair.ctxFaulted 0 = false ∧ pair.ctxSealed 191 = true)
    ∧ ((pair.having [(F.CTX_CTRL.MODE, 0, 0)]).partner 191 = some 0)
    ∧ (faulted.ctxFaulted 191 = true ∧ canon faulted = true) ∧ (off.get F.CTX_INJ_STATUS.STATE 191 = 0 ∧ (ctxState 1 4).get F.LC_STATE.STATE = 4) := by decide +kernel

theorem test_hyp_RecordOrders :
    let done := recState 5 2
    let run := recState 3 1
    canon run = true ∧ State.reset.flag F.CAP_CTRL.ENABLE 7 = false ∧ (done.flag F.CAP_CTRL.ENABLE 7 = true ∧ done.flag F.REC_STATUS.WIPE_DONE = true)
    ∧ (run.capState 7 ∈ [2, 3, 4] ∧ done.capState 7 ∉ [2, 3, 4] ∧ done.capSession 7 = false ∧ (∃ k ∈ List.range (done.get F.CAP_STATUS.SLOTS 7), k ∉ done.usedSlots 7))
    ∧ (done.capState 7 = 5 ∧ (recState 2 2).capState 7 = 2 ∧ run.capState 7 = 3 ∧ (run.cap 7).dir = some 63 ∧ run.dirRec 63 = some (rec63 1))
    ∧ (State.reset.dirState 63 = 0 ∧ run.dirState 63 = 1 ∧ done.dirState 63 = 2) ∧ ((rec63 1).cap < 8 ∧ (recState 6 2).capState 7 ≠ 5)
    ∧ (done.flag F.REC_STATUS.FREEZE_REQ = false ∧ (done.having [(F.REC_STATUS.FREEZE_REQ, 0, 1)]).flag F.REC_STATUS.FREEZE_REQ = true)
    ∧ (let d := done.setDirRec 63 (some { rec63 1 with status := 256 }); d.dirRec 63 = some { rec63 1 with status := 256 } ∧ hasBit 256 8 = true ∧ canon d = true) := by
  decide +kernel

theorem test_hyp_ObserverAndSelection :
    let base := at_ [(F.CAT_ENTRY_W2.SVC, 6143, 2), (F.OBS_CTRL.RES_COUNT, 0, 4), (F.OBS_CTRL.MISS_MAX, 0, 2), (F.OBS_CTRL2.FREEZE_TICKS, 0, 8), (F.OBS_CTRL3.RECOVER_TICKS, 0, 9),
      (F.CAT_STR_INFO.DECLARED, 0, 2), (F.SEL_ARM_PIP.PIP_PTR, 0, 1)]
    let i := 6143
    let fz := base.setInst i { init := true, frz := 8 }
    let g := fun (grade exc good : Nat) => base.setInst i { init := true, grade := grade, exc := exc, goodRun := good }
    let miss := base.setInst i { init := true, miss := 3 }
    let pend := base.setArm 0 { pend := [(i, 0)] }
    let pip := (base.having [(F.SEL_ARM_CTRL.PIP_HOLD, 0, 1), (F.SEL_ARM_PIP.PIP_AGE, 0, 1)]).setArm 0 { deblocked := true, pip := some 0 }
    (∀ s ∈ [fz, miss, pend, pip], canon s = true)
    ∧ ((miss.inst i).init = true ∧ miss.get F.OBS_CTRL.MISS_MAX + 1 ≤ (miss.inst i).miss ∧ miss.holds i 13 = false ∧ miss.svc i = 2 ∧ (base.inst i).init = false)
    ∧ ((fz.inst i).frozen = false ∧ fz.get F.OBS_CTRL2.FREEZE_TICKS ≤ (fz.inst i).frz ∧ (fz.inst i).grade ≠ 3 ∧ fz.holds i 14 = false)
    ∧ ((g 3 0 0).get F.OBS_CTRL3.RECOVER_TICKS ≠ 0 ∧ ((g 3 0 9).inst i).grade = 3 ∧ (g 3 0 9).get F.OBS_CTRL3.RECOVER_TICKS ≤ ((g 3 0 9).inst i).goodRun)
    ∧ (2 * (g 1 8 0).get F.OBS_CTRL.RES_COUNT ≤ ((g 1 8 0).inst i).exc ∧ ((g 1 7 0).inst i).exc < 2 * (g 1 7 0).get F.OBS_CTRL.RES_COUNT
        ∧ (g 0 4 0).get F.OBS_CTRL.RES_COUNT ≤ ((g 0 4 0).inst i).exc ∧ ((g 0 3 64).inst i).exc < 4 ∧ 64 ≤ ((g 0 3 64).inst i).goodRun ∧ ((g 2 0 0).inst i).exc = 0)
    ∧ (pend.get F.SEL_ARM_CTRL2.COMM_WAIT (pend.cellArm i) ≤ 0 ∧ (pend.arm (pend.cellArm i)).pend = [(i, 0)])
    ∧ ((pip.arm 0).deblocked = true ∧ (pip.arm 0).pip ≠ none ∧ pip.get F.SEL_ARM_CTRL.PIP_HOLD 0 ≤ pip.get F.SEL_ARM_PIP.PIP_AGE 0)
    ∧ (let fit := pip.having [(F.CAT_ENTRY_W2.SVC, 1, 2)]
       fit.armCells 0 = [] ++ [0] ++ 1 :: [] ∧ fit.pipFits 0 [] (fit.flag F.SEL_ARM_STATUS.PIP_SIGN 0) 1 = true
        ∧ fit.pipFits 0 [] (fit.flag F.SEL_ARM_STATUS.PIP_SIGN 0) 0 = false)
    ∧ (pip.armCells 0 = [0, 1] ∧ ∀ c ∈ pip.armCells 0, pip.pipFits 0 [] (pip.flag F.SEL_ARM_STATUS.PIP_SIGN 0) c = false) := by decide +kernel
-- Single commands, with results worked out by hand from the spec

/-- The state a command leaves, the state before it where it stops. -/
def after (c : Instr) (s : State) : State := match exec c s with | .next t => t | _ => s

/-- R11, R67, R165, R347, R435: words whose reset value is not 0, and one whose is. -/
theorem test_reset_words : State.reset.reg 0 = 0x614420A7#32 ∧ State.reset.flag F.LANE_STATUS.LOS 71 = true
    ∧ State.reset.get F.TIME_INC_HI.INC_HI = 2 ∧ State.reset.get F.BOOT_STATUS.STEP = 1 ∧ State.reset.reg 0x20000 = 0#32 := by decide +kernel

/-- R443: CRC-16 of the digits 1 to 9. -/
theorem test_crc16_check_value : Crc.crc16 [0x31, 0x32, 0x33, 0x34, 0x35, 0x36, 0x37, 0x38, 0x39] = 0x29B1 := by decide +kernel

/-- R490: IDCODE is shifted out, and a command of the queue leaves it. -/
theorem test_idcode : step { State.reset with pending := [.jtagIdcode, .jtagBypass] }
    = .next { State.reset with dbg := { ir := 0x01 }, wire := [.pin "TDO" [0x2614414F]], pending := [.jtagBypass] } := rfl

/-- R461: 10 mV beyond a threshold of 20 is the second level, an event, at once. -/
theorem test_droop_rise :
    let t := after (.droopLevelRise 30 0) (at_ [(F.DROOP_CTRL.THR_CORE, 0, 20), (F.DROOP_CTRL.THR_LOOP, 0, 20)])
    t.get F.DROOP_STATUS.LEVEL = 2 ∧ t.get F.DROOP_STATUS.EVENTS = 1 ∧ t.flag F.DROOP_STATUS.LOOP_SAG = false := by decide +kernel

/-- R444, R445: INIT of CRC-32C, four bytes of a word, FINISH. CRC-32C of 32 zero bits is 0x48674BC7. -/
theorem test_check_unit :
    let s := at_ [(F.CHK_CTRL.POLY, 0, 3), (F.CHK_CTRL.WIDTH, 0, 2)]
    let t := after (.chkFinish 0 0) (after (.chkDataWrite 0 0 0) (after (.chkInit 0 0) s))
    t.get F.CHK_RESULT.RESULT 0 = 0x48674BC7 ∧ t.flag F.CHK_STATUS.DONE 0 = true := by decide +kernel

/-- R9, R10: a write of a read-only word changes no register; R463: 60.0 W is within POWER_CAP, 60.1 W is not. -/
theorem test_writes : (after (.registerWrite 0 0 1) State.reset).regs = []
    ∧ (after (.powerCapWrite 0 600) State.reset).get F.PWR_CTRL.POWER_CAP = 600
    ∧ (after (.powerCapWrite 0 601) State.reset).get F.PWR_CTRL.POWER_CAP = 0 := by decide +kernel

/-- The table gives its rows no bits: no word spells a command. -/
theorem test_no_row_has_bits : decodeTableWord 8 0 = none ∧ decodeTableWord 32 0x2614414F = none := ⟨rfl, rfl⟩

end Sys2Proof.Tests
end

section
/-!
SUPPORT. Overruns (R28 to R31): an overrun whose coast plan takes its own count back.

`State.canonical` asks the tables of an `Undo` to be canonical and nothing of its words, so what is kept for an
abandoned stage may name any register. OVERRUN_CNT, at 0xB0058, even lies within the addresses `State.wordsChanged`
looks at, 0xA0000 to 0x50FFFF. No stage of the model writes that word, so no run is known to reach such a state: what the
statement lacks is an invariant on the words of `Undo`, that none of them is one an overrun writes.
-/

namespace Sys2Proof.Proofs

open Sys2Proof.Machine

/-- ALONE, between the compute of tick 0 and its hand-over; the words kept for abandoning the stages say that
OVERRUN_CNT was found 0 and written 1, which is what the next overrun makes of it. -/
def undoNamesCount : State :=
  { State.reset with
    tick := { running := true, begun := true, opened := true, stage := .computed
              undo := some { words := [(F.OVERRUN_CNT.COUNT.addr, 0, 1)], arms := [], ctxs := [], plan := [], events := [] } } }

theorem undoNamesCount_canonical : undoNamesCount.canonical := by
  refine ⟨rfl, rfl, rfl, rfl, rfl, rfl, rfl, rfl, rfl, rfl, rfl, rfl, rfl, rfl, fun u hu => ?_⟩
  obtain rfl := Option.some.inj hu
  exact ⟨rfl, rfl, rfl⟩

/-- The coast plan of the overrun abandons the stages after the count was raised, and nothing raises it again. -/
theorem overrun_leaves_count : undoNamesCount.overrun.get F.OVERRUN_CNT.COUNT = 0 := by decide +kernel

/-- Refutes O41: in ALONE the abandoned stages take back every word kept for them, and a canonical state may keep
the word of OVERRUN_CNT, so that an overrun is not counted. -/
theorem not_overruns : ¬ Obligations.Overruns := by
  unfold Obligations.Overruns
  intro h
  obtain ⟨-, hcounted, -⟩ := h undoNamesCount undoNamesCount_canonical
  obtain ⟨t, ht, hcount, -⟩ := hcounted rfl rfl
  have hnext : exec .overrun undoNamesCount = .next undoNamesCount.overrun := rfl
  obtain rfl : undoNamesCount.overrun = t := Host.Outcome.next.inj (hnext.symm.trans ht)
  have hstart : undoNamesCount.get F.OVERRUN_CNT.COUNT = 0 := by decide +kernel
  rw [overrun_leaves_count, hstart] at hcount
  exact absurd hcount (by decide)

end Sys2Proof.Proofs
end

section
/-!
SUPPORT. The vitrine at work (R354 to R359, R361 to R364, R368): a table of captures that lists one capture twice.

`State.canonical` asks the tables of the state and of an `Undo` to be canonical, and leaves out those within `State.vit`
(`units`, `caps`, `dir`, `tuning`). A write of the value an unlisted key reads as takes one entry out of a table; where
a second entry of the same key stands behind it, that one is read from then on. Every write keeps a canonical table
canonical (`AMap.put_wf`), so a run from reset reaches no such table: what the statement lacks is the canonical form of
the vitrine's tables.
-/

namespace Sys2Proof.Proofs

open Sys2Proof.Machine

/-- Capture 0 between two segments (STATE 4), with one row in its ring; a second entry of it, with slot 1, stands
behind the one that is read. -/
def captureListedTwice : State :=
  { State.reset.setCapState 0 4 with
    vit := { caps := [(0, { ring := [(0, 0, [])] }), (0, { slot := 1 })] } }

theorem captureListedTwice_canonical : captureListedTwice.canonical := by
  refine ⟨by decide, rfl, rfl, rfl, rfl, rfl, rfl, rfl, rfl, rfl, rfl, rfl, rfl, rfl, fun u hu => ?_⟩
  cases hu

/-- The state SEGMENT_REARM leads to from there. -/
def captureUncovered : State :=
  (captureListedTwice.setCap 0 { captureListedTwice.cap 0 with ring := [] }).setCapState 0 2

theorem segmentRearm_captureListedTwice : exec (.segmentRearm 0) captureListedTwice = .next captureUncovered := by
  have hstate : captureListedTwice.capState 0 = 4 := by decide
  change Host.Outcome.next (if captureListedTwice.capState 0 = 4 then captureUncovered else captureListedTwice) = _
  rw [if_pos hstate]

/-- The capture with its ring emptied is what an unlisted one reads as: its entry goes, and the second one shows. -/
theorem captureUncovered_slot : (captureUncovered.cap 0).slot = 1 ∧ (captureListedTwice.cap 0).slot = 0 := by decide

/-- Refutes O43: SEGMENT_REARM is to empty the ring and leave the rest of the capture, and where a canonical state
lists the capture twice it changes the capture's slot. -/
theorem not_recordEvents : ¬ Obligations.RecordEvents := by
  unfold Obligations.RecordEvents
  intro h
  obtain ⟨-, -, -, -, hcaptures, -⟩ := h captureListedTwice captureListedTwice_canonical
  obtain ⟨-, -, -, hrearm, -⟩ := hcaptures 0
  obtain ⟨t, ht, -, hcap⟩ := hrearm (by decide)
  obtain rfl : captureUncovered = t := Host.Outcome.next.inj (segmentRearm_captureListedTwice.symm.trans ht)
  have hslot : (captureUncovered.cap 0).slot = (captureListedTwice.cap 0).slot := by simpa using congrArg Cap.slot hcap
  obtain ⟨hafter, hbefore⟩ := captureUncovered_slot
  omega

end Sys2Proof.Proofs
end

section
/-!
SUPPORT. Pairs of registers (R347, R447, R448): the LO registers of the tables one by one, what a write of either half of
a writable pair comes down to, and what a read of either half returns.
-/

namespace Sys2Proof.Proofs

open Sys2Proof.Machine Sys2Proof.Machine.State

-- The addresses of LO registers

/-- The addresses of the LO registers. -/
def loAddrs : List Nat := loRegs.flatMap fun x => (List.range x.2.2).map fun k => x.1 + x.2.1 * k

theorem mem_of_inArray {x : Nat × Nat × Nat} {a : Nat} (hpos : 0 < x.2.2) (h : inArray x a = true) :
    a ∈ (List.range x.2.2).map fun k => x.1 + x.2.1 * k := by
  simp only [inArray, Bool.or_eq_true, decide_eq_true_eq] at h
  simp only [List.mem_map, List.mem_range]
  rcases h with rfl | ⟨hlt, -, hmod, hdiv⟩
  · exact ⟨0, hpos, by simp⟩
  · exact ⟨_, hdiv, by have := Nat.mul_div_cancel' (Nat.dvd_of_mod_eq_zero hmod); omega⟩

theorem mem_loAddrs {a : Nat} (h : isLo a = true) : a ∈ loAddrs := by
  have hpos : ∀ x ∈ loRegs, 0 < x.2.2 := by decide
  obtain ⟨x, hx, ha⟩ := List.any_eq_true.mp h
  exact List.mem_flatMap.mpr ⟨x, hx, mem_of_inArray (hpos x hx) ha⟩

/-- A LO register is a word of the windows, and the HI register above it is neither a LO register nor a challenge. -/
theorem isLo_place {a : Nat} (h : isLo a = true) :
    a % 4 = 0 ∧ a + 4 < 0x5A0000 ∧ isLo (a + 4) = false ∧ a + 4 ≠ F.DBG_CHAL.CHAL.base := by
  have all : ∀ a ∈ loAddrs, a % 4 = 0 ∧ a + 4 < 0x5A0000 ∧ isLo (a + 4) = false ∧ a + 4 ≠ F.DBG_CHAL.CHAL.base := by
    decide +kernel
  exact all a (mem_loAddrs h)

-- Reads

theorem mgmtRead_lo {s : State} {p a : Nat} (h : isLo a = true) (hr : s.mayRead p a = true) :
    s.mgmtRead p a = (0, s.shown a,
      s.setPath p { s.path p with snap := some (a, (loPartners a).map fun b => (b, s.shown b)) }) := by
  obtain ⟨h4, hm, -, -⟩ := isLo_place h
  unfold mgmtRead
  rw [if_neg (by omega), if_neg (by simp [hr]), if_neg (by simp [mapped]; omega), if_pos h]
  rfl

/-- The first word a read of LO snapshots is the HI register's. -/
theorem read_loPartners (a : Nat) (g : Nat → Word) :
    AMap.read (fun _ => none) (((loPartners a).map fun b => (b, g b)).map fun x => (x.1, some x.2)) (a + 4) = some (g (a + 4)) := by
  unfold loPartners
  split <;> simp [AMap.read]

theorem mgmtRead_hi {u : State} {p a : Nat} {g : Nat → Word} (h : isLo a = true) (hr : u.mayRead p (a + 4) = true)
    (hs : (u.path p).snap = some (a, (loPartners a).map fun b => (b, g b))) : (u.mgmtRead p (a + 4)).2.1 = g (a + 4) := by
  obtain ⟨h4, hm, hlo, hch⟩ := isLo_place h
  unfold mgmtRead
  rw [if_neg (by omega), if_neg (by simp [hr]), if_neg (by simp [mapped]; omega), if_neg (by simp [hlo]), if_neg hch, hs]
  dsimp only
  rw [read_loPartners, Option.getD_some]

-- Writes

theorem wrote_eq_answer {s : State} {p a : Nat} {new : Word} (hp : p < 12 ∨ s.level = 2) (h4 : a % 4 = 0) (hm : a < 0x5A0000) :
    s.wrote p a new = (s.writeAt p a new none).2.answer p (s.writeAt p a new none).1 := by
  unfold wrote mgmtWrite
  rw [if_neg (by omega), if_neg (by simp [mayWrite_of a hp]), if_neg (by simp [mapped]; omega)]
  rfl

/-- The low half a write of HI commits: the one path p holds for the pair at a, else the one that stands (R448). -/
def lowHalf (s : State) (p a : Nat) : Word :=
  match (s.path p).held with
  | some (b, w) => if b = a then w else s.reg a
  | none => s.reg a

/-- The state with no low half held by path p. -/
def dropHeld (s : State) (p : Nat) : State := s.setPath p { s.path p with held := none }

/-- The rows of the tables at a and a + 4 make a writable pair: a is the LO register, and every field of both rows has
lock code l and takes every value. -/
structure PairRows (a : Nat) (l : Lock) (dLo dHi : RegDesc) : Prop where
  isLo : isLoRw a = true
  hiNotLo : isLoRw (a + 4) = false
  loRow : ∃ i j, regAt a = some (dLo, i, j)
  hiRow : ∃ i j, regAt (a + 4) = some (dHi, i, j)
  fields : ∀ f ∈ dHi.fields ++ dLo.fields, f.lock = l ∧ f.range = []
  base : 0x540000 ≤ dLo.base ∧ 0x540000 ≤ dHi.base
  place : a % 4 = 0 ∧ 0x500000 ≤ a ∧ a + 4 < 0x5A0000 ∧ (a + 4 < 0x540018 ∨ 0x540020 < a)

section
variable {s : State} {p a : Nat} {l : Lock} {dLo dHi : RegDesc} {v : Word}

theorem isStaged_late {d : RegDesc} (hb : 0x540000 ≤ d.base) : isStaged d = false := by
  unfold isStaged
  rw [decide_eq_false_iff_not]
  omega

theorem fieldStatus_pair {d : RegDesc} {fs : List FieldDesc} (ha : s.admits p l) (hb : 0x540000 ≤ d.base)
    (hf : ∀ f ∈ fs, f.lock = l ∧ f.range = []) : s.fieldStatus d fs v = stOk := by
  have hf' : ∀ f ∈ fs, f.lock = l ∧ f.inRange (f.val v) = true :=
    fun f hm => ⟨(hf f hm).1, by unfold FieldDesc.inRange; rw [(hf f hm).2]; rfl⟩
  by_cases hl : l = .any
  · subst hl
    exact fieldStatus_any ha hf' (by simp only [F.CAT_ENTRY_W3.WEAR]; omega)
      (.inl (by unfold isLoopReg; rw [decide_eq_false_iff_not]; omega))
  · exact fieldStatus_lock ha hl hf'

theorem writeAt_lo (h : PairRows a l dLo dHi) : s.writeAt p a v none = s.writeLo p dLo a v := by
  obtain ⟨i, j, hr⟩ := h.loRow
  have := h.place
  unfold writeAt
  rw [if_neg (by simp [isCoef]; omega), if_neg (by omega), hr]
  dsimp only
  rw [if_pos h.isLo]

theorem writeAt_hi (h : PairRows a l dLo dHi) : s.writeAt p (a + 4) v none = s.writeHi p dHi dLo (a + 4) v := by
  obtain ⟨i, j, hr⟩ := h.loRow
  obtain ⟨i', j', hr'⟩ := h.hiRow
  have := h.place
  unfold writeAt
  rw [if_neg (by simp [isCoef]; omega), if_neg (by omega), hr']
  dsimp only
  rw [h.hiNotLo, if_neg Bool.false_ne_true, Nat.add_sub_cancel, if_pos h.isLo, hr]

/-- A write of LO is held. -/
theorem writeLo_holds (h : PairRows a l dLo dHi) (ha : s.admits p l) (hi : s.incShut a = false) :
    s.writeLo p dLo a v = (0, s.setPath p { s.path p with held := some (a, v) }) := by
  have hst : s.fieldStatus dLo (writtenFields dLo (s.reg a) v) v = stOk :=
    fieldStatus_pair ha h.base.1 fun f hf => h.fields f (List.mem_append_right _ (List.mem_filter.mp hf).1)
  unfold writeLo
  dsimp only
  rw [hst, if_neg (by simp), hi, if_neg (by simp)]
  rfl

theorem wrote_lo (h : PairRows a l dLo dHi) (ha : s.admits p l) (hi : s.incShut a = false) :
    s.wrote p a v = (s.setPath p { s.path p with held := some (a, v) }).okOn p := by
  have := h.place
  rw [wrote_eq_answer ha.1 (by omega) (by omega), writeAt_lo h, writeLo_holds h ha hi]
  rfl

/-- What a write of HI does where nothing shuts the pair: nothing but to drop the held half where no field changes, else
the commit. -/
theorem writeHi_open (h : PairRows a l dLo dHi) (ha : s.admits p l) (hi : s.incShut (a + 4) = false) :
    s.writeHi p dHi dLo (a + 4) v
      = if writtenFields dHi (s.reg (a + 4)) v = [] ∧ writtenFields dLo (s.reg a) (lowHalf s p a) = [] then (0, dropHeld s p)
        else if a + 4 = 0x54000C then
          (if s.incRefused (v.toNat % 256 * 2 ^ 32 + (lowHalf s p a).toNat)
            then (4, s.commitInc (v.toNat % 256 * 2 ^ 32 + (lowHalf s p a).toNat))
            else (0, dropHeld (s.commitInc (v.toNat % 256 * 2 ^ 32 + (lowHalf s p a).toNat)) p))
        else (0, dropHeld ((s.setReg a (lowHalf s p a)).setReg (a + 4) (storedWord dHi (s.reg (a + 4)) v)) p) := by
  unfold writeHi
  extract_lets lo fs st done inc
  have hlo : lo = lowHalf s p a := by
    unfold lo lowHalf
    cases (s.path p).held <;> simp
  have hfs : fs = writtenFields dHi (s.reg (a + 4)) v ++ writtenFields dLo (s.reg a) (lowHalf s p a) := by
    unfold fs
    rw [hlo, Nat.add_sub_cancel]
  have hst : st = stOk := fieldStatus_pair ha h.base.2 fun f hf => h.fields f
    ((List.mem_append.mp hf).elim (fun hm => List.mem_append_left _ (List.mem_filter.mp hm).1)
      fun hm => List.mem_append_right _ (List.mem_filter.mp hm).1)
  have hinc : inc = v.toNat % 256 * 2 ^ 32 + (lowHalf s p a).toNat := by
    unfold inc
    rw [hlo]
  clear_value inc st fs lo
  rw [hinc, hst, hfs, hlo, hi, Nat.add_sub_cancel]
  simp only [List.isEmpty_iff, List.append_eq_nil_iff, ne_eq, not_true_eq_false, if_false, Bool.false_eq_true]
  rfl

theorem wrote_hi (h : PairRows a l dLo dHi) (hp : p < 12 ∨ s.level = 2) :
    s.wrote p (a + 4) v = (s.writeHi p dHi dLo (a + 4) v).2.answer p (s.writeHi p dHi dLo (a + 4) v).1 := by
  have := h.place
  rw [wrote_eq_answer hp (by omega) (by omega), writeAt_hi h]

end

/-- A row with one stored field counts a write as one where the field's value changes. -/
theorem writtenFields_single {d : RegDesc} {f : FieldDesc} {old new : Word} (hd : d.fields = [f]) (hf : f.access = .rw)
    (hb : 0x540000 ≤ d.base) : writtenFields d old new = [] ↔ f.val old = f.val new := by
  unfold writtenFields
  rw [hd, isStaged_late hb]
  simp [FieldDesc.written, hf]

-- The pairs of the trigger units

/-- The field of a mask or value register of the trigger units: the whole word, locked LIVE. -/
def triggerBits : FieldDesc := ⟨"BITS", 31, 0, .rw, .live, 0, [], true⟩

theorem val_triggerBits (w : Word) : triggerBits.val w = w.toNat := by
  simp only [FieldDesc.val, triggerBits, bits]
  have := w.isLt
  omega

theorem storedWord_trigger {d : RegDesc} (hd : d.fields = [triggerBits]) (old new : Word) : storedWord d old new = new := by
  rw [storedWord_eq, hd]
  change triggerBits.put old (triggerBits.val new) = new
  rw [val_triggerBits]
  exact inWord_whole (b := 0) (s1 := 0) (s2 := 0) old new

/-- Whether the row of an address is a mask or value register of the trigger units. -/
def isTriggerWord (a : Nat) : Bool :=
  (regAt a).any fun r => decide (r.1.fields = [triggerBits] ∧ 0x540000 ≤ r.1.base)

theorem isTriggerWord_row {a : Nat} (h : isTriggerWord a = true) :
    ∃ d i j, regAt a = some (d, i, j) ∧ d.fields = [triggerBits] ∧ 0x540000 ≤ d.base := by
  unfold isTriggerWord at h
  rw [Option.any_eq_true] at h
  obtain ⟨⟨d, i, j⟩, hr, hd⟩ := h
  exact ⟨d, i, j, hr, of_decide_eq_true hd⟩

/-- Every writable pair but TIME_INC is one of the trigger units. -/
theorem trigger_pair {a : Nat} (h : isLoRw a = true) (hne : a ≠ 0x540008) :
    (0x550404 ≤ a ∧ a < 0x551000) ∧ ∃ dLo dHi, PairRows a .live dLo dHi ∧ dLo.fields = [triggerBits]
      ∧ dHi.fields = [triggerBits] := by
  have all : ∀ a ∈ loAddrs, 0x550404 ≤ a ∧ a < 0x551000 →
      isTriggerWord a = true ∧ isTriggerWord (a + 4) = true ∧ isLoRw (a + 4) = false := by decide +kernel
  have hlo := h
  simp only [isLoRw, Bool.or_eq_true, decide_eq_true_eq, Bool.and_eq_true, hne, false_or] at hlo
  obtain ⟨hisLo, hrange⟩ := hlo
  obtain ⟨htLo, htHi, hnot⟩ := all a (mem_loAddrs hisLo) hrange
  obtain ⟨dLo, i, j, hrLo, hfLo, hbLo⟩ := isTriggerWord_row htLo
  obtain ⟨dHi, i', j', hrHi, hfHi, hbHi⟩ := isTriggerWord_row htHi
  have hplace := isLo_place hisLo
  refine ⟨hrange, dLo, dHi, ⟨h, hnot, ⟨i, j, hrLo⟩, ⟨i', j', hrHi⟩, ?_, ⟨hbLo, hbHi⟩, by omega⟩, hfLo, hfHi⟩
  intro f hf
  rw [hfLo, hfHi] at hf
  simp only [List.cons_append, List.nil_append, List.mem_cons, List.not_mem_nil, or_false, or_self] at hf
  subst hf
  exact ⟨rfl, rfl⟩

theorem incShut_trigger {s : State} {a : Nat} (ha : a < 0x540008 ∨ 0x54000C < a) : s.incShut a = false := by
  unfold incShut
  rw [Bool.and_eq_false_iff]
  left
  simp
  omega

/-- A write of the HI half of a trigger unit's pair stores both halves. -/
theorem writeHi_trigger {s : State} {p a : Nat} {dLo dHi : RegDesc} {v : Word} (h : PairRows a .live dLo dHi)
    (hLo : dLo.fields = [triggerBits]) (hHi : dHi.fields = [triggerBits]) (hw : AMap.wf resetWord s.regs = true)
    (ha : s.admits p .live) (hr : 0x540010 ≤ a) :
    s.writeHi p dHi dLo (a + 4) v = (0, dropHeld ((s.setReg a (lowHalf s p a)).setReg (a + 4) v) p) := by
  rw [writeHi_open h ha (incShut_trigger (by omega)), storedWord_trigger hHi, if_neg (show a + 4 ≠ 0x54000C by omega)]
  split
  · rename_i hsame
    rw [writtenFields_single hLo rfl h.base.1, writtenFields_single hHi rfl h.base.2] at hsame
    simp only [val_triggerBits] at hsame
    rw [← BitVec.eq_of_toNat_eq hsame.2, setReg_reg s a hw, ← BitVec.eq_of_toNat_eq hsame.1, setReg_reg s _ hw]
  · rfl

-- TIME_INC

/-- The fields of TIME_INC. -/
def incLoBits : FieldDesc := ⟨"INC_LO", 31, 0, .rw, .any, 0, [], false⟩
def incHiBits : FieldDesc := ⟨"INC_HI", 7, 0, .rw, .any, 2, [], false⟩

/-- The rows of TIME_INC. -/
def incLoRow : RegDesc := ⟨"TIME_INC_LO", 0x540008, 1, 0, 1, 0, [incLoBits]⟩
def incHiRow : RegDesc := ⟨"TIME_INC_HI", 0x54000C, 1, 0, 1, 0, [incHiBits]⟩

theorem timeInc_pair : PairRows 0x540008 .any incLoRow incHiRow where
  isLo := by decide
  hiNotLo := by decide
  loRow := ⟨0, 0, by decide⟩
  hiRow := ⟨0, 0, by decide⟩
  fields := by decide
  base := by decide
  place := by decide

theorem incShut_open {s : State} {a : Nat} (h : s.get F.TIME_SERVO.SOURCE = 0) : s.incShut a = false := by
  simp [incShut, h]

/-- A field takes its value modulo its width. -/
theorem set_mod (s : State) (f : Field) (v i : Nat) : s.set f (v % 2 ^ (f.hi + 1 - f.lo)) i = s.set f v i := by
  unfold State.set Field.inWord withBits
  rw [Nat.mod_mod]

theorem bits_zero (v hi : Nat) : bits v hi 0 = v % 2 ^ (hi + 1) := by simp [bits]

/-- The value of TIME_INC that a write of v to its HI half commits. -/
def incOf (s : State) (p : Nat) (v : Word) : Nat := v.toNat % 256 * 2 ^ 32 + (lowHalf s p 0x540008).toNat

/-- TIME_INC with both halves written. -/
def incWritten (s : State) (p : Nat) (v : Word) : State :=
  (s.set F.TIME_INC_LO.INC_LO (lowHalf s p 0x540008).toNat).set F.TIME_INC_HI.INC_HI v.toNat

theorem incRefused_within {s : State} {v : Nat} (hmin : incMin ≤ v) (hmax : v ≤ incMax) (harm : s.anyDeblocked = false) :
    s.incRefused v = false := by
  unfold incRefused
  dsimp only
  rw [harm, Bool.false_and, Bool.or_false, Bool.or_eq_false_iff, decide_eq_false_iff_not, decide_eq_false_iff_not]
  exact ⟨Nat.not_lt.mpr hmin, Nat.not_lt.mpr hmax⟩

theorem commitInc_incOf {s : State} {p : Nat} {v : Word} (hopen : s.incRefused (incOf s p v) = false) :
    s.commitInc (incOf s p v) = incWritten s p v := by
  have hlt := (lowHalf s p 0x540008).isLt
  have hlo : incOf s p v % 2 ^ 32 = (lowHalf s p 0x540008).toNat := by unfold incOf; omega
  have hhi : incOf s p v / 2 ^ 32 = v.toNat % 256 := by unfold incOf; omega
  unfold commitInc set64
  rw [hopen, if_neg Bool.false_ne_true, hlo, hhi]
  exact set_mod _ F.TIME_INC_HI.INC_HI v.toNat 0

/-- A write of TIME_INC_HI within the limits, with no arm deblocked, commits both halves. -/
theorem writeHi_timeInc {s : State} {p : Nat} {v : Word} (hw : AMap.wf resetWord s.regs = true) (ha : s.admits p .any)
    (hsrc : s.get F.TIME_SERVO.SOURCE = 0) (hopen : s.incRefused (incOf s p v) = false) :
    s.writeHi p incHiRow incLoRow 0x54000C v = (0, dropHeld (incWritten s p v) p) := by
  rw [writeHi_open (a := 0x540008) timeInc_pair ha (incShut_open hsrc), if_pos rfl]
  change (if _ then _ else if s.incRefused (incOf s p v) = true then _ else (0, dropHeld (s.commitInc (incOf s p v)) p)) = _
  rw [hopen, if_neg Bool.false_ne_true, commitInc_incOf hopen]
  split
  · rename_i hsame
    rw [writtenFields_single (f := incHiBits) rfl rfl (by decide), writtenFields_single (f := incLoBits) rfl rfl (by decide)] at hsame
    obtain ⟨hHi, hLo⟩ := hsame
    have hLo' : s.set F.TIME_INC_LO.INC_LO (lowHalf s p 0x540008).toNat = s :=
      set_get F.TIME_INC_LO.INC_LO _ 0 hw (by decide) ((bits_zero _ 31).symm.trans hLo.symm)
    have hHi' : s.set F.TIME_INC_HI.INC_HI v.toNat = s :=
      set_get F.TIME_INC_HI.INC_HI _ 0 hw (by decide) ((bits_zero _ 7).symm.trans hHi.symm)
    unfold incWritten
    rw [hLo', hHi']
  · rfl

theorem timeInc_incWritten {s : State} {p : Nat} {v : Word} (hw : AMap.wf resetWord s.regs = true) :
    (incWritten s p v).timeInc = incOf s p v := by
  have hlt := (lowHalf s p 0x540008).isLt
  have hw' := set_wf s F.TIME_INC_LO.INC_LO (lowHalf s p 0x540008).toNat 0 0 hw
  have hHi : (incWritten s p v).get F.TIME_INC_HI.INC_HI = v.toNat % 256 :=
    get_set_same _ F.TIME_INC_HI.INC_HI v.toNat 0 0 hw' (by decide) (by decide)
  have hLo : (incWritten s p v).get F.TIME_INC_LO.INC_LO = (lowHalf s p 0x540008).toNat := by
    unfold incWritten
    rw [get_set_other _ F.TIME_INC_HI.INC_HI F.TIME_INC_LO.INC_LO v.toNat 0 0 0 0 hw' (by decide),
      get_set_same _ F.TIME_INC_LO.INC_LO _ 0 0 hw (by decide) (by decide)]
    exact Nat.mod_eq_of_lt hlt
  unfold timeInc get64 incOf
  rw [hHi, hLo, Nat.add_comm]

theorem regsAs_incWritten {s : State} {p : Nat} {v : Word} (hw : AMap.wf resetWord s.regs = true) :
    s.regsAs [(F.TIME_INC_LO.INC_LO, 0, (lowHalf s p 0x540008).toNat), (F.TIME_INC_HI.INC_HI, 0, v.toNat)] (incWritten s p v) :=
  (fieldsOnly_set (fieldsOnly_one s F.TIME_INC_LO.INC_LO _ 0 hw) F.TIME_INC_HI.INC_HI _ 0 (set_wf s _ _ _ _ hw)).1

-- The statement

/-- A write of either half of a trigger unit's pair (R448). -/
theorem trigger_halves {s : State} {p a : Nat} {v : Word} (hw : AMap.wf resetWord s.regs = true) (hlo : isLoRw a = true)
    (hne : a ≠ 0x540008) (ha : s.admits p .live) :
    s.wrote p a v = (s.setPath p { s.path p with held := some (a, v) }).okOn p
    ∧ s.wrote p (a + 4) v = (dropHeld ((s.setReg a (lowHalf s p a)).setReg (a + 4) v) p).okOn p := by
  obtain ⟨⟨hmin, -⟩, dLo, dHi, hpair, hfLo, hfHi⟩ := trigger_pair hlo hne
  refine ⟨wrote_lo hpair ha (incShut_trigger (by omega)), ?_⟩
  rw [wrote_hi hpair ha.1, writeHi_trigger hpair hfLo hfHi hw ha (by omega)]
  rfl

/-- A write of TIME_INC_HI within the limits of R332. -/
theorem timeInc_hi {s : State} {p : Nat} {v : Word} (hw : AMap.wf resetWord s.regs = true) (ha : s.admits p .any)
    (hsrc : s.get F.TIME_SERVO.SOURCE = 0) (hopen : s.incRefused (incOf s p v) = false) :
    s.wrote p 0x54000C v = (dropHeld (incWritten s p v) p).okOn p := by
  rw [wrote_hi (a := 0x540008) timeInc_pair ha.1, writeHi_timeInc hw ha hsrc hopen]
  rfl

theorem path_dropHeld {s : State} {p : Nat} (hw : AMap.wf (fun _ => {}) s.paths = true) :
    ((dropHeld s p).path p).held = none := by
  unfold dropHeld
  rw [path_setPath _ _ _ _ hw, if_pos rfl]

/-- Settles O10, by the rows of the register tables that make a pair (`PairRows`): a write of LO is held (`wrote_lo`), a
write of HI commits (`trigger_halves`, `timeInc_hi`), and HI reads what LO snapshot (`mgmtRead_hi`). -/
theorem pairsOfWords : Obligations.PairsOfWords := by
  unfold Obligations.PairsOfWords
  refine ⟨fun s p a v hc hlo hne ha => ?_, fun s p a hlo hr => ?_, fun s p v hc ha hsrc => ?_⟩
  · obtain ⟨hwLo, hwHi⟩ := trigger_halves (v := v) hc.1 hlo hne ha
    obtain ⟨⟨-, hmax⟩, -⟩ := trigger_pair hlo hne
    have hHi : (a + 4).toNat = a.toNat + 4 := by
      rw [BitVec.toNat_add]
      exact Nat.mod_eq_of_lt (by simp; omega)
    constructor
    · change Host.Outcome.next (if isLoRw a.toNat then s.wrote p a.toNat v else s) = _
      rw [if_pos hlo, hwLo]
    · change Host.Outcome.next (if isLoRw ((a + 4).toNat - 4) then s.wrote p (a + 4).toNat v else s) = _
      rw [hHi, Nat.add_sub_cancel, if_pos hlo, hwHi]
      rfl
  · have hread := mgmtRead_lo hlo hr
    refine ⟨?_, by rw [hread], by rw [hread], fun u hs hu => mgmtRead_hi (g := s.shown) hlo hu hs⟩
    change Host.Outcome.next (if isLo a.toNat then (s.mgmtRead p a.toNat).2.2 else s) = _
    rw [if_pos hlo, hread]
  · refine ⟨congrArg Host.Outcome.next (wrote_lo timeInc_pair ha (incShut_open hsrc)), fun hmin hmax harm => ?_⟩
    have hopen : s.incRefused (incOf s p v) = false := incRefused_within hmin hmax harm
    obtain ⟨hregs, -, -, -, -, -, -, -, -, -, -, -, hpaths, -⟩ := hc
    exact ⟨dropHeld (incWritten s p v) p, congrArg Host.Outcome.next (timeInc_hi hregs ha hsrc hopen), timeInc_incWritten hregs,
      regsAs_incWritten hregs, path_dropHeld hpaths⟩

end Sys2Proof.Proofs
end

section
/-!
SUPPORT. What a field reads after another field of its word, or a counter, was written; and what stays below the
dispatcher's window when a work item is submitted (R454 to R456).
-/

namespace Sys2Proof.Proofs

open Sys2Proof.Machine Sys2Proof.Machine.State

-- Fields

/-- Of two values written to one field the later stays. -/
theorem inWord_inWord (f : Field) (w : Word) (u v : Nat) (hh : f.hi < 32) : f.inWord (f.inWord w u) v = f.inWord w v := by
  apply BitVec.eq_of_toNat_eq
  rw [toNat_inWord f _ v hh, toNat_inWord f w u hh, toNat_inWord f w v hh]
  apply Nat.eq_of_testBit_eq
  intro n
  rw [testBit_withBits, testBit_withBits, testBit_withBits]
  split <;> rfl

/-- A field of the same word that shares no bit with the one written. -/
theorem get_set_beside {s : State} (f g : Field) (v i : Nat) (hw : AMap.wf resetWord s.regs = true) (ha : g.addr i = f.addr i)
    (hh : f.hi < 32) (hd : f.hi < g.lo ∨ g.hi < f.lo) : (s.set f v i).get g i = s.get g i := by
  unfold State.get
  rw [ha, reg_set_same s f v i 0 hw, ofWord_inWord_other f g _ v hh hd]

theorem get_le_max (s : State) (f : Field) (i : Nat) : s.get f i ≤ f.max :=
  Nat.le_sub_one_of_lt (Nat.mod_lt _ (Nat.two_pow_pos _))

/-- A counter that is raised, saturating at its maximum. -/
theorem get_bump_same {s : State} (f : Field) (k i : Nat) (hw : AMap.wf resetWord s.regs = true) (hf : f.lo ≤ f.hi ∧ f.hi < 32) :
    (s.bump f k i).get f i = min f.max (s.get f i + k) := by
  unfold bump
  rw [get_set_same s f _ i 0 hw hf.1 hf.2]
  refine Nat.mod_eq_of_lt (Nat.lt_of_le_of_lt (Nat.min_le_left _ _) ?_)
  exact Nat.sub_one_lt (Nat.ne_of_gt (Nat.two_pow_pos _))

theorem flag_set_same {s : State} (f : Field) (v i : Nat) (hw : AMap.wf resetWord s.regs = true) (hf : f.lo = f.hi ∧ f.hi < 32) :
    (s.set f v i).flag f i = decide (v % 2 = 1) := by
  unfold flag
  rw [get_set_same s f v i 0 hw (Nat.le_of_eq hf.1) hf.2, hf.1, Nat.add_sub_cancel_left]
  rcases Nat.mod_two_eq_zero_or_one v with h | h <;> simp [h]

theorem flag_set_other {s : State} {f g : Field} {v i : Nat} (hw : AMap.wf resetWord s.regs = true) (ha : g.addr i ≠ f.addr i) :
    (s.set f v i).flag g i = s.flag g i := by
  unfold flag
  rw [get_set_other s f g v i 0 i 0 hw ha]

theorem reg_set_of_ne {s : State} {f : Field} {v i a : Nat} (hw : AMap.wf resetWord s.regs = true) (ha : a ≠ f.addr i) :
    (s.set f v i).reg a = s.reg a := reg_set_other s f v i 0 a hw ha

theorem chk_of_fieldsOnly {s t : State} {l : List (Field × Nat × Nat)} (h : s.fieldsOnly l t) (n : Nat) : t.chk n = s.chk n := by
  obtain ⟨-, hrest⟩ := h
  have hchks : t.chks = s.chks := (congrArg State.chks hrest :)
  unfold chk
  rw [hchks]

-- Work items

/-- t has the registers below the dispatcher's window at 0x590000 as s has them. -/
def SchedOnly (s t : State) : Prop :=
  AMap.wf resetWord s.regs = true → AMap.wf resetWord t.regs = true ∧ ∀ a, a < 0x590000 → t.reg a = s.reg a

theorem SchedOnly.of_regs {s t : State} (h : t.regs = s.regs) : SchedOnly s t := fun hw =>
  ⟨h ▸ hw, fun a _ => by unfold reg; rw [h]⟩

theorem SchedOnly.refl (s : State) : SchedOnly s s := .of_regs rfl

theorem SchedOnly.trans {s t u : State} (h : SchedOnly s t) (k : SchedOnly t u) : SchedOnly s u := fun hw => by
  obtain ⟨ht, hst⟩ := h hw
  obtain ⟨hu, htu⟩ := k ht
  exact ⟨hu, fun a ha => (htu a ha).trans (hst a ha)⟩

theorem SchedOnly.set {s t : State} (h : SchedOnly s t) (f : Field) (v i : Nat) (hf : 0x590000 ≤ f.base) :
    SchedOnly s (t.set f v i) :=
  h.trans fun hw => ⟨set_wf t f v i 0 hw, fun a ha => reg_set_of_ne hw (by unfold Field.addr; omega)⟩

theorem SchedOnly.foldl {α : Type} {s : State} {g : State → α → State} (hg : ∀ t x, SchedOnly t (g t x)) (l : List α) :
    SchedOnly s (l.foldl g s) := by
  induction l generalizing s with
  | nil => exact .refl s
  | cons x l ih => exact (hg s x).trans ih

theorem showPool_sched (s : State) : SchedOnly s s.showPool :=
  (((SchedOnly.refl s).set _ _ 0 (by decide)).set _ _ 0 (by decide)).set _ _ 0 (by decide)

theorem makeReady_sched (s : State) (w : Waiting) : SchedOnly s (s.makeReady w) := .of_regs rfl

theorem refill_sched (s : State) : SchedOnly s s.refill := by
  unfold refill each
  extract_lets n ws old t
  have ht : SchedOnly s t := .of_regs rfl
  exact (ht.trans (.foldl makeReady_sched ws)).trans (showPool_sched _)

theorem dispatchOne_sched (s : State) : SchedOnly s s.dispatchOne := by
  unfold dispatchOne
  split
  · extract_lets it old t u core v
    have ht : SchedOnly s t := .of_regs rfl
    have hu : SchedOnly s u := by
      unfold u
      split
      · exact ht.set _ _ _ (by decide)
      · exact ht
    have hv : SchedOnly s v := hu.trans (.of_regs rfl)
    exact (hv.set _ _ _ (by decide)).set _ _ _ (by decide)
  · exact .refl s

theorem dispatchAll_sched (s : State) : SchedOnly s s.dispatchAll :=
  (SchedOnly.foldl (fun t _ => dispatchOne_sched t) _).trans (refill_sched _)

theorem holdBack_sched (s : State) (w : Waiting) (hw : w.source ≠ 8) : SchedOnly s (s.holdBack w) := by
  unfold holdBack
  extract_lets n m old t u
  have ht : SchedOnly s t := .of_regs rfl
  have hu : SchedOnly s u := ht.trans (showPool_sched t)
  split
  · exact hu
  · exact .refl s

/-- A work item of a source that is no lane group's touches the dispatcher's registers alone. -/
theorem submit_sched (s : State) (w : Waiting) (hw : w.source ≠ 8) : SchedOnly s (s.submit w false) := by
  unfold submit
  extract_lets room
  split
  · rw [if_neg Bool.false_ne_true]
    exact (makeReady_sched s w).trans ((showPool_sched _).trans (dispatchAll_sched _))
  · split
    · exact (SchedOnly.refl s).set _ _ 0 (by decide)
    · exact holdBack_sched s w hw

end Sys2Proof.Proofs
end

section
/-!
SUPPORT. The check units (R443 to R446): what a refused command leaves, what each operation of a unit writes, and what a
completion does in main path and in fall-back.
-/

namespace Sys2Proof.Proofs

open Sys2Proof.Machine Sys2Proof.Machine.State

-- Refusals

/-- Of the word of a write of one command field only command fields count as written. -/
theorem writtenFields_command {d : RegDesc} {f : Field} {old : Word} {v : Nat} (ht : d.tidy = true) (hs : isStaged d = false)
    (hf : rowHas d f .wo = true) {x : FieldDesc} (hx : x ∈ writtenFields d old (f.inWord (restated d old) v)) :
    x ∈ d.fields ∧ x.access = .wo := by
  obtain ⟨y, hy, y1, y2, y3⟩ := has_elim hf
  rw [writtenFields_oneField ht hs old v f hy y1 y2, List.mem_filter] at hx
  obtain ⟨hxd, hx⟩ := hx
  refine ⟨hxd, ?_⟩
  rw [Bool.or_eq_true] at hx
  rcases hx with h | h
  · simp only [Bool.and_eq_true, beq_iff_eq] at h
    rw [tidy_same ht hxd hy (h.1.trans y2.symm), y3]
  · simp only [Bool.and_eq_true, beq_iff_eq] at h
    exact h.1

/-- A command that a path may write and that its register's own rule refuses: STATUS and state are the refusal's. -/
theorem wroteField_refused {s t : State} {p st : Nat} (f : Field) (v i : Nat) {tab : List RegDesc} (n : Nat) {d : RegDesc}
    (ha : s.admits p .any) (hl : tab.Pairwise (fun e d => e.apart d = true) ∧ ∀ d ∈ tab, d.own = true) (hd : tab[n]? = some d)
    (hb : (f.base = d.base ∧ f.s1 = d.s1) ∧ 0 < d.n2) (hi : i < d.n1) (htab : regTableAt (f.addr i) = tab)
    (hadr : f.addr i % 4 = 0 ∧ 0x560000 ≤ f.addr i ∧ f.addr i < 0x5A0000)
    (hrow : d.tidy = true ∧ rowHas d f .wo = true ∧ 0x560000 ≤ d.base
      ∧ (d.fields.all fun x => x.access != .wo || (x.lock == .any && x.range == [])) = true)
    (hv : f.hi ≠ f.lo ∨ v % 2 = 1)
    (ho : s.ownRefusal d i (s.reg (f.addr i)) (f.inWord (restated d (s.reg (f.addr i))) v) = some (st, t)) :
    s.wroteField p f v i = t.answer p st := by
  obtain ⟨ht, hf, hbase, hlk⟩ := hrow
  obtain ⟨y, hy, y1, y2, y3⟩ := has_elim hf
  have hs : isStaged d = false := isStaged_late (by omega)
  have hr := regAt_field hl f n i hd hb.1 hi hb.2 htab
  have hlo := noLo (a := f.addr i) (.inr (by omega))
  generalize hnew : f.inWord (restated d (s.reg (f.addr i))) v = new at ho
  have hfs : ∀ x ∈ writtenFields d (s.reg (f.addr i)) new, x.lock = .any ∧ x.range = [] := by
    intro x hx
    rw [← hnew] at hx
    obtain ⟨hxd, hxa⟩ := writtenFields_command ht hs hf hx
    simpa [hxa] using List.all_eq_true.mp hlk x hxd
  have hmem : y ∈ writtenFields d (s.reg (f.addr i)) new := by
    rw [← hnew, writtenFields_oneField ht hs _ v f hy y1 y2, List.mem_filter]
    refine ⟨hy, ?_⟩
    rcases hv with h | h
    · simp [y1, y2, y3, h]
    · by_cases hm : f.hi = f.lo
      · simp [y2, y3, hm, h]
      · simp [y1, y2, y3, hm]
  have hw : s.writeWord d i (f.addr i) new none = (st, t) := by
    unfold writeWord
    extract_lets old fs st'
    have hst : st' = stOk := by
      unfold st'
      split
      · rfl
      · exact fieldStatus_pair ha (by omega) hfs
    rw [if_neg (by rw [List.isEmpty_iff]; exact List.ne_nil_of_mem hmem), hst, if_neg (by simp), ho]
  rw [wroteField_mgmt hr, hnew, mgmtWrite_word (mayWrite_of _ ha.1) hadr.1 hadr.2.2 (by simp [isCoef]; omega) (by omega) hr hlo.1 hlo.2,
    hw]
  rfl

section
variable {s : State} {p n : Nat}

theorem table_chk {a : Nat} (h : 0x580000 ≤ a ∧ a < 0x590000) : regTableAt a = regTable_check := by
  unfold regTableAt
  repeat rw [if_neg (by omega)]
  rw [if_pos h.2]

/-- A busy unit refuses INIT, START and FINISH. -/
theorem chkCtrl_refused (hn : n < 4) (ha : s.admits p .any) (hb : s.chkBusy n = true) (f : Field)
    (hf : f = F.CHK_CTRL.INIT ∨ f = F.CHK_CTRL.FINISH ∨ f = F.CHK_CTRL.START) :
    s.wroteField p f 1 n = (s.chkRefuse n).answer p 4 := by
  have ea : f.addr n = 0x580100 + 64 * n := by rcases hf with rfl | rfl | rfl <;> rfl
  have hcmd : ∀ w, f.ofWord (f.inWord w 1) = 1 := fun w => by
    rcases hf with rfl | rfl | rfl <;> exact ofWord_same _ w 1 (by decide)
  refine wroteField_refused f 1 n 6 ha table_check rfl ?_ hn (table_chk (by omega)) (by omega) ?_ (.inr rfl) ?_
  · rcases hf with rfl | rfl | rfl <;> decide
  · rcases hf with rfl | rfl | rfl <;> decide
  · rw [own_chkCtrl rfl]
    unfold refuseChk
    rw [if_neg (by decide), hb, if_neg (by decide), if_neg (by decide)]
    dsimp only
    rw [if_pos]
    · rfl
    · rcases hf with rfl | rfl | rfl <;> simp [hcmd]

/-- A busy unit refuses data. -/
theorem chkData_refused (hn : n < 4) (ha : s.admits p .any) (hb : s.chkBusy n = true) (v : Word) :
    s.wroteField p F.CHK_DATA.VALUE v.toNat n = (s.chkRefuse n).answer p 4 := by
  have ea : F.CHK_DATA.VALUE.addr n = 0x580104 + 64 * n := rfl
  refine wroteField_refused F.CHK_DATA.VALUE v.toNat n 7 ha table_check rfl (by decide) hn (table_chk (by omega)) (by omega)
    (by decide) (.inl (by decide)) ?_
  rw [own_chkData rfl]
  unfold refuseChk
  rw [if_neg (by decide), hb, if_neg (by decide), if_pos (by decide)]
  rfl

-- The operations of a unit that is not busy

theorem chkInitial_final (poly : Nat) : chkFinal poly (chkInitial poly) = if poly < 2 then chkInitial poly else 0 := by
  unfold chkFinal
  split
  · rfl
  · rename_i h
    match poly, h with
    | k + 2, _ => exact Nat.xor_self 0xFFFFFFFF

/-- The remainder and RESULT. -/
theorem chkSet_does (acc : Nat) (hc : s.canonical) :
    (s.chkSet n acc).chk n = { acc := acc }
    ∧ s.regsAs [(F.CHK_RESULT.RESULT, n, chkFinal (s.chkPoly n) acc)] (s.chkSet n acc) := by
  obtain ⟨hregs, -, -, -, -, -, -, -, -, -, -, -, -, hchks, -⟩ := hc
  have hset := fieldsOnly_one (s.setChk n { acc := acc }) F.CHK_RESULT.RESULT (chkFinal (s.chkPoly n) acc) n hregs
  refine ⟨?_, hset.1⟩
  unfold chkSet
  rw [chk_of_fieldsOnly hset, chk_setChk _ _ _ _ hchks, if_pos rfl]

theorem regsAs_trans {s t u : State} {l m : List (Field × Nat × Nat)} (h : s.regsAs l t) (k : t.regsAs m u) : s.regsAs (l ++ m) u :=
  fun a => by rw [wordWith_append, ← h a]; exact k a

theorem chkInit_writes (hc : s.canonical) :
    (s.chkInit n).chk n = { acc := chkInitial (s.chkPoly n) }
    ∧ s.regsAs ((F.CHK_RESULT.RESULT, n, if s.chkPoly n < 2 then chkInitial (s.chkPoly n) else 0)
        :: zeroed [F.CHK_STATUS.DONE, F.CHK_STATUS.MISMATCH, F.CHK_STATUS.ABORTED] n) (s.chkInit n) := by
  obtain ⟨hchk, hset⟩ := chkSet_does (n := n) (chkInitial (s.chkPoly n)) hc
  have hclear := fieldsOnly_clearAll [F.CHK_STATUS.DONE, F.CHK_STATUS.MISMATCH, F.CHK_STATUS.ABORTED] n
    (s.chkSet n (chkInitial (s.chkPoly n))) (set_wf _ _ _ _ _ hc.1)
  rw [chkInitial_final] at hset
  exact ⟨(chk_of_fieldsOnly hclear n).trans hchk, regsAs_trans hset hclear.1⟩

/-- A completion in main path sets DONE and nothing else (R444, R445). -/
theorem chkDone_main (hw : AMap.wf resetWord s.regs = true) (hm : s.flag F.CHK_CTRL.MODE n = false) :
    s.chkDone n = s.setB F.CHK_STATUS.DONE true n := by
  have hmode : (s.setB F.CHK_STATUS.DONE true n).flag F.CHK_CTRL.MODE n = false :=
    (flag_set_other hw (by simp [Field.addr, F.CHK_CTRL.MODE, F.CHK_STATUS.DONE])).trans hm
  unfold chkDone
  dsimp only
  rw [hmode]
  rfl

/-- A unit whose comparison failed: DONE and MISMATCH set, and the mismatch counted. -/
def mismatchMarked (s : State) (n : Nat) : State :=
  ((s.setB F.CHK_STATUS.DONE true n).bump F.CHK_CNT.MISMATCH_CNT 1 n).setB F.CHK_STATUS.MISMATCH true n

/-- A completion in fall-back compares RESULT with EXPECTED as they stood (R445). -/
theorem chkDone_fallback (hw : AMap.wf resetWord s.regs = true) (hm : s.flag F.CHK_CTRL.MODE n = true) :
    s.chkDone n = if s.reg (F.CHK_RESULT.RESULT.addr n) = s.reg (F.CHK_EXPECTED.VALUE.addr n)
      then (s.setB F.CHK_STATUS.DONE true n).bump F.CHK_CNT.MATCH 1 n
      else (mismatchMarked s n).submit ⟨12, n, 7, none, BitVec.ofNat 32 n, 0⟩ false := by
  have hmode : (s.setB F.CHK_STATUS.DONE true n).flag F.CHK_CTRL.MODE n = true :=
    (flag_set_other hw (by simp [Field.addr, F.CHK_CTRL.MODE, F.CHK_STATUS.DONE])).trans hm
  unfold chkDone
  dsimp only
  rw [hmode, if_neg (by decide)]
  unfold setB
  rw [reg_set_of_ne hw (by simp [Field.addr, F.CHK_RESULT.RESULT, F.CHK_STATUS.DONE]),
    reg_set_of_ne hw (by simp [Field.addr, F.CHK_EXPECTED.VALUE, F.CHK_STATUS.DONE])]
  rfl

theorem chkDone_match (hw : AMap.wf resetWord s.regs = true) (hm : s.flag F.CHK_CTRL.MODE n = true)
    (he : s.reg (F.CHK_RESULT.RESULT.addr n) = s.reg (F.CHK_EXPECTED.VALUE.addr n)) :
    s.fieldsOnly [(F.CHK_STATUS.DONE, n, 1), (F.CHK_CNT.MATCH, n, min F.CHK_CNT.MATCH.max (s.get F.CHK_CNT.MATCH n + 1))]
      (s.chkDone n) := by
  rw [chkDone_fallback hw hm, if_pos he]
  have hcount : (s.set F.CHK_STATUS.DONE 1 n).get F.CHK_CNT.MATCH n = s.get F.CHK_CNT.MATCH n :=
    get_set_other s _ _ _ _ _ _ _ hw (by simp [Field.addr, F.CHK_CNT.MATCH, F.CHK_STATUS.DONE])
  rw [← hcount]
  exact fieldsOnly_set (fieldsOnly_one s F.CHK_STATUS.DONE 1 n hw) F.CHK_CNT.MATCH _ n (set_wf s _ _ _ _ hw)

theorem mismatchMarked_shows (hw : AMap.wf resetWord s.regs = true) :
    AMap.wf resetWord (mismatchMarked s n).regs = true
    ∧ (mismatchMarked s n).flag F.CHK_STATUS.DONE n = true ∧ (mismatchMarked s n).flag F.CHK_STATUS.MISMATCH n = true
    ∧ s.counted (mismatchMarked s n) F.CHK_CNT.MISMATCH_CNT n := by
  have hapart : F.CHK_CNT.MISMATCH_CNT.addr n ≠ F.CHK_STATUS.DONE.addr n := by
    simp [Field.addr, F.CHK_CNT.MISMATCH_CNT, F.CHK_STATUS.DONE]
  have hdone := set_wf s F.CHK_STATUS.DONE 1 n 0 hw
  have hcnt : AMap.wf resetWord ((s.set F.CHK_STATUS.DONE 1 n).bump F.CHK_CNT.MISMATCH_CNT 1 n).regs = true :=
    set_wf _ _ _ _ _ hdone
  refine ⟨set_wf _ _ _ _ _ hcnt, ?_, flag_set_same F.CHK_STATUS.MISMATCH 1 n hcnt (by decide), ?_⟩
  · have hkeep := get_set_beside F.CHK_STATUS.MISMATCH F.CHK_STATUS.DONE 1 n hcnt rfl (by decide) (by decide)
    calc _ = ((s.set F.CHK_STATUS.DONE 1 n).bump F.CHK_CNT.MISMATCH_CNT 1 n).flag F.CHK_STATUS.DONE n := congrArg (· != 0) hkeep
      _ = (s.set F.CHK_STATUS.DONE 1 n).flag F.CHK_STATUS.DONE n := flag_set_other hdone hapart.symm
      _ = true := flag_set_same F.CHK_STATUS.DONE 1 n hw (by decide)
  · have hkeep : (mismatchMarked s n).get F.CHK_CNT.MISMATCH_CNT n
        = ((s.set F.CHK_STATUS.DONE 1 n).bump F.CHK_CNT.MISMATCH_CNT 1 n).get F.CHK_CNT.MISMATCH_CNT n :=
      get_set_other _ F.CHK_STATUS.MISMATCH F.CHK_CNT.MISMATCH_CNT _ _ _ _ _ hcnt hapart
    unfold counted
    rw [hkeep, get_bump_same F.CHK_CNT.MISMATCH_CNT 1 n hdone (by decide), get_set_other s _ _ _ _ _ _ _ hw hapart]

/-- A mismatch sets DONE and MISMATCH and is counted; the work item it submits touches none of that. -/
theorem chkDone_mismatch (hw : AMap.wf resetWord s.regs = true) (hn : n < 4) (hm : s.flag F.CHK_CTRL.MODE n = true)
    (he : s.reg (F.CHK_RESULT.RESULT.addr n) ≠ s.reg (F.CHK_EXPECTED.VALUE.addr n)) :
    (s.chkDone n).flag F.CHK_STATUS.DONE n = true ∧ (s.chkDone n).flag F.CHK_STATUS.MISMATCH n = true
    ∧ s.counted (s.chkDone n) F.CHK_CNT.MISMATCH_CNT n := by
  rw [chkDone_fallback hw hm, if_neg he]
  obtain ⟨hwf, hshows⟩ := mismatchMarked_shows (n := n) hw
  obtain ⟨-, hbelow⟩ := submit_sched (mismatchMarked s n) ⟨12, n, 7, none, BitVec.ofNat 32 n, 0⟩ (show 12 ≠ 8 by decide) hwf
  have hget : ∀ f : Field, f.addr n < 0x590000 →
      ((mismatchMarked s n).submit ⟨12, n, 7, none, BitVec.ofNat 32 n, 0⟩ false).get f n = (mismatchMarked s n).get f n :=
    fun f hf => congrArg f.ofWord (hbelow _ hf)
  have hin : ∀ f : Field, f.base < 0x580200 → f.s1 = 64 → f.s2 = 0 → f.addr n < 0x590000 := by
    intro f h1 h2 h3
    unfold Field.addr
    rw [h2]
    omega
  unfold flag counted at *
  rw [hget _ (hin _ (by decide) rfl rfl), hget _ (hin _ (by decide) rfl rfl), hget _ (hin _ (by decide) rfl rfl)]
  exact hshows

-- ABORT, and the end of a block computation

/-- A unit whose remainder and RESULT hold a free value (R446). -/
def resultLost (s : State) (n : Nat) : State :=
  (s.free.2.setChk n { acc := s.free.1.toNat }).setReg (F.CHK_RESULT.RESULT.addr n) s.free.1

theorem reg_resultLost {a : Nat} (hw : AMap.wf resetWord s.regs = true) (ha : a ≠ F.CHK_RESULT.RESULT.addr n) :
    (resultLost s n).reg a = s.reg a := by
  unfold resultLost
  rw [reg_setReg (s.free.2.setChk n { acc := s.free.1.toNat }) _ _ _ hw, if_neg ha]
  rfl

theorem chkAbort_of_busy (hb : s.chkBusy n = true) :
    s.chkAbort n = ((resultLost s n).setB F.CHK_STATUS.BUSY false n).setB F.CHK_STATUS.ABORTED true n := by
  unfold chkAbort
  rw [if_pos hb]
  rfl

/-- ABORT of a block computation (R446): BUSY goes, ABORTED is set, and nothing else shows but RESULT. -/
theorem chkAbort_busy (hw : AMap.wf resetWord s.regs = true) (hb : s.chkBusy n = true) :
    (s.chkAbort n).flag F.CHK_STATUS.BUSY n = false ∧ (s.chkAbort n).flag F.CHK_STATUS.ABORTED n = true
    ∧ s.regsBut [F.CHK_STATUS.BUSY.addr n, F.CHK_RESULT.RESULT.addr n] (s.chkAbort n) := by
  have hlost : AMap.wf resetWord (resultLost s n).regs = true := setReg_wf _ _ _ hw
  have hidle := set_wf _ F.CHK_STATUS.BUSY 0 n 0 hlost
  rw [chkAbort_of_busy hb]
  refine ⟨?_, flag_set_same F.CHK_STATUS.ABORTED 1 n hidle (by decide), fun a ha => ?_⟩
  · have hkeep := get_set_beside F.CHK_STATUS.ABORTED F.CHK_STATUS.BUSY 1 n hidle rfl (by decide) (by decide)
    calc _ = ((resultLost s n).set F.CHK_STATUS.BUSY 0 n).flag F.CHK_STATUS.BUSY n := congrArg (· != 0) hkeep
      _ = false := flag_set_same F.CHK_STATUS.BUSY 0 n hlost (by decide)
  · simp only [List.mem_cons, List.not_mem_nil, or_false, not_or] at ha
    obtain ⟨hstatus, hresult⟩ := ha
    have hword : F.CHK_STATUS.ABORTED.addr n = F.CHK_STATUS.BUSY.addr n := rfl
    calc _ = ((resultLost s n).set F.CHK_STATUS.BUSY 0 n).reg a := reg_set_of_ne hidle (hword ▸ hstatus)
      _ = (resultLost s n).reg a := reg_set_of_ne hlost hstatus
      _ = s.reg a := reg_resultLost hw hresult

/-- The end of a block computation in main path (R444). -/
theorem chkComplete_main (hc : s.canonical) (hb : s.chkBusy n = true) (hm : s.flag F.CHK_CTRL.MODE n = false) :
    (s.chkComplete n).chk n = { acc := (s.chkBlock n).foldl (chkByte (s.chkPoly n)) (s.chk n).acc }
    ∧ s.regsAs [(F.CHK_RESULT.RESULT, n, chkFinal (s.chkPoly n) ((s.chkBlock n).foldl (chkByte (s.chkPoly n)) (s.chk n).acc)),
        (F.CHK_STATUS.BUSY, n, 0), (F.CHK_STATUS.DONE, n, 1)] (s.chkComplete n) := by
  obtain ⟨hchk, hfeed⟩ := chkSet_does (n := n) ((s.chkBlock n).foldl (chkByte (s.chkPoly n)) (s.chk n).acc) hc
  have hfed : AMap.wf resetWord (s.chkFeed n (s.chkBlock n)).regs = true := set_wf _ _ _ _ _ hc.1
  have hidle := set_wf _ F.CHK_STATUS.BUSY 0 n 0 hfed
  have hmode : ((s.chkFeed n (s.chkBlock n)).set F.CHK_STATUS.BUSY 0 n).flag F.CHK_CTRL.MODE n = false :=
    calc _ = (s.chkFeed n (s.chkBlock n)).flag F.CHK_CTRL.MODE n :=
          flag_set_other hfed (by simp [Field.addr, F.CHK_CTRL.MODE, F.CHK_STATUS.BUSY])
      _ = s.flag F.CHK_CTRL.MODE n := flag_set_other hc.1 (by simp [Field.addr, F.CHK_CTRL.MODE, F.CHK_RESULT.RESULT])
      _ = false := hm
  have hend : s.chkComplete n = ((s.chkFeed n (s.chkBlock n)).set F.CHK_STATUS.BUSY 0 n).set F.CHK_STATUS.DONE 1 n := by
    unfold chkComplete
    rw [hb, Bool.not_true, if_neg Bool.false_ne_true]
    exact chkDone_main hidle hmode
  have hflags := fieldsOnly_set (fieldsOnly_one (s.chkFeed n (s.chkBlock n)) F.CHK_STATUS.BUSY 0 n hfed) F.CHK_STATUS.DONE 1 n hidle
  rw [hend]
  exact ⟨(chk_of_fieldsOnly hflags n).trans hchk, regsAs_trans hfeed hflags.1⟩

end

end Sys2Proof.Proofs
end

section
/-!
SUPPORT. Scrub and patrol passes (R373, R439): the counts of a pass, error by error, and the two statements together.
-/

namespace Sys2Proof.Proofs

open Sys2Proof.Machine Sys2Proof.Machine.State

-- Scrub passes

/-- How many corrected errors of memory m a pass found. -/
def correctedIn (ecc : List EccEvent) (m : Nat) : Nat :=
  (ecc.filter fun e => match e with | .corrected k _ => decide (k = m) | _ => false).length

/-- How many uncorrectable errors of memory m a pass found; those of the journal are of memory 5. -/
def lostIn (ecc : List EccEvent) (m : Nat) : Nat :=
  (ecc.filter fun e => match e with | .uncorrected k _ => decide (k = m) | .journalLost _ => decide (m = 5) | _ => false).length

/-- The memory an error names is one of R438. -/
def namesMemory : EccEvent → Bool
  | .corrected m _ => decide (m < 10)
  | .uncorrected m _ => decide (m < 10)
  | _ => true

/-- One error of a pass. -/
def scrubEvent (s : State) : EccEvent → State
  | .corrected m _ => s.bump F.INTEG_MEM_CNT.CORRECTED 1 m
  | .uncorrected m w => s.eccLost m w true
  | .sigParity _ | .journalCopy => s
  | .journalLost w => s.eccLost 5 w true

theorem scrubPass_eq (s : State) (ecc : List EccEvent) :
    s.scrubPass ecc = (ecc.foldl scrubEvent s).bump F.INTEG_PASS.SRAM_PASSES := by
  have hstep : scrubEvent = fun s e => match e with
    | .corrected m _ => s.bump F.INTEG_MEM_CNT.CORRECTED 1 m
    | .uncorrected m w => s.eccLost m w true
    | .sigParity _ | .journalCopy => s
    | .journalLost w => s.eccLost 5 w true := by
    funext s e
    cases e <;> rfl
  rw [hstep]
  rfl

/-- The registers the errors of a pass are recorded in. -/
def eccRegs : List Nat := F.INTEG_ECC_LAST.MEM.base :: (List.range 10).map fun m => F.INTEG_MEM_CNT.CORRECTED.addr m

/-- t is s after the errors ecc: they are counted by memory, saturating, and nothing but their registers changed. -/
structure Scrubbed (s : State) (ecc : List EccEvent) (t : State) : Prop where
  wf : AMap.wf resetWord t.regs = true
  rest : { t with regs := s.regs } = s
  corrected : ∀ m < 10, t.get F.INTEG_MEM_CNT.CORRECTED m
    = min F.INTEG_MEM_CNT.CORRECTED.max (s.get F.INTEG_MEM_CNT.CORRECTED m + correctedIn ecc m)
  lost : ∀ m < 10, t.get F.INTEG_MEM_CNT.UNCORRECTED m
    = min F.INTEG_MEM_CNT.UNCORRECTED.max (s.get F.INTEG_MEM_CNT.UNCORRECTED m + lostIn ecc m)
  others : s.regsBut eccRegs t

/-- Counting on from a saturated count saturates as counting the sum does. -/
theorem min_add_min (k x a b : Nat) : min k (min k (x + a) + b) = min k (x + (a + b)) := by omega

theorem Scrubbed.trans {s t u : State} {l m : List EccEvent} (h : Scrubbed s l t) (k : Scrubbed t m u) : Scrubbed s (l ++ m) u where
  wf := k.wf
  rest := by rw [← h.rest, ← k.rest]
  corrected n hn := by
    rw [k.corrected n hn, h.corrected n hn, min_add_min]
    simp [correctedIn]
  lost n hn := by
    rw [k.lost n hn, h.lost n hn, min_add_min]
    simp [lostIn]
  others a ha := (k.others a ha).trans (h.others a ha)

/-- Errors that count at no memory and change nothing. -/
theorem Scrubbed.refl {s : State} {ecc : List EccEvent} (hw : AMap.wf resetWord s.regs = true)
    (h : ∀ m, correctedIn ecc m = 0 ∧ lostIn ecc m = 0) : Scrubbed s ecc s where
  wf := hw
  rest := rfl
  corrected m _ := by
    rw [(h m).1, Nat.add_zero, Nat.min_eq_right (get_le_max _ _ _)]
  lost m _ := by
    rw [(h m).2, Nat.add_zero, Nat.min_eq_right (get_le_max _ _ _)]
  others _ _ := rfl

/-- A counter of one element of an array raised by one. -/
theorem get_bump_elem {s : State} (f : Field) (k m : Nat) (hw : AMap.wf resetWord s.regs = true)
    (hf : (f.lo ≤ f.hi ∧ f.hi < 32) ∧ f.s1 = 4) :
    (s.bump f 1 k).get f m = min f.max (s.get f m + if k = m then 1 else 0) := by
  by_cases h : k = m
  · subst h
    rw [get_bump_same f 1 k hw hf.1, if_pos rfl]
  · have hkeep : (s.bump f 1 k).get f m = s.get f m :=
      get_set_other s f f _ k 0 m 0 hw (by unfold Field.addr; rw [hf.2]; omega)
    rw [if_neg h, hkeep, Nat.add_zero, Nat.min_eq_right (get_le_max _ _ _)]

/-- The other counter of a memory's word stays. -/
theorem get_bump_beside {s : State} (f g : Field) (k m : Nat) (hw : AMap.wf resetWord s.regs = true)
    (hf : f.base = g.base ∧ f.s1 = 4 ∧ g.s1 = 4 ∧ f.s2 = g.s2 ∧ f.hi < 32) (hd : f.hi < g.lo ∨ g.hi < f.lo) :
    (s.bump f 1 k).get g m = s.get g m := by
  obtain ⟨hb, hs, hs', hs2, hh⟩ := hf
  by_cases h : k = m
  · subst h
    exact get_set_beside f g _ k hw (by unfold Field.addr; rw [hb, hs, hs', hs2]) hh hd
  · exact get_set_other s f g _ k 0 m 0 hw (by unfold Field.addr; rw [hb, hs, hs']; omega)

theorem mem_eccRegs {k a : Nat} (hk : k < 10) (ha : a ∉ eccRegs) : a ≠ F.INTEG_MEM_CNT.CORRECTED.addr k := by
  rintro rfl
  exact ha (List.mem_cons_of_mem _ (List.mem_map.mpr ⟨k, List.mem_range.mpr hk, rfl⟩))

theorem scrubbed_corrected {s : State} (hw : AMap.wf resetWord s.regs = true) {k : Nat} (hk : k < 10) (w : Nat) :
    Scrubbed s [.corrected k w] (s.bump F.INTEG_MEM_CNT.CORRECTED 1 k) where
  wf := set_wf _ _ _ _ _ hw
  rest := rfl
  corrected m _ := by
    rw [get_bump_elem _ k m hw (by decide)]
    by_cases h : k = m <;> simp [correctedIn, h]
  lost m _ := by
    rw [get_bump_beside _ F.INTEG_MEM_CNT.UNCORRECTED k m hw (by decide) (by decide)]
    exact (Nat.min_eq_right (get_le_max _ _ _)).symm
  others a ha := reg_set_of_ne hw (mem_eccRegs hk ha)

/-- An uncorrectable error is counted, and recorded in INTEG_ECC_LAST. -/
theorem reg_eccLost {s : State} (hw : AMap.wf resetWord s.regs = true) (k w a : Nat) (b : Bool)
    (ha : a ≠ F.INTEG_ECC_LAST.MEM.base) :
    (s.eccLost k w b).reg a = (s.bump F.INTEG_MEM_CNT.UNCORRECTED 1 k).reg a := by
  have h1 : AMap.wf resetWord (s.bump F.INTEG_MEM_CNT.UNCORRECTED 1 k).regs = true := set_wf _ _ _ _ _ hw
  have h2 := set_wf _ F.INTEG_ECC_LAST.MEM k 0 0 h1
  have h3 := set_wf _ F.INTEG_ECC_LAST.BY_SCRUB (if b then 1 else 0) 0 0 h2
  exact (reg_set_of_ne h3 ha).trans ((reg_set_of_ne h2 ha).trans (reg_set_of_ne h1 ha))

theorem scrubbed_lost {s : State} (hw : AMap.wf resetWord s.regs = true) {k : Nat} (hk : k < 10) (w : Nat) {e : EccEvent}
    (hc : ∀ m, correctedIn [e] m = 0) (hl : ∀ m, lostIn [e] m = if k = m then 1 else 0) :
    Scrubbed s [e] (s.eccLost k w true) where
  wf := set_wf _ _ _ _ _ (set_wf _ _ _ _ _ (set_wf _ _ _ _ _ (set_wf _ _ _ _ _ hw)))
  rest := rfl
  corrected m hm := by
    have hkeep : (s.eccLost k w true).get F.INTEG_MEM_CNT.CORRECTED m = s.get F.INTEG_MEM_CNT.CORRECTED m :=
      (congrArg _ (reg_eccLost hw k w _ true (by simp [Field.addr, F.INTEG_MEM_CNT.CORRECTED, F.INTEG_ECC_LAST.MEM]; omega))).trans
        (get_bump_beside F.INTEG_MEM_CNT.UNCORRECTED F.INTEG_MEM_CNT.CORRECTED k m hw (by decide) (by decide))
    rw [hkeep, hc m]
    exact (Nat.min_eq_right (get_le_max _ _ _)).symm
  lost m hm := by
    rw [hl m, ← get_bump_elem F.INTEG_MEM_CNT.UNCORRECTED k m hw (by decide)]
    exact congrArg _ (reg_eccLost hw k w _ true (by simp [Field.addr, F.INTEG_MEM_CNT.UNCORRECTED, F.INTEG_ECC_LAST.MEM]; omega))
  others a ha :=
    (reg_eccLost hw k w a true fun h => ha (h ▸ List.mem_cons_self)).trans (reg_set_of_ne hw (mem_eccRegs hk ha))

theorem scrubEvent_counts {s : State} {e : EccEvent} (hw : AMap.wf resetWord s.regs = true) (he : namesMemory e = true) :
    Scrubbed s [e] (scrubEvent s e) := by
  cases e with
  | corrected k w => exact scrubbed_corrected hw (of_decide_eq_true he) w
  | uncorrected k w =>
    exact scrubbed_lost hw (of_decide_eq_true he) w (fun m => rfl) fun m => by by_cases h : k = m <;> simp [lostIn, h]
  | sigParity i => exact .refl hw fun m => ⟨rfl, rfl⟩
  | journalCopy => exact .refl hw fun m => ⟨rfl, rfl⟩
  | journalLost w =>
    exact scrubbed_lost hw (by decide) w (fun m => rfl) fun m => by by_cases h : m = 5 <;> simp [lostIn, h, eq_comm]

theorem scrubEvents_count {s : State} {ecc : List EccEvent} (hw : AMap.wf resetWord s.regs = true)
    (he : ∀ e ∈ ecc, namesMemory e = true) : Scrubbed s ecc (ecc.foldl scrubEvent s) := by
  induction ecc generalizing s with
  | nil => exact .refl hw fun m => ⟨rfl, rfl⟩
  | cons e ecc ih =>
    have hfirst := scrubEvent_counts hw (he e List.mem_cons_self)
    exact hfirst.trans (ih hfirst.wf fun x hx => he x (List.mem_cons_of_mem _ hx))

/-- A scrub pass (R439). -/
theorem scrubPass_counts {s : State} {ecc : List EccEvent} (hw : AMap.wf resetWord s.regs = true)
    (he : ∀ e ∈ ecc, namesMemory e = true) :
    { s.scrubPass ecc with regs := s.regs } = s
    ∧ (∀ m < 10, (s.scrubPass ecc).get F.INTEG_MEM_CNT.CORRECTED m
          = min F.INTEG_MEM_CNT.CORRECTED.max (s.get F.INTEG_MEM_CNT.CORRECTED m + correctedIn ecc m)
        ∧ (s.scrubPass ecc).get F.INTEG_MEM_CNT.UNCORRECTED m
          = min F.INTEG_MEM_CNT.UNCORRECTED.max (s.get F.INTEG_MEM_CNT.UNCORRECTED m + lostIn ecc m))
    ∧ s.counted (s.scrubPass ecc) F.INTEG_PASS.SRAM_PASSES
    ∧ s.regsBut (F.INTEG_PASS.SRAM_PASSES.base :: eccRegs) (s.scrubPass ecc) := by
  have h := scrubEvents_count hw he
  rw [scrubPass_eq]
  have hpass : F.INTEG_PASS.SRAM_PASSES.base ∉ eccRegs := by decide
  have hmem : ∀ m < 10, F.INTEG_MEM_CNT.CORRECTED.addr m ≠ F.INTEG_PASS.SRAM_PASSES.addr := by decide
  refine ⟨h.rest, fun m hm => ⟨?_, ?_⟩, ?_, fun a ha => ?_⟩
  · rw [← h.corrected m hm]
    exact get_set_other _ _ _ _ _ _ _ _ h.wf (hmem m hm)
  · rw [← h.lost m hm]
    exact get_set_other _ _ _ _ _ _ _ _ h.wf (hmem m hm)
  · have hkeep : (ecc.foldl scrubEvent s).get F.INTEG_PASS.SRAM_PASSES = s.get F.INTEG_PASS.SRAM_PASSES :=
      congrArg F.INTEG_PASS.SRAM_PASSES.ofWord (h.others _ hpass)
    unfold counted
    rw [get_bump_same F.INTEG_PASS.SRAM_PASSES 1 0 h.wf (by decide), hkeep]
  · rw [List.mem_cons, not_or] at ha
    exact (reg_set_of_ne h.wf ha.1).trans (h.others a ha.2)

-- Patrol passes

/-- One uncorrectable error of a patrol pass. -/
def patrolLost (s : State) (a : Nat) : State := (s.bump F.REC_ECC.UNCORR).set F.REC_ECC_ADDR.ADDR a

theorem patrolPass_wiped {s : State} (corr : Nat) (lost : List Nat) (h : s.flag F.REC_STATUS.WIPE_DONE = true) :
    s.patrolPass corr lost = (lost.foldl patrolLost (s.bump F.REC_ECC.CORR corr)).bump F.INTEG_PASS.REC_PASSES := by
  unfold patrolPass
  rw [if_neg (by simp [h])]
  rfl

/-- t is s after the uncorrectable errors of a pass: they are counted, saturating, and the address of the last is kept. -/
structure Patrolled (s : State) (lost : List Nat) (t : State) : Prop where
  wf : AMap.wf resetWord t.regs = true
  rest : { t with regs := s.regs } = s
  count : t.reg F.REC_ECC.UNCORR.addr
    = F.REC_ECC.UNCORR.inWord (s.reg F.REC_ECC.UNCORR.addr) (min F.REC_ECC.UNCORR.max (s.get F.REC_ECC.UNCORR + lost.length))
  place : t.reg F.REC_ECC_ADDR.ADDR.addr
    = lost.getLast?.elim (s.reg F.REC_ECC_ADDR.ADDR.addr) (F.REC_ECC_ADDR.ADDR.inWord (s.reg F.REC_ECC_ADDR.ADDR.addr))
  others : s.regsBut [F.REC_ECC.UNCORR.addr, F.REC_ECC_ADDR.ADDR.addr] t

theorem Patrolled.nil {s : State} (hw : AMap.wf resetWord s.regs = true) : Patrolled s [] s where
  wf := hw
  rest := rfl
  count := by
    rw [List.length_nil, Nat.add_zero, Nat.min_eq_right (get_le_max _ _ _)]
    exact (inWord_ofWord F.REC_ECC.UNCORR _ (by decide)).symm
  place := rfl
  others _ _ := rfl

theorem Patrolled.get_count {s t : State} {l : List Nat} (h : Patrolled s l t) :
    t.get F.REC_ECC.UNCORR = min F.REC_ECC.UNCORR.max (s.get F.REC_ECC.UNCORR + l.length) := by
  unfold State.get
  rw [h.count, ofWord_inWord F.REC_ECC.UNCORR _ _ (by decide) (by decide)]
  exact Nat.mod_eq_of_lt (Nat.lt_of_le_of_lt (Nat.min_le_left _ _) (by decide))

/-- One more error. -/
theorem Patrolled.snoc {s t : State} {l : List Nat} (h : Patrolled s l t) (x : Nat) : Patrolled s (l ++ [x]) (patrolLost t x) := by
  have hcnt : AMap.wf resetWord (t.bump F.REC_ECC.UNCORR).regs = true := set_wf _ _ _ _ _ h.wf
  have happart : F.REC_ECC.UNCORR.addr ≠ F.REC_ECC_ADDR.ADDR.addr := by decide
  refine ⟨set_wf _ _ _ _ _ hcnt, h.rest, ?_, ?_, fun a ha => ?_⟩
  · calc _ = (t.bump F.REC_ECC.UNCORR).reg F.REC_ECC.UNCORR.addr := reg_set_of_ne hcnt happart
      _ = F.REC_ECC.UNCORR.inWord (t.reg F.REC_ECC.UNCORR.addr) (min F.REC_ECC.UNCORR.max (t.get F.REC_ECC.UNCORR + 1)) :=
        reg_set_same t F.REC_ECC.UNCORR _ 0 0 h.wf
      _ = _ := by
        rw [h.count, h.get_count, min_add_min, inWord_inWord _ _ _ _ (by decide), List.length_append]
        rfl
  · calc _ = F.REC_ECC_ADDR.ADDR.inWord ((t.bump F.REC_ECC.UNCORR).reg F.REC_ECC_ADDR.ADDR.addr) x :=
        reg_set_same _ F.REC_ECC_ADDR.ADDR x 0 0 hcnt
      _ = F.REC_ECC_ADDR.ADDR.inWord (t.reg F.REC_ECC_ADDR.ADDR.addr) x := by rw [State.bump, reg_set_of_ne h.wf happart.symm]
      _ = F.REC_ECC_ADDR.ADDR.inWord (s.reg F.REC_ECC_ADDR.ADDR.addr) x := by
        rw [h.place]
        cases l.getLast? with
        | none => rfl
        | some y => exact inWord_inWord _ _ _ _ (by decide)
      _ = _ := by rw [List.getLast?_concat]; rfl
  · have hne := ha
    simp only [List.mem_cons, List.not_mem_nil, or_false, not_or] at hne
    exact (reg_set_of_ne hcnt hne.2).trans ((reg_set_of_ne h.wf hne.1).trans (h.others a ha))

theorem Patrolled.foldl {s t : State} {l : List Nat} (h : Patrolled s l t) (lost : List Nat) :
    Patrolled s (l ++ lost) (lost.foldl patrolLost t) := by
  induction lost generalizing l t with
  | nil => rwa [List.append_nil]
  | cons x lost ih =>
    rw [List.append_cons]
    exact ih (h.snoc x)

theorem patrolled_foldl {s : State} (lost : List Nat) (hw : AMap.wf resetWord s.regs = true) :
    Patrolled s lost (lost.foldl patrolLost s) :=
  (Patrolled.nil hw).foldl lost

/-- The field the last uncorrectable error of a pass writes. -/
def lastLost (lost : List Nat) : List (Field × Nat × Nat) :=
  match lost.getLast? with
  | some a => [(F.REC_ECC_ADDR.ADDR, 0, a)]
  | none => []

theorem wordWith_lastLost (lost : List Nat) (a : Nat) (w : Word) :
    wordWith a w (lastLost lost)
      = if a = F.REC_ECC_ADDR.ADDR.addr then lost.getLast?.elim w (F.REC_ECC_ADDR.ADDR.inWord w) else w := by
  unfold lastLost
  cases lost.getLast? <;> simp [wordWith]

theorem Patrolled.fieldsOnly {s t : State} {l : List Nat} (h : Patrolled s l t) :
    s.fieldsOnly ((F.REC_ECC.UNCORR, 0, min F.REC_ECC.UNCORR.max (s.get F.REC_ECC.UNCORR + l.length)) :: lastLost l) t := by
  refine ⟨fun a => ?_, h.rest⟩
  change _ = wordWith a (if a = F.REC_ECC.UNCORR.addr then _ else _) (lastLost l)
  rw [wordWith_lastLost]
  by_cases hcnt : a = F.REC_ECC.UNCORR.addr
  · subst hcnt
    rw [if_neg (by decide), if_pos rfl]
    exact h.count
  · rw [if_neg hcnt]
    split
    · rename_i hplace
      subst hplace
      exact h.place
    · rename_i hplace
      exact h.others a (by simp [hcnt, hplace])

/-- The count of passes stands in a register of its own. -/
theorem wordWith_pass_lastLost (a : Nat) (w : Word) (v : Nat) (lost : List Nat) :
    wordWith a w (lastLost lost ++ [(F.INTEG_PASS.REC_PASSES, 0, v)])
      = wordWith a w ((F.INTEG_PASS.REC_PASSES, 0, v) :: lastLost lost) := by
  rw [wordWith_append, wordWith_lastLost]
  change (if a = F.INTEG_PASS.REC_PASSES.addr then _ else _)
    = wordWith a (if a = F.INTEG_PASS.REC_PASSES.addr then _ else _) (lastLost lost)
  rw [wordWith_lastLost]
  by_cases hpass : a = F.INTEG_PASS.REC_PASSES.addr
  · subst hpass
    rfl
  · rw [if_neg hpass, if_neg hpass]

/-- A patrol pass (R373, R439). -/
theorem patrolPass_sets {s : State} (corr : Nat) (lost : List Nat) (hw : AMap.wf resetWord s.regs = true)
    (h : s.flag F.REC_STATUS.WIPE_DONE = true) :
    s.fieldsOnly ([(F.REC_ECC.CORR, 0, min F.REC_ECC.CORR.max (s.get F.REC_ECC.CORR + corr)),
        (F.REC_ECC.UNCORR, 0, min F.REC_ECC.UNCORR.max (s.get F.REC_ECC.UNCORR + lost.length)),
        (F.INTEG_PASS.REC_PASSES, 0, min F.INTEG_PASS.REC_PASSES.max (s.get F.INTEG_PASS.REC_PASSES + 1))] ++ lastLost lost)
      (s.patrolPass corr lost) := by
  have hcorr : AMap.wf resetWord (s.bump F.REC_ECC.CORR corr).regs = true := set_wf _ _ _ _ _ hw
  have hp := patrolled_foldl lost hcorr
  have huncorr : (s.bump F.REC_ECC.CORR corr).get F.REC_ECC.UNCORR = s.get F.REC_ECC.UNCORR :=
    get_set_beside F.REC_ECC.CORR F.REC_ECC.UNCORR _ 0 hw rfl (by decide) (by decide)
  have hpasses : (lost.foldl patrolLost (s.bump F.REC_ECC.CORR corr)).get F.INTEG_PASS.REC_PASSES = s.get F.INTEG_PASS.REC_PASSES :=
    congrArg F.INTEG_PASS.REC_PASSES.ofWord ((hp.others _ (by decide)).trans (reg_set_of_ne hw (by decide)))
  have hall := fieldsOnly_set (fieldsOnly_trans (fieldsOnly_one s F.REC_ECC.CORR _ 0 hw) hp.fieldsOnly) F.INTEG_PASS.REC_PASSES
    (min F.INTEG_PASS.REC_PASSES.max (s.get F.INTEG_PASS.REC_PASSES + 1)) 0 hp.wf
  rw [huncorr] at hall
  rw [patrolPass_wiped corr lost h, bump, hpasses]
  refine ⟨fun a => (hall.1 a).trans ?_, hall.2⟩
  exact wordWith_pass_lastLost a (wordWith a (s.reg a) [(F.REC_ECC.CORR, 0, min F.REC_ECC.CORR.max (s.get F.REC_ECC.CORR + corr)),
    (F.REC_ECC.UNCORR, 0, min F.REC_ECC.UNCORR.max (s.get F.REC_ECC.UNCORR + lost.length))]) _ lost

end Sys2Proof.Proofs
end

section
/-!
SUPPORT. The commands of a check unit as a path gives them, and the statement on check units and passes (R373, R439, R443
to R446).
-/

namespace Sys2Proof.Proofs

open Sys2Proof.Machine Sys2Proof.Machine.State

section
variable {s : State} {p : Fin 14} {n : Fin 4}

theorem exec_chkInit (p : Fin 14) (n : Fin 4) (s : State) : exec (.chkInit p n) s = .next (s.wroteField p F.CHK_CTRL.INIT 1 n) := rfl
theorem exec_chkFinish (p : Fin 14) (n : Fin 4) (s : State) :
    exec (.chkFinish p n) s = .next (s.wroteField p F.CHK_CTRL.FINISH 1 n) := rfl
theorem exec_chkStart (p : Fin 14) (n : Fin 4) (s : State) : exec (.chkStart p n) s = .next (s.wroteField p F.CHK_CTRL.START 1 n) := rfl
theorem exec_chkAbort (p : Fin 14) (n : Fin 4) (s : State) : exec (.chkAbort p n) s = .next (s.wroteField p F.CHK_CTRL.ABORT 1 n) := rfl
theorem exec_chkDataWrite (p : Fin 14) (n : Fin 4) (v : Word) (s : State) :
    exec (.chkDataWrite p n v) s = .next (s.wroteField p F.CHK_DATA.VALUE v.toNat n) := rfl

/-- Data of a unit set to block reads is taken and feeds nothing. -/
theorem exec_chkData_block (hw : AMap.wf resetWord s.regs = true) (ha : s.admits p .any) (hb : s.chkBusy n = false)
    (hs : s.flag F.CHK_CTRL.SRC n = true) (v : Word) : exec (.chkDataWrite p n v) s = .next (s.okOn p) := by
  rw [exec_chkDataWrite, chkDataWrite_does n n.isLt hw ha v hb]
  simp [chkData, hb, hs]

theorem exec_chkData_stream (hw : AMap.wf resetWord s.regs = true) (ha : s.admits p .any) (hb : s.chkBusy n = false)
    (hs : s.flag F.CHK_CTRL.SRC n = false) (v : Word) :
    exec (.chkDataWrite p n v) s = .next ((s.chkFeed n (s.chkBytes n v)).okOn p) := by
  rw [exec_chkDataWrite, chkDataWrite_does n n.isLt hw ha v hb]
  simp [chkData, hb, hs]

theorem exec_chkFinish_block (hw : AMap.wf resetWord s.regs = true) (ha : s.admits p .any) (hb : s.chkBusy n = false)
    (hs : s.flag F.CHK_CTRL.SRC n = true) : exec (.chkFinish p n) s = .next (s.okOn p) := by
  rw [exec_chkFinish, chkFinish_does n n.isLt hw ha hb]
  simp [State.chkFinish, hb, hs]

theorem exec_chkFinish_stream (hw : AMap.wf resetWord s.regs = true) (ha : s.admits p .any) (hb : s.chkBusy n = false)
    (hs : s.flag F.CHK_CTRL.SRC n = false) : exec (.chkFinish p n) s = .next ((s.chkDone n).okOn p) := by
  rw [exec_chkFinish, chkFinish_does n n.isLt hw ha hb]
  simp [State.chkFinish, hb, hs]

theorem exec_chkStart_block (hw : AMap.wf resetWord s.regs = true) (ha : s.admits p .any) (hb : s.chkBusy n = false)
    (hs : s.flag F.CHK_CTRL.SRC n = true) : exec (.chkStart p n) s = .next ((s.setB F.CHK_STATUS.BUSY true n).okOn p) := by
  rw [exec_chkStart, chkStart_does n n.isLt hw ha hb]
  simp [State.chkStart, hb, hs]

theorem exec_chkStart_stream (hw : AMap.wf resetWord s.regs = true) (ha : s.admits p .any) (hb : s.chkBusy n = false)
    (hs : s.flag F.CHK_CTRL.SRC n = false) : exec (.chkStart p n) s = .next (s.okOn p) := by
  rw [exec_chkStart, chkStart_does n n.isLt hw ha hb]
  simp [State.chkStart, hb, hs]

theorem chkAbort_idle (hb : s.chkBusy n = false) : s.chkAbort n = s.setB F.CHK_STATUS.ALREADY_DONE true n := by
  unfold chkAbort
  rw [if_neg (by simp [hb])]

theorem chkComplete_idle (hb : s.chkBusy n = false) : s.chkComplete n = s := by
  unfold chkComplete
  rw [if_pos (by simp [hb])]

end

/-- Settles O52: a busy unit refuses by its register's rule (`chkCtrl_refused`, `chkData_refused`); else INIT, data, FINISH,
START and ABORT act as the model's operations on the unit, of which the lemmas above say what each writes; passes are
counted error by error (`scrubPass_counts`, `patrolPass_sets`). -/
theorem checkUnits : Obligations.CheckUnits := by
  unfold Obligations.CheckUnits
  refine ⟨by decide +kernel, fun s p n hc ha => ?_, fun s hc => ⟨fun ecc he => ?_, fun corr lost => ⟨fun h => ?_, fun h => ?_⟩⟩⟩
  · intro poly busy block init refused sameResult
    have hw := hc.1
    have idle : ¬busy → s.chkBusy n = false := Bool.eq_false_iff.mpr
    have stream : ¬block → s.flag F.CHK_CTRL.SRC n = false := Bool.eq_false_iff.mpr
    refine ⟨fun hb => ⟨?_, ?_, ?_, fun v => ?_⟩, fun hb => ?_, fun v hb hs => ?_, fun v hb hs => ?_, fun hb hs => ⟨?_, ?_⟩,
      fun hb hs => ?_, fun hb hs hm => ?_, fun hb hs hm he => ?_, fun hb hs hm he => ?_, fun hb => ?_, fun hb => ?_, fun hb => ?_,
      fun hb hm => ?_⟩
    · exact congrArg Host.Outcome.next (chkCtrl_refused n.isLt ha hb _ (.inl rfl))
    · exact congrArg Host.Outcome.next (chkCtrl_refused n.isLt ha hb _ (.inr (.inl rfl)))
    · exact congrArg Host.Outcome.next (chkCtrl_refused n.isLt ha hb _ (.inr (.inr rfl)))
    · exact congrArg Host.Outcome.next (chkData_refused n.isLt ha hb v)
    · exact ⟨_, congrArg Host.Outcome.next (chkInit_does n n.isLt hw ha (idle hb)), chkInit_writes hc⟩
    · exact exec_chkData_block hw ha (idle hb) hs v
    · exact ⟨_, exec_chkData_stream hw ha (idle hb) (stream hs) v, chkSet_does _ hc⟩
    · exact exec_chkFinish_block hw ha (idle hb) hs
    · exact ⟨_, exec_chkStart_block hw ha (idle hb) hs, fieldsOnly_one s F.CHK_STATUS.BUSY 1 n hw⟩
    · exact exec_chkStart_stream hw ha (idle hb) (stream hs)
    · refine ⟨_, exec_chkFinish_stream hw ha (idle hb) (stream hs), ?_⟩
      rw [chkDone_main hw hm]
      exact fieldsOnly_one s F.CHK_STATUS.DONE 1 n hw
    · exact ⟨_, exec_chkFinish_stream hw ha (idle hb) (stream hs), chkDone_match hw hm he⟩
    · exact ⟨_, exec_chkFinish_stream hw ha (idle hb) (stream hs), chkDone_mismatch hw n.isLt hm he⟩
    · refine ⟨_, congrArg Host.Outcome.next (chkAbort_does n n.isLt hw ha), ?_⟩
      rw [chkAbort_idle (idle hb)]
      exact fieldsOnly_one s F.CHK_STATUS.ALREADY_DONE 1 n hw
    · exact ⟨_, congrArg Host.Outcome.next (chkAbort_does n n.isLt hw ha), chkAbort_busy hw hb⟩
    · exact congrArg Host.Outcome.next (chkComplete_idle (idle hb))
    · exact ⟨_, rfl, chkComplete_main hc hb hm⟩
  · obtain ⟨hrest, hcounts, hpasses, hothers⟩ := scrubPass_counts hc.1 (ecc := ecc) fun e hm => by
      have := he e hm
      cases e <;> exact this
    exact ⟨s.scrubPass ecc, rfl, hrest, fun m => hcounts m m.isLt, hpasses, hothers⟩
  · change Host.Outcome.next (s.patrolPass corr lost) = _
    unfold patrolPass
    rw [if_pos (by simp [h])]
  · exact ⟨s.patrolPass corr lost, rfl, patrolPass_sets corr lost hc.1 h⟩

end Sys2Proof.Proofs
end

section
/-!
SUPPORT. The dispatcher (R454 to R458): a table of supervisor cores that lists one core twice.

`State.canonical` asks nothing of `Sched.cores`. A core that returns to service without an item and without busy time of
the last millisecond reads as an unlisted one does, so that its entry is taken out of the table; where a second entry of
the same core stands behind it, that one is read from then on. Every write keeps a canonical table canonical
(`AMap.put_wf`), so a run from reset reaches no such table: what the statement lacks is the canonical form of the cores.
-/

namespace Sys2Proof.Proofs

open Sys2Proof.Machine

/-- Core 0 in reset, with nothing in the pool; a second entry of it stands behind the one that is read. -/
def coreListedTwice : State :=
  { State.reset with sched := { cores := [(0, { resetting := true }), (0, { resetting := true })] } }

theorem coreListedTwice_canonical : coreListedTwice.canonical := by
  refine ⟨rfl, rfl, rfl, rfl, rfl, rfl, rfl, rfl, rfl, rfl, rfl, rfl, rfl, rfl, fun u hu => ?_⟩
  cases hu

/-- The end of its reset takes the first entry out, and the core reads as resetting still. -/
theorem coreBack_coreListedTwice : ((coreListedTwice.coreBack 0).core 0).resetting = true := by decide +kernel

/-- Refutes O53: a core whose reset completes is to be in service, and where a canonical state lists the core twice it
still reads as resetting. -/
theorem not_dispatcher : ¬ Obligations.Dispatcher := by
  unfold Obligations.Dispatcher
  intro h
  obtain ⟨-, -, -, -, -, -, -, hback⟩ := h coreListedTwice coreListedTwice_canonical
  obtain ⟨t, ht, hserves, -⟩ := hback 0 rfl rfl rfl
  have hnext : exec (.coreResetComplete 0) coreListedTwice = .next (coreListedTwice.coreBack 0) := rfl
  obtain rfl : coreListedTwice.coreBack 0 = t := Host.Outcome.next.inj (hnext.symm.trans ht)
  exact Bool.noConfusion (coreBack_coreListedTwice.symm.trans hserves)

end Sys2Proof.Proofs
end
